-- ==== Sys2Proof/Word.lean ====
section
/-!
DEFINITION. Words of the Fanex F3 port: bytes, registers, flits, frames, and the two small containers
the state is made of (a table of like things by number, a list of eight things).
-/
namespace Sys2Proof

/-- One byte. -/
abbrev Byte := BitVec 8
/-- One register of the window (R9: every register is 32 bits wide). -/
abbrev Reg := BitVec 32
/-- A NoC flit: header in bits [63:0], payload in bits [575:64] (R28). -/
abbrev NocFlit := BitVec 576
/-- A link flit of a braid (R164). -/
abbrev LinkFlit := BitVec 1280
/-- A sideband frame (R37). -/
abbrev SbWord := BitVec 128
/-- A descriptor of a submission ring (R227). -/
abbrev Desc := BitVec 512
/-- A die ID (R12); 0xFF is "not assigned". -/
abbrev DieId := BitVec 8
/-- A braid number, 0 to 7 (R1). -/
abbrev Braid := Fin 8
/-- A virtual channel, 0 to 7 (Table 9.1). -/
abbrev Vc := Fin 8
/-- A ring number, 0 to 63 (R219). -/
abbrev RingNo := Fin 64
/-- A time in PCLK cycles since power-on; one PCLK is 625 ps. -/
abbrev Time := Nat

/-- A table of numbered things: (number, thing) pairs in rising order of number; a number that is not
listed holds the default its reader names. -/
abbrev Tbl (α : Type) := List (Nat × α)

/-- Eight like things, one for each braid or VC. -/
structure Oct (α : Type) where
  e0 : α
  e1 : α
  e2 : α
  e3 : α
  e4 : α
  e5 : α
  e6 : α
  e7 : α
  deriving DecidableEq, Repr

end Sys2Proof
end

