-- ==== Sys2Proof/Syntax.lean ====
section
/-!
DEFINITION. The commands a Fanex F3 port takes, one constructor for each row of spec/opcode_table.json, and the
data they carry.
-/
namespace Sys2Proof

/-- A sideband frame that passed its SOF and CRC checks (Table 2.10). -/
structure SbFrame where
  typ : BitVec 4
  seq : BitVec 3
  proxy : Bool
  destDie : BitVec 8
  destPort : BitVec 8
  srcDie : BitVec 8
  srcPort : BitVec 8
  payload : BitVec 64
  deriving DecidableEq, Repr

/-- An access to the register window (R382): who issued it, the offset, the data and the byte enables of a write. -/
structure Access where
  srcDie : BitVec 8
  srcEp : BitVec 10
  off : BitVec 16
  data : Reg
  be : BitVec 4
  /-- the access came through the register-access register (R48) -/
  tap : Bool
  deriving DecidableEq, Repr

/-- Equal repetitions one after another in an observation of detect: how many, and the levels of one, its first half-bit in
bit 0. An electrical repetition has 38 half-bits (R100); a fibre one 24 words, each two half-words, high where the half-word
has the more energy (R89, R103). -/
structure Reps where
  count : Nat
  halves : BitVec 48
  deriving DecidableEq, Repr

/-- What a receive site heard during detect (R100, R101, R103). -/
inductive RxObs where
  /-- the repetitions observed, oldest first, as the receiver's sync search cut them -/
  | heard (l : List Reps)
  /-- a wavelength below −12 dBm, reported by the optical end -/
  | dark
  deriving DecidableEq, Repr

/-- What a transmitter's comparator read back at its own pad while it sent the patterns (R100). -/
abbrev TxObs := List Reps

/-- What the line of a receive braid brings for one link flit (R83, R87): at an electrical end the bits of each receive site,
the first unit interval in bit 0; at a fibre hub block the codewords completed since the last flit, oldest first, each as the
levels of every receive wavelength's share, two bits a PAM4 symbol, the first symbol lowest. -/
structure LineRx where
  pads : List (Nat × Nat)
  words : List (List (Nat × Nat))
  deriving DecidableEq, Repr

/-- What the strands of a braid brought when they locked (R107, R189): the arrival of each strand in 1/64 UI, or in symbols in
class 6, and in class 6 the codewords at the boundary found, the newest last. -/
structure LockSeen where
  arrivals : List (Nat × Int)
  words : List (List (Nat × Nat))
  deriving DecidableEq, Repr

/-- What a PRBS31 check of a re-admission found (R138): whether lock held, and how many bits it lasted. -/
structure PrbsSeen where
  lock : Bool
  bits : Nat
  deriving DecidableEq, Repr

/-- A strand and the last 64 bits its bight checker received, the first in bit 0 (R117). -/
structure CheckerSeen where
  p : Nat
  bits : BitVec 64
  deriving DecidableEq, Repr

/-- Errors and bits a bight checker counted since it locked or was last reported (R117). -/
structure CheckerRun where
  errors : Nat
  bits : Nat
  deriving DecidableEq, Repr

/-- What the monitor sampler and the counters of a receive strand measured over a record's period (Table 7.8). -/
structure Meas where
  eyeW : Nat
  eyeH : Nat
  est : Nat
  /-- clock strands: samples off the pattern; fibre: corrected symbols -/
  errors : Nat
  units : Nat
  /-- fibre: uncorrectable codewords -/
  uncorr : Nat
  deriving DecidableEq, Repr

/-- What a calibration step found: the trim fields of the step, as the registers of Table 7.11 lay them out. -/
structure Found where
  rx : Reg
  dfe : Reg
  tx : Reg
  otx : Reg
  orx : Reg
  /-- arrival a_p in 1/64 UI, or symbols in class 6 -/
  arrival : Int
  /-- a calibration of step 8: the temperature codes read at its steps 1 and 6 (R160) -/
  temp1 : BitVec 10
  temp6 : BitVec 10
  meas : Meas
  deriving DecidableEq, Repr

/-- What the discovery agent reads of one base end (R358): the site, STATE and FAILED of FX_START, PORT_DOWN of FX_LL_STAT,
COUNT of FX_RSTCAUSE and DEAD_MS of FX_FLT_CTL; and, for its topology table, the generation and the trained braids of the
pair (R112). -/
structure SiteRead where
  site : Nat
  state : Nat
  failed : Bool
  down : Bool
  count : BitVec 8
  deadMs : Nat
  gen : Nat
  braids : Nat
  deriving DecidableEq, Repr

/-- A mesochronous crossing that slips (R60). -/
inductive Slip where
  | tx (b : Fin 8)
  | rx (b : Fin 8)
  | noc
  deriving DecidableEq, Repr

/-- The commands. Rows that come on an interface carry what arrives there: `f` a sideband frame, NoC flit or link flit, `b` the
braid a CONTROL frame or event belongs to and `p` its payload, `a` an access to the window, `r` and `i` the ring and index of a
descriptor, `wdr` and `acc` the test selects, `err` an error response. -/
inductive Instr where
  /-- POWER_ON_RESET (R96). -/
  | powerOnReset
  /-- POWER_ON_RELEASE (R44). -/
  | powerOnRelease
  /-- PAIR_RESET_ASSERT (R96). -/
  | pairResetAssert
  /-- PAIR_RESET_RELEASE (R64). -/
  | pairResetRelease
  /-- MAIN_POWER_GOOD (R44). -/
  | mainPowerGood
  /-- POWER_SWITCH_TIMEOUT (R44). -/
  | powerSwitchTimeout
  /-- POWER_SWITCH_RETRY (R44). -/
  | powerSwitchRetry
  /-- PM_RESUME (R342). -/
  | pmResume
  /-- PM_PWR_REFRESH (R44). -/
  | pmPwrRefresh
  /-- ROOT_LOCK (R53). -/
  | rootLock
  /-- ROOT_LOCK_LOST (R53). -/
  | rootLockLost
  /-- NCLK_MONITOR_WINDOW (R62). `count`: NCLK cycles in the window; `locked`: NCLK is frequency-locked to PCLK. -/
  | nclkMonitorWindow (count : Nat) (locked : Bool)
  /-- REF_OFFSET_WINDOW (R61). `l`: the receive clocks that run, each with its offset from PCLK in 0.1 ppm. -/
  | refOffsetWindow (l : List (Fin 8 × Int))
  /-- TSC_CHECK (R54). `v`: the sample of ts_val. -/
  | tscCheck (v : BitVec 64)
  /-- TIMESTAMP_STEP (R46). `new`: the sample of ts_val. -/
  | timestampStep (new : BitVec 64)
  /-- CROSSING_SLIP (R60). `which`: the crossing. -/
  | crossingSlip (which : Slip)
  /-- TEMP_VALUE (R45). `v`: tm_code. -/
  | tempValue (v : BitVec 10)
  /-- STALE_TEMP (R45). -/
  | staleTemp
  /-- HEARTBEAT_TIMER (R40). -/
  | heartbeatTimer
  /-- HEARTBEAT (R40). -/
  | heartbeat (f : SbFrame)
  /-- SIDEBAND_LOSS (R69). -/
  | sidebandLoss
  /-- RESET_PAIR (R67). -/
  | resetPair (f : SbFrame)
  /-- RESET_PAIR_ANNOUNCE (R67). -/
  | resetPairAnnounce
  /-- PAIRED_RESET_REQUEST (R68). -/
  | pairedResetRequest (a : Access)
  /-- RESET_ACK_LIMIT (R68). -/
  | resetAckLimit
  /-- RESET_REQ_TIMEOUT (R68). -/
  | resetReqTimeout
  /-- SIDEBAND_PROXY (R39). -/
  | sidebandProxy (f : SbFrame)
  /-- RING_FRAME_FORWARD (R41). `f`: the frame that arrives on the ring, none where only own frames wait; `uplink`: the block is its die's lowest live lateral port. -/
  | ringFrameForward (f : Option SbFrame) (uplink : Bool)
  /-- TST_ALONE_CHANGE (R49). `v`: tst_alone. -/
  | tstAloneChange (v : Bool)
  /-- TEST_LOGIC_RESET (R63). -/
  | testLogicReset
  /-- TAP_UPDATE (R48). -/
  | tapUpdate (wdr : Bool) (acc : Bool)
  /-- TAP_CAPTURE (R48). `cells`: levels at the 38 wrapped sites. -/
  | tapCapture (wdr : Bool) (acc : Bool) (cells : BitVec 38)
  /-- TAP_ACCESS_COMPLETE (R48). -/
  | tapAccessComplete
  /-- NOC_INGRESS_FLIT (R30). `assigned`: DST_DIE is an assigned die ID. -/
  | nocIngressFlit (f : NocFlit) (assigned : Bool)
  /-- NOC_EGRESS_CREDIT (R30). `n`: credits for VC `v`. -/
  | nocEgressCredit (v : Fin 8) (n : BitVec 5)
  /-- CREDIT_INIT_ACK (R32). -/
  | creditInitAck
  /-- CREDIT_INIT_TIMEOUT (R32). -/
  | creditInitTimeout
  /-- CREDIT_INIT_RETRY (R32). -/
  | creditInitRetry
  /-- CREDIT_AUDIT_START (R205). -/
  | creditAuditStart
  /-- CREDIT_AUDIT_ANSWER (R206). `cnt`: the count the NoC answers. -/
  | creditAuditAnswer (cnt : BitVec 9)
  /-- CREDIT_AUDIT_ABANDON (R33). -/
  | creditAuditAbandon
  /-- SM_RELAY_FRAME (R42). `reply`: from the controller to the ring; else a request to it. -/
  | smRelayFrame (reply : Bool) (f : SbFrame)
  /-- SM_DATA (R372). -/
  | smData (f : SbFrame)
  /-- SM_ERROR (R371). -/
  | smError (f : SbFrame)
  /-- SM_READ_TIMEOUT (R372). `tag`: the read. -/
  | smReadTimeout (tag : BitVec 4)
  /-- SM_QUEUE_FULL_REISSUE (R371). `tag`: the read. -/
  | smQueueFullReissue (tag : BitVec 4)
  /-- START_STEP_TIMEOUT (R97). -/
  | startStepTimeout
  /-- SIDEBAND_NOT_UP (R97). -/
  | sidebandNotUp
  /-- DETECT_GO (R100). -/
  | detectGo (f : SbFrame)
  /-- DETECT_OBSERVATION_END (R100). `b`: one braid in a braid retrain, none at a start; `rx`, `tx`: what sites heard and pads read, where not clean. -/
  | detectObservationEnd (b : Option (Fin 8)) (rx : List (Fin 8 × Nat × RxObs)) (tx : List (Fin 8 × Nat × TxObs))
  /-- DETECT_RESULT (R104). -/
  | detectResult (f : SbFrame)
  /-- MAP_AGREE (R106). -/
  | mapAgree (f : SbFrame)
  /-- TRAIN_GO (R107). -/
  | trainGo (f : SbFrame)
  /-- TRAIN_LINK_FRAME (R189). `rx`: what the line brought; `frac`: arrival within the PCLK, in sixteenths. -/
  | trainLinkFrame (b : Fin 8) (rx : LineRx) (frac : BitVec 4)
  /-- BRAID_LOCK_ACHIEVED (R189). `cross`: transmit crossing in 1/16 PCLK; `seen`: what the strands brought. -/
  | braidLockAchieved (b : Fin 8) (cross : BitVec 8) (seen : LockSeen)
  /-- MEASURE_TIMER (R189). `frac`: launch within the PCLK, in sixteenths. -/
  | measureTimer (b : Fin 8) (frac : BitVec 4)
  /-- TRAIN_ATTEMPT_TIMEOUT (R189). `noClock`: the forwarded clock was not found. -/
  | trainAttemptTimeout (b : Fin 8) (noClock : Bool)
  /-- TRAIN_DONE (R107). -/
  | trainDone (f : SbFrame)
  /-- FIRST_CALIBRATION_COMPLETE (R108). `results`: direction (true receive), braid, strand, what was found; `iref`: the reference current in 0.1 microamperes. -/
  | firstCalibrationComplete (results : List (Bool × Fin 8 × Nat × Found)) (iref : Nat)
  /-- CAL_DONE (R108). -/
  | calDone (f : SbFrame)
  /-- BEACON_TIMER (R109). -/
  | beaconTimer
  /-- BEACON (R109). -/
  | beacon (f : SbFrame)
  /-- DISCOVERY_WINDOW_EXPIRY (R110). -/
  | discoveryWindowExpiry
  /-- DIE_ID (R111). -/
  | dieId (f : SbFrame)
  /-- DIE_ID_REVOCATION (R111). -/
  | dieIdRevocation (f : SbFrame)
  /-- NEGOTIATE (R114). -/
  | negotiate (f : SbFrame)
  /-- SPARE_DIE_ID_TIMEOUT (R15). -/
  | spareDieIdTimeout
  /-- BIGHT_RUN (R118). `counts`: braid, strand, errors and bits that locked checkers have counted since their last report. -/
  | bightRun (a : Access) (counts : List (Fin 8 × Nat × Nat × Nat))
  /-- BIGHT_REQ (R118). -/
  | bightReq (f : SbFrame)
  /-- BIGHT_ACK (R118). -/
  | bightAck (f : SbFrame)
  /-- STRAND_REQUEST (R126). -/
  | strandRequest (b : Fin 8) (p : NocFlit)
  /-- STRAND_PREPARE (R126). -/
  | strandPrepare (b : Fin 8) (p : NocFlit)
  /-- ALIGNMENT_COMPLETE (R127). `arrival`: a_p found; `pass`: none where aligned, else why it failed. -/
  | alignmentComplete (b : Fin 8) (arrival : Int) (pass : Option (Fin 3))
  /-- STANDIN_LOCK_COMPLETE (R128). -/
  | standinLockComplete (b : Fin 8)
  /-- STRAND_READY (R126). -/
  | strandReady (b : Fin 8) (p : NocFlit)
  /-- STRAND_COMMIT (R126). -/
  | strandCommit (b : Fin 8) (p : NocFlit)
  /-- STRAND_ABORT (R129). -/
  | strandAbort (b : Fin 8) (p : NocFlit)
  /-- READY_TIMEOUT (R129). -/
  | readyTimeout (b : Fin 8)
  /-- ADMIT_PRBS_COMPLETE (R138). `rx`: at the receive end; `seen`: what the check found; `m`: its record. -/
  | admitPrbsComplete (rx : Bool) (b : Fin 8) (p : Nat) (seen : PrbsSeen) (m : Meas)
  /-- QUALITY_RECORD_CLOSE (R155). `p`: strand; `m`: what the period measured. -/
  | qualityRecordClose (b : Fin 8) (p : Nat) (m : Meas)
  /-- QUALITY_RECORD_POST (R155). -/
  | qualityRecordPost
  /-- CAL_SWEEP_TIMER (R151). -/
  | calSweepTimer
  /-- CAL_STEP (R146). -/
  | calStep (b : Fin 8) (p : NocFlit)
  /-- CAL_STEP_COMPLETE (R147). `f`: what the step found; `iref`: the reference current in 0.1 microamperes. -/
  | calStepComplete (b : Fin 8) (f : Found) (iref : Nat)
  /-- CAL_STEP_DONE (R146). -/
  | calStepDone (b : Fin 8) (p : NocFlit)
  /-- CAL_STEP_DONE_TIMEOUT (R146). -/
  | calStepDoneTimeout (b : Fin 8)
  /-- CAL_END (R148). -/
  | calEnd (b : Fin 8) (p : NocFlit)
  /-- TRIM_TRACK_TICK (R158). -/
  | trimTrackTick
  /-- TRIM_WRITE (R162). -/
  | trimWrite (a : Access)
  /-- EYE_SCAN_POINT_SET_COMPLETE (R154). `p`: strand; `m`: the point set's measures. -/
  | eyeScanPointSetComplete (b : Fin 8) (p : Nat) (m : Meas)
  /-- LINK_FRAME_RECEIVE (R174). `pads`, `words`: what the line of the braid brought, as `LineRx` has it. -/
  | linkFrameReceive (b : Fin 8) (pads : List (Nat × Nat)) (words : List (List (Nat × Nat)))
  /-- ACK_APPLY (R176). -/
  | ackApply (b : Fin 8)
  /-- NAK_REPEAT (R174). -/
  | nakRepeat (b : Fin 8)
  /-- ACK_TIMER_EXPIRY (R177). -/
  | ackTimerExpiry (b : Fin 8)
  /-- REPLAY_TIMEOUT (R179). -/
  | replayTimeout (b : Fin 8)
  /-- FLIT_RELEASE (R181). -/
  | flitRelease (b : Fin 8)
  /-- IDLE_DUE (R168). -/
  | idleDue (b : Fin 8)
  /-- TRANSMIT_FLIT_PERIOD (R214). `frac`: the flit boundary within the PCLK, in sixteenths. -/
  | transmitFlitPeriod (b : Fin 8) (frac : BitVec 4)
  /-- BRAID_RETRAIN_COMPLETE (R185). -/
  | braidRetrainComplete (b : Fin 8)
  /-- BRAID_RETRAIN_TIMEOUT (R185). -/
  | braidRetrainTimeout (b : Fin 8)
  /-- BRAID_FINAL (R186). -/
  | braidFinal (b : Fin 8) (p : NocFlit)
  /-- BRAID_FINAL_TIMEOUT (R186). -/
  | braidFinalTimeout (b : Fin 8)
  /-- PORT_RETRAIN_END (R187). -/
  | portRetrainEnd
  /-- MIN_BRAIDS_WRITE (R187). -/
  | minBraidsWrite (a : Access)
  /-- VC_STALL (R203). `egress`: the egress side. -/
  | vcStall (b : Fin 8) (v : Fin 8) (egress : Bool)
  /-- BUCKET_QUIESCENT (R210). `i`: bucket. -/
  | bucketQuiescent (i : BitVec 8)
  /-- DOORBELL_NOTIFICATION (R224). -/
  | doorbellNotification (k : Fin 8)
  /-- WATCH_READ_RESPONSE (R224). `data`: the doorbell line; `err`: an error response. -/
  | watchReadResponse (k : Fin 8) (data : BitVec 512) (err : Bool)
  /-- WATCH_READ_RETRY (R224). -/
  | watchReadRetry (k : Fin 8)
  /-- DOORBELL_POLL (R224). -/
  | doorbellPoll
  /-- DESCRIPTOR_FETCH_RESPONSE (R228). `data`: the descriptor; `err`: an error response. -/
  | descriptorFetchResponse (r : RingNo) (i : BitVec 32) (data : Desc) (err : Bool)
  /-- DESCRIPTOR_REREAD (R228). -/
  | descriptorReread (r : RingNo) (i : BitVec 32)
  /-- DESCRIPTOR_DISPATCH (R229). -/
  | descriptorDispatch
  /-- SHADOW_WRITE_DUE (R226). -/
  | shadowWriteDue (k : Fin 8)
  /-- SHADOW_WRITE_RESPONSE (R226). -/
  | shadowWriteResponse (k : Fin 8) (err : Bool)
  /-- COMPLETION_WRITE (R235). -/
  | completionWrite (c : RingNo)
  /-- ENTRY_WRITE_RESPONSE (R235). -/
  | entryWriteResponse (r : RingNo) (i : BitVec 32) (err : Bool)
  /-- MSI_HOLDOFF_EXPIRY (R240). -/
  | msiHoldoffExpiry (r : RingNo)
  /-- RING_ENABLE (R241). -/
  | ringEnable (r : RingNo) (v : Reg)
  /-- RING_DISABLE (R241). -/
  | ringDisable (r : RingNo)
  /-- NOP (R230). -/
  | nop (r : RingNo) (i : BitVec 32)
  /-- RETRAIN (R230). -/
  | retrain (r : RingNo) (i : BitVec 32)
  /-- REEF (R134). -/
  | reef (r : RingNo) (i : BitVec 32)
  /-- UNREEF (R134). -/
  | unreef (r : RingNo) (i : BitVec 32)
  /-- SPLICE (R231). -/
  | splice (r : RingNo) (i : BitVec 32)
  /-- UNSPLICE (R134). -/
  | unsplice (r : RingNo) (i : BitVec 32)
  /-- CALIBRATE (R145). -/
  | calibrate (r : RingNo) (i : BitVec 32)
  /-- EYE_SCAN (R230). -/
  | eyeScan (r : RingNo) (i : BitVec 32)
  /-- PRBS_TEST (R231). -/
  | prbsTest (r : RingNo) (i : BitVec 32)
  /-- PRBS_TEST_DONE (R231). `errors`: bit errors counted. -/
  | prbsTestDone (r : RingNo) (i : BitVec 32) (errors : Nat)
  /-- BIGHT (R231). -/
  | bight (r : RingNo) (i : BitVec 32)
  /-- BIGHT_DURATION_END (R231). `counts`: as for BIGHT_RUN. -/
  | bightDurationEnd (counts : List (Fin 8 × Nat × Nat × Nat))
  /-- PARK (R231). -/
  | park (r : RingNo) (i : BitVec 32)
  /-- RESUME (R231). -/
  | resume (r : RingNo) (i : BitVec 32)
  /-- DIGEST (R230). -/
  | digest (r : RingNo) (i : BitVec 32)
  /-- CANCEL (R232). -/
  | cancel (r : RingNo) (i : BitVec 32)
  /-- FENCE_DIE (R231). -/
  | fenceDie (r : RingNo) (i : BitVec 32)
  /-- UNFENCE_DIE (R231). -/
  | unfenceDie (r : RingNo) (i : BitVec 32)
  /-- REDUCE (R255). -/
  | reduce (r : RingNo) (i : BitVec 32)
  /-- JOB_STATUS (R258). -/
  | jobStatus (r : RingNo) (i : BitVec 32)
  /-- CONTRIB_HEAD (R259). -/
  | contribHead (rx : Bool) (f : NocFlit)
  /-- CONTRIB_DATA (R249). -/
  | contribData (rx : Bool) (f : NocFlit)
  /-- CHUNK_TIMER (R262). `slot`: job slot; `chunk`: index. -/
  | chunkTimer (slot : Nat) (chunk : Nat)
  /-- JOB_IDLE_TIMER (R262). -/
  | jobIdleTimer (slot : Nat)
  /-- PREHOLD_EXPIRY (R263). `num`: number of the held contribution. -/
  | preholdExpiry (num : Nat)
  /-- SPILL_WRITE_RESPONSE (R265). -/
  | spillWriteResponse (slot : Nat) (chunk : Nat) (err : Bool)
  /-- REFILL_RESPONSE (R265). -/
  | refillResponse (slot : Nat) (chunk : Nat) (err : Bool)
  /-- CHUNK_OUTPUT (R269). -/
  | chunkOutput (slot : Nat) (chunk : Nat)
  /-- RESULT_WRITE_RESPONSE (R270). -/
  | resultWriteResponse (slot : Nat) (chunk : Nat) (err : Bool)
  /-- HITCH_SIGNAL (R280). `l`: the signals of one PCLK, true for those from a receive braid. -/
  | hitchSignal (l : List (Bool × NocFlit))
  /-- HITCH_WAIT (R283). -/
  | hitchWait (rx : Bool) (f : NocFlit)
  /-- HITCH_WAKE (R285). -/
  | hitchWake (rx : Bool) (f : NocFlit)
  /-- HITCH_UPDATE (R291). -/
  | hitchUpdate (rx : Bool) (f : NocFlit)
  /-- HITCH_READ (R294). -/
  | hitchRead (f : NocFlit)
  /-- WAITER_TIMEOUT (R286). `entry`: number of the waiter entry. -/
  | waiterTimeout (entry : Nat)
  /-- REALIGN_EPOCH (R292). -/
  | realignEpoch
  /-- FENCE_RELEASE (R289). `bucket`: the fenced signal's bucket. -/
  | fenceRelease (bucket : Nat)
  /-- EGRESS_FENCE_RELEASE (R290). -/
  | egressFenceRelease (b : Fin 8)
  /-- HT_CONFIG (R295). -/
  | htConfig (r : RingNo) (i : BitVec 32)
  /-- HT_RESET (R295). -/
  | htReset (r : RingNo) (i : BitVec 32)
  /-- HT_ABORT (R295). -/
  | htAbort (r : RingNo) (i : BitVec 32)
  /-- HT_ABORT_THREAD (R295). -/
  | htAbortThread (r : RingNo) (i : BitVec 32)
  /-- HT_READ (R295). -/
  | htRead (r : RingNo) (i : BitVec 32)
  /-- HT_SIGNAL (R295). -/
  | htSignal (r : RingNo) (i : BitVec 32)
  /-- HT_WAIT (R296). -/
  | htWait (r : RingNo) (i : BitVec 32)
  /-- HITCH_DEBUG_COPY (R300). -/
  | hitchDebugCopy (v : Reg)
  /-- WAITER_DEBUG_COPY (R300). -/
  | waiterDebugCopy (v : Reg)
  /-- LASH_STAGE (R311). -/
  | lashStage (a : Access)
  /-- LASH_UNSTAGE (R311). -/
  | lashUnstage (a : Access)
  /-- LASH_PROPOSE (R312). -/
  | lashPropose (a : Access)
  /-- LASH_DIGEST_READY (R312). -/
  | lashDigestReady
  /-- LASH_COMMIT (R314). -/
  | lashCommit (a : Access)
  /-- LASH_ABORT (R314). -/
  | lashAbort (a : Access)
  /-- LASH_WINDOW_EXPIRY (R314). -/
  | lashWindowExpiry
  /-- LASH_OFFER (R317). -/
  | lashOffer (b : Fin 8) (p : NocFlit)
  /-- LASH_SWITCH (R317). -/
  | lashSwitch (b : Fin 8) (p : NocFlit)
  /-- LASH_WITHDRAW (R318). -/
  | lashWithdraw (b : Fin 8) (p : NocFlit)
  /-- LEADER_LINK_TIMEOUT (R318). -/
  | leaderLinkTimeout
  /-- FOLLOWER_LINK_TIMEOUT (R318). -/
  | followerLinkTimeout
  /-- PARTY_WRITE (R309). -/
  | partyWrite (a : Access)
  /-- EPOCH_CLOSE (R324). -/
  | epochClose
  /-- EPOCH_CLOSE_COMMAND (R325). -/
  | epochCloseCommand (a : Access)
  /-- METER_READ (R323). -/
  | meterRead (a : Access)
  /-- PM_BUDGET (R331). -/
  | pmBudget (f : NocFlit)
  /-- PM_RAMP (R331). -/
  | pmRamp (f : NocFlit)
  /-- PWR_CAP (R333). -/
  | pwrCap (b : Fin 8) (p : NocFlit)
  /-- PWR_GO (R333). -/
  | pwrGo (b : Fin 8) (p : NocFlit)
  /-- DOZE_ENTER (R335). -/
  | dozeEnter (b : Fin 8) (p : NocFlit)
  /-- WAKE_BURST (R337). -/
  | wakeBurst
  /-- CONTROL_WAKE (R338). -/
  | controlWake
  /-- DOZE_HOLD_EXPIRY (R338). -/
  | dozeHoldExpiry
  /-- PARK_READY (R339). -/
  | parkReady (b : Fin 8) (p : NocFlit)
  /-- DRAIN_LIMIT (R340). -/
  | drainLimit
  /-- PARK_DURATION_END (R342). -/
  | parkDurationEnd
  /-- SIDEBAND_WAKE (R344). -/
  | sidebandWake
  /-- FAR_PARKED_TIMEOUT (R344). -/
  | farParkedTimeout
  /-- PARK_EXIT_TRAINED (R343). -/
  | parkExitTrained
  /-- BELAY_EXPIRY (R348). `case`: the case of Table 14.7. -/
  | belayExpiry (case : Nat)
  /-- FLAG_CLEAR (R352). -/
  | flagClear (a : Access)
  /-- DEAD_DIE_POLL (R358). `reads`: what the agent read at each active base end; `repl`: the replacement ID it gives, 0xFF none, at a base end. -/
  | deadDiePoll (reads : List SiteRead) (repl : DieId)
  /-- SM_SLOT_WRITE (R378). `addr`: address of the slot; `data`: the record. -/
  | smSlotWrite (addr : Nat) (data : List (BitVec 8))
  /-- OPTICAL_REPORT (R396). FX_ID, FX_SITE and FX_CLKSTAT of the optical end. -/
  | opticalReport (id : Reg) (site : Reg) (clk : Reg)
  /-- RC_READ (R389). Any read of the window. -/
  | rcRead (a : Access)
  /-- REGISTER_WRITE (R382). Any write of the window. -/
  | registerWrite (a : Access)
  /-- CODEWORD_LOCK_LOSS (R88). 16 uncorrectable codewords in a row. -/
  | codewordLockLoss (b : Fin 8)
  /-- TRAIN_FRAME_REPEAT (R98). -/
  | trainFrameRepeat
  /-- SIDEBAND_FRAME_DISCARD (R37). `w`: the 128 bits as received. -/
  | sidebandFrameDiscard (w : SbWord)
  /-- SIDEBAND_FRAME_FORWARD (R39). -/
  | sidebandFrameForward (f : SbFrame)
  /-- TAP_SHIFT (R48). `si`: tst_si. -/
  | tapShift (wdr : Bool) (acc : Bool) (si : Bool)
  /-- CHECKER_LOCK (R117). `seen`: the strand and its last 64 bits. -/
  | checkerLock (b : Fin 8) (seen : CheckerSeen)
  /-- CHECKER_LOCK_LOSS (R117). `p`: strand; `run`: what it counted; `window`: the 256 bits received after that. -/
  | checkerLockLoss (b : Fin 8) (p : Nat) (run : CheckerRun) (window : BitVec 256)
  /-- MSI_WRITE_RESPONSE (R240). -/
  | msiWriteResponse (r : RingNo) (err : Bool)
  /-- TRANSMIT_CAL_STEP_COMPLETE (R146). `codes`: the trims the step settled. -/
  | transmitCalStepComplete (b : Fin 8) (codes : Reg)
  deriving DecidableEq, Repr

end Sys2Proof
end

