-- ==== Sys2Proof/Decode.lean ====
section
/-!
DEFINITION. Commands spelled by words. The block has no instruction words: no row of the opcode table gives bits, so no word spells
a command.
-/
namespace Sys2Proof

/-- The command a word spells by the table's bits: none of the table's rows has any. -/
def decodeTableWord (_nbits _w : Nat) : Option Instr := none

end Sys2Proof
end

