-- ==== Sys2Proof/Machine/Bits.lean ====
section
/-!
DEFINITION. Bit fields, tables, eight-fold containers, CRCs, pattern generators and Gray code: the helpers every
other file of the machine is written over. Nothing here is a rule of the port but the CRCs (R37, R167), the scrambler
step (R82), the PRBS polynomials (R117) and the PAM4 map (R86).
-/
namespace Sys2Proof.Machine

/-- Bits [lo + len - 1 : lo] of a number. -/
def bitsOf (x lo len : Nat) : Nat := x / 2 ^ lo % 2 ^ len

/-- Bits [lo + len - 1 : lo] of a word, as a number. -/
def bf {n : Nat} (w : BitVec n) (lo len : Nat) : Nat := bitsOf w.toNat lo len

/-- Bit `i` of a word. -/
def bit {n : Nat} (w : BitVec n) (i : Nat) : Bool := bf w i 1 == 1

/-- A word assembled of (lowest bit, length, value) fields; a value is cut to its length. -/
def packNat : List (Nat × Nat × Nat) → Nat
  | [] => 0
  | (lo, len, v) :: rest => v % 2 ^ len * 2 ^ lo + packNat rest

/-- `packNat` as a word of `n` bits. -/
def pack (n : Nat) (l : List (Nat × Nat × Nat)) : BitVec n := BitVec.ofNat n (packNat l)

/-- Replace bits [lo + len - 1 : lo] of a word. -/
def setBf {n : Nat} (w : BitVec n) (lo len v : Nat) : BitVec n :=
  BitVec.ofNat n (w.toNat - bitsOf w.toNat lo len * 2 ^ lo + v % 2 ^ len * 2 ^ lo)

/-- 1 for true. -/
def b2n (b : Bool) : Nat := if b then 1 else 0

/-- Two's complement of `len` bits, as an integer. -/
def sext (x len : Nat) : Int :=
  if x % 2 ^ len < 2 ^ (len - 1) then (x % 2 ^ len : Nat) else ((x % 2 ^ len : Nat) : Int) - ((2 ^ len : Nat) : Int)

/-- An integer as a two's complement field of `len` bits. -/
def ofInt (len : Nat) (i : Int) : Nat := (i % ((2 ^ len : Nat) : Int)).toNat

/-- Saturate at the largest value of `len` bits. -/
def satN (len x : Nat) : Nat := min x (2 ^ len - 1)

/-- The numbers below `n` whose bit is set, rising. -/
def setBits (n x : Nat) : List Nat := (List.range n).filter fun i => x.testBit i

/-- The number of set bits among the lowest `n`. -/
def popCount (n x : Nat) : Nat := (setBits n x).length

/-- A mask with the bits of a list set. -/
def maskOf (l : List Nat) : Nat := l.foldl (fun m i => m ||| 2 ^ i) 0

/-! ### Tables -/

/-- The entry of a table, or the default. -/
def tget {α : Type} (d : α) : Tbl α → Nat → α
  | [], _ => d
  | (k, v) :: t, i => if k = i then v else tget d t i

/-- The entry of a table, where it lists one. -/
def tfind {α : Type} : Tbl α → Nat → Option α
  | [], _ => none
  | (k, v) :: t, i => if k = i then some v else tfind t i

/-- A table with one entry replaced, in rising order. -/
def tput {α : Type} : Tbl α → Nat → α → Tbl α
  | [], i, x => [(i, x)]
  | (k, v) :: t, i, x =>
    if i < k then (i, x) :: (k, v) :: t
    else if i = k then (i, x) :: t
    else (k, v) :: tput t i x

/-- A table without one entry. -/
def tdel {α : Type} (t : Tbl α) (i : Nat) : Tbl α := t.filter fun p => p.1 ≠ i

/-- Change one entry of a table, from the default where it is not listed. -/
def tupd {α : Type} (d : α) (t : Tbl α) (i : Nat) (f : α → α) : Tbl α := tput t i (f (tget d t i))

end Sys2Proof.Machine

namespace Sys2Proof

/-! ### Eight things -/

/-- The entry of a braid or VC. -/
def Oct.get {α : Type} (o : Oct α) : Fin 8 → α
  | 0 => o.e0 | 1 => o.e1 | 2 => o.e2 | 3 => o.e3
  | 4 => o.e4 | 5 => o.e5 | 6 => o.e6 | 7 => o.e7

/-- Replace the entry of a braid or VC. -/
def Oct.put {α : Type} (o : Oct α) (i : Fin 8) (x : α) : Oct α :=
  match i with
  | 0 => { o with e0 := x } | 1 => { o with e1 := x } | 2 => { o with e2 := x } | 3 => { o with e3 := x }
  | 4 => { o with e4 := x } | 5 => { o with e5 := x } | 6 => { o with e6 := x } | 7 => { o with e7 := x }

/-- Change the entry of a braid or VC. -/
def Oct.upd {α : Type} (o : Oct α) (i : Fin 8) (f : α → α) : Oct α := o.put i (f (o.get i))

/-- Eight copies of one thing. -/
def Oct.all {α : Type} (x : α) : Oct α := ⟨x, x, x, x, x, x, x, x⟩

/-- Apply a function to each of the eight. -/
def Oct.map {α β : Type} (f : α → β) (o : Oct α) : Oct β :=
  ⟨f o.e0, f o.e1, f o.e2, f o.e3, f o.e4, f o.e5, f o.e6, f o.e7⟩

/-- Eight things by number. -/
def Oct.ofFn {α : Type} (f : Fin 8 → α) : Oct α := ⟨f 0, f 1, f 2, f 3, f 4, f 5, f 6, f 7⟩

/-- The eight in order. -/
def Oct.toList {α : Type} (o : Oct α) : List α := [o.e0, o.e1, o.e2, o.e3, o.e4, o.e5, o.e6, o.e7]

end Sys2Proof

namespace Sys2Proof.Machine

/-- The eight numbers. -/
def octs : List (Fin 8) := [0, 1, 2, 3, 4, 5, 6, 7]

/-- The bit map of the numbers whose entry satisfies a test. -/
def octMask {α : Type} (o : Oct α) (p : α → Bool) : Nat :=
  maskOf ((octs.filter fun i => p (o.get i)).map Fin.val)

/-- A number as a braid or VC number, modulo 8. -/
def oct (n : Nat) : Fin 8 := Fin.ofNat 8 n

/-! ### CRCs -/

/-- One bit of CRC-16-CCITT (R37). -/
def crc16Step (crc : Nat) (b : Bool) : Nat :=
  let fb := xor b (crc.testBit 15)
  let c := crc * 2 % 65536
  if fb then c ^^^ 0x1021 else c

/-- CRC-16-CCITT over bits 0 to `n` − 1 of a number, bit 0 first, from 0xFFFF (R37). -/
def crc16 (n x : Nat) : Nat := (List.range n).foldl (fun c j => crc16Step c (x.testBit j)) 0xFFFF

/-- One bit of CRC-32C with polynomial 0x1EDC_6F41 (R167), in the reflected register form. -/
def crc32cStep (crc : Nat) (b : Bool) : Nat :=
  let x := crc ^^^ b2n b
  if x % 2 = 1 then x / 2 ^^^ 0x82F63B78 else x / 2

/-- CRC-32C over bits 0 to `n` − 1 of a number, bit 0 first (R167). -/
def crc32c (n x : Nat) : Nat :=
  (List.range n).foldl (fun c j => crc32cStep c (x.testBit j)) 0xFFFFFFFF ^^^ 0xFFFFFFFF

/-- CRC-32C over bytes, each byte's least significant bit first. -/
def crc32cBytes (l : List Nat) : Nat :=
  l.foldl (fun c v => (List.range 8).foldl (fun c j => crc32cStep c (v.testBit j)) c) 0xFFFFFFFF ^^^ 0xFFFFFFFF

/-! ### Scrambler and patterns -/

/-- One step of the scrambler x^31 + x^28 + 1 of R82 in Fibonacci form: the output is bit 30 XOR bit 27, and shifts into bit 0. -/
def scrStep (st : Nat) : Bool × Nat :=
  let o := xor (st.testBit 30) (st.testBit 27)
  (o, st * 2 % 2 ^ 31 + b2n o)

/-- The next `n` outputs of the scrambler as a number, the first in bit 0, and the state after them. -/
def scrRun (n st : Nat) : Nat × Nat :=
  (List.range n).foldl (fun (p : Nat × Nat) j => let q := scrStep p.2; (p.1 + b2n q.1 * 2 ^ j, q.2)) (0, st)

/-- The feedback taps of the three bight patterns (R117): (register length, lower tap). -/
def prbsTaps : Nat → Nat × Nat
  | 0 => (7, 6)
  | 1 => (15, 14)
  | _ => (31, 28)

/-- One step of a PRBS: output and next state. -/
def prbsStep (taps : Nat × Nat) (st : Nat) : Bool × Nat :=
  let o := xor (st.testBit (taps.1 - 1)) (st.testBit (taps.2 - 1))
  (o, st * 2 % 2 ^ taps.1 + b2n o)

/-- `n` outputs of a PRBS as a number, the first in bit 0. -/
def prbsRun (taps : Nat × Nat) (n st : Nat) : Nat :=
  ((List.range n).foldl (fun (p : Nat × Nat) j =>
    let q := prbsStep taps p.2; (p.1 + b2n q.1 * 2 ^ j, q.2)) (0, st)).1

/-- The PAM4 level of a pair of bits, Gray coded (R86). -/
def pam4 : Nat → Nat
  | 0 => 0
  | 1 => 1
  | 3 => 2
  | _ => 3

/-! ### The Reed–Solomon code of a fibre braid (R87) -/

/-- Multiply by α in GF(2^10) with x^10 + x^3 + 1. -/
def gfDouble (a : Nat) : Nat := if a < 512 then 2 * a else (2 * a) % 1024 ^^^ 9

/-- Multiply in GF(2^10). -/
def gfMul (a b : Nat) : Nat :=
  ((List.range 10).foldl (fun (p : Nat × Nat) j =>
    (if b.testBit j then p.1 ^^^ p.2 else p.1, gfDouble p.2)) (0, a)).1

/-- α to the power `n`. -/
def gfAlpha (n : Nat) : Nat := (List.range n).foldl (fun a _ => gfDouble a) 1

/-- Multiply a polynomial (highest coefficient first) by x − r. -/
def gfPolyMulRoot (p : List Nat) (r : Nat) : List Nat :=
  let a := p ++ [0]
  let b := 0 :: p.map (gfMul r)
  List.zipWith (fun x y => x ^^^ y) a b

/-- The generator: the product of (x − α^i) for i from 0 to 29, highest coefficient first. -/
def rsGen : List Nat := (List.range 30).foldl (fun p i => gfPolyMulRoot p (gfAlpha i)) [1]

/-- The 30 parity symbols of 514 message symbols: the remainder of message · x^30 by the generator. -/
def rsParity (msg : List Nat) : List Nat :=
  msg.foldl (fun rem m =>
    let f := m ^^^ rem.headD 0
    List.zipWith (fun x y => x ^^^ y) (rem.drop 1 ++ [0]) ((rsGen.drop 1).map (gfMul f)))
    (List.replicate 30 0)

/-- The 544 symbols of a codeword over 5,140 stream bits: stream bit 10j + m is bit m of message symbol j (R87). -/
def rsCodeword (stream : Nat) : List Nat :=
  let msg := (List.range 514).map fun j => bitsOf stream (10 * j) 10
  msg ++ rsParity msg

/-- Round-robin (R214): the first requester at or after the pointer, of `n`, that is eligible. -/
def roundRobin (n ptr : Nat) (ok : Nat → Bool) : Option Nat :=
  ((List.range n).map fun i => (ptr + i) % n).find? ok

end Sys2Proof.Machine
end

