-- ==== Sys2Proof/Machine/Operands.lean ====
section
/-!
DEFINITION. Every operand form of the commands: the header of a NoC flit (Table 2.4), the link flit and its header
(Tables 8.1, 8.2, 8.10), the TRAIN sideband payload (Table 5.5), the CONTROL payloads (Tables 6.4, 7.4, 13.3, 14.4) and
the descriptor header (Table 10.3).
-/
namespace Sys2Proof.Machine

/-! ### NoC flits (Table 2.4) -/

def flitVc (f : NocFlit) : Fin 8 := oct (bf f 0 3)
def flitTenant (f : NocFlit) : Nat := bf f 3 8
def flitSrcDie (f : NocFlit) : Nat := bf f 11 8
def flitSrcEp (f : NocFlit) : Nat := bf f 19 10
def flitDstDie (f : NocFlit) : Nat := bf f 29 8
def flitDstEp (f : NocFlit) : Nat := bf f 37 10
def flitType (f : NocFlit) : Nat := bf f 47 6
def flitTag (f : NocFlit) : Nat := bf f 53 10
def flitPoison (f : NocFlit) : Bool := bit f 63
/-- The 512 payload bits as a number. -/
def flitPay (f : NocFlit) : Nat := bf f 64 512
/-- A payload field. -/
def payBits (f : NocFlit) (lo len : Nat) : Nat := bf f (64 + lo) len

/-- A NoC flit of its header fields and payload. -/
def mkFlit (vc tenant srcDie srcEp dstDie dstEp typ tag : Nat) (poison : Bool) (pay : Nat) : NocFlit :=
  pack 576 [(0, 3, vc), (3, 8, tenant), (11, 8, srcDie), (19, 10, srcEp), (29, 8, dstDie), (37, 10, dstEp),
    (47, 6, typ), (53, 10, tag), (63, 1, b2n poison), (64, 512, pay)]

/-- The five key bytes of a flow and its bucket (R207). -/
def flowBucket (f : NocFlit) : Nat :=
  crc32cBytes [flitSrcDie f, flitSrcEp f % 256, (flitVc f).val * 4 + flitSrcEp f / 256, flitDstDie f, flitTenant f] % 256

/-! ### Link flits -/

/-- Header fields of a link flit (Table 8.2). -/
structure Hdr where
  ftype : Nat
  seq : BitVec 16
  vc0 : Nat
  v0 : Bool
  vc1 : Nat
  v1 : Bool
  ackSeq : BitVec 16
  ackKind : Nat
  xon : BitVec 8
  opcode : Nat
  deriving DecidableEq, Repr

/-- Read the header. -/
def hdrOf (f : LinkFlit) : Hdr where
  ftype := bf f 0 4
  seq := BitVec.ofNat 16 (bf f 4 16)
  vc0 := bf f 20 3
  v0 := bit f 23
  vc1 := bf f 24 3
  v1 := bit f 27
  ackSeq := BitVec.ofNat 16 (bf f 28 16)
  ackKind := bf f 44 2
  xon := BitVec.ofNat 8 (bf f 46 8)
  opcode := bf f 54 8

def slot0 (f : LinkFlit) : NocFlit := BitVec.ofNat 576 (bf f 64 576)
def slot1 (f : LinkFlit) : NocFlit := BitVec.ofNat 576 (bf f 640 576)
def linkDigest (f : LinkFlit) : Nat := bf f 1216 32
def linkCrc (f : LinkFlit) : Nat := bf f 1248 32
/-- The CRC a receiver computes over flit bits 0 to 1,247 (R167). -/
def linkCrcOk (f : LinkFlit) : Bool := crc32c 1248 (bf f 0 1248) == linkCrc f

/-- A number of 1,248 bits with its CRC (R167). -/
def withCrc (x : Nat) : LinkFlit := BitVec.ofNat 1280 (x + crc32c 1248 x * 2 ^ 1248)

/-- A link flit of its header, slots and digest (Table 8.1). -/
def mkLink (h : Hdr) (p0 p1 : NocFlit) (digest : Nat) : LinkFlit :=
  withCrc (packNat [(0, 4, h.ftype), (4, 16, h.seq.toNat), (20, 3, h.vc0), (23, 1, b2n h.v0), (24, 3, h.vc1),
    (27, 1, b2n h.v1), (28, 16, h.ackSeq.toNat), (44, 2, h.ackKind), (46, 8, h.xon.toNat), (54, 8, h.opcode),
    (64, 576, p0.toNat), (640, 576, p1.toNat), (1216, 32, digest)])

/-- DATA and CONTROL frames take sequence numbers (Table 8.3). -/
def isSequenced (ftype : Nat) : Bool := ftype == 1 || ftype == 5

/-- A TRAIN frame of a phase: fields of Table 8.10 above BRAID, then PRBS15 fill and the CRC (R188). -/
def mkTrain (b tphase : Nat) (fields : List (Nat × Nat × Nat)) : LinkFlit :=
  withCrc (packNat ([(0, 4, 6), (4, 4, tphase), (8, 3, b)] ++ fields)
    + prbsRun (prbsTaps 1) 1136 ((0x0101 + 2 * b) % 2 ^ 15) * 2 ^ 112)

/-- Sequence number `a` lies before `b`, modulo 2^16 over a half range. -/
def seqBefore (a b : BitVec 16) : Bool := a != b && (b - a).toNat < 32768

/-! ### TRAIN sideband payload (Table 5.5) -/

/-- A TRAIN payload of its phase, braid, attempt and phase fields. -/
def trainPay (phase braid attempt : Nat) (fields : List (Nat × Nat × Nat)) : Nat :=
  packNat ([(0, 4, phase), (4, 3, braid), (7, 4, attempt)] ++ fields)

def trPhase (p : BitVec 64) : Nat := bf p 0 4
def trBraid (p : BitVec 64) : Fin 8 := oct (bf p 4 3)
def trAttempt (p : BitVec 64) : Nat := bf p 7 4

/-! ### CONTROL payloads -/

/-- Entries of a 192-bit lane map of six bits each, 0x3F dropped (Table 6.4). -/
def mapField (p : NocFlit) (w : Nat) : List Nat := (List.range w).map fun l => bf p (66 + 6 * l) 6

/-- A strand-function payload (Table 6.4). -/
def mkStrand (op braid requested token logical frm dest width disp reason sw code : Nat) (map : List Nat)
    (clock role : Nat) : NocFlit :=
  pack 576 ([(0, 4, op), (4, 3, braid), (7, 1, requested), (8, 8, token), (16, 6, logical), (22, 6, frm), (28, 6, dest),
    (34, 6, width), (40, 2, disp), (42, 4, reason), (46, 16, sw), (62, 4, code), (258, 6, clock), (264, 1, role)]
    ++ (if map.isEmpty then [] else (List.range 32).map fun l => (66 + 6 * l, 6, map.getD l 0x3F)))

/-- A power payload (Table 14.4). -/
def mkPwr (state width num braid : Nat) : NocFlit := pack 576 [(0, 3, state), (3, 6, width), (9, 16, num), (25, 3, braid)]

/-- A lashing payload (Table 13.3). -/
def mkLash (digest count braid sw cause : Nat) : NocFlit :=
  pack 576 [(0, 32, digest), (32, 32, count), (64, 3, braid), (67, 16, sw), (83, 4, cause)]

/-! ### Descriptors (Table 10.3) -/

def dOpcode (d : Desc) : Nat := bf d 0 8
def dInterrupt (d : Desc) : Bool := bit d 8
def dBarrier (d : Desc) : Bool := bit d 9
def dSeq (d : Desc) : Nat := bf d 16 16
def dUser (d : Desc) : Nat := bf d 32 32
/-- Command target (Table 10.4). -/
def dBraid (d : Desc) : Fin 8 := oct (bf d 64 3)
def dDir (d : Desc) : Nat := bf d 67 1
def dAll (d : Desc) : Bool := bit d 68
def dStrand (d : Desc) : Nat := bf d 69 6

end Sys2Proof.Machine
end

