-- ==== Sys2Proof/Config.lean ====
section
/-!
DEFINITION. What an implementation fixes and what the spec leaves open. A free value has no body: nothing in Lean
can evaluate it, and a claim about it holds whatever it is.
-/
namespace Sys2Proof.Config

/-- A value the spec leaves open (the number of a free slot or table entry the port picks, the TAG of a read it
issues, the number of an unstated result), applied to the state's `freeCtr`: a fresh value each time
(assumption log 4). -/
opaque freeValue : Nat → Nat

end Sys2Proof.Config
end

