-- ==== Sys2Proof/Machine/Parts.lean ====
section
/-!
DEFINITION. The pieces of the port's state, one structure for each interface, layer or engine of the spec, as plain data.
Machine/State.lean puts them together and gives their values after reset.
-/
namespace Sys2Proof.Machine

/-! ### Named states -/

/-- Class of a block (Table 0.3). -/
inductive PortClass where
  | sc | sb | lt | lh | lg | fib
  deriving DecidableEq, Repr

/-- Power state (Table 2.15). -/
inductive PwrState where
  | active | reefed | doze | park | off
  deriving DecidableEq, Repr

/-- Start-up state (Table 5.1). -/
inductive StartState where
  | reset | ident | sideband | config | detect | splice | train | calibrate | discover | negotiate | lash | openSt
  | park | fenced
  deriving DecidableEq, Repr

/-- Strand state (Table 6.1). -/
inductive StrandSt where
  | active | standby | idle | mirror | stoodAside | quarantined | testing | braidRetired
  deriving DecidableEq, Repr

/-- Ladder state of a transmit braid (Table 8.9); `down` until its first training. -/
inductive Ladder where
  | down | up | retraining | retired
  deriving DecidableEq, Repr

/-- Training phase of a braid number (Table 8.11). -/
inductive TrainPhase where
  | off | lock | align | measure | depth | done | trained | failed
  deriving DecidableEq, Repr

/-- What the next header owes the far end (R171). -/
inductive AckDue where
  | none | ack | nak
  deriving DecidableEq, Repr

/-- Life of a descriptor in the ring engine (R228, R229): `started` by the dispatcher, `running` once its own command
has run. -/
inductive DescSt where
  | fetching | rereading | ready | started | running
  deriving DecidableEq, Repr

/-- Ring state (Table 10.11). -/
inductive RingState where
  | disabled | running | draining | halted
  deriving DecidableEq, Repr

/-- State of a doorbell line (R224). -/
inductive LineState where
  | unused | reading | watching | retrying
  deriving DecidableEq, Repr

/-- Electrical trims of a strand held in AON, with RETAINED (R162). -/
structure RetTrim where
  rx : Reg
  dfe : Reg
  tx : Reg
  deriving DecidableEq, Repr

/-! ### What the die straps and fuses give the block -/

/-- Straps and fuses (R11, R393, Table 5.13, R222, R244, R275): fixed for one block, never written by a command. -/
structure Straps where
  /-- class of the block, Table 0.3 -/
  cls : PortClass
  /-- TILE strap (Table 1.2); class 1 has none -/
  tile : BitVec 3
  /-- INDEX strap (Table 1.2); class 1 has none -/
  index : BitVec 4
  /-- 1 in the optical end of a fibre port (R22) -/
  optical : Bool
  /-- fused unique ID of the die; in class 6 the hub's (Table 5.15) -/
  uid : BitVec 64
  /-- the ring engine's endpoint (R222) -/
  ringEp : BitVec 10
  /-- the reduction engine's endpoint (R244) -/
  redEp : BitVec 10
  /-- the hitch engine's endpoint (R275); 0x3F0 in class 1 -/
  hitchEp : BitVec 10
  /-- REVISION of FX_ID (R393) -/
  revision : BitVec 8
  /-- a class 3 end built for 51.2 Gb/s only, such as some partner dies (Table 5.13); false in every Q9 tile end -/
  only51 : Bool
  deriving DecidableEq, Repr

/-! ### Sideband -/

/-- Link sideband, ring station and relay (R36 to R42, R66 to R70, R89 to R91). -/
structure Sideband where
  /-- SEQ of the next frame this block sends (Table 2.10) -/
  txSeq : BitVec 3
  /-- when the last frame was sent on the link -/
  lastTx : Time
  /-- when the last valid frame arrived on the link -/
  lastRx : Time
  /-- SB_UP of FX_CLKSTAT: valid frames arriving and no loss declared -/
  up : Bool
  /-- sideband loss declared (R40, R69) -/
  lost : Bool
  /-- the loss watch is stopped: the far end announced PARK, or the watch has not resumed yet (R70) -/
  watchOff : Bool
  /-- when the watch resumes after PARK if no frame has come, 20 µs after leaving it (R70) -/
  watchAt : Option Time
  /-- class, generation, state, source die and source port code of the far end's last HEARTBEAT (R40, R93) -/
  hbSeen : Bool
  farClass : BitVec 3
  farGen : BitVec 3
  farState : BitVec 4
  farDie : BitVec 8
  farPort : BitVec 8
  /-- a fibre port: frames accepted within the last 256 ns, with their time (R90) -/
  merged : List (Time × SbFrame)
  /-- the eight-frame receive buffer of the ring station (R41) -/
  ringBuf : List SbFrame
  /-- frames addressed to the station discarded on a full buffer (R41) -/
  ringDiscards : BitVec 16
  /-- SEQ of the next frame this block itself sends on the ring: the receiver there is not the link's (Table 2.10,
  assumption log 57) -/
  ringSeq : BitVec 3
  /-- a fibre hub block: SEQ of the next frame to its optical end (R36), the wavelengths, bit 5 · braid + wavelength, whose
  modulator it has commanded on, and the trim codes it has commanded, by strand number (R35, R86, R91, R143) -/
  optSeq : BitVec 3
  optMod : BitVec 40
  optTrim : Tbl Reg
  /-- own frames waiting for a gap on the ring (R41) -/
  ringOwn : List SbFrame
  /-- round-robin pointer between the forwarded stream (0) and own frames (1) -/
  ringPtr : Nat
  /-- replies of the serial memory controller waiting in the four-frame relay queue (R42) -/
  relay : List SbFrame
  /-- guest port: the partner has been sent its DIE_ID frame (R39) -/
  partnerNamed : Bool
  /-- SB_PROTO and SB_CRC of FX_FLT_SB -/
  protoErr : BitVec 16
  crcErr : BitVec 16
  deriving DecidableEq, Repr

/-! ### AON island -/

/-- What the AON island holds through pair resets and through PARK (R65, R72, R44, Table 2.15). -/
structure Aon where
  /-- levels of rst_por_n, rst_pair_n and rst_req_n -/
  porN : Bool
  pairN : Bool
  reqN : Bool
  /-- CAUSE this end will record when the reset it asked for comes (Table 3.9) -/
  reqCause : Option (BitVec 4)
  /-- FX_RSTCAUSE -/
  cause : BitVec 4
  count : BitVec 8
  farCause : BitVec 4
  /-- pm_main_on, pm_main_good, pm_iso_n, and the last level of pm_resume -/
  mainOn : Bool
  mainGood : Bool
  isoN : Bool
  /-- when pm_main_on falls: one AON cycle after pm_iso_n has fallen (R44) -/
  downAt : Option Time
  /-- when the park in progress began: wait timeouts stand still from then (R299) -/
  parkAt : Option Time
  /-- pm_pwr -/
  pmPwr : BitVec 12
  /-- the power-switch timeout event has been raised since the last successful try (R44) -/
  swTimeoutRaised : Bool
  /-- the driver of sb_lnk_tx_ck runs (R51) -/
  sbClk : Bool
  /-- ln_iref_fwd driven (Table 2.16) -/
  irefFwd : Bool
  /-- power state shown on pm_state (Table 14.1) -/
  pwr : PwrState
  /-- FX_MTR_EPOCH -/
  epoch : BitVec 32
  /-- electrical trims retained, with RETAINED of FX_TRIM_STAT, by strand number (R162) -/
  trims : Tbl RetTrim
  /-- RETAINED by direction and braid, bit 8 · dir + braid (R162) -/
  retained : BitVec 16
  /-- DURATION of a PARK command, which AON counts (R342) -/
  parkDur : Option Nat
  /-- PARK was entered from NEGOTIATE as a spare (Table 5.2) -/
  parkSpare : Bool
  /-- an exit from PARK or OFF is running (R343) -/
  exiting : Bool
  deriving DecidableEq, Repr

/-! ### Clocks -/

/-- Clock status, domains and timestamp (R53, R54, R61, R62, R64, R71). -/
structure Clocks where
  /-- PCLK cycles since power-on: the model's time -/
  now : Time
  /-- FX_CLKSTAT -/
  rootLock : Bool
  nclkOk : Bool
  nclkAsync : Bool
  rxwOk : BitVec 8
  refOffset : BitVec 8
  /-- the one clock-fault event of an unlocked NCLK has been raised (R62) -/
  asyncRaised : Bool
  /-- NCLK has been found absent and not yet back (R62) -/
  nclkGone : Bool
  /-- root multiplication ratio: 40 or 32 (R53) -/
  ratio : Nat
  /-- RCLK, SBCLK, CALCLK and SMCLK out of reset (R64 step 1) -/
  refUp : Bool
  /-- PCLK, TSC and TXW out of reset (R64 steps 2 and 3) -/
  pclkUp : Bool
  /-- by braid: the receive clock has been seen running and RXW has left reset (R64 step 4) -/
  rxwUp : BitVec 8
  /-- NCLK out of reset (R64 step 5) -/
  nclkUp : Bool
  /-- last sample of ts_val, and the TSC counter (R46, R54) -/
  tsVal : BitVec 64
  tsc : BitVec 64
  /-- timestamp steps: FX_TS_STEPS, FX_TS_OLD, FX_TS_NEW, and the billing epoch logged with the last step (R46, R325) -/
  steps : BitVec 16
  back : BitVec 16
  tsOld : BitVec 64
  tsNew : BitVec 64
  tsEpoch : BitVec 32
  deriving DecidableEq, Repr

/-! ### Test access -/

/-- An access through the register-access register in flight (R48). -/
structure TapJob where
  /-- OP, offset and data of the access (R48) -/
  op : Nat
  off : Nat
  data : Reg
  deriving DecidableEq, Repr

/-- Test access (R48, R49). -/
structure Test where
  /-- tst_alone -/
  alone : Bool
  /-- tst_sel_wdr, tst_sel_acc -/
  selWdr : Bool
  selAcc : Bool
  /-- the 50-bit register-access register and the 38 wrapper cells -/
  acc : BitVec 50
  wdr : BitVec 38
  /-- tst_so -/
  so : Bool
  /-- access started at Update-DR and not completed -/
  job : Option TapJob
  /-- result of the last access: OP on capture and DATA -/
  resOp : Nat
  resData : Reg
  deriving DecidableEq, Repr

/-! ### Start-up -/

/-- What start-up keeps for one braid and direction (R98 to R107). -/
structure StartBraid where
  /-- usable set this end reported (receive) or was told and kept (transmit), strands 0 to 35 -/
  usable : BitVec 36
  /-- DETECT_RESULT sent or received, with its mask; the own pads have been observed -/
  resultSent : Bool
  resultGot : Bool
  far : BitVec 36
  observed : Bool
  /-- own map CRC, and the far end's -/
  mapSent : Bool
  mapGot : Bool
  mapOk : Bool
  /-- attempt within the step -/
  attempt : BitVec 4
  /-- TRAIN_GO of this braid sent and received, in a braid retrain -/
  trainSent : Bool
  trainGot : Bool
  /-- TRAIN_DONE sent and received, with OK -/
  doneSent : Bool
  doneGot : Bool
  ok : Bool
  deriving DecidableEq, Repr

/-- Start-up (R93 to R115). -/
structure Start where
  /-- STATE, FAILED and FAIL_CODE of FX_START (Table 5.1, Table 5.4) -/
  st : StartState
  failed : Bool
  failCode : BitVec 8
  /-- from the release of rst_pair_n until step 3 completes (R67) -/
  fresh : Bool
  /-- RELEASED = 1 sent to and received from the far end since the own release (R67) -/
  sentRel : Bool
  gotRel : Bool
  /-- the port has entered OPEN since the pair reset: every block responds (R95) -/
  opened : Bool
  /-- a paired reset this end asked for has been sent and not yet taken (R67, R68) -/
  reqSent : Bool
  /-- the paired reset drains first (R68) -/
  reqDrain : Bool
  /-- rst_req_n stays low after a reset-request timeout and the braids stay silent (R68) -/
  reqHeld : Bool
  /-- FX_RESET: DRAIN and REFUSED -/
  drainBit : Bool
  refused : BitVec 8
  /-- sideband-not-up raised (Table 5.4) -/
  notUpRaised : Bool
  /-- FX_SITE as learned: class 1 TILE and INDEX, DIE_ID, SPARE, VALID -/
  siteTile : BitVec 3
  siteIndex : BitVec 4
  siteValid : Bool
  dieId : DieId
  spare : Bool
  /-- the last far beacon (Table 5.15) and whether one came in this step 9 -/
  farUid : BitVec 64
  beaconGot : Bool
  /-- own DIE_ID frame received, or forwarded as a proxy (Table 5.3) -/
  dieIdGot : Bool
  dieIdFwd : Bool
  /-- TRAIN frames: DETECT_GO sent, TRAIN_GO masks, CAL_DONE sent and received -/
  goSent : Bool
  trainMaskSent : BitVec 8
  trainGoSent : Bool
  trainMaskGot : BitVec 8
  trainGoGot : Bool
  calSent : Bool
  calGot : Bool
  /-- transmit braids in detect, which send identity patterns from `patAt` on for the time of R100 or R103; a fibre start
  detects braids 0 to 3 and then 4 to 7 -/
  patterns : BitVec 8
  patAt : Time
  /-- the last TRAIN frame sent of the present phase for each braid, repeated every 10 µs (R98) -/
  repeats : Tbl SbFrame
  /-- the last TRAIN payload taken for each (phase, braid) (R98) -/
  taken : Tbl (BitVec 64)
  /-- what start-up keeps by transmit and by receive braid (R98 to R107) -/
  txb : Oct StartBraid
  rxb : Oct StartBraid
  /-- receive tile assigned to each logical receive braid; none where no tile hears it (R102) -/
  tileOf : Oct (Option (Fin 8))
  /-- FX_NEG (R394) -/
  negGen : BitVec 3
  negRate : BitVec 4
  negFarClass : BitVec 4
  negFarMax : BitVec 3
  negFarMin : BitVec 3
  negFarFeat : BitVec 3
  negValid : Bool
  deriving DecidableEq, Repr

/-! ### Strands and braids -/

/-- One physical strand or wavelength at this end, of one direction of one braid (Tables 6.1 and 6.10, R122). -/
structure Strand where
  st : StrandSt
  /-- state before the PREPARE of the operation in progress (R129) -/
  prev : StrandSt
  /-- logical strand carried; none reads 0x3F -/
  logical : Option Nat
  /-- logical strand it last carried, which an UNSPLICE gives back -/
  home : Option Nat
  /-- CODE and ABORT of FX_STRAND_STATE -/
  code : BitVec 4
  abort : BitVec 4
  /-- arrival a_p in 1/64 UI, or symbols in class 6 (R122, R124) -/
  arrival : Int
  /-- deskew setting d_p -/
  deskew : Int
  /-- corrected in logic: inverted (0x9), and the physical receive site the strand arrives on (0xA, R102) -/
  inverted : Bool
  site : Option Nat
  deriving DecidableEq, Repr

/-- A request or operation of the strand-function exchange (Table 6.4). -/
structure StrandOp where
  /-- OP, REQUESTED and TOKEN (Table 6.4) -/
  op : Nat
  requested : Bool
  token : Nat
  /-- fields of the operation: logical strand, FROM, TO, WIDTH, DISPOSITION, REASON, MAP and CLOCK (Table 6.4) -/
  logical : Nat
  frm : Nat
  dest : Nat
  width : Nat
  disp : Nat
  reason : Nat
  map : List Nat
  clock : Nat
  /-- SWITCH_SEQ once committed -/
  switchSeq : Option (BitVec 16)
  /-- sequence number of the frame carrying the COMMIT -/
  commitSeq : Option (BitVec 16)
  /-- READY sent or received -/
  ready : Bool
  /-- the descriptor that asked for it -/
  desc : Option (RingNo × BitVec 32)
  /-- retries of a failed alignment made (R129) -/
  retried : Bool
  /-- a calibration's cover asked for it (R149) -/
  cal : Bool
  /-- a CANCEL has ended the command behind a request the far end still holds (R232) -/
  dropped : Bool
  /-- order and time of its arrival in the queue, and whether the round-robin pointer stood at its source then (R135) -/
  arr : Nat
  arrAt : Time
  first : Bool
  deriving DecidableEq, Repr

/-- The shape of one direction of one braid (R74, Table 6.9). -/
structure Shape where
  /-- present width; 0 while untrained or retired -/
  width : Nat
  /-- clock strand, 34 or 35; 0 in class 6 -/
  clock : Nat
  /-- physical strand of each logical strand -/
  map : List Nat
  /-- deskew target D, or D_f in class 6 (R122, R124) -/
  target : Nat
  /-- the braid of this direction is retired (R185); it has trained since the last loss (R107) -/
  retired : Bool
  trained : Bool
  /-- operation in progress: at the transmitting end its own, at the receiving end the one it was sent -/
  op : Option StrandOp
  /-- OP and TOKEN of the operation that ended last (Table 6.10, R126) -/
  lastOp : Nat
  lastToken : Nat
  /-- transmitting end: queued requests, oldest first (R129, R135); receiving end: outstanding REQUESTs -/
  queue : List StrandOp
  /-- a displaced or lashed override waits or is in force (R121) -/
  override : Bool
  /-- the width in force came from a REEF, or from an UNREEF that stopped short of the widest: unused strands are IDLE (R120,
  R128) -/
  reefed : Bool
  /-- SWITCHES, WIDTHS, ABORTS and QUARANTINES of STROPS (Table 6.10) -/
  switches : BitVec 8
  widths : BitVec 8
  aborts : BitVec 8
  quarantines : BitVec 8
  deriving DecidableEq, Repr

/-! ### Link layer -/

/-- A sequenced frame held for replay (R172, R180). -/
structure Held where
  /-- SEQ, FTYPE and OPCODE of a held frame (Table 8.1, R165) -/
  seq : BitVec 16
  ftype : Nat
  opcode : Nat
  /-- VC and flit of a valid slot of a DATA frame, or the payload of a CONTROL frame -/
  s0 : NocFlit
  s1 : NocFlit
  v0 : Bool
  v1 : Bool
  /-- the lowest ingress order number among its VC 0 and VC 4 flits, for fences (R289) -/
  ord : Option Nat
  /-- resends so far (R184) -/
  resends : Nat
  lastSent : Time
  deriving DecidableEq, Repr

/-- Training of one braid number (R189 to R191). -/
structure Training where
  phase : TrainPhase
  /-- consecutive TRAIN frames that passed CRC at one boundary -/
  good : Nat
  /-- loops of the ECHO frames received, in 1/16 PCLK -/
  loops : List Nat
  /-- flit-period count and launch time of MEASURE frames, and the last MEASURE to echo -/
  tcount : BitVec 16
  launches : Tbl Nat
  /-- what the far end gave in MEASURE: its fixed figures and flight (Table 8.10, R190) -/
  farTxFixed : Nat
  farRxFixed : Nat
  farFlight : Nat
  /-- transmit crossing of this end as trimmed, in 1/16 PCLK; the MEASURE frame to echo: its TCOUNT and when it was checked -/
  cross : Nat
  echo : Option (BitVec 16 × Nat)
  /-- depths agreed, TRAIN_DONE taken, the attempt and its REASON (R107, Table 5.5) -/
  depthGot : Bool
  doneGot : Bool
  attempt : Nat
  reason : Nat
  deriving DecidableEq, Repr

/-- One transmit braid (R172 to R180, R185, R214, Table 8.14). -/
structure TxBraid where
  /-- what the direction carries (R119) -/
  shape : Shape
  /-- next SEQ to send, OLDEST held for replay, and the frames held (R176) -/
  next : BitVec 16
  oldest : BitVec 16
  held : List Held
  /-- sequence number the replay in progress sends next, and where and when it started (R178) -/
  replay : Option (BitVec 16)
  replayFrom : BitVec 16
  replayAt : Time
  /-- the resend after a retrain or handover does not count toward the four (R184) -/
  freeResend : Bool
  /-- ladder state (Table 8.9) -/
  ladder : Ladder
  retrainAt : Option Time
  lastFail : Option Time
  /-- acknowledgements and XON maps received and not yet applied: kind, sequence, XON (R176) -/
  ackIn : List (Nat × BitVec 16 × BitVec 8)
  /-- far XON bits obeyed, and all-XOFF after a CRC failure (R201) -/
  farXon : BitVec 8
  blind : Bool
  /-- scrambler state (R82) -/
  scr : BitVec 31
  /-- link flits and unit intervals since training ended, and fibre stream bits waiting for a codeword (R84, R87) -/
  flits : Nat
  ui : Nat
  stream : Nat
  streamLen : Nat
  /-- unit intervals the stand-in pattern has run since training began, and TXW cycles of codewords (R84, R86) -/
  standUi : Nat
  cycles : Nat
  /-- when the last IDLE left, and one is due (R168) -/
  lastIdle : Time
  idleDue : Bool
  /-- CONTROL frames waiting: opcode and slot-0 payload (R169); a PREPARE waits for one flit under the drive it announces
  (R126) -/
  ctl : List (Nat × NocFlit)
  prepWait : Bool
  /-- braids whose ACK or NAK frame this braid owes (R170) -/
  owe : List (Fin 8)
  /-- round-robin pointers of frame choice and slot grant (Table 9.5) -/
  kindPtr : Nat
  slotPtr : Nat
  /-- round-robin pointers between the pool and the engine or error queue of each VC -/
  srcPtr : Oct Nat
  /-- highest acknowledgement taken, and when it was applied, for quiescent points (R210) -/
  ackAt : Time
  /-- the far end's last accepted number is known (R186); training of the braid (R188 to R192); RESENDS, RETRAINS, failures and LOOP of the FX_TB registers (R184, R195) -/
  finalGot : Bool
  training : Training
  resends : BitVec 16
  retrains : BitVec 8
  failed : BitVec 8
  loop : BitVec 14
  /-- VCs with a stall event raised (R203) -/
  stalled : BitVec 8
  deriving DecidableEq, Repr

/-- A NoC flit of an accepted frame, in a receive VC buffer until it leaves (R181, R199). -/
structure RxFlit where
  flit : NocFlit
  seq : BitVec 16
  /-- order of acceptance over all receive braids, for fences (R290) -/
  acc : Nat
  release : Time
  /-- its release time has come -/
  eligible : Bool
  /-- a fenced signal held at egress (R290) -/
  fenced : Bool
  deriving DecidableEq, Repr

/-- A run of frames accepted from a replay (R183). -/
structure Run where
  /-- CAUSE, first SEQ, count, highest SEQ, rounds and time of a run of replays (R183) -/
  cause : Nat
  first : BitVec 16
  count : Nat
  high : BitVec 16
  rounds : Nat
  ts : BitVec 48
  deriving DecidableEq, Repr

/-- One receive braid (R174 to R183, R199 to R202, R400, Table 8.14). -/
structure RxBraid where
  /-- what the direction carries (R119) -/
  shape : Shape
  /-- EXPECTED, NAK_WAIT, when the last NAK was sent and how many (R174, R177) -/
  expected : BitVec 16
  nakWait : Bool
  lastNak : Time
  naksSent : Nat
  /-- acknowledgement due in the next header: none, ACK or NAK (R174, R177) -/
  due : AckDue
  unacked : Nat
  timer : Bool
  lastAck : BitVec 16
  /-- original arrivals by sequence number, with the tentative mark (R400) -/
  orig : Tbl (Time × Bool)
  /-- highest sequence number seen, and the highest seen in the present NAK_WAIT, EXPECTED where none is, for runs (R183) -/
  high : BitVec 16
  waitHigh : BitVec 16
  /-- shift of the replay run in progress, in round trips; release time of the flit before -/
  lastRel : Time
  /-- the replay run in progress (R194) -/
  run : Option Run
  /-- timestamp of the first failed copy -/
  failTs : BitVec 48
  /-- cause pending for the first frame accepted after a retrain or port retrain (R183) -/
  resume : Option Nat
  /-- frames still to come that carry flits the far end moved here from a retired braid: how many is the far end's doing (R183, R186,
  assumption log 65) -/
  moved : Nat
  /-- NoC flits accepted and not yet gone, in order of acceptance -/
  buf : List RxFlit
  /-- CONTROL frames accepted whose own command has not run: opcode, payload, sequence number (R169) -/
  ctlIn : List (Nat × NocFlit × BitVec 16)
  /-- XON bits this end sends (R200) -/
  xon : BitVec 8
  /-- descrambler count (R82) -/
  scr : BitVec 31
  /-- a fibre braid: stream bits decoded and not yet part of a link flit, and uncorrectable codewords in a row (R88) -/
  stream : Nat
  streamLen : Nat
  uncorr : Nat
  /-- the direction is retired and its buffers drain; its BRAID_FINAL has gone (R186) -/
  draining : Bool
  finalSent : Bool
  /-- when this direction last recorded a failed retrain -/
  lastFail : Option Time
  /-- counters of the receive braid: CRC failures, NAKs, duplicates, overruns, XOFFs (R195) -/
  crcFail : BitVec 16
  naks : BitVec 8
  dups : BitVec 8
  overruns : Oct (BitVec 4)
  xoffs : Oct (BitVec 8)
  /-- the last replay record: time, rounds and cause (FX_RBn_LASTRP, R183) -/
  rpTs : BitVec 48
  rpRounds : BitVec 8
  rpCause : BitVec 3
  /-- trimmed crossing: receive alignment and phase, and flight, in 1/16 PCLK (R191) -/
  rxAlign : BitVec 6
  rxPhase : BitVec 4
  flight : BitVec 14
  deriving DecidableEq, Repr

/-- Link layer of the port (R185 to R187, R194). -/
structure Link where
  /-- the transmit and receive braids -/
  tx : Oct TxBraid
  rx : Oct RxBraid
  /-- physical strands, by strand number `strandKey` -/
  strands : Tbl Strand
  /-- FX_LL_CTL -/
  llCtl : Reg
  /-- FX_SPL_CTL (R139) -/
  splCtl : Reg
  /-- the FX_SPL_CTL in effect: that of the last strand-quality record (R139) -/
  splAct : Reg
  /-- FX_STRAND_IDX -/
  strandIdx : Reg
  /-- PORT_DOWN of FX_LL_STAT, a port retrain in progress, and how many (R187) -/
  down : Bool
  retraining : Bool
  retrains : BitVec 8
  /-- the class figure and R_RT held by the port, and F (R191) -/
  latency : Nat
  rrt : Nat
  fterm : Nat
  /-- counters of the link layer: protocol errors, quality records dropped, stale frames (R195) -/
  protoErr : BitVec 16
  recDropped : BitVec 8
  stale : BitVec 8
  /-- round-robin pointers between local and remote strand requests (R135) -/
  reqPtr : Nat
  /-- RETRAIN commands that wait for their braid, or for the port -/
  retrainCmds : List (RingNo × BitVec 32 × Option (Fin 8))
  /-- RETRAIN commands with ADMIT whose tests run: braid or none for the port (R138) -/
  admits : List (RingNo × BitVec 32 × Option (Fin 8))
  deriving DecidableEq, Repr

/-! ### NoC interface and flow control -/

/-- A NoC flit in an ingress VC pool (R198). -/
structure PoolFlit where
  flit : NocFlit
  /-- queue: a transmit braid, or none for the move queue -/
  queue : Option (Fin 8)
  bucket : Nat
  /-- sampled at this NCLK order number, for fences (R289) -/
  order : Nat
  /-- a fenced signal held at ingress (R289) -/
  fenced : Bool
  /-- taken from a retired braid (R211): it holds no slot whose credit is owed -/
  handed : Bool
  deriving DecidableEq, Repr

/-- A bucket of the flow table (R208). -/
structure Bucket where
  /-- present braid, target, moving flag and LAST_SEQ (R208) -/
  braid : Fin 8
  target : Fin 8
  moving : Bool
  lastSeq : BitVec 16
  /-- when the acknowledgement that covered LAST_SEQ was applied (R210) -/
  ackAt : Option Time
  deriving DecidableEq, Repr

/-- What a memory request of the port is for (R222, R264, R270). -/
inductive MemKind where
  | descFetch | watchRead | shadowWrite | entryWrite | msiWrite | spillWrite | refillRead | resultWrite
  deriving DecidableEq, Repr

/-- A memory request the port's own engines send into the NoC: the spec gives its VC, address, length, data and
tenant, and leaves its MSG_TYPE, TAG and destination die and endpoint to the die (assumption log 8). -/
structure MemReq where
  kind : MemKind
  vc : Nat
  tenant : BitVec 8
  addr : BitVec 52
  bytes : Nat
  data : Nat
  poison : Bool
  /-- the ring, line, job or chunk and the index it is for -/
  ref1 : Nat
  ref2 : Nat
  deriving DecidableEq, Repr

/-- What leaves at egress: a NoC flit, or a memory request of an engine. -/
inductive EgWhat where
  | flit (f : NocFlit)
  | mem (m : MemReq)
  deriving DecidableEq, Repr

/-- An entry waiting for egress from one of the port's own sources (R213). -/
structure EgItem where
  /-- what leaves, on which VC, and from when (R213) -/
  what : EgWhat
  vc : Fin 8
  release : Time
  /-- last flit of a forwarded chunk: job slot and chunk index (R270) -/
  last : Option (Nat × Nat)
  deriving DecidableEq, Repr

/-- NoC interface, credits, flows and egress sources (R27 to R33, R196 to R218). -/
structure Noc where
  pool : Oct (List PoolFlit)
  /-- order number of the next flit sampled (R29) -/
  order : Nat
  /-- ingress credits the sender may hold and egress credits held, with the credits lost by audits, by VC (R30, R33, R205) -/
  inHeld : Oct Nat
  lostIn : Oct Nat
  egHeld : Oct Nat
  lostEg : Oct Nat
  /-- freed slots whose credit is not yet driven -/
  owed : Oct Nat
  /-- credits withheld: for a reset, for NCLK, for a retrain, for a drain, for a spare pair -/
  whReset : Bool
  whNclk : Bool
  whRetrain : Bool
  whDrain : Bool
  /-- noc_crd_init, counts initialised, timeout event raised (R32) -/
  crdInit : Bool
  initDone : Bool
  timeoutRaised : Bool
  /-- first credits returned since the last initialisation -/
  returned : Bool
  /-- audit in flight: VC, direction, snapshot (R33, R205); and the next in the sequence -/
  audit : Option (Fin 8 × Bool × Nat)
  nextAudit : Nat
  /-- counters of FX_FC registers: audits, mismatches, abandoned, boundary violations, stalls, and management flits dropped (R203, R205, R206) -/
  audits : BitVec 16
  mismatch : BitVec 8
  abandoned : BitVec 8
  boundary : BitVec 16
  stalls : BitVec 8
  mgmtDrop : BitVec 8
  /-- VCs with an egress stall event raised (R203), and VCs whose exhaustion was raised -/
  egStalled : BitVec 8
  /-- FX_FC_CTL, FX_FC_IDX, FX_FLOW_IDX -/
  fcCtl : Reg
  fcIdx : Reg
  flowIdx : Reg
  /-- the bucket table of 256 entries (R208) -/
  buckets : Tbl Bucket
  /-- transmit braids in service (R208); braids taken out by a bight -/
  live : BitVec 8
  bightOut : BitVec 8
  /-- flits held in move queues by braid (R209) -/
  moves : BitVec 16
  /-- flits taken for the port's own engines and not yet worked on by a command of their engine, with true for those
  taken at a receive braid (R245, R276) -/
  taken : List (Bool × NocFlit)
  /-- chunks whose last forwarded flit has gone (R270) -/
  redSent : List (Nat × Nat)
  /-- egress queues of the ring engine, reduction engine, hitch engine and error responses (R213) -/
  qRing : List EgItem
  qRed : List EgItem
  qHitch : List EgItem
  qErr : List EgItem
  /-- round-robin pointers of the egress merge per VC and of the egress slots -/
  mergePtr : Oct Nat
  egPtr : Nat
  deriving DecidableEq, Repr

/-! ### Rings -/

/-- A descriptor the port has fetched or is fetching (R228, R229). -/
structure RingDesc where
  /-- index, life and words of a descriptor (R228) -/
  index : BitVec 32
  st : DescSt
  desc : Desc
  /-- re-reads made for a SEQ mismatch -/
  rereads : Nat
  /-- marked by a CANCEL before it started (Table 10.6) -/
  marked : Bool
  /-- the check of R228 it failed: its completion status -/
  bad : Option Nat
  deriving DecidableEq, Repr

/-- A completion entry in the FIFO (R233, R235), less PHASE. -/
structure CplEntry where
  /-- fields of a completion entry (R233, Table 10.9) -/
  ring : RingNo
  cplRing : RingNo
  status : Nat
  opcode : Nat
  index : BitVec 32
  user : BitVec 32
  result : BitVec 64
  detail : BitVec 32
  ts : BitVec 48
  msi : Bool
  deriving DecidableEq, Repr

/-- One ring (R219 to R226, R240, R241, Table 10.12). -/
structure Ring where
  /-- FX_RINGm registers: base, configuration, MSI address and data (Table 10.12); the ring's state and halt code (R241) -/
  baseLo : Reg
  baseHi : Reg
  cfg : Reg
  msiLo : Reg
  msiHi : Reg
  msiData : Reg
  st : RingState
  haltCode : BitVec 4
  /-- the port's index, the last software index taken, and the index the shadow line may show (R226) -/
  portIdx : BitVec 32
  swIdx : BitVec 32
  visible : BitVec 32
  /-- the index its last shadow write showed (R226) -/
  shadowed : BitVec 32
  /-- submission ring: next index to fetch, and descriptors not yet completed -/
  fetchIdx : BitVec 32
  descs : List RingDesc
  /-- indices posted and not yet fetched that a CANCEL has named -/
  toCancel : List (BitVec 32)
  /-- completion ring: FIFO slots held -/
  slots : Nat
  /-- entry writes issued and not acknowledged: index, and the message-signalled writes its acknowledgement asks for -/
  writes : List (BitVec 32 × Nat)
  /-- message-signalled writes that wait for the shadow write that covers their entries, that wait for that write's
  response, and a merged one that waits until HOLDOFF ends (R240) -/
  msiWait : Nat
  msiPend : Nat
  msiHold : Bool
  msiLast : Option Time
  deriving DecidableEq, Repr

/-- One doorbell line and its shadow line (R223, R224, R226). -/
structure Line where
  /-- doorbell and shadow addresses, state of the line, a notification noted while it reads, failed reads (R224 to R226, Table 10.12) -/
  dbLo : Reg
  dbHi : Reg
  shLo : Reg
  shHi : Reg
  st : LineState
  pending : Bool
  fails : Nat
  /-- the time of the first change of an owned index not yet written -/
  dirtyAt : Option Time
  /-- a shadow write has been issued and not answered -/
  shWait : Nat
  deriving DecidableEq, Repr

/-- A CANCEL command whose targets have not all ended (R232). -/
structure CancelJob where
  ring : RingNo
  index : BitVec 32
  targets : List (RingNo × BitVec 32)
  /-- descriptors it cancelled, and its DETAIL -/
  count : Nat
  detail : Nat
  deriving DecidableEq, Repr

/-- The ring engine (R219 to R243). -/
structure Rings where
  /-- FX_RING_CTL and the mask of message-signalled writes (Table 10.12) -/
  ctl : Reg
  msiMask : Reg
  /-- the 64 rings, the eight doorbell lines, the completion FIFO with its high-water mark, and the CANCEL commands that wait (R219, R232, R235) -/
  ring : Tbl Ring
  line : Oct Line
  fifo : List CplEntry
  fifoHigh : BitVec 9
  cancels : List CancelJob
  /-- descriptors cancelled since their ring was enabled -/
  cancelled : List (RingNo × BitVec 32)
  /-- counters and flags of the rings block: halts, event-ring halt, events dropped (R238, R241) -/
  halts : BitVec 8
  evtHalted : Bool
  evtDropped : BitVec 16
  /-- the next event posted carries OVERFLOWED = 1 (R238) -/
  overflow : Bool
  /-- counters of the rings block: configuration errors, stale descriptors, completions discarded, message-signalled failures (Table 10.12) -/
  cfgErr : BitVec 8
  staleDesc : BitVec 8
  cplDiscarded : BitVec 16
  msiFail : BitVec 8
  /-- round-robin pointers of the dispatcher by kind (R229) -/
  ptrCmd : Nat
  ptrRed : Nat
  ptrHit : Nat
  deriving DecidableEq, Repr

/-! ### Faults and events -/

/-- A token bucket: tokens left at a time (R155, R183, R355). -/
structure Bkt where
  /-- tokens left and when they were counted (Table 15.4) -/
  tokens : Nat
  stamp : Time
  deriving DecidableEq, Repr

/-- An event before it is counted (R354, R237). -/
structure Event where
  /-- TYPE, TENANT and BRAID (R353, Table 15.2) -/
  typ : Nat
  tenant : Nat
  braid : Nat
  /-- body, bytes 8 to 31, less SEQ -/
  body : Nat
  deriving DecidableEq, Repr

/-- Faults and events (R352 to R355, Table 15.9). -/
structure Faults where
  /-- FX_FLT_STAT -/
  flags : Reg
  /-- FX_FLT_CTL, FX_FLT_TIDX -/
  ctl : Reg
  tidx : Reg
  /-- events raised and suppressed by TYPE, and the token buckets by kind (R355, Table 15.4) -/
  raised : Tbl (BitVec 32)
  supp : Tbl (BitVec 16)
  buckets : Tbl Bkt
  /-- DISCARDS and BEACONS of FX_FLT_FENCE (R360) -/
  fenceDiscards : BitVec 16
  fenceBeacons : BitVec 8
  /-- FX_FLT_LAST0 to 7: the last event raised -/
  last : BitVec 256
  /-- events raised by the command in progress, posted in the order of R355 when it ends -/
  queue : List Event
  /-- per CODE of PROTOCOL_ERROR and for FC_OVERRUN: when the last was raised, occurrences since (R356) -/
  limited : Tbl (Time × Nat)
  deriving DecidableEq, Repr

/-! ### Power -/

/-- Why a drain runs (R68, R339). -/
inductive DrainFor where
  | none | park | reset
  deriving DecidableEq, Repr

/-- Power states, drains and belays (R329 to R351). -/
structure Power where
  /-- FX_PWR_CTL -/
  ctl : Reg
  /-- own and far caps, and the pair target -/
  nearCap : PwrState
  nearWidth : Nat
  farCap : PwrState
  farWidth : Nat
  target : PwrState
  targetWidth : Nat
  /-- a CONTROL frame woke this end; the drain in progress (R336, R339) -/
  ctrlAwake : Bool
  draining : DrainFor
  /-- DRAIN_LIMITs passed in this drain (R340) -/
  limits : Nat
  /-- FULL_PWR and PARK_PWR of the port profile (Table 14.2) -/
  fullPwr : Nat
  parkPwr : Nat
  /-- last PM_BUDGET and PM_RAMP taken, with their SEQ (R331) -/
  budget : Nat
  budState : Nat
  budWidth : Nat
  budSeq : Option (BitVec 16)
  level : Nat
  rampSeq : Option (BitVec 16)
  /-- a PARK or OFF of the budget is released by R342 -/
  released : Bool
  /-- PARK command in force: its descriptor and DURATION (R332) -/
  parkCmd : Option (RingNo × BitVec 32 × Nat)
  /-- RESUME commands that wait until DOZE is left (Table 10.5) -/
  resumeCmds : List (RingNo × BitVec 32)
  /-- retired braids when the cap was last computed (R332) -/
  capBraids : BitVec 16
  /-- counts of PWR_CAP and PWR_GO sent, and the last NUM taken of each (R333) -/
  capNum : BitVec 16
  goNum : BitVec 16
  capTaken : Option (BitVec 16)
  goTaken : Option (BitVec 16)
  /-- DOZE_ENTER by braid: sent, acknowledged, far one accepted, far one covered by an ACK; and braids dozing (R335) -/
  dzSent : BitVec 8
  dzAcked : BitVec 8
  dzGot : BitVec 8
  dozing : BitVec 8
  /-- receive braids of the number that carry no frames until the far end's wake burst -/
  rxDoze : BitVec 8
  /-- PARK_READY by braid (R339) -/
  pkSent : BitVec 8
  pkAcked : BitVec 8
  pkGot : BitVec 8
  /-- sequence numbers of the DOZE_ENTER or PARK_READY frames sent -/
  lastCtl : Tbl (BitVec 16)
  /-- flit periods left of this end's wake burst and of the far one, by braid (R337) -/
  burstLeft : Oct Nat
  rxLeft : Oct Nat
  /-- this end holds the sideband wires high to wake the far end (R344) -/
  wakeDrive : Bool
  /-- counters of the power block: DOZE and PARK entries, abandoned parks, PM_DROP, wakes by CONTROL, wakes ignored; the far end parked (Table 14.9) -/
  dozes : BitVec 8
  parks : BitVec 8
  abandoned : BitVec 8
  pmDrop : BitVec 8
  ctrlWakes : BitVec 16
  wakeIgnored : BitVec 8
  farParked : BitVec 8
  /-- belays running: case of Table 14.7 from 1, and when it started; sinking (R347 to R349) -/
  belays : List (Nat × Time)
  sinking : Bool
  /-- IDs revoked at this port's route, for belays of case 4 -/
  revoked : List (BitVec 8)
  /-- flushes in progress: case, flits flushed, responses sent (R348) -/
  flushes : List (Nat × Nat × Nat)
  flushed : BitVec 32
  responses : BitVec 32
  deriving DecidableEq, Repr

/-! ### Tenants, lashing and meters -/

/-- One entry of the lock-violation log (Table 13.8). -/
structure LockEnt where
  /-- an entry of the lock log: offset, endpoint, cause, value, time and die (R319) -/
  off : BitVec 16
  ep : BitVec 10
  cause : BitVec 4
  valid : Bool
  value : Reg
  ts : BitVec 48
  die : BitVec 8
  deriving DecidableEq, Repr

/-- Lashing, the protected set and locks (R308 to R320, Table 13.8). -/
structure Lash where
  window : BitVec 16
  /-- live values of protected registers that differ from reset, by offset; staged shadow values by offset -/
  prot : Tbl Reg
  staged : Tbl Reg
  /-- a proposal is open: its nonce, its proposer, whether its digest is ready, and when its window started -/
  proposed : Option (Reg × BitVec 8 × BitVec 10)
  digestValid : Bool
  digest : Reg
  windowAt : Time
  /-- a taken commit with link items waits for its match, or switches (R317) -/
  linkWait : Bool
  switching : Bool
  /-- the values of the taken commit of a link lashing in progress -/
  commit : Tbl Reg
  waitAt : Time
  /-- held far offer: LINK_DIGEST, LINK_COUNT, when -/
  offer : Option (Reg × Reg × Time)
  /-- LASH_SWITCH by braid: sent with its sequence number, acknowledged, far one accepted -/
  swQueued : BitVec 8
  swSent : BitVec 8
  swSeq : Tbl (BitVec 16)
  swAcked : BitVec 8
  swGot : BitVec 8
  /-- policy table before the switch, for receive braids whose far LASH_SWITCH has not come (R317 step 6) -/
  oldTvc : Tbl Reg
  oldOn : BitVec 8
  /-- FX_LSH_STAT: outcome, late abort, software lashings, COUNT (R315); a link lashing in progress; parties A and B (R308) -/
  outcome : BitVec 4
  lateAbort : BitVec 8
  soff : Reg
  count : BitVec 32
  link : BitVec 32
  partyA : Reg
  partyB : Reg
  /-- bit 0 party A, bit 1 party B: the register holds its one write (R309) -/
  partySet : BitVec 2
  /-- FENCE_DIE and UNFENCE_DIE commands whose change is staged (R231) -/
  fenceCmds : List (RingNo × BitVec 32)
  /-- digest of the far end from its IDLE, and the mismatch count (R320) -/
  cfgFar : Reg
  mismatch : BitVec 32
  /-- the last IDLE compared was unequal (R320) -/
  unequal : Bool
  /-- the lock violations: flag, count, head of the log, FX_LOCK_IDX and the log (R319) -/
  viol : Bool
  violCount : BitVec 8
  head : BitVec 4
  lockIdx : Reg
  log : Tbl LockEnt
  deriving DecidableEq, Repr

/-- Firewall and policy (R303 to R306, Table 13.9). -/
structure Tenancy where
  /-- counters of discards, and FX_FW_LAST, FX_FW_LADDR, blocked flits (R304 to R307) -/
  drops : BitVec 16
  respDrop : BitVec 8
  last : Reg
  addrLo : Reg
  addrHi : Reg
  txBlock : BitVec 16
  rxBlock : BitVec 16
  /-- error responses waiting for the link (R304) -/
  linkQ : List NocFlit
  deriving DecidableEq, Repr

/-- Meters and epochs (R321 to R325, Table 13.10). -/
structure Meters where
  /-- live and snapshot meters by tenant × 8 + counter; energy in femtojoules by tenant -/
  live : Tbl (BitVec 64)
  snap : Tbl (BitVec 64)
  energy : Tbl Nat
  energySnap : Tbl Nat
  /-- NEXT, FX_MTR_SNAP, FX_MTR_IDX and the latched upper half (R323, R324) -/
  next : BitVec 64
  snapEpoch : BitVec 32
  idx : Reg
  latchHi : Reg
  /-- a boundary AON noted while parked (R325) -/
  noted : Option (BitVec 64)
  /-- OPEN has been entered since the pair reset: NEXT is in force -/
  running : Bool
  /-- the next OPEN follows a pair reset: cause restart -/
  restart : Bool
  deriving DecidableEq, Repr

/-! ### Bight modes -/

/-- Bight modes (R116 to R118, Tables 5.16 and 5.17). -/
structure Bight where
  /-- FX_BIGHT_CTL, a bight runs, the last RUN was refused (R116) -/
  ctl : Reg
  active : Bool
  refused : Bool
  /-- braids taking part, those of them off their traffic, and those whose B2 the far end has yet to answer -/
  braids : BitVec 8
  ready : BitVec 8
  waiting : BitVec 8
  /-- braids the far end loops back for us; far requests accepted that wait for this end's traffic to leave the braid;
  braids this end loops back for the far end -/
  looped : BitVec 8
  asked : BitVec 8
  serving : BitVec 8
  /-- checkers locked; and by braid and strand the errors, bits compared and lock losses since RUN -/
  locked : List Nat
  errs : Tbl Nat
  bits : Tbl Nat
  losses : Tbl Nat
  /-- pattern state of each locked checker, and unit intervals of pattern a braid has sent, or in B1 bits (R117) -/
  chk : Tbl Nat
  run : Tbl Nat
  /-- the BIGHT command that runs it -/
  cmd : Option (RingNo × BitVec 32)
  deriving DecidableEq, Repr

/-- Registers for software, window counters and the optical end's copies (R395 to R397). -/
structure Glob where
  /-- FX_SCRATCH registers, PARTIAL and UNMAPPED of FX_REGSTAT, and what the optical end reported (R359, R384, R385, R395 to R397) -/
  scratch0 : Reg
  scratch1 : Reg
  scratch2 : Reg
  scratch3 : Reg
  partialCnt : BitVec 8
  unmapped : BitVec 8
  optId : Reg
  optSite : Reg
  optClk : Reg
  /-- data returned by the last read of the window, and whether the access was refused (R382) -/
  readData : Reg
  refusedAcc : Bool
  deriving DecidableEq, Repr

/-- A link flit driven onto a braid: its bits after scrambling (TRAIN frames unscrambled), the width and the lane map
it was laid out with: bit i is on physical strand `map[i mod width]` in unit interval i / width (R83). -/
structure LinkOut where
  /-- a link flit sent: braid, bits, width and lane map (R164) -/
  braid : Fin 8
  bits : LinkFlit
  width : Nat
  map : List Nat
  /-- physical strands that carry a copy of a logical strand: a mirror before its switch, FROM after it (R126, R127) -/
  also : List (Nat × Nat)
  /-- physical strands that send the stand-in pattern, and the unit intervals it has run for since training (R84) -/
  standIn : List Nat
  ui : Nat
  deriving DecidableEq, Repr

/-- A codeword driven onto the symbol bus of a fibre braid (R35, R86, R87): its 544 symbols, the width and lane map it was
spread with, the copies and stand-ins, and the TXW cycles since training at its first word. -/
structure WordOut where
  braid : Fin 8
  symbols : List Nat
  width : Nat
  map : List Nat
  also : List (Nat × Nat)
  standIn : List Nat
  cycle : Nat
  deriving DecidableEq, Repr

/-- A sideband frame in carrier form on the wavelengths of a fibre braid that are not whipped (R89). -/
structure CarrierOut where
  braid : Fin 8
  waves : List Nat
  frame : SbFrame
  deriving DecidableEq, Repr

/-- A command of a fibre hub block to its optical end (R91): a wavelength's modulator on or off, or the trims of one
direction of a wavelength, heater codes included (R143). -/
inductive OptCmd where
  | modulator (b : Fin 8) (w : Nat) (on : Bool)
  | trims (dir : Nat) (b : Fin 8) (w : Nat) (code : Reg)
  deriving DecidableEq, Repr

/-- Everything the block has driven out, oldest first: the model's record of its outputs (assumption log 7). -/
structure Outputs where
  /-- sideband frames sent on the link, on the die ring, to the serial memory controller, and to the optical end on the six
  sites that face it (R36 to R42) -/
  sbLink : List SbFrame
  sbRing : List SbFrame
  smReq : List SbFrame
  sbOpt : List SbFrame
  /-- commands to the optical end's modulators and trims (R91, R143, assumption log 76) -/
  optCmds : List OptCmd
  /-- link flits, fibre codewords, and sideband frames in carrier form (R35, R87, R89, R164) -/
  link : List LinkOut
  codewords : List WordOut
  carrier : List CarrierOut
  /-- what left on NoC egress (R30) -/
  egress : List EgWhat
  /-- for each memory request among them, in order, the flit it begins with (R28) -/
  reqFlits : List NocFlit
  /-- credits driven on noc_in_crd: VC and how many (R31) -/
  credits : List (Fin 8 × Nat)
  /-- wakes on the wake bus: core, thread, cause (Table 2.14) -/
  wakes : List (Nat × Nat × Nat)
  /-- abort sweeps of R299: each drives a wake with cause abort to every core 0 to 575 and thread 0 to 63, ascending -/
  sweeps : Nat
  deriving DecidableEq, Repr

end Sys2Proof.Machine
end

