-- ==== Sys2Proof/Machine/Class.lean ====
section
/-!
DEFINITION. The figures of each class of port (Tables 0.3, 0.4, 1.5, 4.1, 8.6, 9.1, 9.2): what one class has and another
lacks, and the depths, widths and times that differ between them.
-/
namespace Sys2Proof.Machine

/-! ### Class figures (Tables 0.3, 0.4, 8.6, 9.2, 14.2) -/

/-- Class code of Table 0.3. -/
def PortClass.code : PortClass → Nat
  | .sc => 1 | .sb => 2 | .lt => 3 | .lh => 4 | .lg => 5 | .fib => 6

/-- Stack classes 1 and 2. -/
def PortClass.isStack : PortClass → Bool
  | .sc | .sb => true
  | _ => false

/-- Class 6. -/
def PortClass.isFibre : PortClass → Bool
  | .fib => true
  | _ => false

/-- Class 3, 4 or 5. -/
def PortClass.isLat : PortClass → Bool
  | .lt | .lh | .lg => true
  | _ => false

/-- A hub die carries the block: classes 4, 5 and 6. -/
def PortClass.isHub : PortClass → Bool
  | .lh | .lg | .fib => true
  | _ => false

/-- A figure by reach class: stack, lateral, fibre. -/
def byReach {α : Type} (c : PortClass) (stack lat fib : α) : α :=
  if c.isStack then stack else if c.isFibre then fib else lat

/-- Far-end class codes a class may pair with (Table 0.3). -/
def PortClass.farOk : PortClass → List Nat
  | .sc => [2] | .sb => [1] | .lt => [4, 5] | .lh => [3] | .lg => [3] | .fib => [6]

/-- Virtual channels a class carries (Table 0.4, R7). -/
def PortClass.carries (c : PortClass) (v : Fin 8) : Bool :=
  !c.isFibre || v == 1 || v == 4 || v == 6 || v == 7

/-- The VCs a class carries, rising. -/
def PortClass.vcs (c : PortClass) : List (Fin 8) := octs.filter c.carries

/-- Replay buffer depth (Table 0.4). -/
def PortClass.replayDepth (c : PortClass) : Nat := byReach c 128 256 512
/-- Receive buffer slots per VC and braid (Table 9.1). -/
def PortClass.rxDepth (c : PortClass) : Nat := byReach c 128 192 512
/-- XOFF_AT and XON_AT (Table 9.2). -/
def PortClass.xoffAt (c : PortClass) : Nat := byReach c 48 64 72
def PortClass.xonAt (c : PortClass) : Nat := byReach c 32 48 56
/-- ACK timer in PCLK (Table 8.6). -/
def PortClass.ackTimer (c : PortClass) : Nat := byReach c 16 32 256
/-- R_RT in PCLK at a fibre term F (Table 8.6). -/
def PortClass.rrtOf (c : PortClass) (f : Nat) : Nat := byReach c 24 40 (128 + 2 * f)
/-- Class figure in PCLK at a fibre term F (R5, Table 8.12). -/
def PortClass.latencyOf (c : PortClass) (f : Nat) : Nat := byReach c 10 16 (40 + f)
/-- Data strands, and every strand of a braid (R74). -/
def PortClass.ndata (c : PortClass) : Nat := if c.isFibre then 4 else 32
def PortClass.nstrands (c : PortClass) : Nat := if c.isFibre then 5 else 36
/-- Strands that can carry a logical strand (R120). -/
def PortClass.nuse (c : PortClass) : Nat := if c.isFibre then 5 else 34
/-- Spares in the order R120 takes them. -/
def PortClass.spares (c : PortClass) : List Nat := if c.isFibre then [4] else [32, 33]
/-- Widths, widest first (Table 4.1). -/
def PortClass.widths (c : PortClass) : List Nat := if c.isFibre then [4, 2, 1] else [32, 16, 8, 4]
/-- Longest pad of R190. -/
def PortClass.padMax (c : PortClass) : Nat := byReach c 15 15 63
/-- The class carries a reduction engine (Table 1.5). -/
def PortClass.hasRed : PortClass → Bool
  | .lt | .lh | .fib => true
  | _ => false
/-- The class carries a hitch engine (Table 1.5). -/
def PortClass.hasHitch : PortClass → Bool
  | .sc | .fib => true
  | _ => false

/-- RATES a block advertises (Table 5.13, R6): bit 0 51.2 Gb/s, bit 1 64 Gb/s, bit 2 64 GBd PAM4. Only a class 3 end has
two makes. -/
def Straps.ownRates (st : Straps) : BitVec 4 :=
  match st.cls with
  | .sc | .sb => 2
  | .lt => if st.only51 then 1 else 3
  | .lh | .lg => 1
  | .fib => 4

end Sys2Proof.Machine
end

