-- ==== Sys2Proof/Machine/Engines.lean ====
section
/-!
DEFINITION. The pieces of the state that calibration, in-flight reduction, hitches, the serial configuration image and
the hub's discovery agent hold, as plain data.
-/
namespace Sys2Proof.Machine

/-! ### Calibration (R142 to R163) -/

/-- Trims of one physical strand of one direction, with what the registers of Table 7.11 report of it. -/
structure Trim where
  /-- FX_TRIM_RX, _DFE, _TX, _OPT_TX and _OPT_RX of the strand (Table 7.11) -/
  rx : Reg
  dfe : Reg
  tx : Reg
  otx : Reg
  orx : Reg
  /-- host values held pending (R162), for the five registers in the order above -/
  pRx : Option Reg
  pDfe : Option Reg
  pTx : Option Reg
  pOtx : Option Reg
  pOrx : Option Reg
  /-- offsets of the two interpolated trims of the direction (R157), and its live codes at the last temperature value or
  calibration (R158) -/
  off0 : Int
  off1 : Int
  goal : Option Reg
  /-- LAST_STATUS, when that calibration completed, DISCARDED -/
  last : BitVec 4
  doneAt : Option Time
  discarded : BitVec 8
  /-- FX_QUAL_EYE and FX_QUAL_ERR -/
  eye : Reg
  err : Reg
  /-- errors attributed since the last period ended (R156), and counts carried since the last posted record -/
  perErrs : Nat
  perCrc : Nat
  accErrs : Nat
  accUnits : Nat
  accUncorr : Nat
  /-- records over the threshold in a row (R130) -/
  overs : Nat
  deriving DecidableEq, Repr

/-- Where the calibration of a receive braid's strand stands (R145 to R148). -/
inductive CalPhase where
  | cover | steps | back
  deriving DecidableEq, Repr

/-- What stood the strand aside (R145). -/
inductive CalCover where
  | direct | splice | swap
  deriving DecidableEq, Repr

/-- A running calibration at the receive end. -/
structure CalRun where
  /-- strand, phase and cover of a calibration (R145, R146) -/
  strand : Nat
  phase : CalPhase
  cover : CalCover
  /-- TOKEN of the covering operation, 0 where there is none -/
  token : Nat
  /-- present step of Table 7.4; 0 before the first -/
  step : Nat
  /-- CAL_STEP_DONE received for the present step -/
  stepDone : Bool
  stepAt : Time
  /-- trims before the calibration, deskew with its arrival among them, and those found so far (R148) -/
  old : RetTrim
  oldO : Reg
  oldArrival : Int
  oldDeskew : Int
  new : RetTrim
  newO : Reg
  arrival : Option Int
  /-- figures of its measurement step, for the KIND 1 record (R154) -/
  meas : Meas
  /-- strand state before it stood aside directly -/
  prev : StrandSt
  /-- temperature code at step 1 -/
  temp1 : Nat
  temp6 : Nat
  /-- held host values are applied instead of steps 1 to 6 (R162) -/
  held : Bool
  /-- TIA_RANGE of a range move (R159) -/
  range : Option Nat
  /-- STATUS the calibration will complete with, and the TX_CODES of the last CAL_STEP_DONE -/
  status : Nat
  txCodes : Nat
  deriving DecidableEq, Repr

/-- A calibration a transmit end takes part in. -/
structure CalServe where
  /-- strand and TOKEN of the calibration served (R146) -/
  strand : Nat
  token : Nat
  /-- transmit-end step that runs; 0 for none -/
  step : Nat
  /-- pattern it sends, and trims before and after, electrical and optical (R146) -/
  pattern : Nat
  old : RetTrim
  oldO : Reg
  new : RetTrim
  newO : Reg
  /-- this end's temperature code at steps 1 and 6 -/
  temp1 : Nat
  temp6 : Nat
  /-- STATUS of the CAL_END taken; the return is still to come (R148) -/
  ended : Option Nat
  deriving DecidableEq, Repr

/-- A CALIBRATE command: strands left, statuses met (Table 10.5). -/
structure CalJob where
  /-- the command: ring, index, strands left, good ones, worst status, and whether it names one strand (R145) -/
  ring : RingNo
  index : BitVec 32
  left : List (Nat × Nat)
  oks : Nat
  worst : Nat
  single : Bool
  deriving DecidableEq, Repr

/-- An EYE_SCAN or PRBS_TEST command in progress. -/
structure ScanJob where
  /-- the command: ring, index, braid and strand (R153) -/
  ring : RingNo
  index : BitVec 32
  braid : Fin 8
  strand : Nat
  /-- points left, or LOG2_BITS -/
  left : Nat
  posted : Nat
  prbs : Bool
  deriving DecidableEq, Repr

/-- A strand-quality record waiting for a token (R155). -/
structure QualWait where
  /-- strand, KIND and body of a record (R155) -/
  key : Nat
  kind : Nat
  body : Nat
  /-- EYE_SCAN the record belongs to -/
  scan : Option (RingNo × BitVec 32)
  deriving DecidableEq, Repr

/-- A failed copy of a flit in the compare buffer (R156). -/
structure FailedCopy where
  /-- the failed flit kept for comparison: SEQ, bits and lane map (R156) -/
  seq : BitVec 16
  bits : LinkFlit
  map : List Nat
  deriving DecidableEq, Repr

/-- Calibration, trims, quality records and fibre temperature sets. -/
structure Cal where
  /-- trims by strand number `strandKey` -/
  trims : Tbl Trim
  /-- FX_CAL_CTL and the counts of calibrations done, abandoned, without cover and skipped (R151, R163) -/
  ctl : Reg
  done : BitVec 8
  abandoned : BitVec 8
  noCover : BitVec 8
  skipped : BitVec 8
  /-- by receive braid: running calibration, and strands waiting; by transmit braid: the calibration served -/
  run : Oct (Option CalRun)
  want : Oct (List Nat)
  serve : Oct (Option CalServe)
  /-- round-robin pointer of the sequencer (R150) -/
  ptr : Nat
  /-- CALIBRATE commands and scans in progress (R145, R153) -/
  jobs : List CalJob
  scans : List ScanJob
  /-- the sweep (R151): strands left in this pass by braid, and strands a range move waits for -/
  sweep : Oct (List Nat)
  moves : List (Nat × Nat)
  /-- records waiting: KIND 1 to 3 in the order they closed, and periodic -/
  waiting : List QualWait
  periodic : List QualWait
  /-- token bucket of quality records, and failed copies kept by receive braid (R155, R156) -/
  bucket : Bkt
  compare : Oct (List FailedCopy)
  /-- temperature (R45, FX_TEMP) -/
  temp : BitVec 10
  stale : Bool
  fault : Bool
  tempValid : Bool
  /-- ts_temp_ack (Table 2.16) -/
  tempAck : Bool
  /-- when the last temperature value came, and NEAREST of FX_TEMP (R45, R159) -/
  tempAt : Time
  nearest : Nat
  /-- a temperature-range crossing reported: 1 below, 2 above -/
  outOf : Nat
  /-- the working set as written and as in effect since the last temperature value, FX_TSET_IDX, FX_TSET_SLOT, FX_TSET_GEN -/
  tset : Tbl Reg
  tsetAct : Tbl Reg
  tsetIdx : Reg
  loaded : BitVec 2
  aValid : Bool
  bValid : Bool
  captured : BitVec 4
  gen : Reg
  deriving DecidableEq, Repr

/-! ### In-flight reduction (R244 to R274) -/

/-- State of a chunk (Table 11.7); ABSENT and DONE chunks have no record. -/
inductive ChunkSt where
  | opened | spilled | refilling | closed
  deriving DecidableEq, Repr

/-- A rank's contribution held in its input format (R260): its image, in data flits. -/
structure HeldRank where
  /-- rank and image so far (R263) -/
  rank : Nat
  image : List (BitVec 512)
  /-- first flit of the image not yet combined -/
  frm : Nat
  /-- nothing more of it will come -/
  whole : Bool
  deriving DecidableEq, Repr

/-- One chunk of a running job. -/
structure Chunk where
  /-- index and state of a chunk (R261) -/
  idx : Nat
  st : ChunkSt
  /-- ranks received -/
  ranks : List Nat
  /-- RANK order: the rank combined next -/
  nextRank : Nat
  /-- accumulators: none until the first value (R251) -/
  acc : List (Option Nat)
  /-- contributions held, POISON, closed by its timer, when the timer started, and order of the last update (R262, R265, R268) -/
  held : List HeldRank
  poisoned : Bool
  byTimer : Bool
  timerAt : Time
  updated : Nat
  /-- PCLK of the last update: a chunk updated in the present one is no spill victim (R265) -/
  touched : Time
  /-- spill granules held, and acknowledgements or responses awaited -/
  spill : List Nat
  wait : Nat
  /-- the chunk closes when its refill has arrived; the refill failed -/
  closeAfter : Bool
  /-- closed: output image in flits still to send by each path, writes not yet acknowledged -/
  memLeft : List (Nat × BitVec 512)
  fwdLeft : List NocFlit
  acks : Nat
  fwdDone : Bool
  begun : Bool
  deriving DecidableEq, Repr

/-- A running reduction job (R257). -/
structure RedJob where
  /-- ring, index, owner and descriptor of the job, CANCEL taken, and when the idle timer started (R257, R262) -/
  ring : RingNo
  index : BitVec 32
  owner : BitVec 8
  desc : Desc
  cancelling : Bool
  idleAt : Time
  /-- every chunk not in the table closes as ABSENT under the idle timer -/
  idleClosed : Bool
  /-- chunks, indices done, and what the completion reports: counts, flags, first missing and first faults (Table 11.9) -/
  chunks : List Chunk
  doneIdx : List Nat
  straggled : Nat
  poisonedOut : Nat
  flags : BitVec 7
  missing : Option Nat
  outFault : Bool
  spillFault : Bool
  scratchFull : Bool
  strag : Bool
  pois : Bool
  /-- causes whose first event has been raised (R271) -/
  seen : BitVec 8
  /-- spill granules in use or abandoned after a fault -/
  spillUsed : List Nat
  spillDead : List Nat
  deriving DecidableEq, Repr

/-- What an open stream entry feeds (R249). -/
inductive StreamTo where
  | chunk (slot idx rank : Nat)
  | prehold (num : Nat)
  /-- the chunk has closed or its job has ended: the rest of the contribution is only mirrored -/
  | gone
  deriving DecidableEq, Repr

/-- A stream entry, keyed by side and flow. -/
structure Stream where
  /-- side, flow, destination, flits taken and announced (R249) -/
  rx : Bool
  flow : List Nat
  dest : StreamTo
  next : Nat
  flits : Nat
  /-- a poisoned flit of it was counted; its copy is mirrored -/
  pois : Bool
  mirror : Bool
  /-- flits of the image taken so far, for elements that straddle flits and for MX scales -/
  image : List (BitVec 512)
  deriving DecidableEq, Repr

/-- A contribution in the pre-job hold (R263). -/
structure PreHeld where
  /-- number, arrival time, side, head and data of a held contribution, and whether it has ended (R263) -/
  num : Nat
  at_ : Time
  rx : Bool
  head : NocFlit
  data : List NocFlit
  ended : Bool
  deriving DecidableEq, Repr

/-- The reduction engine. -/
structure Red where
  /-- FX_RED_CTL and FX_RED_JIDX (R273) -/
  ctl : Reg
  jidx : Reg
  /-- job slots 0 to 31 -/
  jobs : Tbl RedJob
  /-- open streams, contributions held before their job, and the next hold number (R249, R263) -/
  streams : List Stream
  hold : List PreHeld
  nextHold : Nat
  /-- granules of mirrored copies waiting for the link output queue (R269) -/
  mirrorWait : List NocFlit
  /-- link output queue (R267), with the chunk a flit is the last of -/
  linkQ : List (NocFlit × Option (Nat × Nat))
  /-- order of updates, for the spill victim (R265) -/
  clock : Nat
  /-- the side the arbiter between ingress and the receive braids turns to next: false for ingress (R246) -/
  turnRx : Bool
  /-- contributions taken, discards by cause of Table 11.6, spills and refills (R273) -/
  contribs : BitVec 32
  cDup : BitVec 8
  cRange : BitVec 8
  cFormat : BitVec 8
  cLate : BitVec 8
  cTrunc : BitVec 8
  cStreams : BitVec 8
  cScratch : BitVec 8
  cPoison : BitVec 8
  cUnknown : BitVec 8
  cBadType : BitVec 8
  cMirror : BitVec 8
  spills : BitVec 16
  refills : BitVec 16
  deriving DecidableEq, Repr

/-! ### Hitches (R275 to R301) -/

/-- One hitch (Table 12.2); OWNER is its group's, WAITERS and HEAD follow from the waiter table. -/
structure Hitch where
  /-- VALUE, MODE, ROLE, TARGET, GEN and OVF of a hitch, who signalled it last and when, and LINK0 to LINK3 (R278) -/
  value : BitVec 32
  barrier : Bool
  role : BitVec 2
  target : BitVec 32
  gen : Bool
  ovf : Bool
  sigDie : BitVec 8
  sigCore : BitVec 10
  sigThread : BitVec 6
  sigTs : BitVec 48
  link0 : BitVec 31
  link1 : BitVec 31
  link2 : BitVec 31
  link3 : BitVec 31
  deriving DecidableEq, Repr

/-- One waiter entry (R284). -/
structure Waiter where
  /-- number of the entry in the table -/
  entry : Nat
  /-- hitch, die, core and thread that wait (R283) -/
  hitch : Nat
  die : Nat
  core : Nat
  thread : Nat
  /-- 0 GE, 1 EQ, 2 GEN -/
  op : Nat
  operand : BitVec 32
  /-- timeout in µs, 0 for none, and when the entry was made -/
  timeout : Nat
  since : Time
  desc : Option (RingNo × BitVec 32)
  deriving DecidableEq, Repr

/-- An update owed to a mirror (R291): the home, the link, and whether it is a realign update. -/
structure Owed where
  /-- hitch, link, and whether it is a realign copy (R291, R292) -/
  hitch : Nat
  link : Nat
  realign : Bool
  deriving DecidableEq, Repr

/-- A wake released (R285, R296): die, core, thread, cause; for HT_WAIT its descriptor. -/
structure Wake where
  die : Nat
  core : Nat
  thread : Nat
  cause : Nat
  desc : Option (RingNo × BitVec 32)
  /-- VALUE and GEN at release, for a descriptor (Table 12.9) -/
  value : Nat
  gen : Nat
  deriving DecidableEq, Repr

/-- The hitch engine. -/
structure Hitches where
  /-- FX_HT_CTL and the hitches that differ from zero (R278, R300) -/
  ctl : Reg
  hitches : Tbl Hitch
  /-- waiters in ascending order of hitch, die, core, thread -/
  waiters : List Waiter
  /-- signals left over from a PCLK (R281, R282), with the side they came from -/
  intake : List (NocFlit × Bool)
  /-- while the releases of one PCLK are collected, the wakes so far (R43, R285) -/
  due : Option (List Wake)
  /-- updates owed to mirrors, and their round-robin pointer (R291) -/
  owed : List Owed
  owedPtr : Nat
  /-- flits for the far fibre engine, a VC 7 source of the link (R293) -/
  linkQ : List NocFlit
  /-- bucket of each fence held at ingress (R289), with the order number of its signal -/
  fences : List (Nat × Nat)
  high : BitVec 14
  /-- when the abort sweep in progress ends (R299) -/
  sweepEnd : Time
  /-- counters of the hitch engine by FX_HT registers, the epoch and the debug view (R292, R300) -/
  sigs : BitVec 32
  blocked : BitVec 8
  overflow : BitVec 8
  underflow : BitVec 8
  wrong : BitVec 8
  timeouts : BitVec 8
  aborts : BitVec 8
  wtFull : BitVec 8
  replaced : BitVec 8
  poisoned : BitVec 8
  badMsg : BitVec 8
  farWait : BitVec 8
  mirRej : BitVec 8
  fencesDone : BitVec 16
  epoch : BitVec 32
  drift : BitVec 16
  coalesced : BitVec 16
  dbgIdx : Reg
  dbgWidx : Reg
  /-- debug latches by offset (R300) -/
  dbg : Tbl Reg
  deriving DecidableEq, Repr

/-! ### Serial configuration image (R363 to R381) -/

/-- A read over the relay (R370, R372). -/
structure SmRead where
  /-- TAG, address, length, data frames got and reissues of a read (R370 to R372) -/
  tag : BitVec 4
  addr : Nat
  len : Nat
  got : Tbl (BitVec 48)
  reissues : Nat
  /-- an SM_ERROR 0x3 waits for its reissue -/
  waiting : Bool
  /-- slot 0 A or 1 B, and whether the whole record is read -/
  slot : Nat
  whole : Bool
  deriving DecidableEq, Repr

/-- Step 4 of start-up and what it loaded. -/
structure Cfg where
  /-- record type being chosen, 0 to 7; 8 when step 4 is over; none before it starts -/
  at_ : Option Nat
  /-- reads in flight (R370) -/
  reads : List SmRead
  /-- first 32 bytes of each slot, once read -/
  headA : Option (List (BitVec 8))
  headB : Option (List (BitVec 8))
  unreadA : Bool
  unreadB : Bool
  /-- slots still to try in order -/
  order : List Nat
  /-- chosen records by type: slot and bytes -/
  chosen : Tbl (Nat × List (BitVec 8))
  /-- FX_CFG_STAT: slots chosen, done, foreign records, reissues, errors and rejected slots (R366 to R372) -/
  slotCode : BitVec 16
  done : Bool
  foreign : BitVec 8
  reissues : BitVec 8
  smErrors : BitVec 8
  rejected : BitVec 8
  /-- the lane map loaded (R374): retired strands by transmit and receive braid, and SPARE -/
  retTx : Oct (BitVec 36)
  retRx : Oct (BitVec 36)
  spareRec : Bool
  /-- address of the topology record (R367) -/
  topoAddr : BitVec 64
  deriving DecidableEq, Repr

/-! ### The hub's discovery agent and serial memory controller (R13 to R18, R110 to R112, R358, R363, R378, R379) -/

/-- One site the agent knows: compute site 7t + s, or 56 and 57 for the guests. -/
structure Site where
  uid : Option (BitVec 64)
  /-- 0 absent, 1 active, 2 spare, 3 failed, 4 fenced, 5 revoked (Table 5.11) -/
  state : Nat
  dieId : BitVec 8
  /-- the site waits in NEGOTIATE for the replacement ID it has been given (R15) -/
  waking : Bool
  /-- an UNFENCE_DIE has applied at its base end (R360) -/
  unfenced : Bool
  /-- since when every read has shown PORT_DOWN -/
  downSince : Option Time
  /-- COUNT of FX_RSTCAUSE by read, within the last second -/
  counts : List (Time × BitVec 8)
  /-- the pair has reached OPEN in this start -/
  opened : Bool
  /-- COUNT at the revocation, and FENCED seen since -/
  fenceCount : BitVec 8
  fenceSeen : Bool
  /-- when FENCED_BEACON was last raised for it (R360) -/
  beaconAt : Option Time
  /-- GEN and BRAIDS of its topology entry, as last read (R112) -/
  gen : Nat
  braids : Nat
  deriving DecidableEq, Repr

/-- An event the agent raises at a port: class, tile and index of that port, type, CODE and arguments (Table 15.6). -/
structure AgentEvent where
  /-- source block and content of an event of the agent (R358) -/
  cls : PortClass
  tile : Nat
  index : Nat
  typ : Nat
  code : Nat
  arg0 : Nat
  arg1 : Nat
  arg2 : Nat
  deriving DecidableEq, Repr

/-- An entry of the topology table (Table 5.11): UID and DIE_ID of a die, FAR_UID and FAR_PORT of a fibre port. -/
structure TopoEnt where
  uid : BitVec 64
  id : BitVec 8
  state : Nat
  gen : Nat
  braids : Nat
  deriving DecidableEq, Repr

/-- The discovery agent and the hub's serial memory. -/
structure Agent where
  /-- discovery has closed (R110) -/
  closed : Bool
  /-- the 58 sites of the package (R109, R358) -/
  sites : Tbl Site
  /-- next replacement ID of R15 -/
  nextRepl : Nat
  /-- unique IDs revoked at this start, with the ID revoked -/
  revokedUids : List (BitVec 64 × BitVec 8)
  /-- START and VERSION of the topology table, and its 83 entries as last rewritten, none before the first time (R112) -/
  starts : BitVec 32
  version : BitVec 32
  table : List TopoEnt
  /-- guest ports whose own ID 0x40 or 0x41 has been given in this start (R21) -/
  guestUsed : BitVec 2
  /-- the package's assigned die IDs besides the hub's and the tiles' -/
  assigned : List (BitVec 8)
  /-- events raised at ports other than this block, oldest first -/
  events : List AgentEvent
  /-- the serial memory: bytes that do not read 0xFF, by address, rising -/
  mem : List Host.Cell
  /-- the device is usable under R363, its size in bytes, and the slot being programmed with its record -/
  usable : Bool
  size : Nat
  busy : Option (Nat × List (BitVec 8))
  /-- SM_DATA and SM_ERROR frames the controller has answered with, oldest first (R370, R371) -/
  answers : List SbFrame
  deriving DecidableEq, Repr

end Sys2Proof.Machine
end

