-- ==== Sys2Proof/Machine/Zero.lean ====
section
/-!
DEFINITION. Every piece of the state at zero: each field 0, false, empty or the first of its named states. State.reset
overwrites the fields whose reset value the spec gives otherwise.
-/
namespace Sys2Proof.Machine

/-- Sideband at zero. -/
def zeroSideband : Sideband where
  txSeq := 0
  lastTx := 0
  lastRx := 0
  up := false
  lost := false
  watchOff := false
  watchAt := none
  hbSeen := false
  farClass := 0
  farGen := 0
  farState := 0
  farDie := 0
  farPort := 0
  merged := []
  ringBuf := []
  ringDiscards := 0
  ringSeq := 0
  optSeq := 0
  optMod := 0
  optTrim := []
  ringOwn := []
  ringPtr := 0
  relay := []
  partnerNamed := false
  protoErr := 0
  crcErr := 0

/-- Aon at zero. -/
def zeroAon : Aon where
  porN := false
  pairN := false
  reqN := false
  reqCause := none
  cause := 0
  count := 0
  farCause := 0
  mainOn := false
  mainGood := false
  isoN := false
  downAt := none
  parkAt := none
  pmPwr := 0
  swTimeoutRaised := false
  sbClk := false
  irefFwd := false
  pwr := .active
  epoch := 0
  trims := []
  retained := 0
  parkDur := none
  parkSpare := false
  exiting := false

/-- Clocks at zero. -/
def zeroClocks : Clocks where
  now := 0
  rootLock := false
  nclkOk := false
  nclkAsync := false
  rxwOk := 0
  refOffset := 0
  asyncRaised := false
  nclkGone := false
  ratio := 0
  refUp := false
  pclkUp := false
  rxwUp := 0
  nclkUp := false
  tsVal := 0
  tsc := 0
  steps := 0
  back := 0
  tsOld := 0
  tsNew := 0
  tsEpoch := 0

/-- Test at zero. -/
def zeroTest : Test where
  alone := false
  selWdr := false
  selAcc := false
  acc := 0
  wdr := 0
  so := false
  job := none
  resOp := 0
  resData := 0

/-- StartBraid at zero. -/
def zeroStartBraid : StartBraid where
  usable := 0
  resultSent := false
  resultGot := false
  far := 0
  observed := false
  mapSent := false
  mapGot := false
  mapOk := false
  attempt := 0
  trainSent := false
  trainGot := false
  doneSent := false
  doneGot := false
  ok := false

/-- Start at zero. -/
def zeroStart : Start where
  st := .reset
  failed := false
  failCode := 0
  fresh := false
  sentRel := false
  gotRel := false
  opened := false
  reqSent := false
  reqDrain := false
  reqHeld := false
  drainBit := false
  refused := 0
  notUpRaised := false
  siteTile := 0
  siteIndex := 0
  siteValid := false
  dieId := 0
  spare := false
  farUid := 0
  beaconGot := false
  dieIdGot := false
  dieIdFwd := false
  goSent := false
  trainMaskSent := 0
  trainGoSent := false
  trainMaskGot := 0
  trainGoGot := false
  calSent := false
  calGot := false
  patterns := 0
  patAt := 0
  repeats := []
  taken := []
  txb := Oct.all zeroStartBraid
  rxb := Oct.all zeroStartBraid
  tileOf := Oct.all none
  negGen := 0
  negRate := 0
  negFarClass := 0
  negFarMax := 0
  negFarMin := 0
  negFarFeat := 0
  negValid := false

/-- Strand at zero. -/
def zeroStrand : Strand where
  st := .active
  prev := .active
  logical := none
  home := none
  code := 0
  abort := 0
  arrival := 0
  deskew := 0
  inverted := false
  site := none

/-- StrandOp at zero. -/
def zeroStrandOp : StrandOp where
  op := 0
  requested := false
  token := 0
  logical := 0
  frm := 0
  dest := 0
  width := 0
  disp := 0
  reason := 0
  map := []
  clock := 0
  switchSeq := none
  commitSeq := none
  ready := false
  desc := none
  retried := false
  cal := false
  dropped := false
  arr := 0
  arrAt := 0
  first := false

/-- Shape at zero. -/
def zeroShape : Shape where
  width := 0
  clock := 0
  map := []
  target := 0
  retired := false
  trained := false
  op := none
  lastOp := 0
  lastToken := 0
  queue := []
  override := false
  reefed := false
  switches := 0
  widths := 0
  aborts := 0
  quarantines := 0

/-- Training at zero. -/
def zeroTraining : Training where
  phase := .off
  good := 0
  loops := []
  tcount := 0
  launches := []
  farTxFixed := 0
  farRxFixed := 0
  farFlight := 0
  cross := 0
  echo := none
  depthGot := false
  doneGot := false
  attempt := 0
  reason := 0

/-- TxBraid at zero. -/
def zeroTxBraid : TxBraid where
  shape := zeroShape
  next := 0
  oldest := 0
  held := []
  replay := none
  replayFrom := 0
  replayAt := 0
  freeResend := false
  ladder := .down
  retrainAt := none
  lastFail := none
  ackIn := []
  farXon := 0
  blind := false
  scr := 0
  flits := 0
  ui := 0
  stream := 0
  streamLen := 0
  standUi := 0
  cycles := 0
  lastIdle := 0
  idleDue := false
  ctl := []
  prepWait := false
  owe := []
  kindPtr := 0
  slotPtr := 0
  srcPtr := Oct.all 0
  ackAt := 0
  finalGot := false
  training := zeroTraining
  resends := 0
  retrains := 0
  failed := 0
  loop := 0
  stalled := 0

/-- RxBraid at zero. -/
def zeroRxBraid : RxBraid where
  shape := zeroShape
  expected := 0
  nakWait := false
  lastNak := 0
  naksSent := 0
  due := .none
  unacked := 0
  timer := false
  lastAck := 0
  orig := []
  high := 0
  waitHigh := 0
  lastRel := 0
  run := none
  failTs := 0
  resume := none
  moved := 0
  buf := []
  ctlIn := []
  xon := 0
  scr := 0
  stream := 0
  streamLen := 0
  uncorr := 0
  draining := false
  finalSent := false
  lastFail := none
  crcFail := 0
  naks := 0
  dups := 0
  overruns := Oct.all 0
  xoffs := Oct.all 0
  rpTs := 0
  rpRounds := 0
  rpCause := 0
  rxAlign := 0
  rxPhase := 0
  flight := 0

/-- Link at zero. -/
def zeroLink : Link where
  tx := Oct.all zeroTxBraid
  rx := Oct.all zeroRxBraid
  strands := []
  llCtl := 0
  splCtl := 0
  splAct := 0
  strandIdx := 0
  down := false
  retraining := false
  retrains := 0
  latency := 0
  rrt := 0
  fterm := 0
  protoErr := 0
  recDropped := 0
  stale := 0
  reqPtr := 0
  retrainCmds := []
  admits := []

/-- Bucket at zero. -/
def zeroBucket : Bucket where
  braid := 0
  target := 0
  moving := false
  lastSeq := 0
  ackAt := none

/-- Noc at zero. -/
def zeroNoc : Noc where
  pool := Oct.all []
  order := 0
  inHeld := Oct.all 0
  lostIn := Oct.all 0
  egHeld := Oct.all 0
  lostEg := Oct.all 0
  owed := Oct.all 0
  whReset := false
  whNclk := false
  whRetrain := false
  whDrain := false
  crdInit := false
  initDone := false
  timeoutRaised := false
  returned := false
  audit := none
  nextAudit := 0
  audits := 0
  mismatch := 0
  abandoned := 0
  boundary := 0
  stalls := 0
  mgmtDrop := 0
  egStalled := 0
  fcCtl := 0
  fcIdx := 0
  flowIdx := 0
  buckets := []
  live := 0
  bightOut := 0
  moves := 0
  taken := []
  redSent := []
  qRing := []
  qRed := []
  qHitch := []
  qErr := []
  mergePtr := Oct.all 0
  egPtr := 0

/-- Ring at zero. -/
def zeroRing : Ring where
  baseLo := 0
  baseHi := 0
  cfg := 0
  msiLo := 0
  msiHi := 0
  msiData := 0
  st := .disabled
  haltCode := 0
  portIdx := 0
  swIdx := 0
  visible := 0
  shadowed := 0
  fetchIdx := 0
  descs := []
  toCancel := []
  slots := 0
  writes := []
  msiWait := 0
  msiPend := 0
  msiHold := false
  msiLast := none

/-- Line at zero. -/
def zeroLine : Line where
  dbLo := 0
  dbHi := 0
  shLo := 0
  shHi := 0
  st := .unused
  pending := false
  fails := 0
  dirtyAt := none
  shWait := 0

/-- Rings at zero. -/
def zeroRings : Rings where
  ctl := 0
  msiMask := 0
  ring := []
  line := Oct.all zeroLine
  fifo := []
  fifoHigh := 0
  cancels := []
  cancelled := []
  halts := 0
  evtHalted := false
  evtDropped := 0
  overflow := false
  cfgErr := 0
  staleDesc := 0
  cplDiscarded := 0
  msiFail := 0
  ptrCmd := 0
  ptrRed := 0
  ptrHit := 0

/-- Bkt at zero. -/
def zeroBkt : Bkt where
  tokens := 0
  stamp := 0

/-- Faults at zero. -/
def zeroFaults : Faults where
  flags := 0
  ctl := 0
  tidx := 0
  raised := []
  supp := []
  buckets := []
  fenceDiscards := 0
  fenceBeacons := 0
  last := 0
  queue := []
  limited := []

/-- Power at zero. -/
def zeroPower : Power where
  ctl := 0
  nearCap := .active
  nearWidth := 0
  farCap := .active
  farWidth := 0
  target := .active
  targetWidth := 0
  ctrlAwake := false
  draining := .none
  limits := 0
  fullPwr := 0
  parkPwr := 0
  budget := 0
  budState := 0
  budWidth := 0
  budSeq := none
  level := 0
  rampSeq := none
  released := false
  parkCmd := none
  resumeCmds := []
  capBraids := 0
  capNum := 0
  goNum := 0
  capTaken := none
  goTaken := none
  dzSent := 0
  dzAcked := 0
  dzGot := 0
  dozing := 0
  rxDoze := 0
  pkSent := 0
  pkAcked := 0
  pkGot := 0
  lastCtl := []
  burstLeft := Oct.all 0
  rxLeft := Oct.all 0
  wakeDrive := false
  dozes := 0
  parks := 0
  abandoned := 0
  pmDrop := 0
  ctrlWakes := 0
  wakeIgnored := 0
  farParked := 0
  belays := []
  sinking := false
  revoked := []
  flushes := []
  flushed := 0
  responses := 0

/-- LockEnt at zero. -/
def zeroLockEnt : LockEnt where
  off := 0
  ep := 0
  cause := 0
  valid := false
  value := 0
  ts := 0
  die := 0

/-- Lash at zero. -/
def zeroLash : Lash where
  window := 0
  prot := []
  staged := []
  proposed := none
  digestValid := false
  digest := 0
  windowAt := 0
  linkWait := false
  switching := false
  commit := []
  waitAt := 0
  offer := none
  swQueued := 0
  swSent := 0
  swSeq := []
  swAcked := 0
  swGot := 0
  oldTvc := []
  oldOn := 0
  outcome := 0
  lateAbort := 0
  soff := 0
  count := 0
  link := 0
  partyA := 0
  partyB := 0
  partySet := 0
  fenceCmds := []
  cfgFar := 0
  mismatch := 0
  unequal := false
  viol := false
  violCount := 0
  head := 0
  lockIdx := 0
  log := []

/-- Tenancy at zero. -/
def zeroTenancy : Tenancy where
  drops := 0
  respDrop := 0
  last := 0
  addrLo := 0
  addrHi := 0
  txBlock := 0
  rxBlock := 0
  linkQ := []

/-- Meters at zero. -/
def zeroMeters : Meters where
  live := []
  snap := []
  energy := []
  energySnap := []
  next := 0
  snapEpoch := 0
  idx := 0
  latchHi := 0
  noted := none
  running := false
  restart := false

/-- Bight at zero. -/
def zeroBight : Bight where
  ctl := 0
  active := false
  refused := false
  braids := 0
  ready := 0
  waiting := 0
  looped := 0
  asked := 0
  serving := 0
  locked := []
  errs := []
  bits := []
  losses := []
  chk := []
  run := []
  cmd := none

/-- Glob at zero. -/
def zeroGlob : Glob where
  scratch0 := 0
  scratch1 := 0
  scratch2 := 0
  scratch3 := 0
  partialCnt := 0
  unmapped := 0
  optId := 0
  optSite := 0
  optClk := 0
  readData := 0
  refusedAcc := false

/-- Outputs at zero. -/
def zeroOutputs : Outputs where
  sbLink := []
  sbRing := []
  smReq := []
  sbOpt := []
  optCmds := []
  link := []
  codewords := []
  carrier := []
  egress := []
  reqFlits := []
  credits := []
  wakes := []
  sweeps := 0

/-- Trim at zero. -/
def zeroTrim : Trim where
  rx := 0
  dfe := 0
  tx := 0
  otx := 0
  orx := 0
  pRx := none
  pDfe := none
  pTx := none
  pOtx := none
  pOrx := none
  off0 := 0
  off1 := 0
  goal := none
  last := 0
  doneAt := none
  discarded := 0
  eye := 0
  err := 0
  perErrs := 0
  perCrc := 0
  accErrs := 0
  accUnits := 0
  accUncorr := 0
  overs := 0

/-- Cal at zero. -/
def zeroCal : Cal where
  trims := []
  ctl := 0
  done := 0
  abandoned := 0
  noCover := 0
  skipped := 0
  run := Oct.all none
  want := Oct.all []
  serve := Oct.all none
  ptr := 0
  jobs := []
  scans := []
  sweep := Oct.all []
  moves := []
  waiting := []
  periodic := []
  bucket := zeroBkt
  compare := Oct.all []
  temp := 0
  stale := false
  fault := false
  tempValid := false
  tempAck := false
  tempAt := 0
  nearest := 0
  outOf := 0
  tset := []
  tsetAct := []
  tsetIdx := 0
  loaded := 0
  aValid := false
  bValid := false
  captured := 0
  gen := 0

/-- Red at zero. -/
def zeroRed : Red where
  ctl := 0
  jidx := 0
  jobs := []
  streams := []
  hold := []
  nextHold := 0
  mirrorWait := []
  linkQ := []
  clock := 0
  turnRx := false
  contribs := 0
  cDup := 0
  cRange := 0
  cFormat := 0
  cLate := 0
  cTrunc := 0
  cStreams := 0
  cScratch := 0
  cPoison := 0
  cUnknown := 0
  cBadType := 0
  cMirror := 0
  spills := 0
  refills := 0

/-- Hitch at zero. -/
def zeroHitch : Hitch where
  value := 0
  barrier := false
  role := 0
  target := 0
  gen := false
  ovf := false
  sigDie := 0
  sigCore := 0
  sigThread := 0
  sigTs := 0
  link0 := 0
  link1 := 0
  link2 := 0
  link3 := 0

/-- Hitches at zero. -/
def zeroHitches : Hitches where
  ctl := 0
  hitches := []
  waiters := []
  intake := []
  due := none
  owed := []
  owedPtr := 0
  linkQ := []
  fences := []
  high := 0
  sweepEnd := 0
  sigs := 0
  blocked := 0
  overflow := 0
  underflow := 0
  wrong := 0
  timeouts := 0
  aborts := 0
  wtFull := 0
  replaced := 0
  poisoned := 0
  badMsg := 0
  farWait := 0
  mirRej := 0
  fencesDone := 0
  epoch := 0
  drift := 0
  coalesced := 0
  dbgIdx := 0
  dbgWidx := 0
  dbg := []

/-- Cfg at zero. -/
def zeroCfg : Cfg where
  at_ := none
  reads := []
  headA := none
  headB := none
  unreadA := false
  unreadB := false
  order := []
  chosen := []
  slotCode := 0
  done := false
  foreign := 0
  reissues := 0
  smErrors := 0
  rejected := 0
  retTx := Oct.all 0
  retRx := Oct.all 0
  spareRec := false
  topoAddr := 0

/-- Site at zero. -/
def zeroSite : Site where
  uid := none
  state := 0
  dieId := 0
  waking := false
  unfenced := false
  downSince := none
  counts := []
  opened := false
  fenceCount := 0
  fenceSeen := false
  beaconAt := none
  gen := 0
  braids := 0

/-- Agent at zero. -/
def zeroAgent : Agent where
  closed := false
  sites := []
  nextRepl := 0
  revokedUids := []
  starts := 0
  version := 0
  table := []
  guestUsed := 0
  assigned := []
  events := []
  mem := []
  usable := false
  size := 0
  busy := none
  answers := []

end Sys2Proof.Machine
end

