-- ==== Sys2Proof/Machine/State.lean ====
section
/-!
DEFINITION. The state of one Fanex F3 block as plain data, what can stop it, and the block right after reset.
-/
namespace Sys2Proof.Machine

/-- One Fanex F3 block: everything the spec gives it, the queue of waiting commands, and the record of its outputs. -/
structure State where
  straps : Straps
  /-- commands waiting, first in first out -/
  pending : List Instr
  aon : Aon
  clk : Clocks
  sb : Sideband
  test : Test
  start : Start
  link : Link
  noc : Noc
  rings : Rings
  cal : Cal
  red : Red
  ht : Hitches
  cfg : Cfg
  agent : Agent
  flt : Faults
  pwr : Power
  lash : Lash
  ten : Tenancy
  mtr : Meters
  bight : Bight
  glob : Glob
  out : Outputs
  /-- the model's own counter behind the free values of Config (assumption log 4) -/
  freeCtr : Nat
  deriving DecidableEq, Repr

/-- What stops the machine: nothing does. The spec gives every command an effect, counts and discards what is not legal
and goes on, and a command of an interface the block's class does not carry has no pins to arrive on and changes nothing
(R25, assumption log 56); so no fault has a name. -/
inductive Fault where
  deriving DecidableEq, Repr

/-- Why the model has no step. -/
inductive Refusal where
  /-- The dispatcher raises it for a command with no meaning yet; safe, the machine stops. -/
  | notModelled (mnemonic : String)
  deriving DecidableEq, Repr

/-! ### Reset values -/

/-- Root multiplication ratio at start (R53). -/
def startRatio (c : PortClass) : Nat := if c.isLat then 32 else 40

/-- Braids and their registers at reset (Tables 6.9, 8.13, 8.14). -/
def resetLink (c : PortClass) : Link :=
  { zeroLink with
    llCtl := 0x11
    splCtl := 0x00905313
    splAct := 0x00905313
    latency := c.latencyOf 0
    rrt := c.rrtOf 0 }

/-- Power at reset (Tables 14.2, 14.9). -/
def resetPower (c : PortClass) : Power :=
  { zeroPower with
    ctl := 0x05CC8032
    fullPwr := byReach c 131 328 968
    parkPwr := byReach c 1 3 5
    budget := 0xFFFF
    level := 256 }

/-- Calibration at reset (Table 7.11). -/
def resetCal : Cal := { zeroCal with ctl := 0x00034015, bucket := ⟨64, 0⟩ }

/-- Die ID a block holds from reset (Tables 1.2, 1.3): class 1 and optical ends none. -/
def resetDie (st : Straps) : DieId :=
  match st.cls with
  | .sc => 0xFF
  | .sb | .lt => BitVec.ofNat 8 (st.tile.toNat + 1)
  | _ => 0

/-- The agent at power-on: the first start since then, and nothing assigned (Table 1.3, R112). -/
def agent0 : Agent := { zeroAgent with nextRepl := 0x42, usable := true, size := 0x04000000, starts := 1 }

/-- A power-on reset of the package begins its first start anew: what the agent knew holds for one start only (R13, R14, R17);
the serial memory and the model's record of answers and events stay. -/
def Agent.restart (g : Agent) : Agent :=
  { agent0 with mem := g.mem, usable := g.usable, size := g.size, busy := g.busy, answers := g.answers, events := g.events }

/-- The main island after rst_pair_n, with the AON island at its power-on values (R391). -/
def State.resetAs (st : Straps) : State where
  straps := st
  pending := []
  aon := { zeroAon with pwr := .off, reqN := true }
  clk := { zeroClocks with ratio := startRatio st.cls }
  sb := zeroSideband
  test := zeroTest
  start := { zeroStart with dieId := resetDie st }
  link := resetLink st.cls
  noc := { zeroNoc with fcCtl := 0x215 }
  rings := { zeroRings with ctl := 0x000193E8 }
  cal := resetCal
  red := { zeroRed with ctl := 0x000A0064 }
  ht := { zeroHitches with ctl := 0x00010064 }
  cfg := zeroCfg
  agent := agent0
  flt := { zeroFaults with ctl := 5, tidx := 8 }
  pwr := resetPower st.cls
  lash := { zeroLash with window := 100 }
  ten := zeroTenancy
  mtr := zeroMeters
  bight := { zeroBight with ctl := 8 }
  glob := zeroGlob
  out := zeroOutputs
  freeCtr := 0

/-- The straps and fuses of the block the model resets to: the stack port of a compute die. The values are the model's
(assumption log 3); every rule holds for any others through `State.resetAs`. -/
def defaultStraps : Straps where
  cls := .sc
  tile := 0
  index := 0
  optical := false
  uid := 0x0123456789ABCDEF
  ringEp := 0x3F1
  redEp := 0x3F2
  hitchEp := 0x3F0
  revision := 0x10
  only51 := false

/-- The block right after power-on reset: rst_por_n and rst_pair_n low (Table 5.3). -/
def State.reset : State := State.resetAs defaultStraps

end Sys2Proof.Machine
end

