-- ==== Sys2Proof/Machine/Ops.lean ====
section
/-!
DEFINITION. The operations every family of commands shares: the class figures of Table 0.4, access to braids, strands
and rings, the free value, sideband sending, the strand numbering, and the identity words of the block.
-/
namespace Sys2Proof.Machine

/-- A duration in PCLK. -/
def us (n : Nat) : Nat := n * 1600
def ms (n : Nat) : Nat := n * 1600000

/-! ### Reading and changing the state -/

/-- The block is the optical end of a fibre port (R22). -/
def State.isOptical (s : State) : Bool := s.straps.optical

/-- Class of the block. -/
def State.cls (s : State) : PortClass := s.straps.cls

/-- The block carries a reduction engine, or a hitch engine (Table 1.5): an optical end carries neither (R22). -/
def State.hasRed (s : State) : Bool := s.cls.hasRed && !s.isOptical
def State.hasHitch (s : State) : Bool := s.cls.hasHitch && !s.isOptical

/-- The model's time. -/
def State.now (s : State) : Time := s.clk.now

/-- Package timestamp, low `n` bits: the TSC counter, or while the root is off ts_val sampled in AON (R54). -/
def State.ts (s : State) (n : Nat) : Nat := (if s.clk.pclkUp then s.clk.tsc else s.clk.tsVal).toNat % 2 ^ n

/-- Change one transmit braid. -/
def State.modTx (s : State) (b : Fin 8) (f : TxBraid → TxBraid) : State :=
  { s with link.tx := s.link.tx.upd b f }

/-- Change one receive braid. -/
def State.modRx (s : State) (b : Fin 8) (f : RxBraid → RxBraid) : State :=
  { s with link.rx := s.link.rx.upd b f }

/-- Shape of a braid in a direction (0 transmit, 1 receive). -/
def State.shape (s : State) (dir : Nat) (b : Fin 8) : Shape :=
  if dir = 0 then (s.link.tx.get b).shape else (s.link.rx.get b).shape

/-- Change a shape. -/
def State.modShape (s : State) (dir : Nat) (b : Fin 8) (f : Shape → Shape) : State :=
  if dir = 0 then s.modTx b fun t => { t with shape := f t.shape }
  else s.modRx b fun r => { r with shape := f r.shape }

/-- Number of a physical strand in the tables: direction, braid, strand (FX_STRAND_IDX). -/
def strandKey (dir : Nat) (b : Fin 8) (p : Nat) : Nat := dir * 512 + b.val * 64 + p

/-- A strand nothing has touched since reset: STATE 0, LOGICAL 0x3F. -/
def strand0 : Strand := zeroStrand

/-- One strand. -/
def State.strand (s : State) (dir : Nat) (b : Fin 8) (p : Nat) : Strand :=
  tget strand0 s.link.strands (strandKey dir b p)

/-- Change one strand. -/
def State.modStrand (s : State) (dir : Nat) (b : Fin 8) (p : Nat) (f : Strand → Strand) : State :=
  { s with link.strands := tupd strand0 s.link.strands (strandKey dir b p) f }

/-- Change a list of strands. -/
def State.modStrands (s : State) (dir : Nat) (b : Fin 8) (ps : List Nat) (f : Nat → Strand → Strand) : State :=
  ps.foldl (fun st p => st.modStrand dir b p (f p)) s

/-! ### Trims (Tables 7.1, 7.2, 7.11) -/

/-- Reset codes of the trims of a class (Table 7.11); a trim the class lacks reads zero. -/
def trim0 (c : PortClass) : Trim :=
  { zeroTrim with
    rx := if c.isLat then 0x10780 else 0
    tx := if c.isLat then 0x3D8 else if c.isStack then 0x19 else 0
    otx := if c.isFibre then 0x00200800 else 0
    orx := if c.isFibre then 0x08180800 else 0 }

/-- Bits a class keeps of the five trim registers (Table 7.1, 7.2). -/
def rxMask (c : PortClass) : Reg := if c.isLat then 0x1FFFF else if c.isStack then 0x7F else 0
def dfeMask (c : PortClass) : Reg := if c.isLat then 0x7FFFF else 0
def txMask (c : PortClass) : Reg := if c.isLat then 0x7FF else if c.isStack then 0x3F else 0
def otxMask (c : PortClass) : Reg := if c.isFibre then 0x3FFFFF else 0
def orxMask (c : PortClass) : Reg := if c.isFibre then 0x0FFFFFFF else 0

/-- Trims of a strand. -/
def State.trim (s : State) (dir : Nat) (b : Fin 8) (p : Nat) : Trim := tget (trim0 s.cls) s.cal.trims (strandKey dir b p)

/-- Change the trims of a strand. -/
def State.modTrim (s : State) (dir : Nat) (b : Fin 8) (p : Nat) (f : Trim → Trim) : State :=
  { s with cal.trims := tupd (trim0 s.cls) s.cal.trims (strandKey dir b p) f }

/-! ### Rings -/

/-- A ring that has not been written since reset: FX_RINGm_CFG reads 0x0100_0060. -/
def ring0 : Ring := { zeroRing with cfg := 0x01000060 }

/-- One ring. -/
def State.ring (s : State) (r : Nat) : Ring := tget ring0 s.rings.ring r

/-- Change one ring. -/
def State.modRing (s : State) (r : Nat) (f : Ring → Ring) : State :=
  { s with rings.ring := tupd ring0 s.rings.ring r f }

/-- Change one doorbell line. -/
def State.modLine (s : State) (k : Fin 8) (f : Line → Line) : State :=
  { s with rings.line := s.rings.line.upd k f }

/-- Take a free value: nothing constrains it (assumption log 4). -/
def State.free (s : State) : Nat × State := (Config.freeValue s.freeCtr, { s with freeCtr := s.freeCtr + 1 })

/-- Pick one of a list of equal choices the spec does not order (assumption log 4). -/
def State.pick {α : Type} (s : State) (d : α) (l : List α) : α × State :=
  let p := s.free
  (l.getD (p.1 % l.length) d, p.2)

/-! ### Who the block is -/

/-- TILE and INDEX as FX_SITE shows them (Table 1.2). -/
def State.tile (s : State) : Nat := if s.cls = .sc then s.start.siteTile.toNat else s.straps.tile.toNat
def State.index (s : State) : Nat := if s.cls = .sc then s.start.siteIndex.toNat else s.straps.index.toNat

/-- DIE_ID of FX_SITE: the ID of the die that carries the block (Table 1.2, R39). -/
def State.ownDie (s : State) : DieId :=
  match s.cls with
  | .sc => s.start.dieId
  | .sb | .lt => BitVec.ofNat 8 (s.straps.tile.toNat + 1)
  | _ => 0

/-- SRC_DIE the block puts into its frames: an optical end has none (R39). -/
def State.sbDie (s : State) : DieId := if s.isOptical then 0xFF else s.ownDie

/-- The block's port code (Table 2.12). -/
def State.portCode (s : State) : BitVec 8 :=
  BitVec.ofNat 8 (s.cls.code * 32 + match s.cls with
    | .sc => 0
    | .lh => 3 * s.straps.tile.toNat + s.straps.index.toNat
    | _ => s.straps.index.toNat)

/-- Code of a start-up state (Table 5.1). -/
def StartState.code : StartState → Nat
  | .reset => 0 | .ident => 1 | .sideband => 2 | .config => 3 | .detect => 4 | .splice => 5 | .train => 6
  | .calibrate => 7 | .discover => 8 | .negotiate => 9 | .lash => 10 | .openSt => 11 | .park => 12 | .fenced => 13

/-- pm_state code (Table 2.15). -/
def PwrState.code : PwrState → Nat
  | .active => 0 | .reefed => 1 | .doze => 2 | .park => 3 | .off => 4

/-- pm_state code of a message, reserved codes giving none. -/
def pwrOf : Nat → Option PwrState
  | 0 => some .active | 1 => some .reefed | 2 => some .doze | 3 => some .park | 4 => some .off
  | _ => none

/-- Strand state code (Table 6.1). -/
def StrandSt.code : StrandSt → Nat
  | .active => 0 | .standby => 1 | .idle => 2 | .mirror => 3 | .stoodAside => 4 | .quarantined => 5
  | .testing => 6 | .braidRetired => 7

/-- The main island is powered and its outputs are not clamped (R44, R65). -/
def State.mainUp (s : State) : Bool := s.aon.mainGood && s.aon.isoN

/-- The main island runs and its PCLK domain is out of reset: what stops with the root clock does not go on (R53, R64). -/
def State.clocked (s : State) : Bool := s.mainUp && s.clk.pclkUp

/-- The signals the block drives to the power manager (Table 2.15): the present state, power, switch and isolation. -/
structure PmPins where
  state : Nat
  pwr : Nat
  mainOn : Bool
  isoN : Bool
  deriving DecidableEq, Repr

/-- The pm_ outputs; in stand-alone mode they hold their reset values (R49). -/
def State.pmPins (s : State) : PmPins :=
  if s.test.alone then ⟨4, 0, false, false⟩
  else ⟨s.aon.pwr.code, s.aon.pmPwr.toNat, s.aon.mainOn, s.aon.isoN⟩

/-- Minimum number of braids the port acts on (R194). -/
def State.minBraids (s : State) : Nat :=
  let v := bf s.link.llCtl 0 4
  if v = 0 then 1 else min v 8

/-- Braids of a direction that are trained and not retired. -/
def State.liveTx (s : State) : List (Fin 8) :=
  octs.filter fun b => (s.link.tx.get b).shape.trained && !(s.link.tx.get b).shape.retired
def State.liveRx (s : State) : List (Fin 8) :=
  octs.filter fun b => (s.link.rx.get b).shape.trained && !(s.link.rx.get b).shape.retired

/-- Transmit braids that are up: trained, not retraining, not retired. -/
def State.upTx (s : State) : List (Fin 8) := octs.filter fun b => (s.link.tx.get b).ladder == .up

/-- FX_CLKSTAT (Table 3.8). -/
def State.clkstat (s : State) : Nat :=
  packNat [(0, 1, b2n s.clk.rootLock), (1, 1, b2n s.clk.nclkOk), (2, 1, b2n s.clk.nclkAsync),
    (3, 1, b2n s.sb.up), (4, 8, s.clk.rxwOk.toNat), (12, 8, s.clk.refOffset.toNat)]

/-! ### Sideband sending (R37, R39, R89) -/

/-- Sixteen-byte word of a frame without its CRC (Table 2.10). -/
def sbBody (f : SbFrame) : Nat :=
  packNat [(0, 8, 0xA5), (8, 4, f.typ.toNat), (12, 3, f.seq.toNat), (15, 1, b2n f.proxy), (16, 8, f.destDie.toNat),
    (24, 8, f.destPort.toNat), (32, 8, f.srcDie.toNat), (40, 8, f.srcPort.toNat), (48, 64, f.payload.toNat)]

/-- The 128 bits of a frame, CRC included (R37). -/
def sbWord (f : SbFrame) : SbWord :=
  BitVec.ofNat 128 (sbBody f + crc16 112 (sbBody f) * 2 ^ 112)

/-- The fields of a 128-bit frame. -/
def sbParse (w : SbWord) : SbFrame where
  typ := BitVec.ofNat 4 (bf w 8 4)
  seq := BitVec.ofNat 3 (bf w 12 3)
  proxy := bit w 15
  destDie := BitVec.ofNat 8 (bf w 16 8)
  destPort := BitVec.ofNat 8 (bf w 24 8)
  srcDie := BitVec.ofNat 8 (bf w 32 8)
  srcPort := BitVec.ofNat 8 (bf w 40 8)
  payload := BitVec.ofNat 64 (bf w 48 64)

/-- A hub block of a fibre port: its link sideband rides the fibres and the copies are merged (R89 to R91). -/
def State.fibreHub (s : State) : Bool := s.cls.isFibre && !s.isOptical

/-- A transmit braid sends scrambled flits: it has trained, whether or not the far end has said so yet (R82, Table 8.11). -/
def State.streams (s : State) (b : Fin 8) : Bool :=
  let t := s.link.tx.get b
  !t.shape.retired && (t.ladder == .up || t.training.phase == .trained)

/-- How long the identity patterns run: 80 repetitions, 15.2 µs, or 320 repetitions, 4.8 µs, on fibre (R100, R103). -/
def PortClass.patternTime (c : PortClass) : Time := if c.isFibre then 7680 else 24320

/-- A transmit braid sends identity words (R100, R103). -/
def State.identifies (s : State) (b : Fin 8) : Bool :=
  bit s.start.patterns b.val && decide (s.now < s.start.patAt + s.cls.patternTime)

/-- Identity patterns start on some braids. -/
def State.startPatterns (s : State) (m : BitVec 8) : State :=
  { s with start.patterns := m, start.patAt := s.now }

/-- Wavelengths of a fibre braid that are not whipped. -/
def State.litWaves (s : State) (b : Fin 8) : List Nat :=
  (List.range 5).filter fun w => (s.strand 0 b w).st != .quarantined && (s.strand 0 b w).st != .braidRetired

/-- The copy of a sideband frame that a fibre braid sends in the form it is in (R89, R103, R336): in-band, in a CONTROL frame
with opcode 0x10, once it streams and does not doze; none while it sends identity words; else in carrier form. -/
def State.sendCopy (s : State) (f : SbFrame) (b : Fin 8) : State :=
  if s.streams b && !bit s.pwr.dozing b.val then
    s.modTx b fun t => { t with ctl := t.ctl ++ [(0x10, BitVec.ofNat 576 (sbWord f).toNat)] }
  else if s.identifies b then s
  else { s with out.carrier := s.out.carrier ++ [⟨b, s.litWaves b, f⟩] }

/-- Send a frame on the link with the next SEQ; a fibre port sends a copy on each of its eight transmit braids (R89). -/
def State.sendLink (s : State) (f : SbFrame) : State :=
  let f := { f with seq := s.sb.txSeq }
  let s := { s with sb.txSeq := s.sb.txSeq + 1, sb.lastTx := s.now, out.sbLink := s.out.sbLink ++ [f] }
  if s.fibreHub then octs.foldl (fun st b => st.sendCopy f b) s else s

/-- A fibre hub block sends a frame to its optical end on the six electrical sites (R36, R91). -/
def State.sendOpt (s : State) (f : SbFrame) : State :=
  { s with sb.optSeq := s.sb.optSeq + 1, out.sbOpt := s.out.sbOpt ++ [{ f with seq := s.sb.optSeq }] }

/-- A link-local frame of this block. -/
def State.localFrame (s : State) (typ : Nat) (payload : Nat) : SbFrame where
  typ := BitVec.ofNat 4 typ
  seq := 0
  proxy := false
  destDie := 0xFF
  destPort := 0
  srcDie := s.sbDie
  srcPort := s.portCode
  payload := BitVec.ofNat 64 payload

/-- Send a link-local frame. -/
def State.sendLocal (s : State) (typ payload : Nat) : State := s.sendLink (s.localFrame typ payload)

/-- Queue a frame of this block's own for its die's ring (R41). -/
def State.sendRing (s : State) (f : SbFrame) : State := { s with sb.ringOwn := s.sb.ringOwn ++ [f] }

/-- The block's link leads toward the frame's die: a tile's lateral end to every other die, a hub's to its own tile (R39). -/
def State.leadsTo (s : State) (f : SbFrame) : Bool :=
  match s.cls with
  | .lt => f.destDie != s.ownDie
  | .lh => f.destDie.toNat == s.straps.tile.toNat + 1
  | _ => false

/-- Send a frame addressed elsewhere by the routes of R39: on the link from a compute or optical end, and from the
lowest-numbered lateral port toward its die where its sideband is up; else on the die's ring, whose stations find the port
(`uplink` of RING_FRAME_FORWARD). -/
def State.sendRouted (s : State) (f : SbFrame) : State :=
  if s.cls == .sc || s.isOptical || (s.leadsTo f && s.index == 0 && s.sb.up) then s.sendLink f else s.sendRing f

/-! ### Withholding and the pins of a reset request -/

/-- A counter of sideband protocol errors, without its event (Table 15.9). -/
def State.cntSbProto (s : State) : State := { s with sb.protoErr := s.sb.protoErr + 1 }

/-- Withhold ingress credits for a reset (R53, R68, R69). -/
def State.withholdReset (s : State) : State := { s with noc.whReset := true }

/-- rst_req_n falls with the CAUSE this end will record (R68, R72). -/
def State.requestReset (s : State) (cause : BitVec 4) : State :=
  { s with aon.reqN := false, aon.reqCause := some cause }

/-- RESET_PAIR payload (Table 3.4). -/
def resetPairPayload (cause : Nat) (ack drain rel : Bool) (count : Nat) : Nat :=
  packNat [(0, 4, cause), (4, 1, b2n ack), (5, 1, b2n drain), (6, 1, b2n rel), (7, 8, count)]

/-- Send RESET_PAIR (R67). -/
def State.sendResetPair (s : State) (cause : Nat) (ack drain rel : Bool) : State :=
  s.sendLocal 4 (resetPairPayload cause ack drain rel s.aon.count.toNat)

end Sys2Proof.Machine
end

