-- ==== Sys2Proof/Machine/Domains.lean ====
section
/-!
DEFINITION. Clock domains and the crossings between them (R54, R59, R63, R64, Tables 3.1 and 3.2): which domain is out of reset,
and which crossing is open.
-/
namespace Sys2Proof.Machine

/-- The clock domains of Table 3.1. -/
inductive Domain where
  | pclk | txw (b : Fin 8) | rxw (b : Fin 8) | nclk | tsc | rclk | sbclk | calclk | smclk | aon | tck
  deriving DecidableEq, Repr

/-- A domain is out of reset and its clock runs (R64). An optical end has no NCLK; TCK is reset by tst_trst_n alone, whose
release no command tells. -/
def State.domainUp (s : State) : Domain → Bool
  | .pclk | .tsc => s.clocked
  | .txw b => s.clocked && !(s.link.tx.get b).shape.retired
  | .rxw b => s.mainUp && s.aon.pairN && bit s.clk.rxwUp b.val
  | .nclk => s.mainUp && s.clk.nclkUp && !s.link.retraining && !s.isOptical
  | .rclk | .sbclk | .calclk | .smclk => s.mainUp && s.clk.refUp && s.aon.pairN
  | .aon => s.aon.porN
  | .tck => true

/-- The crossings of Table 3.2. -/
inductive Crossing where
  | ingressFlits | creditReturn | transmit (b : Fin 8) | receive (b : Fin 8) | occupancyWrites (b : Fin 8) | occupancyReads
  | nextExpected (b : Fin 8) | farAck (b : Fin 8) | nakSeq (b : Fin 8) | controlFrames (b : Fin 8)
  | trimTx (b : Fin 8) | trimRx (b : Fin 8) | access (d : Domain) | tapAccess | sbFrames | smRelay | temperature | pmPwr
  | tsLoad | counts (d : Domain) | nclkMonitor | rxwMonitor (b : Fin 8) | aonState
  deriving DecidableEq, Repr

/-- The two domains of a crossing; the sensor of the temperature is no domain of the port. -/
def Crossing.ends : Crossing → Domain × Domain
  | .ingressFlits => (.nclk, .pclk)
  | .creditReturn => (.pclk, .nclk)
  | .transmit b => (.pclk, .txw b)
  | .receive b => (.rxw b, .nclk)
  | .occupancyWrites b => (.rxw b, .pclk)
  | .occupancyReads => (.nclk, .pclk)
  | .nextExpected b | .farAck b | .nakSeq b | .controlFrames b => (.rxw b, .pclk)
  | .trimTx b => (.calclk, .txw b)
  | .trimRx b => (.calclk, .rxw b)
  | .access d => (.rclk, d)
  | .tapAccess => (.tck, .rclk)
  | .sbFrames => (.sbclk, .rclk)
  | .smRelay => (.smclk, .sbclk)
  | .temperature => (.calclk, .calclk)
  | .pmPwr => (.rclk, .aon)
  | .tsLoad => (.rclk, .tsc)
  | .counts d => (d, .rclk)
  | .nclkMonitor => (.nclk, .rclk)
  | .rxwMonitor b => (.rxw b, .rclk)
  | .aonState => (.aon, .rclk)

/-- A crossing is open once both its sides have left reset (R63). -/
def State.crossingOpen (s : State) (x : Crossing) : Bool := s.domainUp x.ends.1 && s.domainUp x.ends.2

end Sys2Proof.Machine
end

