-- ==== Sys2Proof/Machine/Protected.lean ====
section
/-!
DEFINITION. The protected set (R308, Table 13.1): which offsets a class has, the bits each register keeps, its reset
value, and the live value of every protected register.
-/
namespace Sys2Proof.Machine

/-- An offset lies in a run of `n` registers `step` apart from `base`. -/
def inRun (off base step n : Nat) : Bool := base ≤ off && (off - base) % step == 0 && (off - base) / step < n

/-- Offset is a register of a firewall rule. -/
def isRuleReg (off : Nat) : Bool := inRun off 0x8800 4 512
/-- Offset is a lane-map override register FX_TBn_MAPOVRi. -/
def isMapOvr (off : Nat) : Bool :=
  0x1000 ≤ off && off < 0x1800 && inRun (off % 0x100) 0x40 4 7
/-- Offset is FX_RINGn_OWNER. -/
def isOwnerReg (off : Nat) : Bool := inRun off 0x540C 0x10 64
/-- Offset is FX_TVCn. -/
def isTvc (off : Nat) : Bool := inRun off 0x8100 4 64
/-- Offset is FX_HT_OWNj of the class. -/
def isHtOwn (c : PortClass) (off : Nat) : Bool :=
  match c with
  | .sc => inRun off 0x7100 4 16
  | .fib => inRun off 0x7100 4 4
  | _ => false

/-- The protected set of a class (Table 13.1). -/
def protectedOff (c : PortClass) (off : Nat) : Bool :=
  (off == 0x8000 && c != .lg) || isRuleReg off || isOwnerReg off || isHtOwn c off || isTvc off
    || off == 0x9004 || off == 0x9008 || isMapOvr off || (off == 0x0838 && c == .lg) || (off == 0x083C && c == .sb)

/-- Bits a protected register keeps (its other bits are reserved, R10). -/
def protMask (off : Nat) : Nat :=
  if off = 0x8000 then 3
  else if isRuleReg off then
    match off % 0x20 with
    | 0 => 3
    | 0x14 | 0x1C => 0xFF
    | _ => 0xFFFFFFFF
  else if isOwnerReg off then 0xFF
  else if off = 0x9004 then 0x3F
  else if isMapOvr off then (if off % 0x100 = 0x58 then 0x01FFFFFF else 0x3FFFFFFF)
  else if off = 0x0838 then 1
  else if off = 0x083C then 0xFF01
  else 0xFFFFFFFF

/-- Reset value of a protected register (Tables 17.11 to 17.21). -/
def protReset (c : PortClass) (off : Nat) : Nat :=
  if off = 0x8000 then (if c = .lg then 1 else 2)
  else if isTvc off then 0xFFFFFFFF
  else if off = 0x9004 then 36
  else if off = 0x9008 then byReach c 0x00280028 0x007D007D 0x04E204E2
  else if isMapOvr off then (if off % 0x100 = 0x58 then 0x0003FFFF else 0x3FFFFFFF)
  else if off = 0x083C then 0xFF00
  else 0

/-- Live value of a protected register. -/
def State.prot (s : State) (off : Nat) : Reg :=
  tget (BitVec.ofNat 32 (protReset s.cls off)) s.lash.prot off

/-- Set the live value of a protected register. -/
def State.setProt (s : State) (off : Nat) (v : Reg) : State :=
  { s with lash.prot := tput s.lash.prot off v }

/-- Shadow value: staged, or the live one (R311). -/
def State.shadow (s : State) (off : Nat) : Reg := (tfind s.lash.staged off).getD (s.prot off)

/-- The offset FX_LSH_SOFF selects: its bits [1:0] are ignored (Table 13.8). -/
def State.shadowOff (s : State) : Nat := bf s.lash.soff 2 14 * 4

/-- A value as the shadow takes it: reserved bits dropped, and MASK0 of FX_TVC0 kept 0xFF. -/
def shadowValue (off : Nat) (v : Reg) : Reg :=
  let w := v &&& BitVec.ofNat 32 (protMask off)
  if off = 0x8100 then w ||| 0xFF else w

/-- Owner of a ring (R221). -/
def State.ringOwner (s : State) (r : Nat) : BitVec 8 := BitVec.ofNat 8 (bf (s.prot (0x540C + 0x10 * r)) 0 8)

/-- Owner of a hitch group of 64 hitches: byte of FX_HT_OWN. -/
def State.groupOwner (s : State) (g : Nat) : BitVec 8 :=
  BitVec.ofNat 8 (bf (s.prot (0x7100 + 4 * (g / 4))) (8 * (g % 4)) 8)

/-- A byte of the tenant-to-VC policy in force for grants. -/
def State.tvcMask (s : State) (tenant : Nat) : Nat := bf (s.prot (0x8100 + 4 * (tenant / 4))) (8 * (tenant % 4)) 8

/-- The 256 bytes of a policy table read through a register function. -/
def tvcBytes (rd : Nat → Reg) : List Nat :=
  (List.range 64).flatMap fun j => (List.range 4).map fun i => bf (rd (0x8100 + 4 * j)) (8 * i) 8

/-- The policy register in force for a receive braid (R317 step 6). -/
def State.rxTvc (s : State) (b : Fin 8) (off : Nat) : Reg :=
  if bit s.lash.oldOn b.val then tget (BitVec.ofNat 32 (protReset s.cls off)) s.lash.oldTvc off else s.prot off

end Sys2Proof.Machine
end

