-- ==== Sys2Proof/Machine/Flags.lean ====
section
/-!
DEFINITION. Flags, counts and events: token buckets, the event entry, raising an event and posting it into the event
ring (R237 to R239, R352 to R356), and protocol errors with their own limit.
-/
namespace Sys2Proof.Machine

/-! ### Token buckets -/

/-- The token buckets of the spec: depth and refill period in half PCLK (R155, R183, R355). -/
structure BktKind where
  depth : Nat
  period : Nat
  deriving DecidableEq, Repr

/-- 16 deep, 1,024 tokens a second (R355). -/
def bktEvent : BktKind := ⟨16, 3125000⟩
/-- 64 deep, 4,096 tokens a second (R183). -/
def bktReplay : BktKind := ⟨64, 781250⟩
/-- 64 deep, 8,192 tokens a second (R155). -/
def bktQuality : BktKind := ⟨64, 390625⟩

/-- The tokens of a bucket at a time: refilled since its stamp, never above its depth. -/
def refill (k : BktKind) (b : Bkt) (now : Time) : Bkt :=
  let n := 2 * (now - b.stamp) / k.period
  if b.tokens + n ≥ k.depth then ⟨k.depth, now⟩ else ⟨b.tokens + n, b.stamp + n * k.period / 2⟩

/-- Take a token: whether one was there, and the bucket after. -/
def takeToken (k : BktKind) (b : Bkt) (now : Time) : Bool × Bkt :=
  let r := refill k b now
  if r.tokens = 0 then (false, r) else (true, { r with tokens := r.tokens - 1 })

/-- Bucket of an event type: the table lists one only once it has been used. -/
def State.bucketOf (s : State) (k : BktKind) (typ : Nat) : Bkt := tget ⟨k.depth, s.now⟩ s.flt.buckets typ

/-! ### The event entry -/

/-- Body of Table 15.1, less SEQ. -/
def evBody (braid dir strand vc code arg0 arg1 arg2 : Nat) : Nat :=
  packNat [(0, 3, braid), (3, 1, dir), (4, 6, strand), (10, 3, vc), (16, 8, code), (32, 32, arg0),
    (64, 32, arg1), (96, 96, arg2)]

/-- The 256 bits of an event entry, PHASE and OVERFLOWED given (Table 10.9, Table 15.1). -/
def evEntry (e : Event) (seq phase ov ts : Nat) : Nat :=
  packNat [(0, 1, phase), (1, 1, ov), (8, 8, e.typ), (16, 8, e.tenant), (24, 40, ts)]
    + (e.body + if 8 ≤ e.typ then seq % 256 * 2 ^ 24 else 0) % 2 ^ 192 * 2 ^ 64

/-- Raise an event: it is posted when the command's PCLK ends (R355, R399). -/
def State.raise (s : State) (typ : Nat) (code : Nat := 0) (arg0 : Nat := 0) (arg1 : Nat := 0) (arg2 : Nat := 0)
    (braid : Nat := 0) (dir : Nat := 0) (strand : Nat := 0) (vc : Nat := 0) (tenant : Nat := 0) : State :=
  { s with flt.queue := s.flt.queue ++ [⟨typ, tenant, braid, evBody braid dir strand vc code arg0 arg1 arg2⟩] }

/-- Raise an event whose body has a layout of its own (STRAND_QUALITY, REPLAY, RING). -/
def State.raiseBody (s : State) (typ body braid : Nat) : State :=
  { s with flt.queue := s.flt.queue ++ [⟨typ, 0, braid, body⟩] }

/-! ### The event ring -/

/-- KIND, LOG2_SIZE, SIZE, binding, completion ring and share of a ring (Table 10.12). -/
def Ring.kind (r : Ring) : Nat := bf r.cfg 1 3
def Ring.size (r : Ring) : Nat := 2 ^ bf r.cfg 4 5
def Ring.dbLine (r : Ring) : Fin 8 := oct (bf r.cfg 9 3)
def Ring.dbSlot (r : Ring) : Nat := bf r.cfg 12 3
def Ring.cplRing (r : Ring) : Nat := bf r.cfg 15 6
def Ring.share (r : Ring) : Nat := 4 * bf r.cfg 21 6
def Ring.msiEn (r : Ring) : Bool := bit r.cfg 27
/-- The ring's base address. -/
def Ring.base (r : Ring) : Nat := bf r.baseHi 0 20 * 2 ^ 32 + bf r.baseLo 12 20 * 2 ^ 12
/-- A ring is enabled from its enable until it is DISABLED again. -/
def Ring.enabled (r : Ring) : Bool := r.st != .disabled
/-- Entry size in bytes (Table 10.1). -/
def Ring.entrySize (r : Ring) : Nat := if r.kind = 3 ∨ r.kind = 4 then 32 else 64
/-- Address of an entry (R220). -/
def Ring.entryAddr (r : Ring) (i : BitVec 32) : Nat := r.base + i.toNat % r.size * r.entrySize
/-- PHASE of an entry the port writes (R233). -/
def Ring.phase (r : Ring) (i : BitVec 32) : Nat := 1 - i.toNat / r.size % 2
/-- No free entry by the last consumer index taken (R220). -/
def Ring.full (r : Ring) : Bool := (r.portIdx - r.swIdx).toNat ≥ r.size

/-- The rings, with their numbers, whose kind is `k`. -/
def State.ringsOf (s : State) (k : Nat) : List Nat :=
  (List.range 64).filter fun r => (s.ring r).enabled && (s.ring r).kind == k

/-- Queue a memory request of the ring engine at the egress of its VC (R213, R222). -/
def State.ringMem (s : State) (m : MemReq) : State :=
  { s with noc.qRing := s.noc.qRing ++ [⟨.mem m, oct m.vc, s.now, none⟩] }

/-- Note a change of an index the port owns: the shadow line becomes dirty (R226). -/
def State.dirty (s : State) (k : Fin 8) : State :=
  s.modLine k fun l => { l with dirtyAt := some (l.dirtyAt.getD s.now) }

/-- Write one entry into a completion or event ring: the port's index advances and the write waits for its
acknowledgement (R235, R237). -/
def State.writeEntry (s : State) (r : Nat) (entry : Nat) (msi : Bool) : State :=
  let rg := s.ring r
  let s := s.ringMem ⟨.entryWrite, 0, s.ringOwner r, BitVec.ofNat 52 (rg.entryAddr rg.portIdx), 32, entry, false, r, rg.portIdx.toNat⟩
  s.modRing r fun g => { g with portIdx := g.portIdx + 1, writes := g.writes ++ [(g.portIdx, b2n msi)] }

/-- Post an event, or drop it where the event ring is full, halted or not enabled (R238). -/
def State.post (s : State) (e : Event) (seq ts : Nat) : State :=
  match (s.ringsOf 4).find? fun r => (s.ring r).st == .running && !(s.ring r).full with
  | none => { s with rings.evtDropped := s.rings.evtDropped + 1, rings.overflow := true }
  | some r =>
    let rg := s.ring r
    let entry := evEntry e seq (rg.phase rg.portIdx) (b2n s.rings.overflow) ts
    let msi := rg.msiEn && bit s.rings.msiMask (e.typ / 8)
    { s.writeEntry r entry msi with rings.overflow := false }

/-- Count an event, latch it, pass its bucket and post it (R353, R355). -/
def State.countEvent (s : State) (e : Event) : State :=
  let n := tget 0 s.flt.raised e.typ + 1
  let ts := s.ts 40
  let s := { s with
    flt.raised := tput s.flt.raised e.typ n
    flt.flags := s.flt.flags ||| BitVec.ofNat 32 (2 ^ (e.typ / 8))
    flt.last := BitVec.ofNat 256 (evEntry e n.toNat 0 0 ts) }
  if e.typ < 4 then s.post e n.toNat ts
  else
    let p := takeToken bktEvent (s.bucketOf bktEvent e.typ) s.now
    let s := { s with flt.buckets := tput s.flt.buckets e.typ p.2 }
    if p.1 then s.post e n.toNat ts
    else { s with flt.supp := tput s.flt.supp e.typ (tget 0 s.flt.supp e.typ + 1) }

/-- Insert an event by TYPE, then braid, after its equals (R355). -/
def insertEvent (e : Event) : List Event → List Event
  | [] => [e]
  | x :: l => if e.typ < x.typ ∨ (e.typ = x.typ ∧ e.braid < x.braid) then e :: x :: l else x :: insertEvent e l

/-- The events of one PCLK in posting order. -/
def sortEvents (l : List Event) : List Event := l.foldl (fun a e => insertEvent e a) []

/-- Post every event the command raised (R355). -/
def State.flushEvents (s : State) : State :=
  (sortEvents s.flt.queue).foldl State.countEvent { s with flt.queue := [] }

/-- The next state of a command: its events posted. -/
def done (s : State) : Host.Outcome State Fault Refusal := .next s.flushEvents

/-! ### Protocol errors (R356: at most one event of a CODE in 1 ms) -/

/-- Raise an event limited to one per 1 ms for its key; every further occurrence is added to the count the next carries
in ARG0. -/
def State.raiseLimited (s : State) (key : Nat) (mk : State → Nat → State) : State :=
  match tfind s.flt.limited key with
  | none => mk { s with flt.limited := tput s.flt.limited key (s.now, 0) } 1
  | some (t, n) =>
    if s.now < t + ms 1 then { s with flt.limited := tput s.flt.limited key (t, n + 1) }
    else mk { s with flt.limited := tput s.flt.limited key (s.now, 0) } (satN 32 (n + 1))

/-- Boundary protocol error: counted in BOUNDARY, event CODE 1. -/
def State.boundaryErr (s : State) : State :=
  { s with noc.boundary := s.noc.boundary + 1 }.raiseLimited 1 fun s n => s.raise 0x2B (code := 1) (arg0 := n)

/-- Link protocol error: counted in PROTO_ERR, event CODE 2. -/
def State.linkErr (s : State) : State :=
  { s with link.protoErr := s.link.protoErr + 1 }.raiseLimited 2 fun s n => s.raise 0x2B (code := 2) (arg0 := n)

/-- Sideband protocol error: counted in SB_PROTO, event CODE 3. -/
def State.sbErr (s : State) : State :=
  s.cntSbProto.raiseLimited 3 fun s n => s.raise 0x2B (code := 3) (arg0 := n)

/-- Flow-control overrun event, limited like a protocol error (R202, R356). -/
def State.overrunEvent (s : State) (b v : Fin 8) : State :=
  s.raiseLimited 0x34 fun s n => s.raise 0x34 (arg0 := n) (braid := b.val) (dir := 1) (vc := v.val)

end Sys2Proof.Machine
end

