-- ==== Sys2Proof/Machine/Topology.lean ====
section
/-!
DEFINITION. What the hub's discovery agent knows of the package (R13, R18, R110, R112) and the ports it raises events at
(R357): its sites, its topology table, and the entries a hub block itself gives that table.
-/
namespace Sys2Proof.Machine

/-- A hub block: the agent and the controller are on its die. -/
def State.agentHere (s : State) : Bool := s.cls.isHub && !s.isOptical

/-- A site the agent knows nothing of. -/
def site0 : Site := { zeroSite with dieId := 0xFF }

/-- One site. -/
def State.site (s : State) (n : Nat) : Site := tget site0 s.agent.sites n

/-- Change one site. -/
def State.modSite (s : State) (n : Nat) (f : Site → Site) : State :=
  { s with agent.sites := tupd site0 s.agent.sites n f }

/-- Compute sites of a tile. -/
def tileSites (t : Nat) : List Nat := (List.range 7).map fun i => 7 * t + i

/-- Active dies of a tile. -/
def State.activeIn (s : State) (t : Nat) : Nat := ((tileSites t).filter fun n => (s.site n).state == 1).length

/-- The site of this block: a base end's own, a guest port's own. -/
def State.ownSite (s : State) : Option Nat :=
  match s.cls with
  | .sb => some (7 * s.tile + s.index)
  | .lg => some (56 + s.index)
  | _ => none

/-! ### The topology table (R112, Table 5.11) -/

/-- Braids of this block that are trained in both directions, what BRAIDS counts of a port. -/
def State.trainedBraids (s : State) : Nat :=
  (octs.filter fun b => (s.link.tx.get b).shape.trained && (s.link.rx.get b).shape.trained).length

/-- An entry of a die or fibre port the agent knows nothing of. -/
def topo0 : TopoEnt := ⟨0, 0xFF, 0, 0, 0⟩

/-- Entry of a site or guest port. -/
def State.siteEntry (s : State) (n : Nat) : TopoEnt :=
  let x := s.site n
  ⟨x.uid.getD 0, x.dieId, x.state, x.gen, x.braids⟩

/-- The hub's own entry: it has no port toward the hub side, so GEN and BRAIDS read 0 (DESIGN CHOICE, assumption log 59). -/
def State.hubEntry (s : State) : TopoEnt := ⟨s.straps.uid, 0, 1, 0, 0⟩

/-- What this block itself tells of the die at its far end: the tile behind a lateral hub end, the far port of a fibre. -/
def State.ownEntry (s : State) : TopoEnt :=
  let up := s.start.st == .openSt && !s.link.down
  match s.cls with
  | .lh => ⟨s.start.farUid, BitVec.ofNat 8 (s.tile + 1), if s.start.beaconGot then 1 else 0, s.start.negGen.toNat, s.trainedBraids⟩
  | _ => ⟨s.start.farUid, if s.start.beaconGot then BitVec.ofNat 8 (s.sb.farPort.toNat % 32) else 0xFF,
      if s.start.failed then 3 else if up then 1 else 0, s.start.negGen.toNat, s.trainedBraids⟩

/-- Index of the entry this block tells of, none where another port does. -/
def State.ownTopo (s : State) : Option Nat :=
  match s.cls with
  | .lh => some (1 + s.tile)
  | .fib => some (67 + s.index)
  | _ => none

/-- The 83 entries in order: hub, tiles, compute sites, guest ports, fibre ports. An entry of a tile or fibre port that
another block serves stands as it was last written. -/
def State.topoEntries (s : State) : List TopoEnt :=
  (List.range 83).map fun i =>
    if i = 0 then s.hubEntry
    else if s.ownTopo = some i then s.ownEntry
    else if 9 ≤ i ∧ i ≤ 66 then s.siteEntry (i - 9)
    else s.agent.table.getD i topo0

/-- The table is rewritten: the entries as they now are, and VERSION advances (R112). -/
def State.topo (s : State) : State :=
  { s with agent.table := s.topoEntries, agent.version := s.agent.version + 1 }

/-- A fibre or lateral hub port's own entry has changed: the agent rewrites the table (R23, R112). -/
def State.portTopo (s : State) : State :=
  match s.ownTopo with
  | some i => if s.agentHere && s.agent.table.getD i topo0 != s.ownEntry then s.topo else s
  | none => s

/-- `n` bytes of a value, the lowest first. -/
def leBytes (n v : Nat) : List (BitVec 8) := (List.range n).map fun i => BitVec.ofNat 8 (bitsOf v (8 * i) 8)

/-- Bytes of an entry. -/
def TopoEnt.bytes (e : TopoEnt) : List (BitVec 8) :=
  leBytes 8 e.uid.toNat ++ [e.id, BitVec.ofNat 8 e.state, BitVec.ofNat 8 e.gen, BitVec.ofNat 8 e.braids] ++ leBytes 4 0

/-- Entries of a range in a state. -/
def topoCount (l : List TopoEnt) (frm n state : Nat) : Nat :=
  (((l.drop frm).take n).filter fun e => e.state == state).length

/-- The 1,344 bytes of the topology table (Table 5.11): START, VERSION, active and spare compute dies, admitted guests, fibre
ports up, the CRC over all of it with its own field zero, and the entries. -/
def topoBytes (g : Agent) : List (BitVec 8) :=
  let l := g.table
  let head := leBytes 4 g.starts.toNat ++ leBytes 4 g.version.toNat
    ++ [BitVec.ofNat 8 (topoCount l 9 56 1), BitVec.ofNat 8 (topoCount l 9 56 2), BitVec.ofNat 8 (topoCount l 65 2 1),
      BitVec.ofNat 8 (topoCount l 67 16 1)]
  let body := l.flatMap TopoEnt.bytes
  head ++ leBytes 4 (crc32cBytes ((head ++ leBytes 4 0 ++ body).map BitVec.toNat)) ++ body

/-! ### Where the agent's events go (R357) -/

/-- The agent raises an event at a port, through that port's own event path. -/
def State.agentRaise (s : State) (cls : PortClass) (tile index typ : Nat) (code : Nat := 0) (arg0 : Nat := 0)
    (arg1 : Nat := 0) (arg2 : Nat := 0) : State :=
  if s.cls == cls && s.index == index && (cls == .lg || s.tile == tile) then s.raise typ (code := code) (arg0 := arg0) (arg1 := arg1) (arg2 := arg2)
  else { s with agent.events := s.agent.events ++ [⟨cls, tile, index, typ, code, arg0, arg1, arg2⟩] }

/-- An event at the port of a site. -/
def State.siteRaise (s : State) (n typ : Nat) (code : Nat := 0) (arg0 : Nat := 0) (arg1 : Nat := 0) (arg2 : Nat := 0) : State :=
  if n < 56 then s.agentRaise .sb (n / 7) (n % 7) typ code arg0 arg1 arg2
  else s.agentRaise .lg 0 (n - 56) typ code arg0 arg1 arg2

/-- A lateral hub end has gone down: where neither of its tile's two other lateral ports is up, which their own blocks know
and this one takes as a free value (assumption log 60), the tile is isolated (R19). -/
def State.lateralDown (s : State) : State :=
  if s.cls != .lh then s
  else
    let p := s.free
    if p.1 % 2 = 1 then p.2.agentRaise .lh p.2.tile 0 0x65 else p.2

end Sys2Proof.Machine
end

