-- ==== Sys2Proof/Machine/Tenancy.lean ====
section
/-!
DEFINITION. Tenants: the tenant-to-VC policy, the firewall, error responses, the record of a discard, the
configuration digest and the meters (R302 to R306, R320 to R324).
-/
namespace Sys2Proof.Machine

/-! ### Meters (R321, R322) -/

/-- Add to a tenant's meter. -/
def State.meter (s : State) (tenant counter n : Nat) : State :=
  { s with mtr.live := tput s.mtr.live (tenant * 8 + counter) (tget 0 s.mtr.live (tenant * 8 + counter) + BitVec.ofNat 64 n) }

/-- Add link bytes sent (counter 2) or received (counter 3), and their energy in femtojoules (R322). -/
def State.meterBytes (s : State) (tenant counter bytes : Nat) : State :=
  let fj := if counter = 2 then bf (s.prot 0x9008) 0 16 else bf (s.prot 0x9008) 16 16
  let s := s.meter tenant counter bytes
  { s with mtr.energy := tput s.mtr.energy tenant (tget 0 s.mtr.energy tenant + bytes * 8 * fj) }

/-- Bytes charged to each valid slot: 80 to each of two, 160 to a lone one (R321). -/
def slotBytes (two : Bool) : Nat := if two then 80 else 160

/-- A meter as software reads it: ENERGY in whole microjoules, COUNTER 7 zero (Table 13.7). -/
def meterValue (live : Tbl (BitVec 64)) (energy : Tbl Nat) (tenant counter : Nat) : BitVec 64 :=
  if counter = 7 then 0
  else if counter = 5 then BitVec.ofNat 64 (tget 0 energy tenant / 1000000000)
  else tget 0 live (tenant * 8 + counter)

/-! ### Epochs (R324) -/

/-- Epoch length in TSC counts. -/
def State.epochLen (s : State) : Nat := 2 ^ (max 20 (min 48 (bf (s.prot 0x9004) 0 6)))

/-- The boundary after a timestamp. -/
def State.nextBoundary (s : State) (ts : Nat) : BitVec 64 := BitVec.ofNat 64 ((ts / s.epochLen + 1) * s.epochLen)

/-- Close the open epoch: snapshot, SNAP, epoch + 1, NEXT, event (R324, R325). -/
def State.closeEpoch (s : State) (cause : Nat) (closeTs : Nat) : State :=
  let next := s.mtr.next.toNat
  let skipped := if cause = 0 then (closeTs - next) / s.epochLen else 0
  let closed := s.aon.epoch
  let s := { s with
    mtr.snap := s.mtr.live
    mtr.energySnap := s.mtr.energy
    mtr.snapEpoch := closed
    aon.epoch := closed + 1
    mtr.next := s.nextBoundary closeTs }
  s.raise 0x50 (code := cause) (arg0 := closed.toNat) (arg1 := skipped) (arg2 := closeTs)

/-! ### Discards (R303, R304, R306) -/

/-- Raise FIREWALL for a discard of `cause`, at most once in 1 ms for each cause. -/
def State.raiseDiscard (s : State) (f : NocFlit) (cause last : Nat) : State :=
  let old := tfind s.flt.limited (0x100 + cause)
  if (old.map fun p => decide (s.now < p.1 + ms 1)) = some true then s
  else { s with flt.limited := tput s.flt.limited (0x100 + cause) (s.now, (old.map Prod.snd).getD 0) }.raise 0x48 (code := cause)
    (arg0 := last) (arg1 := payBits f 0 32) (tenant := flitTenant f)

/-- Record a discard in FX_FW_LAST and FX_FW_LADDR, meter it and raise FIREWALL. -/
def State.recordDiscard (s : State) (f : NocFlit) (cause : Nat) : State :=
  let last := packNat [(0, 8, flitTenant f), (8, 8, flitSrcDie f), (16, 8, flitDstDie f), (24, 6, flitType f), (30, 2, cause)]
  let s := { s with
    ten.last := BitVec.ofNat 32 last
    ten.addrLo := BitVec.ofNat 32 (payBits f 0 32)
    ten.addrHi := BitVec.ofNat 32 (payBits f 32 20) }
  (s.meter (flitTenant f) 6 1).raiseDiscard f cause last

/-- The error response to a discarded VC 0 flit (R304): CAUSE 1 firewall, 2 policy, 3 flush. -/
def State.errResponse (s : State) (f : NocFlit) (cause : Nat) : NocFlit :=
  mkFlit 1 (flitTenant f) (flitDstDie f) (flitDstEp f) (flitSrcDie f) (flitSrcEp f) 0x0F (flitTag f) true
    (packNat [(0, 4, cause), (4, 8, s.ownDie.toNat), (12, 8, s.portCode.toNat)])

/-- Answer a discarded flit toward the NoC, if it is on VC 0 (R304). -/
def State.answerNoc (s : State) (f : NocFlit) (cause : Nat) : State :=
  if flitVc f ≠ 0 then s
  else if s.noc.qErr.length < 16 then
    { s with noc.qErr := s.noc.qErr ++ [⟨.flit (s.errResponse f cause), 1, s.now, none⟩] }
  else { s with ten.respDrop := s.ten.respDrop + 1 }

/-- Answer a discarded flit over the link, if it is on VC 0 (R304). -/
def State.answerLink (s : State) (f : NocFlit) (cause : Nat) : State :=
  if flitVc f ≠ 0 then s
  else if s.ten.linkQ.length < 16 then { s with ten.linkQ := s.ten.linkQ ++ [s.errResponse f cause] }
  else { s with ten.respDrop := s.ten.respDrop + 1 }

/-- The policy in force for grants lets a flit use its VC (R303). -/
def State.txPolicy (s : State) (f : NocFlit) : Bool := (s.tvcMask (flitTenant f)).testBit (flitVc f).val

/-- A far LASH_SWITCH has been accepted on the braid and is still in the CONTROL FIFO. -/
def State.switchHeld (s : State) (b : Fin 8) : Bool := (s.link.rx.get b).ctlIn.any fun c => c.1 = 0x41

/-- The policy register in force for the frames of a receive braid: the far LASH_SWITCH takes effect where it is accepted, not
where it leaves the CONTROL FIFO (R317 step 6). -/
def State.rxTable (s : State) (b : Fin 8) (off : Nat) : Reg :=
  if s.switchHeld b then
    (if bit s.lash.oldOn b.val then s.prot off else (tfind s.lash.commit off).getD (s.prot off))
  else s.rxTvc b off

/-- The policy in force for a receive braid lets a flit use its VC (R303). -/
def State.rxPolicy (s : State) (b : Fin 8) (f : NocFlit) : Bool :=
  (bf (s.rxTable b (0x8100 + 4 * (flitTenant f / 4))) (8 * (flitTenant f % 4)) 8).testBit (flitVc f).val

/-- Transmit-side policy discard. -/
def State.policyDiscardTx (s : State) (f : NocFlit) : State :=
  ({ s with ten.txBlock := s.ten.txBlock + 1 }.recordDiscard f 2).answerNoc f 2

/-- Receive-side policy discard. -/
def State.policyDiscardRx (s : State) (f : NocFlit) : State :=
  ({ s with ten.rxBlock := s.ten.rxBlock + 1 }.recordDiscard f 2).answerLink f 2

/-- Rule `r` of the firewall matches a flit (R305). -/
def State.ruleMatches (s : State) (f : NocFlit) (r : Nat) : Bool :=
  let base := 0x8800 + 0x20 * r
  let ctl := s.prot base
  let m := s.prot (base + 4)
  let tm := bf m 8 8
  let dm := bf m 24 8
  let types := (s.prot (base + 8)).toNat + (s.prot (base + 12)).toNat * 2 ^ 32
  let lo := (s.prot (base + 16)).toNat + bf (s.prot (base + 20)) 0 8 * 2 ^ 32
  let hi := (s.prot (base + 24)).toNat + bf (s.prot (base + 28)) 0 8 * 2 ^ 32
  let page := payBits f 12 40
  bit ctl 0 && (flitTenant f &&& tm) == (bf m 0 8 &&& tm) && (flitDstDie f &&& dm) == (bf m 16 8 &&& dm)
    && types.testBit (flitType f)
    && (!bit ctl 1 || (flitVc f == 0 && lo ≤ page && page ≤ hi))

/-- The firewall allows a flit (R306). -/
def State.firewallAllows (s : State) (f : NocFlit) : Bool :=
  let ctl := s.prot 0x8000
  !bit ctl 0 || (List.range 64).any (s.ruleMatches f) || bit ctl 1

/-- Firewall discard. -/
def State.firewallDiscard (s : State) (f : NocFlit) : State :=
  ({ s with ten.drops := s.ten.drops + 1 }.recordDiscard f 1).answerLink f 1

/-! ### Configuration digest (R320) -/

/-- Digest over generation, rate, a link count and a policy table. -/
def State.cfgDigest (s : State) (link : Reg) (rd : Nat → Reg) : Nat :=
  crc32cBytes ([s.start.negGen.toNat, s.start.negRate.toNat]
    ++ (List.range 4).map (fun i => bf link (8 * i) 8) ++ tvcBytes rd)

/-- FX_LSH_LINK as it stands once the policy in force has been lashed: while this end switches, one more (assumption
log 41). -/
def State.linkNow (s : State) (new : Bool) : Reg := if s.lash.switching && new then s.lash.link + 1 else s.lash.link

/-- FX_LSH_LINK as it stands for the policy in force for the frames of a receive braid. -/
def State.linkRx (s : State) (b : Fin 8) : Reg :=
  if s.switchHeld b then (if s.lash.linkWait || s.lash.switching then s.lash.link + 1 else s.lash.link)
  else s.linkNow !(bit s.lash.oldOn b.val)

/-- The transmit digest, sent in every IDLE. -/
def State.ownDigest (s : State) : Nat := s.cfgDigest (s.linkNow true) s.prot

/-- Compare the DIGEST of a received IDLE once the port has opened (R320). -/
def State.compareDigest (s : State) (b : Fin 8) (far : Nat) : State :=
  if !s.start.opened then s
  else
    let own := s.cfgDigest (s.linkRx b) (s.rxTable b)
    let s := { s with lash.cfgFar := BitVec.ofNat 32 far }
    if own = far then { s with lash.unequal := false }
    else
      let first := !s.lash.unequal
      let s := { s with lash.mismatch := s.lash.mismatch + 1, lash.unequal := true }
      if first then s.raise 0x4C (arg0 := own) (arg1 := far) else s

end Sys2Proof.Machine
end

