-- ==== Sys2Proof/Machine/Flow.lean ====
section
/-!
DEFINITION. Flow control at the NoC boundary and the spread of flows over braids: ingress credits (R31, R204), the
bucket table (R207 to R211), receive buffers and their XON bits (R199, R200), and egress (R213).
-/
namespace Sys2Proof.Machine

/-! ### Ingress credits -/

/-- Freed slots may be answered with credits: counts initialised, the port in OPEN (or sinking), and nothing
withholds them (R32, R62, R187, R339, R349). -/
def State.canReturn (s : State) : Bool :=
  s.noc.initDone && !s.noc.crdInit && !s.noc.whNclk && !s.noc.whReset && !s.test.alone
    && (s.pwr.sinking
      || ((s.start.st == .openSt || s.start.st == .fenced) && !s.noc.whRetrain && !s.noc.whDrain))

/-- Drive the credits owed on one VC: the port never lets more than 128 − LOST_IN stand in all (R204). -/
def State.returnVc (s : State) (v : Fin 8) : State :=
  let n := min (s.noc.owed.get v) (128 - s.noc.lostIn.get v - s.noc.inHeld.get v)
  if n = 0 then s
  else { s with
    noc.owed := s.noc.owed.upd v (· - n)
    noc.inHeld := s.noc.inHeld.upd v (· + n)
    out.credits := s.out.credits ++ [(v, n)] }

/-- Drive every credit owed (R31). -/
def State.returnCredits (s : State) : State :=
  if s.canReturn then s.cls.vcs.foldl State.returnVc { s with noc.returned := true } else s

/-- Free one pool slot of a VC: its credit is owed, and returned at once unless withheld (R31). -/
def State.freeSlot (s : State) (v : Fin 8) : State :=
  { s with noc.owed := s.noc.owed.upd v (· + 1) }.returnCredits

/-- noc_crd_init rises: an audit in flight is abandoned uncompared (R32, R205). In stand-alone mode it holds its reset
value (R49). -/
def State.startCreditInit (s : State) : State :=
  if s.test.alone then s
  else { s with noc.crdInit := true, noc.initDone := false, noc.returned := false, noc.audit := none }

/-- Pool slots of a VC that flits hold (R31): those of the pool but not the ones a handover brought back, whose slots were freed
at their first grant, and HITCH_READs that wait for a response slot (R294). -/
def State.slotsHeld (s : State) (v : Fin 8) : Nat :=
  ((s.noc.pool.get v).filter fun p => !p.handed).length
    + if v = 0 then (s.noc.taken.filter fun x => !x.1 && flitVc x.2 == 0).length else 0

/-- Both sides zero their counts (Table 2.5 steps 2 and 3). -/
def State.zeroCredits (s : State) : State :=
  { s with
    noc.inHeld := Oct.all 0
    noc.egHeld := Oct.all 0
    noc.lostIn := Oct.all 0
    noc.lostEg := Oct.all 0
    noc.owed := Oct.ofFn fun v => if s.cls.carries v then 128 - s.slotsHeld v else 0 }

/-! ### Buckets -/

/-- A bucket of the flow table; at reset bucket i stands on braid i mod 8 (Table 17.16). -/
def State.bucket (s : State) (i : Nat) : Bucket :=
  tget ⟨oct i, oct i, false, 0, none⟩ s.noc.buckets i

/-- Replace a bucket. -/
def State.setBucket (s : State) (i : Nat) (b : Bucket) : State := { s with noc.buckets := tput s.noc.buckets i b }

/-- A transmit braid is in service: not retired, trained at least once, and not out for a bight (R208). -/
def State.inService (s : State) (b : Fin 8) : Bool :=
  let t := s.link.tx.get b
  !t.shape.retired && t.ladder != .down && t.ladder != .retired && !bit s.noc.bightOut b.val

/-- Transmit braids in service, rising. -/
def State.serviceList (s : State) : List (Fin 8) := octs.filter s.inService

/-- Target of a bucket over the braids in service (R208). -/
def targetOf (live : List (Fin 8)) (i : Nat) : Option (Fin 8) :=
  if live.isEmpty then none
  else if live.contains (oct i) then some (oct i)
  else live[i / 8 % live.length]?

/-- A flit of a bucket waits behind a fence held at ingress (R289). -/
def State.fencedOff (s : State) (i order : Nat) : Bool := s.ht.fences.any fun x => x.1 = i && x.2 ≤ order

/-- Retag the waiting flits of a bucket onto a braid's queues (R209, R210), up to a fence held in it. -/
def State.requeue (s : State) (i : Nat) (b : Fin 8) : State :=
  { s with noc.pool := s.noc.pool.map fun l => l.map fun p =>
      if p.bucket = i ∧ p.queue = none ∧ !s.fencedOff i p.order then { p with queue := some b } else p }

/-- Give a bucket a new target: it moves, or its move ends where the target is its braid again (R209). -/
def State.retarget (s : State) (i : Nat) (t : Fin 8) : State :=
  let k := s.bucket i
  if k.braid = t then
    if k.moving then (s.setBucket i { k with target := t, moving := false }).requeue i t
    else if k.target = t then s else s.setBucket i { k with target := t }
  else s.setBucket i { k with target := t, moving := true }

/-- Recompute every target over the braids in service (R208). -/
def State.recomputeTargets (s : State) : State :=
  let live := s.serviceList
  let s := { s with noc.live := BitVec.ofNat 8 (maskOf (live.map Fin.val)) }
  (List.range 256).foldl (fun st i =>
    match targetOf live i with
    | some t => st.retarget i t
    | none => st) s

/-- At OPEN every bucket's braid equals its target (R208). -/
def State.openBuckets (s : State) : State :=
  let live := s.serviceList
  let s := { s with noc.live := BitVec.ofNat 8 (maskOf (live.map Fin.val)) }
  (List.range 256).foldl (fun st i =>
    match targetOf live i with
    | some t => if t = oct i ∧ tfind st.noc.buckets i = none then st
        else (st.setBucket i { st.bucket i with braid := t, target := t, moving := false }).requeue i t
    | none => st) s

/-- Complete the move of a bucket to its target (R210). -/
def State.completeMove (s : State) (i : Nat) : State :=
  let k := s.bucket i
  ({ s with noc.moves := s.noc.moves + 1 }.setBucket i { k with braid := k.target, moving := false, ackAt := none }).requeue i k.target

/-- No flit of the bucket waits in its old braid's queues, and every frame that carried it is acknowledged (R210). -/
def State.quiescent (s : State) (i : Nat) : Bool :=
  let k := s.bucket i
  let t := s.link.tx.get k.braid
  octs.all (fun v => (s.noc.pool.get v).all fun p => p.bucket ≠ i ∨ p.queue ≠ some k.braid)
    && (seqBefore k.lastSeq t.oldest || t.held.isEmpty)

/-- Put a flit into the pool of its VC, in its braid's queue or the move queue (R198, R209). -/
def State.enqueue (s : State) (f : NocFlit) (fenced : Bool) : State :=
  let i := flowBucket f
  let k := s.bucket i
  let s := if fenced then { s with ht.fences := s.ht.fences ++ [(i, s.noc.order)] } else s
  let q := if k.moving || s.fencedOff i s.noc.order then none else some k.braid
  { s with
    noc.pool := s.noc.pool.upd (flitVc f) (· ++ [⟨f, q, i, s.noc.order, fenced, false⟩])
    noc.order := s.noc.order + 1 }

/-! ### Receive buffers -/

/-- Slots of a VC held in a receive braid's buffer. -/
def rxOcc (r : RxBraid) (v : Fin 8) : Nat := (r.buf.filter fun x => flitVc x.flit = v).length

/-- XON bit of one VC after its occupancy is compared with the thresholds (R200). -/
def xonNext (c : PortClass) (old : Bool) (occ : Nat) : Bool :=
  if occ ≥ c.xoffAt then false else if occ ≤ c.xonAt then true else old

/-- The XON bits a receive braid's occupancies give. -/
def xonMask (c : PortClass) (r : RxBraid) : Nat :=
  maskOf ((c.vcs.filter fun v => xonNext c (bit r.xon v.val) (rxOcc r v)).map Fin.val)

/-- What falls due for a receive braid rides in the headers of its own transmit braid; while that is not up, in an ACK or NAK frame
of the lowest transmit braid that is (R170). With none up the frame waits at the braid's own place. -/
def State.oweFrame (s : State) (b : Fin 8) : State :=
  if (s.link.tx.get b).ladder = .up then s
  else s.modTx (s.upTx.headD b) fun t => { t with owe := if t.owe.contains b then t.owe else t.owe ++ [b] }

/-- A transmit braid left or came up: frames owed by braids that are not up go to the lowest that is, and none is owed for a braid
whose own headers carry it again (R170). -/
def State.gatherOwed (s : State) : State :=
  match s.upTx with
  | [] => s
  | u :: _ =>
    let l := octs.filter fun r => (s.link.tx.get r).ladder != .up && octs.any fun b => (s.link.tx.get b).owe.contains r
    octs.foldl (fun a b => a.modTx b fun t => { t with owe := if b = u then l else [] }) s

/-- Compare every buffer of a receive braid with its thresholds; a change rides in the next header, or in an ACK frame
where the paired transmit braid is not up (R170, R200). -/
def State.updateXon (s : State) (b : Fin 8) : State :=
  let r := s.link.rx.get b
  let new := xonMask s.cls r
  if new = r.xon.toNat then s
  else
    let cleared := fun v : Fin 8 => bit r.xon v.val && !new.testBit v.val
    let s := s.modRx b fun r => { r with
      xon := BitVec.ofNat 8 new
      xoffs := Oct.ofFn fun v => if cleared v then r.xoffs.get v + 1 else r.xoffs.get v }
    s.oweFrame b

/-- The port's own endpoints: ring, reduction and hitch engine (R222, R244, R275). -/
def State.ownEndpoint (s : State) (ep : Nat) : Bool :=
  ep == s.straps.ringEp.toNat || (s.hasRed && ep == s.straps.redEp.toNat)
    || (s.hasHitch && ep == s.straps.hitchEp.toNat)

/-- A flit is addressed to one of the port's own endpoints. -/
def State.isOwn (s : State) (f : NocFlit) : Bool :=
  flitDstDie f == s.ownDie.toNat && s.ownEndpoint (flitDstEp f)

/-- Hand a flit to the engine it names, from a receive braid or from ingress. -/
def State.takeFlit (s : State) (rx : Bool) (f : NocFlit) : State := { s with noc.taken := s.noc.taken ++ [(rx, f)] }

/-- Remove a flit a command works on from the taken list. -/
def State.untake (s : State) (rx : Bool) (f : NocFlit) : State := { s with noc.taken := s.noc.taken.erase (rx, f) }

/-- A flit waits for its engine. -/
def State.isTaken (s : State) (rx : Bool) (f : NocFlit) : Bool := s.noc.taken.contains (rx, f)

/-! ### Egress -/

/-- Egress flits may be presented: counts initialised, NCLK there, the port past OPEN (R32, R62). -/
def State.egressOpen (s : State) : Bool :=
  s.noc.initDone && !s.noc.crdInit && !s.noc.whNclk && s.start.opened && !s.test.alone

/-- The earliest eligible flit of a VC at one requester: braids 0 to 7, ring, reduction, hitch, error responses. -/
def State.egHead (s : State) (v : Fin 8) (i : Nat) : Option EgItem :=
  if i < 8 then
    match (s.link.rx.get (oct i)).buf.find? fun x => x.eligible && flitVc x.flit == v with
    | some x => if x.fenced then none else some ⟨.flit x.flit, v, x.release, none⟩
    | none => none
  else
    let q := match i with
      | 8 => s.noc.qRing
      | 9 => s.noc.qRed
      | 10 => s.noc.qHitch
      | _ => s.noc.qErr
    q.find? fun x => x.vc == v

/-- Remove the first element that satisfies a test. -/
def eraseFirst {α : Type} (p : α → Bool) : List α → List α
  | [] => []
  | x :: l => if p x then l else x :: eraseFirst p l

/-- Remove the head of a requester. -/
def State.egPop (s : State) (v : Fin 8) (i : Nat) : State :=
  if i < 8 then
    s.modRx (oct i) fun r => { r with buf := eraseFirst (fun x => x.eligible && flitVc x.flit == v) r.buf }
  else match i with
    | 8 => { s with noc.qRing := eraseFirst (fun x => x.vc == v) s.noc.qRing }
    | 9 => { s with noc.qRed := eraseFirst (fun x => x.vc == v) s.noc.qRed }
    | 10 => { s with noc.qHitch := eraseFirst (fun x => x.vc == v) s.noc.qHitch }
    | _ => { s with noc.qErr := eraseFirst (fun x => x.vc == v) s.noc.qErr }

/-- The requester of a VC with the earliest release time, ties in round-robin order (R213). -/
def State.egWinner (s : State) (v : Fin 8) : Option Nat :=
  let heads := (List.range 12).filterMap fun i => (s.egHead v i).map fun h => (i, h.release)
  match heads with
  | [] => none
  | h :: t =>
    let best := t.foldl (fun m x => min m x.2) h.2
    roundRobin 12 (s.noc.mergePtr.get v) fun i => heads.any fun x => x.1 == i && x.2 == best

/-- A VC has an eligible flit and an egress credit. A memory request of the ring engine uses a credit of its VC like
any egress flit (R235). -/
def State.egReady (s : State) (v : Fin 8) : Bool := s.noc.egHeld.get v > 0 && (s.egWinner v).isSome

/-- The flit a memory request begins with (R28, Table 2.4): the address is the first 52 bits of its payload. Its destination, MSG_TYPE and
TAG and the rest of its payload belong to the die and are open (assumption log 8). -/
def MemReq.flit (m : MemReq) (die ep x : Nat) : NocFlit :=
  pack 576 [(0, 3, m.vc), (3, 8, m.tenant.toNat), (11, 8, die), (19, 10, ep), (29, 34, x), (63, 1, b2n m.poison),
    (64, 52, m.addr.toNat), (116, 460, x / 2 ^ 34)]

/-- Record the flit of a memory request of the ring engine (requester 8) or the reduction engine. -/
def State.noteReq (s : State) (i : Nat) : EgWhat → State
  | .flit _ => s
  | .mem m =>
    let p := s.free
    { p.2 with out.reqFlits := s.out.reqFlits ++
        [m.flit s.ownDie.toNat (if i = 8 then s.straps.ringEp.toNat else s.straps.redEp.toNat) p.1] }

/-- Drive one egress flit. -/
def State.egressOne (s : State) : State :=
  match roundRobin 8 s.noc.egPtr fun v => s.egReady (oct v) with
  | none => s
  | some vn =>
    let v := oct vn
    match s.egWinner v with
    | none => s
    | some i =>
      match s.egHead v i with
      | none => s
      | some h =>
        let s := { s.egPop v i with
          noc.egHeld := s.noc.egHeld.upd v (· - 1)
          noc.mergePtr := s.noc.mergePtr.put v ((i + 1) % 12)
          noc.egPtr := (vn + 1) % 8
          noc.egStalled := setBf s.noc.egStalled vn 1 0
          noc.redSent := s.noc.redSent ++ h.last.toList
          out.egress := s.out.egress ++ [h.what] }
        if i < 8 then s.updateXon (oct i) else s.noteReq i h.what

/-- `n` turns of the egress slot arbiter. -/
def State.egressN : Nat → State → State
  | 0, s => s
  | n + 1, s => State.egressN n s.egressOne

/-- One NCLK cycle of egress: up to 16 slots (Table 9.5). -/
def State.egressDrive (s : State) : State := if s.egressOpen then s.egressN 16 else s

end Sys2Proof.Machine
end

