-- ==== Sys2Proof/Machine/Fp.lean ====
section
/-!
DEFINITION. The arithmetic of in-flight reduction (R250 to R254): exact values, the formats of Table 11.3, rounding to
nearest even and stochastically, and the operations on fp32 accumulators.
-/
namespace Sys2Proof.Machine

/-- An exact value: not a number, an infinity, or ± m · 2^e. -/
inductive FV where
  | nan
  | inf (neg : Bool)
  | fin (neg : Bool) (m : Nat) (e : Int)
  deriving DecidableEq, Repr

/-- Which special codes a format has (Table 11.3). -/
inductive FSpecial where
  | ieee | e4m3 | none
  deriving DecidableEq, Repr

/-- An element format: exponent bits, significand bits below the leading one, bias, special codes. -/
structure FFmt where
  eb : Nat
  mb : Nat
  bias : Nat
  sp : FSpecial
  deriving DecidableEq, Repr

/-- Element format of a format code (Table 11.3). -/
def fmtOf : Nat → FFmt
  | 0 => ⟨8, 23, 127, .ieee⟩
  | 1 => ⟨8, 7, 127, .ieee⟩
  | 2 => ⟨5, 10, 15, .ieee⟩
  | 3 => ⟨4, 3, 7, .e4m3⟩
  | 4 => ⟨5, 2, 15, .ieee⟩
  | 5 => ⟨4, 3, 7, .e4m3⟩
  | 6 => ⟨5, 2, 15, .ieee⟩
  | 7 => ⟨2, 3, 1, .none⟩
  | 8 => ⟨3, 2, 3, .none⟩
  | _ => ⟨2, 1, 1, .none⟩

/-- fp32. -/
def fp32 : FFmt := fmtOf 0

/-- Bits of one element. -/
def elemBits (code : Nat) : Nat := 1 + (fmtOf code).eb + (fmtOf code).mb
/-- Format code is one of Table 11.3. -/
def fmtKnown (code : Nat) : Bool := code ≤ 9
/-- The format is an MX format. -/
def isMx (code : Nat) : Bool := 5 ≤ code && code ≤ 9
/-- The exponent of the largest element of an MX format (Table 11.3). -/
def mxEmax : Nat → Nat
  | 5 => 8 | 6 => 15 | 7 => 2 | 8 => 4 | _ => 2

/-- Largest finite value of a format as significand and exponent. -/
def FFmt.maxFin (f : FFmt) : Nat × Int :=
  match f.sp with
  | .ieee => (2 ^ (f.mb + 1) - 1, (2 ^ f.eb - 2 : Nat) - (f.bias + f.mb : Nat))
  | .e4m3 => (2 ^ (f.mb + 1) - 2, (2 ^ f.eb - 1 : Nat) - (f.bias + f.mb : Nat))
  | .none => (2 ^ (f.mb + 1) - 1, (2 ^ f.eb - 1 : Nat) - (f.bias + f.mb : Nat))

/-- Code of the largest finite value, without its sign. -/
def FFmt.maxCode (f : FFmt) : Nat :=
  match f.sp with
  | .ieee => (2 ^ f.eb - 1) * 2 ^ f.mb - 1
  | .e4m3 => 2 ^ (f.eb + f.mb) - 2
  | .none => 2 ^ (f.eb + f.mb) - 1

/-- Sign bit of a code. -/
def FFmt.sign (f : FFmt) (neg : Bool) : Nat := if neg then 2 ^ (f.eb + f.mb) else 0

/-- The canonical NaN of a format. -/
def FFmt.nanCode (f : FFmt) : Nat :=
  match f.sp with
  | .ieee => if f.mb = 2 then 0x7E else (2 ^ f.eb - 1) * 2 ^ f.mb + 2 ^ (f.mb - 1)
  | _ => 2 ^ (f.eb + f.mb) - 1

/-- Value of a code (R250). -/
def FFmt.decode (f : FFmt) (x : Nat) : FV :=
  let neg := bitsOf x (f.eb + f.mb) 1 == 1
  let ex := bitsOf x f.mb f.eb
  let ma := bitsOf x 0 f.mb
  let top := 2 ^ f.eb - 1
  let fin : FV :=
    if ex = 0 then .fin neg ma (1 - (f.bias + f.mb : Nat)) else .fin neg (ma + 2 ^ f.mb) ((ex : Int) - (f.bias + f.mb : Nat))
  match f.sp with
  | .ieee => if ex = top then (if ma = 0 then .inf neg else .nan) else fin
  | .e4m3 => if ex = top ∧ ma = 2 ^ f.mb - 1 then .nan else fin
  | .none => fin

/-- How to round: to nearest even, or stochastically with a 32-bit number (R254). -/
inductive Rnd where
  | near
  | stoch (r : Nat)
  deriving DecidableEq, Repr

/-- Round `m` · 2^`e` to a multiple of 2^`u`: the significand in units of 2^`u`. -/
def roundAt (rnd : Rnd) (m : Nat) (e u : Int) : Nat :=
  if u ≤ e then m * 2 ^ (e - u).toNat
  else
    let d := (u - e).toNat
    let t := m / 2 ^ d
    let fr := m % 2 ^ d
    match rnd with
    | .near =>
      if 2 * fr > 2 ^ d ∨ (2 * fr = 2 ^ d ∧ t % 2 = 1) then t + 1 else t
    | .stoch r =>
      let fr := if d > 32 then fr / 2 ^ (d - 32) else fr
      let d := min d 32
      if fr + r % 2 ^ d ≥ 2 ^ d then t + 1 else t

/-- Unit in the last place of a format at a magnitude, as an exponent. -/
def FFmt.ulp (f : FFmt) (m : Nat) (e : Int) : Int :=
  max ((Nat.log2 m : Int) + e - f.mb) (1 - (f.bias + f.mb : Nat))

/-- `a` · 2^`ea` is greater than `b` · 2^`eb`. -/
def gtScaled (a : Nat) (ea : Int) (b : Nat) (eb : Int) : Bool :=
  let lo := min ea eb
  a * 2 ^ (ea - lo).toNat > b * 2 ^ (eb - lo).toNat

/-- Code of a rounded magnitude in range. -/
def FFmt.encode (f : FFmt) (sig : Nat) (u : Int) : Nat :=
  let p := if sig ≥ 2 ^ (f.mb + 1) then (sig / 2, u + 1) else (sig, u)
  if p.1 < 2 ^ f.mb then p.1
  else (p.2 + (f.bias + f.mb : Nat)).toNat * 2 ^ f.mb + (p.1 - 2 ^ f.mb)

/-- Result of rounding a finite value into a format: its code, or none where it rounds beyond the largest finite
value. -/
def FFmt.round (f : FFmt) (rnd : Rnd) (neg : Bool) (m : Nat) (e : Int) : Option Nat :=
  if m = 0 then some (f.sign neg)
  else
    let u := f.ulp m e
    let sig := roundAt rnd m e u
    let mx := f.maxFin
    if gtScaled sig u mx.1 mx.2 then none else some (f.sign neg + f.encode sig u)

/-! ### fp32 accumulators (R250, R251) -/

/-- A value as an fp32 code, rounded to nearest even; overflow gives an infinity. -/
def toF32 : FV → Nat
  | .nan => fp32.nanCode
  | .inf neg => fp32.sign neg + 0x7F800000
  | .fin neg m e => (fp32.round .near neg m e).getD (fp32.sign neg + 0x7F800000)

/-- Sum of two values. -/
def FV.add : FV → FV → FV
  | .nan, _ => .nan
  | _, .nan => .nan
  | .inf a, .inf b => if a = b then .inf a else .nan
  | .inf a, .fin .. => .inf a
  | .fin .., .inf b => .inf b
  | .fin na ma ea, .fin nb mb eb =>
    let lo := min ea eb
    let x : Int := (if na then -1 else 1) * (ma * 2 ^ (ea - lo).toNat : Nat)
    let y : Int := (if nb then -1 else 1) * (mb * 2 ^ (eb - lo).toNat : Nat)
    let z := x + y
    if z = 0 then .fin (na && nb) 0 lo else .fin (z < 0) z.natAbs lo

/-- Product of two values. -/
def FV.mul : FV → FV → FV
  | .nan, _ => .nan
  | _, .nan => .nan
  | .inf a, .inf b => .inf (a != b)
  | .inf a, .fin b m _ => if m = 0 then .nan else .inf (a != b)
  | .fin a m _, .inf b => if m = 0 then .nan else .inf (a != b)
  | .fin a m e, .fin b n k => .fin (a != b) (m * n) (e + k)

/-- fp32 addition. -/
def f32Add (a b : Nat) : Nat := toF32 ((fp32.decode a).add (fp32.decode b))
/-- fp32 multiplication. -/
def f32Mul (a b : Nat) : Nat := toF32 ((fp32.decode a).mul (fp32.decode b))
/-- fp32 code is a NaN. -/
def f32IsNan (a : Nat) : Bool := fp32.decode a == .nan
/-- Order of fp32 codes that are no NaN, −0 below +0 (R251). -/
def f32Key (a : Nat) : Int := if a ≥ 2 ^ 31 then -((a - 2 ^ 31 : Nat) : Int) - 1 else a
/-- fp32 maximum. -/
def f32Max (a b : Nat) : Nat :=
  if f32IsNan a || f32IsNan b then fp32.nanCode else if f32Key a ≥ f32Key b then a else b
/-- fp32 minimum. -/
def f32Min (a b : Nat) : Nat :=
  if f32IsNan a || f32IsNan b then fp32.nanCode else if f32Key a ≤ f32Key b then a else b

/-- Combine by the operation of the job: 0 SUM, 1 MAX, 2 MIN, 3 SUM_SCALED (R251). -/
def f32Combine (op : Nat) (a b : Nat) : Nat :=
  match op with
  | 1 => f32Max a b
  | 2 => f32Min a b
  | _ => f32Add a b

/-- An input element as fp32, with its block scale for an MX format (R250). -/
def f32In (code elem scale : Nat) : Nat :=
  let v := (fmtOf code).decode elem
  if isMx code then
    if scale = 0xFF then fp32.nanCode
    else match v with
      | .fin neg m e => toF32 (.fin neg m (e + (scale : Int) - 127))
      | v => toF32 v
  else toF32 v

/-- fp32 code is a NaN or an infinity. -/
def f32Special (a : Nat) : Bool := bitsOf a 23 8 == 255

/-! ### Output conversion (R252 to R254) -/

/-- What an output reports in DETAIL: NAN_OUT, INF_OUT, CLAMPED (Table 11.9). -/
structure OutFlags where
  nan : Bool
  inf : Bool
  clamp : Bool
  deriving DecidableEq, Repr

def OutFlags.none : OutFlags := ⟨false, false, false⟩
def OutFlags.or (a b : OutFlags) : OutFlags := ⟨a.nan || b.nan, a.inf || b.inf, a.clamp || b.clamp⟩

/-- One accumulator in an output format other than MX (Table 11.4). -/
def f32Out (code : Nat) (sat : Bool) (rnd : Rnd) (a : Nat) : Nat × OutFlags :=
  let f := fmtOf code
  let special (neg : Bool) (isInf : Bool) : Nat × OutFlags :=
    if f.sp = .e4m3 then
      if sat then (f.sign neg + f.maxCode, ⟨false, false, true⟩) else (f.nanCode, ⟨true, false, false⟩)
    else if sat && !isInf then (f.sign neg + f.maxCode, ⟨false, false, true⟩)
    else (f.sign neg + (2 ^ f.eb - 1) * 2 ^ f.mb, ⟨false, true, false⟩)
  if code = 0 then (a, ⟨f32IsNan a, f32Special a && !f32IsNan a, false⟩)
  else match fp32.decode a with
    | .nan => (f.nanCode, ⟨true, false, false⟩)
    | .inf neg => special neg true
    | .fin neg m e =>
      match f.round rnd neg m e with
      | some c => (c, OutFlags.none)
      | none => special neg false

/-- Largest magnitude's floor(log2) among accumulators, none when every one is zero. -/
def blockLog (l : List Nat) : Option Int :=
  l.foldl (fun o a =>
    match fp32.decode a with
    | .fin _ m e =>
      if m = 0 then o
      else
        let k := (Nat.log2 m : Int) + e
        some (match o with | some j => max j k | none => k)
    | _ => o) none

/-- One output block of an MX format: scale byte, element codes, flags (R253). -/
def mxBlock (code : Nat) (rnd : Nat → Rnd) (l : List Nat) : Nat × List Nat × OutFlags :=
  let f := fmtOf code
  if l.any f32Special then (0xFF, l.map fun _ => 0, ⟨l.any f32IsNan, true, false⟩)
  else
    let x : Int := match blockLog l with
      | none => -127
      | some k => max (-127) (min 127 (k - mxEmax code))
    let p := l.zipIdx.map fun (a, i) =>
      match fp32.decode a with
      | .fin neg m e =>
        match f.round (rnd i) neg m (e - x) with
        | some c => (c, false)
        | none => (f.sign neg + f.maxCode, true)
      | _ => (0, false)
    ((x + 127).toNat, p.map Prod.fst, ⟨false, false, p.any Prod.snd⟩)

/-- The stochastic number of an element (R254). -/
def stochR (seed job chunk elem : Nat) : Nat :=
  let m := 2 ^ 64
  let key := (seed * 2 ^ 32 + job * 2 ^ 16) % m
  let ctr := (chunk * 2 ^ 12 + elem) % m
  let z := key ^^^ (ctr * 0x9E3779B97F4A7C15 % m)
  let z := (z ^^^ (z / 2 ^ 30)) * 0xBF58476D1CE4E5B9 % m
  let z := (z ^^^ (z / 2 ^ 27)) * 0x94D049BB133111EB % m
  let z := z ^^^ (z / 2 ^ 31)
  z / 2 ^ 32

/-! ### Chunk images (R248) -/

/-- Flits of the scale area of `n` elements. -/
def scaleFlits (code n : Nat) : Nat := if isMx code then (n / 32 + 63) / 64 else 0
/-- Data flits of an image (Table 11.2). -/
def imageFlits (code n : Nat) : Nat := scaleFlits code n + (n * elemBits code + 511) / 512

/-- Elements whose last bit lies in data flit `j`: from the first to before the second number. -/
def elemsOfFlit (code n j : Nat) : Nat × Nat :=
  let b := 512 * scaleFlits code n
  let w := elemBits code
  (min n ((512 * j - b) / w), min n ((512 * (j + 1) - b) / w))

/-- An image of data flits as one number. -/
def imageNat (l : List (BitVec 512)) : Nat := l.foldr (fun f a => f.toNat + a * 2 ^ 512) 0

/-- fp32 of element `i` of an image. -/
def imageElem (code n img i : Nat) : Nat :=
  let b := 512 * scaleFlits code n
  f32In code (bitsOf img (b + elemBits code * i) (elemBits code)) (if isMx code then bitsOf img (8 * (i / 32)) 8 else 0)

/-- Split a list into blocks of `k`, at most `fuel` of them. -/
def blocksOf {α : Type} (k : Nat) : Nat → List α → List (List α)
  | 0, _ => []
  | fuel + 1, l => if l.isEmpty then [] else l.take k :: blocksOf k fuel (l.drop k)

/-- Place codes of `w` bits one after another. -/
def packElems (w : Nat) (l : List Nat) : Nat := l.foldr (fun c a => c + a * 2 ^ w) 0

/-- The output image of a chunk's accumulators as a number, with its flags (R252, R253). -/
def outImage (code : Nat) (sat : Bool) (rnd : Nat → Rnd) (acc : List Nat) : Nat × OutFlags :=
  if isMx code then
    let bl := (blocksOf 32 (acc.length / 32) acc).zipIdx.map fun (l, b) => mxBlock code (fun i => rnd (32 * b + i)) l
    (packElems 8 (bl.map fun x => x.1) + packElems (elemBits code) (bl.flatMap fun x => x.2.1) * 2 ^ (512 * scaleFlits code acc.length),
      bl.foldl (fun f x => f.or x.2.2) OutFlags.none)
  else
    let l := acc.zipIdx.map fun (a, i) => f32Out code sat (rnd i) a
    (packElems (elemBits code) (l.map Prod.fst), l.foldl (fun f x => f.or x.2) OutFlags.none)

/-- A number cut into `n` data flits. -/
def imageSplit (n img : Nat) : List (BitVec 512) := (List.range n).map fun j => BitVec.ofNat 512 (bitsOf img (512 * j) 512)

end Sys2Proof.Machine
end

