-- ==== Sys2Proof/Machine/RingOps.lean ====
section
/-!
DEFINITION. The ring engine's shared operations (R219 to R242): doorbell and shadow lines, fetching, the check of a
descriptor, starting and completing one, halting a ring, and message-signalled writes.
-/
namespace Sys2Proof.Machine

/-- Submission kinds (Table 10.1). -/
def Ring.isSub (r : Ring) : Bool := r.kind < 3

/-- Completion FIFO slots held (FIFO_OCC). -/
def State.fifoOcc (s : State) : Nat := (s.rings.ring.map fun p => p.2.slots).sum

/-- Raise the RING event (Table 10.10). -/
def State.ringEvent (s : State) (r code : Nat) (config : Bool) (index : Nat) : State :=
  s.raiseBody 3 (packNat [(0, 6, r), (6, 4, code), (10, 1, b2n config), (16, 32, index), (48, 32, (s.ring r).portIdx.toNat)]) 0

/-- Refuse a configuration: CFG_ERR and the RING event (R241, R243). -/
def State.cfgRefuse (s : State) (r code : Nat) : State :=
  { s with rings.cfgErr := s.rings.cfgErr + 1 }.ringEvent r code true 0

/-! ### Doorbell and shadow lines -/

/-- Enabled rings of a line. -/
def State.lineRings (s : State) (k : Fin 8) : List Nat :=
  (List.range 64).filter fun r => (s.ring r).enabled && (s.ring r).dbLine == k

/-- Tenant of a line: the one owner of its rings (R221). -/
def State.lineOwner (s : State) (k : Fin 8) : BitVec 8 :=
  match s.lineRings k with
  | [] => 0
  | r :: _ => s.ringOwner r

/-- Address of a 64-byte line register pair. -/
def lineAddr (lo hi : Reg) : Nat := bf hi 0 20 * 2 ^ 32 + bf lo 6 26 * 2 ^ 6

/-- Issue the watch read of a line (R224). -/
def State.watchRead (s : State) (k : Fin 8) : State :=
  let l := s.rings.line.get k
  (s.ringMem ⟨.watchRead, 0, s.lineOwner k, BitVec.ofNat 52 (lineAddr l.dbLo l.dbHi), 64, 0, false, k.val, 0⟩).modLine k
    fun l => { l with st := .reading }

/-- The 64 bytes of a shadow line: the visible index of each enabled ring in its slot, zero elsewhere (R223, R226). -/
def State.shadowData (s : State) (k : Fin 8) : Nat :=
  ((s.lineRings k).map fun r => (s.ring r).visible.toNat * 2 ^ (64 * (s.ring r).dbSlot)).sum

/-- Write a shadow line (R226). Message-signalled writes whose entries it covers wait for its response (R240). -/
def State.writeShadow (s : State) (k : Fin 8) : State :=
  let l := s.rings.line.get k
  let s := s.ringMem ⟨.shadowWrite, 0, s.lineOwner k, BitVec.ofNat 52 (lineAddr l.shLo l.shHi), 64, s.shadowData k, false, k.val, 0⟩
  let s := s.modLine k fun l => { l with dirtyAt := none, shWait := l.shWait + 1 }
  (s.lineRings k).foldl (fun st r => st.modRing r fun g => { g with
    shadowed := g.visible, msiWait := 0, msiPend := g.msiPend + g.msiWait }) s

/-- An index the port owns moved: its shadow line is written at once where the index has moved 16 since the last shadow write,
or with SHADOW_NS zero; else it becomes dirty (R226). -/
def State.indexMoved (s : State) (r : Nat) : State :=
  let g := s.ring r
  let s := s.dirty g.dbLine
  if (g.visible - g.shadowed).toNat ≥ 16 ∨ bf s.rings.ctl 10 8 = 0 then s.writeShadow g.dbLine else s

/-! ### Halting (Table 10.11) -/

/-- Discard the FIFO entries of a completion ring and release their slots. -/
def State.discardFifo (s : State) (c : Nat) : State :=
  let n := (s.rings.fifo.filter fun e => e.cplRing.val = c).length
  { s with
    rings.fifo := s.rings.fifo.filter fun e => e.cplRing.val ≠ c
    rings.cplDiscarded := s.rings.cplDiscarded + BitVec.ofNat 16 n }.modRing c fun g => { g with slots := g.slots - n }

/-- A ring enters HALTED. -/
def State.haltOne (s : State) (r code index : Nat) : State :=
  let g := s.ring r
  let s := { s.modRing r fun g => { g with st := .halted, haltCode := BitVec.ofNat 4 code } with rings.halts := s.rings.halts + 1 }
  if g.kind = 4 then { s with rings.evtHalted := true } else s.ringEvent r code false index

/-- Halt a ring that runs or drains; a completion ring takes with it the submission rings that name it. -/
def State.haltRing (s : State) (r code index : Nat) : State :=
  let g := s.ring r
  if g.st != .running && g.st != .draining then s
  else
    let s := s.haltOne r code index
    if g.kind = 3 then
      ((List.range 64).filter fun q => (s.ring q).isSub && ((s.ring q).st == .running || (s.ring q).st == .draining)
          && (s.ring q).cplRing == r).foldl (fun st q => st.haltOne q 6 0) (s.discardFifo r)
    else s

/-! ### Fetching (R228, R229) -/

/-- The ring engine fetches: no drain toward PARK runs (R242). -/
def State.fetchOpen (s : State) : Bool := s.pwr.draining != .park && s.start.st != .park

/-- Descriptors fetched or being fetched and not started. -/
def Ring.waiting (g : Ring) : Nat := (g.descs.filter fun e => e.st != .started && e.st != .running).length

/-- Issue descriptor fetches, at most `n`, while the ring runs and fewer than eight wait. -/
def State.fetchMore : Nat → State → Nat → State
  | 0, s, _ => s
  | n + 1, s, r =>
    let g := s.ring r
    if g.st == .running && g.isSub && s.fetchOpen && g.fetchIdx != g.swIdx && g.waiting < 8 then
      let s := s.ringMem ⟨.descFetch, 0, s.ringOwner r, BitVec.ofNat 52 (g.entryAddr g.fetchIdx), 64, 0, false, r, g.fetchIdx.toNat⟩
      let s := s.modRing r fun g => { g with
        fetchIdx := g.fetchIdx + 1
        toCancel := g.toCancel.erase g.fetchIdx
        descs := g.descs ++ [⟨g.fetchIdx, .fetching, 0, 0, g.toCancel.contains g.fetchIdx, none⟩] }
      State.fetchMore n s r
    else s

/-- Consumer index: every descriptor below it has been taken. -/
def Ring.consumed (g : Ring) : BitVec 32 :=
  match g.descs.find? fun e => e.st == .fetching || e.st == .rereading with
  | some e => e.index
  | none => g.fetchIdx

/-- Move the consumer index to what has been taken; a ring that has become empty writes its shadow line (R226). -/
def State.consume (s : State) (r : Nat) : State :=
  let g := s.ring r
  let c := g.consumed
  if c = g.portIdx then s
  else
    let s := (s.modRing r fun g => { g with portIdx := c, visible := c }).indexMoved r
    if c = g.swIdx && (s.rings.line.get g.dbLine).dirtyAt.isSome then s.writeShadow g.dbLine else s

/-- Apply a doorbell slot to a ring (R225). -/
def State.applySlot (s : State) (r : Nat) (v : BitVec 32) : State :=
  let g := s.ring r
  if g.st != .running || v = g.swIdx then s
  else
    let window := if g.isSub then (v - g.portIdx).toNat else (g.portIdx - v).toNat
    if window > g.size then s.haltRing r 1 v.toNat
    else if (v - g.swIdx).toNat ≥ 2 ^ 31 then s.haltRing r 2 v.toNat
    else (s.modRing r fun g => { g with swIdx := v }).fetchMore 8 r

/-! ### Checking a descriptor (R228) -/

/-- Fields of the operands of an opcode, as (lowest bit, length); every other operand bit is reserved. -/
def dFields (op : Nat) : List (Nat × Nat) :=
  match op with
  | 0x01 => [(64, 3), (68, 1), (80, 1)]
  | 0x02 | 0x03 => [(64, 4), (80, 6)]
  | 0x04 => [(64, 4), (69, 6), (80, 8)]
  | 0x05 => [(64, 4), (69, 6)]
  | 0x06 => [(64, 11), (80, 1)]
  | 0x07 => [(64, 4), (69, 6), (80, 16)]
  | 0x08 => [(64, 4), (69, 6), (80, 6)]
  | 0x09 => [(80, 32)]
  | 0x0A => [(80, 32)]
  | 0x0D => [(80, 7), (96, 32)]
  | 0x0E | 0x0F => [(80, 8)]
  | 0x20 => [(64, 407)]
  | 0x21 => [(64, 16)]
  | 0x30 => [(64, 204)]
  | 0x31 | 0x32 | 0x34 => [(64, 12)]
  | 0x33 => [(80, 24)]
  | 0x35 => [(64, 14), (80, 32)]
  | 0x36 => [(64, 14), (80, 52)]
  | _ => []

/-- A reserved bit of the descriptor is set. -/
def dReserved (d : Desc) : Bool :=
  let allowed := ((0, 10) :: (16, 48) :: dFields (dOpcode d)).foldl (fun m f => m ||| (2 ^ f.2 - 1) * 2 ^ f.1) 0
  d.toNat &&& (2 ^ 512 - 1 - allowed) != 0

/-- Opcodes a ring kind accepts (Table 10.1). -/
def kindAccepts (kind op : Nat) : Bool :=
  match kind with
  | 0 => op < 16
  | 1 => op == 0 || op == 13 || op == 0x20 || op == 0x21
  | 2 => op == 0 || op == 13 || (0x30 ≤ op && op ≤ 0x36)
  | _ => false

/-- Strand numbers of the class (Table 10.4). -/
def PortClass.strandOk (c : PortClass) (p : Nat) : Bool := p < c.nstrands

/-- R256 and the field sizes of Table 11.5. -/
def reduceBad (d : Desc) : Bool :=
  let nch := bf d 144 32
  let stride := bf d 176 16
  let cl := bf d 192 4
  !fmtKnown (bf d 82 4) || !fmtKnown (bf d 86 4) || cl < 8 || 12 < cl || nch == 0 || stride == 0
    || bf d 112 32 + stride * (nch - 1) > 2 ^ 32 - 1 || (!bit d 93 && !bit d 94)
    || (bit d 93 && bf d 276 6 != 0) || (bf d 360 8 == 0xFF && !bit d 378)
    || (bit d 379 && !bit d 410 && bf d 411 16 == 0) || bf d 467 4 == 13 || bf d 467 4 == 14

/-- HT_CONFIG operands that complete with status 0x06 (R295). -/
def htConfigBad (c : PortClass) (d : Desc) : Bool :=
  let mode := bit d 76
  let role := bf d 77 2
  let target := bf d 112 32
  let valid := (List.range 4).map fun i => bit d (144 + 31 * i)
  let far := (List.range 4).map fun i => bit d (144 + 31 * i) && bf d (145 + 31 * i) 8 == 0xFF
  (mode && target == 0) || (!mode && target != 0) || role == 3 || (role == 0 && valid.any id)
    || (role == 2 && (valid.drop 1).any id) || (c == .sc && far.any id)

/-- Hitches of the class's engine (R275). -/
def PortClass.hitches : PortClass → Nat
  | .sc => 4096
  | .fib => 1024
  | _ => 0

/-- Hitch numbers an operand may name: where the class has no engine, every number the field holds, since check 5 comes after. -/
def PortClass.hitchLimit (c : PortClass) : Nat := if c.hitches = 0 then 4096 else c.hitches

/-- An operand is out of range (check 4 of R228). -/
def operandBad (c : PortClass) (d : Desc) : Bool :=
  match dOpcode d with
  | 0x02 | 0x03 => !c.widths.contains (bf d 80 6)
  | 0x04 => !c.strandOk (dStrand d) || !(bf d 80 6 == 0x3F || c.strandOk (bf d 80 6)) || bf d 86 2 == 3
  | 0x05 => !c.strandOk (dStrand d)
  | 0x06 => !dAll d && !bit d 80 && !c.strandOk (dStrand d)
  | 0x07 => !c.strandOk (dStrand d)
  | 0x08 => !c.strandOk (dStrand d) || bf d 80 6 < 20 || 40 < bf d 80 6
  | 0x09 => bf d 92 20 == 0
  | 0x20 => reduceBad d
  | 0x30 => c.hitchLimit ≤ bf d 64 12 || htConfigBad c d
  | 0x31 | 0x32 | 0x34 => c.hitchLimit ≤ bf d 64 12
  | 0x35 | 0x36 => c.hitchLimit ≤ bf d 64 12 || bf d 76 2 == 3
  | _ => false

/-- Checks 3 to 6 of R228: the status of the first that fails. -/
def State.descCheck (s : State) (r : Nat) (d : Desc) : Option Nat :=
  let op := dOpcode d
  if !kindAccepts (s.ring r).kind op then some 0x05
  else
    let noEngine := (0x20 ≤ op && op < 0x30 && !s.hasRed)
      || (0x30 ≤ op && op < 0x40 && (!s.hasHitch || s.start.spare))
    if dReserved d || operandBad s.cls d then some 0x06
    else if noEngine then some 0x04
    else if (op = 0x0E ∨ op = 0x0F) ∧ s.cls ≠ .sb then some 0x10
    else none

/-! ### Starting and completing -/

/-- One descriptor of a ring. -/
def State.desc (s : State) (r : Nat) (i : BitVec 32) : Option RingDesc := (s.ring r).descs.find? fun e => e.index = i

/-- Change one descriptor of a ring. -/
def State.modDesc (s : State) (r : Nat) (i : BitVec 32) (f : RingDesc → RingDesc) : State :=
  s.modRing r fun g => { g with descs := g.descs.map fun e => if e.index = i then f e else e }

/-- The completion ring of a submission ring can lend one more slot (R234). -/
def State.slotFree (s : State) (r : Nat) : Bool :=
  let c := s.ring (s.ring r).cplRing
  c.st == .running && c.kind == 3 && c.slots < c.share

/-- Hold one more completion slot for a ring. -/
def State.reserve (s : State) (r : Nat) : State :=
  let s := s.modRing (s.ring r).cplRing fun c => { c with slots := c.slots + 1 }
  { s with rings.fifoHigh := if s.fifoOcc > s.rings.fifoHigh.toNat then BitVec.ofNat 9 s.fifoOcc else s.rings.fifoHigh }

/-- Status a completion releases its slot with, at a completion ring that is disabled or halted: the entry is lost
and counted (R219). -/
def State.loseEntry (s : State) (c : Nat) : State :=
  { s with rings.cplDiscarded := s.rings.cplDiscarded + 1 }.modRing c fun g => { g with slots := g.slots - 1 }

/-- A line that no enabled ring uses any more is left. -/
def State.leaveLine (s : State) (k : Fin 8) : State :=
  if (s.lineRings k).isEmpty then s.modLine k fun l => { l with st := .unused, pending := false, dirtyAt := none } else s

/-- The last started descriptor of a draining ring is gone: it becomes DISABLED and its shadow line is written. -/
def State.drainedRing (s : State) (r : Nat) : State :=
  let g := s.ring r
  if g.st == .draining && g.descs.all (fun e => e.st == .fetching || e.st == .rereading) then
    ((s.writeShadow g.dbLine).modRing r fun g => { g with
      st := .disabled, cfg := setBf g.cfg 0 1 0, descs := [], toCancel := [] }).leaveLine g.dbLine
  else s

/-- Enter the completion of one descriptor that holds a slot into the FIFO (R233, R235). -/
def State.completeOne (s : State) (r : Nat) (i : BitVec 32) (status result detail : Nat) : State :=
  match s.desc r i with
  | none => s
  | some e =>
    let c := (s.ring r).cplRing
    let s := s.modRing r fun g => { g with descs := g.descs.filter fun x => x.index ≠ i }
    let cg := s.ring c
    let s :=
      if cg.st == .running && cg.kind == 3 then
        { s with rings.fifo := s.rings.fifo ++ [⟨Fin.ofNat 64 r, Fin.ofNat 64 c, status, dOpcode e.desc, i,
          BitVec.ofNat 32 (dUser e.desc), BitVec.ofNat 64 result, BitVec.ofNat 32 detail, BitVec.ofNat 48 (s.ts 48),
          dInterrupt e.desc⟩] }
      else s.loseEntry c
    (s.drainedRing r).fetchMore 8 r

/-- Complete every CANCEL whose targets have all ended, at most `n` (R232). -/
def State.settleCancels : Nat → State → State
  | 0, s => s
  | n + 1, s =>
    match s.rings.cancels.find? fun j => j.targets.isEmpty with
    | none => s
    | some j =>
      let gone := fun t : RingNo × BitVec 32 => t != (j.ring, j.index)
      let rest := (s.rings.cancels.erase j).map fun k => { k with targets := k.targets.filter gone }
      State.settleCancels n ({ s with rings.cancels := rest }.completeOne j.ring.val j.index 0 j.count j.detail)

/-- Complete a descriptor: its entry enters the FIFO, and just after it that of a CANCEL that waited for it. -/
def State.complete (s : State) (r : Nat) (i : BitVec 32) (status : Nat) (result : Nat := 0) (detail : Nat := 0) : State :=
  let s := s.completeOne r i status result detail
  let gone := fun t : RingNo × BitVec 32 => t != (Fin.ofNat 64 r, i)
  let s := { s with rings.cancels := s.rings.cancels.map fun k => { k with targets := k.targets.filter gone } }
  State.settleCancels s.rings.cancels.length s

/-- A descriptor may start now: its ring runs, it passed its checks, every earlier one has started, its barrier is
satisfied and its completion ring can lend a slot (R229, R234). -/
def State.startable (s : State) (r : Nat) (e : RingDesc) : Bool :=
  let g := s.ring r
  let earlier := g.descs.takeWhile fun x => x.index ≠ e.index
  g.st == .running && e.st == .ready && !e.marked && e.bad.isNone && s.slotFree r
    && earlier.all (fun x => x.st == .started || x.st == .running)
    && (!dBarrier e.desc || earlier.isEmpty)

/-- Complete a descriptor that never starts with a status, when a slot can be had; else it waits. -/
def State.completeUnstarted (s : State) (r : Nat) (i : BitVec 32) (status : Nat) : State :=
  if s.slotFree r then (s.reserve r).complete r i status
  else s.modDesc r i fun e => { e with st := .ready, bad := some status }

/-- Mark a descriptor as running, reserving its slot where the dispatcher has not (R229). -/
def State.startDesc (s : State) (r : Nat) (e : RingDesc) : State :=
  let s := if e.st == .ready then s.reserve r else s
  (s.modDesc r e.index fun x => { x with st := .running }).fetchMore 8 r

/-- The command of a descriptor runs: where the descriptor of that opcode is started or may start, its work is done on
the state in which it runs; else nothing happens. -/
def State.withDesc (s : State) (r : RingNo) (i : BitVec 32) (op : Nat) (work : Desc → State → State) : State :=
  match s.desc r.val i with
  | none => s
  | some e =>
    if dOpcode e.desc = op ∧ (e.st = .started ∨ s.startable r.val e) then work e.desc (s.startDesc r.val e) else s

/-! ### Message-signalled writes (R240) -/

/-- Issue the message-signalled write of a ring. -/
def State.sendMsi (s : State) (r : Nat) : State :=
  let g := s.ring r
  let addr := bf g.msiHi 0 20 * 2 ^ 32 + bf g.msiLo 2 30 * 4
  (s.ringMem ⟨.msiWrite, 5, s.ringOwner r, BitVec.ofNat 52 addr, 4, g.msiData.toNat, false, r, 0⟩).modRing r
    fun g => { g with msiLast := some s.now, msiHold := false }

/-- A request for a message-signalled write whose entry and shadow write are visible: within HOLDOFF of the last write
it is merged. -/
def State.requestMsi (s : State) (r : Nat) : State :=
  let g := s.ring r
  let hold := us (bf g.msiHi 20 12)
  match g.msiLast with
  | some t => if s.now < t + hold then s.modRing r fun g => { g with msiHold := true } else s.sendMsi r
  | none => s.sendMsi r

end Sys2Proof.Machine
end

