-- ==== Sys2Proof/Machine/RedOps.lean ====
section
/-!
DEFINITION. The reduction engine's shared operations (R244 to R273): scratch and spill, combining, closing a chunk,
its outputs, and the end of a job.
-/
namespace Sys2Proof.Machine

/-! ### Operands of a REDUCE (Table 11.5) -/

def rdJob (d : Desc) : Nat := bf d 64 16
def rdOp (d : Desc) : Nat := bf d 80 2
def rdIn (d : Desc) : Nat := bf d 82 4
def rdOut (d : Desc) : Nat := bf d 86 4
def rdRank (d : Desc) : Bool := bit d 90
def rdStoch (d : Desc) : Bool := bit d 91
def rdSat (d : Desc) : Bool := bit d 92
def rdMem (d : Desc) : Bool := bit d 93
def rdFwd (d : Desc) : Bool := bit d 94
def rdMirror (d : Desc) : Bool := bit d 95
def rdRanks (d : Desc) : Nat := bf d 96 16 + 1
def rdFirst (d : Desc) : Nat := bf d 112 32
def rdChunks (d : Desc) : Nat := bf d 144 32
def rdStride (d : Desc) : Nat := bf d 176 16
def rdLog2 (d : Desc) : Nat := bf d 192 4
def rdElems (d : Desc) : Nat := 2 ^ rdLog2 d
def rdSpillLog2 (d : Desc) : Nat := bf d 467 4

/-- Position of a chunk index among the job's chunks (Table 11.5). -/
def rdPos (d : Desc) (c : Nat) : Option Nat :=
  if c < rdFirst d ∨ (c - rdFirst d) % rdStride d ≠ 0 ∨ (c - rdFirst d) / rdStride d ≥ rdChunks d then none
  else some ((c - rdFirst d) / rdStride d)

/-! ### Heads (Table 11.1) -/

def hdJob (f : NocFlit) : Nat := payBits f 0 16
def hdRank (f : NocFlit) : Nat := payBits f 16 16
def hdChunk (f : NocFlit) : Nat := payBits f 32 32
def hdFormat (f : NocFlit) : Nat := payBits f 64 4
def hdLog2 (f : NocFlit) : Nat := payBits f 68 4
def hdFlits (f : NocFlit) : Nat := payBits f 80 10

/-- The flow of a flit: the key bytes of R207. -/
def flowKey (f : NocFlit) : List Nat := [flitSrcDie f, flitSrcEp f, (flitVc f).val, flitDstDie f, flitTenant f]

/-! ### Scratch (R264) -/

/-- Granules of an accumulator and of a rank bitmap. -/
def accGrans (d : Desc) : Nat := 2 ^ (rdLog2 d + 2) / 1024
def mapGrans (d : Desc) : Nat := (rdRanks d + 8191) / 8192
/-- Granules of an image of a number of data flits. -/
def imgGrans (flits : Nat) : Nat := (flits + 15) / 16

/-- Granules of the held contributions of a chunk: those of a rank not yet its turn. -/
def heldGrans (d : Desc) (c : Chunk) : Nat :=
  ((c.held.filter fun h => !(rdRank d && h.rank == c.nextRank)).map fun _ => imgGrans (imageFlits (rdIn d) (rdElems d))).sum

/-- Granules a chunk needs while OPEN. -/
def needGrans (d : Desc) (c : Chunk) : Nat := accGrans d + mapGrans d + heldGrans d c

/-- Scratch granules a chunk holds now; a SPILLED chunk frees them as its write acknowledgements arrive. -/
def chunkGrans (d : Desc) (c : Chunk) : Nat :=
  match c.st with
  | .spilled => (c.wait + 15) / 16
  | _ => needGrans d c

def jobGrans (j : RedJob) : Nat := (j.chunks.map (chunkGrans j.desc)).sum

/-- Granules of the pre-job hold. -/
def State.holdGrans (s : State) : Nat := (s.red.hold.map fun h => imgGrans (hdFlits h.head)).sum

/-- Free scratch granules (FREE_GRAN). -/
def State.freeGrans (s : State) : Nat :=
  1024 - ((s.red.jobs.map fun p => jobGrans p.2).sum + s.holdGrans + imgGrans s.red.mirrorWait.length)

/-- Chunk records in use (CHUNKS). -/
def State.chunkRecords (s : State) : Nat := (s.red.jobs.map fun p => p.2.chunks.length).sum

/-! ### Access -/

def State.redJob (s : State) (slot : Nat) : Option RedJob := tfind s.red.jobs slot
def State.modJob (s : State) (slot : Nat) (f : RedJob → RedJob) : State :=
  { s with red.jobs := s.red.jobs.map fun p => if p.1 = slot then (p.1, f p.2) else p }
def RedJob.chunk (j : RedJob) (idx : Nat) : Option Chunk := j.chunks.find? fun c => c.idx = idx
def State.modChunk (s : State) (slot idx : Nat) (f : Chunk → Chunk) : State :=
  s.modJob slot fun j => { j with chunks := j.chunks.map fun c => if c.idx = idx then f c else c }

/-- Queue a flit or memory request of the engine at egress (R213). -/
def State.redEgress (s : State) (w : EgWhat) (vc : Fin 8) (last : Option (Nat × Nat)) : State :=
  { s with noc.qRed := s.noc.qRed ++ [⟨w, vc, s.now, last⟩] }

/-! ### Discards (R259, R271) -/

/-- Count a cause of Table 11.6 and raise the reduction-discard event the first time it meets a job. -/
def State.redDiscard (s : State) (slot : Option Nat) (cause job chunk rank : Nat) : State :=
  let s := match cause with
    | 1 => { s with red.cUnknown := s.red.cUnknown + 1 }
    | 2 => { s with red.cRange := s.red.cRange + 1 }
    | 3 => { s with red.cFormat := s.red.cFormat + 1 }
    | 4 => { s with red.cLate := s.red.cLate + 1 }
    | 5 => { s with red.cDup := s.red.cDup + 1 }
    | 6 => { s with red.cStreams := s.red.cStreams + 1 }
    | 7 => { s with red.cScratch := s.red.cScratch + 1 }
    | _ => { s with red.cTrunc := s.red.cTrunc + 1 }
  let ev := fun s : State => s.raise 0x38 (code := cause) (arg0 := job + rank * 65536) (arg1 := chunk)
  match slot with
  | none => s.raiseLimited 0x38 fun s _ => ev s
  | some k =>
    match s.redJob k with
    | none => s
    | some j =>
      let first := !bit j.seen (cause - 1)
      let s := s.modJob k fun j => { j with
        seen := j.seen ||| BitVec.ofNat 8 (2 ^ (cause - 1))
        flags := if cause = 8 then j.flags else j.flags ||| 16 }
      if first then ev s else s

/-! ### Combining (R251, R260) -/

/-- Combine one value into an accumulator. -/
def combineInto (op : Nat) (a : Option Nat) (v : Nat) : Option Nat :=
  match a with
  | none => some v
  | some x => some (f32Combine op x v)

/-- Combine elements `lo` to before `hi` of an image; also whether one of them was a NaN or infinity. -/
def combineRange (d : Desc) (img lo hi : Nat) (acc : List (Option Nat)) : List (Option Nat) × Bool :=
  let vals := (List.range (hi - lo)).map fun k => imageElem (rdIn d) (rdElems d) img (lo + k)
  (acc.zipIdx.map fun (a, i) => if lo ≤ i ∧ i < hi then combineInto (rdOp d) a (vals.getD (i - lo) 0) else a,
    vals.any f32Special)

/-- Combine the flits of a held image from `frm` on. -/
def combineHeld (d : Desc) (h : HeldRank) (acc : List (Option Nat)) : List (Option Nat) × Bool :=
  let n := rdElems d
  let lo := (elemsOfFlit (rdIn d) n h.frm).1
  let hi := if h.image.length = 0 then lo else (elemsOfFlit (rdIn d) n (h.image.length - 1)).2
  combineRange d (imageNat h.image) lo hi acc

/-- Combine a held rank into its chunk, at a job: INF_IN noted. -/
def State.takeHeld (s : State) (slot : Nat) (d : Desc) (c : Chunk) (h : HeldRank) : Chunk × State :=
  let r := combineHeld d h c.acc
  ({ c with acc := r.1, held := c.held.erase h },
    if r.2 then s.modJob slot fun j => { j with flags := j.flags ||| 8 } else s)

/-- RANK order: combine every held rank whose turn it is, at most `n`; a rank still arriving keeps its place. -/
def State.advance : Nat → State → Nat → Desc → Chunk → Chunk × State
  | 0, s, _, _, c => (c, s)
  | n + 1, s, slot, d, c =>
    match c.held.find? fun h => h.rank = c.nextRank ∧ h.whole with
    | none => (c, s)
    | some h =>
      let p := s.takeHeld slot d c h
      State.advance n p.2 slot d { p.1 with nextRank := c.nextRank + 1 }

/-- Combine every held rank in ascending order, missing ranks skipped, at most `n` (R262). -/
def State.combineAll : Nat → State → Nat → Desc → Chunk → Chunk × State
  | 0, s, _, _, c => (c, s)
  | n + 1, s, slot, d, c =>
    match c.held with
    | [] => (c, s)
    | h0 :: t =>
      let h := t.foldl (fun m x => if x.rank < m.rank then x else m) h0
      let p := s.takeHeld slot d c h
      State.combineAll n p.2 slot d p.1

/-! ### Closing a chunk (R252, R267, R268) -/

/-- How the elements of a chunk round (R254). -/
def rdRnd (d : Desc) (chunk : Nat) (i : Nat) : Rnd :=
  if rdStoch d then .stoch (stochR (bf d 244 32) (rdJob d) chunk i) else .near

/-- The values of a closing chunk: an element nothing was combined into holds a free value (assumption log 22). -/
def closeValues (ctr : Nat) (acc : List (Option Nat)) : List Nat :=
  acc.zipIdx.map fun (a, i) => match a with
    | some v => v
    | none => Config.freeValue (ctr + i) % 2 ^ 32

/-- Final scale of SUM_SCALED (R251). -/
def finalScale (d : Desc) (l : List Nat) : List Nat :=
  if rdOp d = 3 then l.map fun v => f32Mul v (bf d 212 32) else l

/-- Header of a forwarded contribution flit (R267). -/
def State.fwdFlit (s : State) (j : RedJob) (typ tag : Nat) (poison : Bool) (pay : Nat) : NocFlit :=
  let far := bf j.desc 360 8 == 0xFF
  mkFlit 4 j.owner.toNat s.ownDie.toNat s.straps.redEp.toNat (bf j.desc 360 8) (if far then 0x3FF else bf j.desc 368 10)
    typ tag poison pay

/-- The flits of a forwarded chunk: one head, its data (R247, R267). -/
def State.fwdFlits (s : State) (j : RedJob) (c : Nat) (poison : Bool) (img : List (BitVec 512)) : List NocFlit :=
  let head := packNat [(0, 16, bf j.desc 328 16), (16, 16, bf j.desc 344 16), (32, 32, c), (64, 4, rdOut j.desc),
    (68, 4, rdLog2 j.desc), (80, 10, img.length)]
  s.fwdFlit j 0x38 0x3FF poison head :: img.zipIdx.map fun (x, k) => s.fwdFlit j 0x39 k poison x.toNat

/-- A chunk becomes CLOSED with given values: conversion to OUT_FMT, outputs ready. -/
def State.closeWith (s : State) (slot : Nat) (j : RedJob) (c : Chunk) (vals : List Nat) : State :=
  let d := j.desc
  let o := outImage (rdOut d) (rdSat d) (rdRnd d c.idx) vals
  let flits := imageFlits (rdOut d) (rdElems d)
  let img := imageSplit flits o.1
  let base := bf d 276 52 + (c.idx - rdFirst d) * (flits * 64)
  let c := { c with
    st := .closed
    held := []
    memLeft := if rdMem d then img.zipIdx.map fun (x, k) => (base + 64 * k, x) else []
    fwdLeft := if rdFwd d then s.fwdFlits j c.idx c.poisoned img else []
    acks := 0
    fwdDone := !rdFwd d
    begun := false }
  s.modJob slot fun j => { j with
    chunks := if j.chunks.any (fun x => x.idx = c.idx) then j.chunks.map fun x => if x.idx = c.idx then c else x else j.chunks ++ [c]
    pois := j.pois || (c.poisoned && !c.byTimer)
    flags := j.flags ||| BitVec.ofNat 7 (packNat [(0, 1, b2n o.2.nan), (1, 1, b2n o.2.inf), (2, 1, b2n o.2.clamp)]) }

/-- Close an OPEN chunk: its accumulators take the final scale (Table 11.7). -/
def State.closeChunk (s : State) (slot : Nat) (j : RedJob) (c : Chunk) : State :=
  let vals := finalScale j.desc (closeValues s.freeCtr c.acc)
  ({ s with freeCtr := s.freeCtr + c.acc.length }).closeWith slot j c vals

/-- A contribution is still arriving at a chunk. -/
def State.streaming (s : State) (slot idx : Nat) : Bool :=
  s.red.streams.any fun t => match t.dest with
    | .chunk k i _ => k == slot && i == idx
    | .prehold _ | .gone => false

/-- Contributions still arriving at chunks of a job that will not combine them any more: their entries stay open until their last
data flit, which only a mirrored copy still uses (R249, R267). -/
def State.loseStreams (s : State) (slot : Nat) (lost : Nat → Bool) : State :=
  { s with red.streams := s.red.streams.map fun t => match t.dest with
      | .chunk k i _ => if k == slot && lost i then { t with dest := .gone } else t
      | .prehold _ | .gone => t }

/-- Store a chunk, closing it when every rank has been received and combined (Table 11.7). -/
def State.putChunk (s : State) (slot : Nat) (c : Chunk) : State :=
  match s.redJob slot with
  | none => s
  | some j =>
    let s := s.modChunk slot c.idx fun _ => c
    if c.st = .opened ∧ c.ranks.length ≥ rdRanks j.desc ∧ c.held.isEmpty ∧ !s.streaming slot c.idx then s.closeChunk slot j c
    else s

/-- Lowest rank a chunk has not received. -/
def lowestMissing (ranks : List Nat) (n : Nat) : Nat := ((List.range n).find? fun r => !ranks.contains r).getD 0

/-- Address of a spill granule. -/
def spillAddr (d : Desc) (g : Nat) : Nat := bf d 427 40 * 4096 + g * 1024

/-- Refill a spilled chunk: VC 0 reads of its granules (R265). -/
def State.startRefill (s : State) (slot idx : Nat) : State :=
  match s.redJob slot with
  | none => s
  | some j =>
    match j.chunk idx with
    | none => s
    | some c =>
      let s := c.spill.foldl (fun a g => (List.range 16).foldl (fun a k => a.redEgress (.mem ⟨.refillRead, 0, j.owner,
        BitVec.ofNat 52 (spillAddr j.desc g + 64 * k), 64, 0, false, slot, idx⟩) 0 none) a) s
      let s := s.modChunk slot idx fun c => { c with st := .refilling, wait := 16 * c.spill.length }
      { s with red.refills := s.red.refills + BitVec.ofNat 16 c.spill.length }

/-- A timer closes a chunk: held ranks combined in order, poisoned (R262). A SPILLED chunk is refilled first. -/
def State.timerClose (s : State) (slot idx : Nat) : State :=
  match s.redJob slot with
  | none => s
  | some j =>
    match j.chunk idx with
    | none => s
    | some c =>
      let s := s.modJob slot fun j => { j with
        straggled := j.straggled + 1
        strag := true
        missing := some (j.missing.getD (lowestMissing c.ranks (rdRanks j.desc))) }
      let c := { c with poisoned := true, byTimer := true }
      match c.st with
      | .opened =>
        let p := State.combineAll c.held.length s slot j.desc c
        ((p.2.loseStreams slot (· == idx)).modChunk slot idx fun _ => p.1).closeChunk slot j p.1
      | .closed => s
      | .spilled => (s.modChunk slot idx fun _ => { c with closeAfter := true }).startRefill slot idx
      | .refilling => s.modChunk slot idx fun _ => { c with closeAfter := true }

/-! ### Spill and refill (R265) -/

/-- A chunk's accumulators, bitmap and held images as the 64-byte lines of its granules: an accumulator that holds no value yet
brings the free value drawn for it (assumption log 22). -/
def spillLines (d : Desc) (c : Chunk) (ctr : Nat) : List Nat :=
  let acc := packElems 32 (closeValues ctr c.acc)
  let map := maskOf c.ranks
  let held := c.held.map fun h => imageNat h.image
  let sizes := accGrans d :: mapGrans d :: held.map fun _ => imgGrans (imageFlits (rdIn d) (rdElems d))
  ((acc :: map :: held).zip sizes).flatMap fun (x, g) => (List.range (16 * g)).map fun k => bitsOf x (512 * k) 512

/-- Room in a job's spill region. -/
def spillRoom (j : RedJob) : Nat :=
  if rdSpillLog2 j.desc > 12 then 0 else 2 ^ rdSpillLog2 j.desc - j.spillUsed.length - j.spillDead.length

/-- The lowest `n` free granules of a spill region. -/
def spillTake (j : RedJob) (n : Nat) : List Nat :=
  ((List.range (2 ^ min 12 (rdSpillLog2 j.desc))).filter fun g => !j.spillUsed.contains g && !j.spillDead.contains g).take n

/-- The victim: the OPEN chunk, other than the one served and not updated in this PCLK, updated longest ago, of a job with room;
ties to the lower slot, then the lower index. -/
def State.victim (s : State) (slot idx : Nat) : Option (Nat × Chunk) :=
  let all := s.red.jobs.flatMap fun p =>
    if p.2.cancelling then []
    else (p.2.chunks.filter fun c => c.st = .opened && c.touched != s.now && !(p.1 == slot && c.idx == idx)
        && needGrans p.2.desc c ≤ spillRoom p.2).map
      fun c => (p.1, c)
  match all with
  | [] => none
  | x :: l => some (l.foldl (fun m y => if y.2.updated < m.2.updated ∨ (y.2.updated = m.2.updated ∧ (y.1 < m.1 ∨ (y.1 = m.1 ∧ y.2.idx < m.2.idx))) then y else m) x)

/-- The writes of a spill: sixteen lines of 64 bytes in each granule (R265). -/
def State.spillOut (s : State) (j : RedJob) (gs : List Nat) (slot idx : Nat) (lines : List Nat) : State :=
  lines.zipIdx.foldl (fun a (x, k) => a.redEgress (.mem ⟨.spillWrite, 0, j.owner,
    BitVec.ofNat 52 (spillAddr j.desc (gs.getD (k / 16) 0) + 64 * (k % 16)), 64, x, false, slot, idx⟩) 0 none) s

/-- Spill one chunk: 64-byte VC 0 writes into the lowest free granules of its job's region. -/
def State.spillOne (s : State) (slot : Nat) (c : Chunk) : State :=
  match s.redJob slot with
  | none => s
  | some j =>
    let n := needGrans j.desc c
    let gs := spillTake j n
    let lines := spillLines j.desc c s.freeCtr
    let s := { s with freeCtr := s.freeCtr + c.acc.length }.spillOut j gs slot c.idx lines
    let s := s.modJob slot fun j => { j with spillUsed := j.spillUsed ++ gs, flags := j.flags ||| 32 }
    let s := s.modChunk slot c.idx fun c => { c with st := .spilled, spill := gs, wait := lines.length }
    { s with red.spills := s.red.spills + BitVec.ofNat 16 n }

/-- Granules that will be free once the spill writes under way are acknowledged. -/
def State.comingGrans (s : State) : Nat :=
  s.freeGrans + (s.red.jobs.map fun p => ((p.2.chunks.filter fun c => c.st = .spilled).map fun c => (c.wait + 15) / 16).sum).sum

/-- Find `need` granules, spilling victims, at most `n` of them: whether they were found. -/
def State.findGrans : Nat → State → Nat → Nat → Nat → Bool × State
  | 0, s, need, _, _ => (need ≤ s.comingGrans, s)
  | n + 1, s, need, slot, idx =>
    if need ≤ s.comingGrans then (true, s)
    else match s.victim slot idx with
      | none => (false, s)
      | some (k, c) => State.findGrans n (s.spillOne k c) need slot idx

/-! ### Outputs and the end of a job (R269, R270) -/

/-- Status of a job, highest rank first (Table 11.8). -/
def jobStatus (j : RedJob) : Nat :=
  if j.outFault then 0x24 else if j.spillFault then 0x23 else if j.scratchFull then 0x22 else if j.strag then 0x0B
  else if j.pois then 0x21 else 0

/-- RESULT and DETAIL of a job (Table 11.9). -/
def jobResult (j : RedJob) : Nat :=
  packNat [(0, 32, j.doneIdx.length), (32, 16, satN 16 j.straggled), (48, 16, satN 16 j.poisonedOut)]
def jobDetail (j : RedJob) (state : Nat) : Nat :=
  packNat [(0, 7, j.flags.toNat), (14, 2, state), (16, 16, j.missing.getD 0)]

/-- STATE of a job (R258, Table 11.12): 1 running, 2 closed and writing outputs, 3 cancelling. -/
def jobState (j : RedJob) : Nat :=
  if j.cancelling then 3
  else if (j.idleClosed || j.chunks.length + j.doneIdx.length = rdChunks j.desc) && j.chunks.all (fun c => c.st = .closed)
  then 2 else 1

/-- The completion hitch of a job: one VC 7 signal (R270); its TAG is open (assumption log 24). -/
def State.jobHitch (s : State) (j : RedJob) : State :=
  let d := j.desc
  if !bit d 379 then s
  else
    let op := if bit d 410 then 2 else 0
    let pay := packNat [(0, 12, bf d 398 12), (12, 2, op), (16, 32, if bit d 410 then 0 else bf d 411 16),
      (48, 10, 0x3FF), (58, 6, 0x3F)]
    { s with freeCtr := s.freeCtr + 1 }.redEgress (.flit (mkFlit 7 j.owner.toNat s.ownDie.toNat s.straps.redEp.toNat (bf d 380 8)
      (bf d 388 10) 0x30 (Config.freeValue s.freeCtr % 1024) false pay)) 7 none

/-- A job gives its slot back and completes. -/
def State.endJob (s : State) (slot : Nat) : State :=
  match s.redJob slot with
  | none => s
  | some j =>
    let s := { s with red.jobs := tdel s.red.jobs slot }
    if j.cancelling then s.complete j.ring.val j.index 0x01 (jobResult j) (jobDetail j 0)
    else (s.jobHitch j).complete j.ring.val j.index (jobStatus j) (jobResult j) (jobDetail j 0)

/-- End a job whose last chunk is DONE, or whose last begun output is done after a CANCEL. -/
def State.jobSettle (s : State) (slot : Nat) : State :=
  match s.redJob slot with
  | none => s
  | some j =>
    if j.chunks.isEmpty && (j.cancelling || j.doneIdx.length ≥ rdChunks j.desc) then s.endJob slot else s

/-- A chunk whose every output is done becomes DONE (R270). -/
def State.chunkSettle (s : State) (slot idx : Nat) : State :=
  match s.redJob slot with
  | none => s
  | some j =>
    match j.chunk idx with
    | none => s
    | some c =>
      if c.st = .closed && c.begun && c.memLeft.isEmpty && c.fwdLeft.isEmpty && c.acks = 0 && c.fwdDone then
        (s.modJob slot fun j => { j with
          chunks := j.chunks.filter fun x => x.idx ≠ idx
          doneIdx := j.doneIdx ++ [idx]
          poisonedOut := if c.poisoned then j.poisonedOut + 1 else j.poisonedOut
          spillUsed := j.spillUsed.filter fun g => !c.spill.contains g }).jobSettle slot
      else s

/-- Chunks whose last forwarded flit has gone (R270). -/
def State.redSettle (s : State) : State :=
  let l := s.noc.redSent
  l.foldl (fun a p => (a.modChunk p.1 p.2 fun c => { c with fwdDone := true }).chunkSettle p.1 p.2) { s with noc.redSent := [] }

/-- Egress of one NCLK cycle and what it means for the engine. -/
def State.egressStep (s : State) : State := s.egressDrive.redSettle

/-- Mirrored copies move from scratch into the link output queue as it has room (R269). -/
def State.redFeed (s : State) : State :=
  let n := 64 - s.red.linkQ.length
  { s with
    red.linkQ := s.red.linkQ ++ (s.red.mirrorWait.take n).map fun f => (f, none)
    red.mirrorWait := s.red.mirrorWait.drop n }

/-- A closed chunk's output leaves: its memory writes to egress, its forwarded flits to egress or into the link output
queue as far as it has room (R269). -/
def State.outputChunk (s : State) (slot idx : Nat) : State :=
  match s.redJob slot with
  | none => s
  | some j =>
    match j.chunk idx with
    | none => s
    | some c =>
      if c.st ≠ .closed then s
      else
        let s := c.memLeft.foldl (fun a (addr, x) => a.redEgress (.mem ⟨.resultWrite, 0, j.owner, BitVec.ofNat 52 addr, 64,
          x.toNat, c.poisoned, slot, idx⟩) 0 none) s
        let s := s.modChunk slot idx fun c => { c with begun := true, acks := c.acks + c.memLeft.length, memLeft := [] }
        let mark := fun (i : Nat) => if i + 1 = c.fwdLeft.length then some (slot, idx) else none
        let s :=
          if !bit j.desc 378 then
            (c.fwdLeft.zipIdx.foldl (fun a (f, i) => a.redEgress (.flit f) 4 (mark i)) s).modChunk slot idx fun c => { c with fwdLeft := [] }
          else
            let n := 64 - s.red.linkQ.length
            { s with red.linkQ := s.red.linkQ ++ (c.fwdLeft.zipIdx.take n).map fun (p : NocFlit × Nat) => (p.1, mark p.2) }.modChunk slot idx
              fun c => { c with fwdLeft := c.fwdLeft.drop n }
        s.chunkSettle slot idx

/-- The idle timer or a PARK closes every chunk of a job not yet CLOSED or DONE (R262, R272). -/
def State.closeJob (s : State) (slot : Nat) (parked : Bool) : State :=
  match s.redJob slot with
  | none => s
  | some j =>
    let open_ := (j.chunks.filter fun c => c.st ≠ .closed).map Chunk.idx
    let absent := if j.idleClosed then 0 else rdChunks j.desc - j.chunks.length - j.doneIdx.length
    let s := s.modJob slot fun j => { j with
      idleClosed := true
      flags := if parked then j.flags ||| 64 else j.flags
      straggled := j.straggled + absent
      strag := j.strag || absent > 0
      missing := if absent > 0 && open_.isEmpty then some (j.missing.getD 0) else j.missing }
    open_.foldl (fun a i => a.timerClose slot i) s

/-- The drain of PARK closes every running job (R272). -/
def State.redPark (s : State) : State :=
  ((s.red.jobs.filter fun p => !p.2.cancelling).map Prod.fst).foldl (fun a k => a.closeJob k true) s

/-- CANCEL of a running job (R272): begun outputs finish, every other chunk is dropped. -/
def State.cancelJob (s : State) (slot : Nat) : State :=
  let s := s.modJob slot fun j => { j with cancelling := true, chunks := j.chunks.filter fun c => c.st = .closed && c.begun }
  (s.loseStreams slot fun _ => true).jobSettle slot

/-! ### Taking contributions (R249, R259, R263) -/

/-- A flit as the engine mirrors it over its link (R267). -/
def State.mirrorFlit (s : State) (f : NocFlit) : NocFlit :=
  mkFlit 4 (flitTenant f) s.ownDie.toNat s.straps.redEp.toNat 0xFF 0x3FF (flitType f) (flitTag f) (flitPoison f) (flitPay f)

/-- Queue a mirrored flit: link output queue, else scratch; false where it is dropped. -/
def State.mirrorOut (s : State) (f : NocFlit) : Bool × State :=
  let g := s.mirrorFlit f
  if s.red.linkQ.length < 64 && s.red.mirrorWait.isEmpty then (true, { s with red.linkQ := s.red.linkQ ++ [(g, none)] })
  else if s.red.mirrorWait.length % 16 ≠ 0 ∨ s.freeGrans > 0 then
    (true, { s with red.mirrorWait := s.red.mirrorWait ++ [g] })
  else (false, { s with red.cMirror := s.red.cMirror + 1 })

/-- The running job of a tenant and job ID. -/
def State.jobOf (s : State) (tenant job : Nat) : Option (Nat × RedJob) :=
  s.red.jobs.find? fun p => p.2.owner.toNat == tenant && rdJob p.2.desc == job && !p.2.cancelling

/-- The contribution a stream carries ends early: TRUNCATED (Table 11.6). -/
def State.truncate (s : State) (t : Stream) : State :=
  let s := { s with red.streams := s.red.streams.erase t }
  match t.dest with
  | .gone => s
  | .prehold n => { s with red.hold := s.red.hold.map fun h => if h.num = n then { h with ended := true } else h }
  | .chunk slot idx rank =>
    match s.redJob slot with
    | none => s
    | some j =>
      let s := s.redDiscard (some slot) 8 (rdJob j.desc) idx rank
      match (s.redJob slot).bind fun j => j.chunk idx with
      | none => s
      | some c =>
        let c := { c with poisoned := true, held := c.held.map fun h => if h.rank = rank then { h with whole := true } else h }
        let c := if rdRank j.desc && c.nextRank == rank && !(c.held.any fun h => h.rank == rank) then { c with nextRank := rank + 1 } else c
        if c.st = .opened then
          let p := State.advance (c.held.length + 1) s slot j.desc c
          p.2.putChunk slot p.1
        else s.modChunk slot idx fun _ => c

/-- A fresh chunk. -/
def chunk0 (idx n : Nat) (now : Time) : Chunk where
  idx := idx
  st := .opened
  ranks := []
  nextRank := 0
  acc := List.replicate n none
  held := []
  poisoned := false
  byTimer := false
  timerAt := now
  updated := 0
  touched := now
  spill := []
  wait := 0
  closeAfter := false
  memLeft := []
  fwdLeft := []
  acks := 0
  fwdDone := false
  begun := false

/-- Take in the contribution whose head is `f`, once the scratch its chunk `ch` needs is found: the chunk replaces or joins
those of the job, a spilled one starts its refill, a mirrored head goes on, and its stream is open (R249, R259, R263). -/
def State.admitHead (s : State) (rx : Bool) (key : List Nat) (f : NocFlit) (slot : Nat) (d : Desc) (ch : Chunk) (fresh : Bool) :
    State :=
  let s := { s with red.clock := s.red.clock + 1, red.contribs := s.red.contribs + 1 }
  let s := if flitPoison f then { s with red.cPoison := s.red.cPoison + 1 } else s
  let s := s.modJob slot fun j => { j with
    idleAt := s.now
    chunks := if fresh then j.chunks ++ [ch] else j.chunks.map fun x => if x.idx = hdChunk f then ch else x }
  let s := if ch.st = .spilled then s.startRefill slot (hdChunk f) else s
  let m := if rdMirror d && !rx then s.mirrorOut f else (false, s)
  { m.2 with red.streams :=
      m.2.red.streams ++ [⟨rx, key, .chunk slot (hdChunk f) (hdRank f), 0, hdFlits f, flitPoison f, m.1, []⟩] }

/-- Accept a head for a job: the rest of the checks of Table 11.6, its chunk, its stream. -/
def State.acceptHead (s : State) (rx : Bool) (key : List Nat) (f : NocFlit) (slot : Nat) (j : RedJob) : State :=
  let d := j.desc
  let c := hdChunk f
  let rank := hdRank f
  let dis := fun cause => s.redDiscard (some slot) cause (rdJob d) c rank
  let cur := j.chunk c
  if rank ≥ rdRanks d ∨ (rdPos d c).isNone then dis 2
  else if hdFormat f ≠ rdIn d ∨ hdLog2 f ≠ rdLog2 d ∨ hdFlits f ≠ imageFlits (rdIn d) (rdElems d) then dis 3
  else if j.doneIdx.contains c ∨ (cur.map fun x => x.st == .closed || x.closeAfter) = some true ∨ (cur.isNone ∧ j.idleClosed) then dis 4
  else if (cur.map fun x => x.ranks.contains rank) = some true then dis 5
  else if s.red.streams.length ≥ 4096 then dis 6
  else
    let ch := cur.getD (chunk0 c (rdElems d) s.now)
    let holds := rdRank d || ch.st != .opened
    let ch := { ch with
      ranks := ch.ranks ++ [rank]
      poisoned := ch.poisoned || flitPoison f
      updated := s.red.clock + 1
      touched := s.now
      held := if holds then ch.held ++ [⟨rank, [], 0, false⟩] else ch.held }
    let have_ := match cur with
      | none => 0
      | some x => chunkGrans d x
    let need := needGrans d ch - have_
    let found := if cur.isNone && s.chunkRecords ≥ 4096 then (false, s) else State.findGrans 1024 s need slot c
    if !found.1 then
      (s.modJob slot fun j => { j with scratchFull := true }).redDiscard (some slot) 7 (rdJob d) c rank
    else found.2.admitHead rx key f slot d ch cur.isNone

/-- Join one data flit of rank `rank` to the chunk `c` of a job: it is combined at once where the chunk is open and the rank is
not held, kept with its rank where it is, and kept for a refill otherwise (R249, R260, R263). `img` is the image so far. -/
def State.joinData (s : State) (t : Stream) (f : NocFlit) (slot : Nat) (j : RedJob) (c : Chunk) (rank : Nat)
    (img : List (BitVec 512)) (last : Bool) : State :=
  let s := if flitPoison f && !t.pois then { s with red.cPoison := s.red.cPoison + 1 } else s
  let s := { s with red.clock := s.red.clock + 1 }
  let c := { c with updated := s.red.clock, touched := s.now, poisoned := c.poisoned || flitPoison f }
  let keep := fun h : HeldRank => if h.rank = rank then { h with image := img, whole := h.whole || last } else h
  if c.st = .opened then
    if c.held.any (fun h => h.rank = rank) then
      let p := State.advance (c.held.length + 1) s slot j.desc { c with held := c.held.map keep }
      p.2.putChunk slot p.1
    else
      let r := elemsOfFlit (rdIn j.desc) (rdElems j.desc) t.next
      let v := combineRange j.desc (imageNat img) r.1 r.2 c.acc
      let s := if v.2 then s.modJob slot fun j => { j with flags := j.flags ||| 8 } else s
      s.putChunk slot { c with acc := v.1 }
  else
    let c : Chunk := if c.held.any (fun h => h.rank = rank) then { c with held := c.held.map keep }
      else { c with held := c.held ++ [⟨rank, img, t.next, last⟩] }
    let s := s.modChunk slot c.idx fun _ => c
    if c.st = .spilled then s.startRefill slot c.idx else s

/-- Take one data flit for a stream (R249, R260). -/
def State.takeData (s : State) (t : Stream) (f : NocFlit) : State :=
  if flitTag f ≠ t.next then s.truncate t
  else
    let img := t.image ++ [BitVec.ofNat 512 (flitPay f)]
    let last := t.next + 1 = t.flits
    let m := if t.mirror then s.mirrorOut f else (false, s)
    let s := m.2
    let t2 := { t with next := t.next + 1, image := img, pois := t.pois || flitPoison f, mirror := m.1 }
    let s := { s with red.streams := if last then s.red.streams.erase t else s.red.streams.map fun x => if x = t then t2 else x }
    match t.dest with
    | .gone => s
    | .prehold n => { s with red.hold := s.red.hold.map fun h =>
        if h.num = n then { h with data := h.data ++ [f], ended := h.ended || last } else h }
    | .chunk slot idx rank =>
      match s.redJob slot with
      | none => s
      | some j =>
        match j.chunk idx with
        | none => s
        | some c => s.joinData t f slot j c rank img last

/-- The open stream of a flow. -/
def State.streamOf (s : State) (rx : Bool) (key : List Nat) : Option Stream :=
  s.red.streams.find? fun t => t.rx == rx && t.flow == key

/-- Take one head (R249, R259, R263). -/
def State.takeHead (s : State) (rx : Bool) (f : NocFlit) : State :=
  let key := flowKey f
  let s := match s.streamOf rx key with
    | some t => s.truncate t
    | none => s
  match s.jobOf (flitTenant f) (hdJob f) with
  | some (slot, j) => s.acceptHead rx key f slot j
  | none =>
    let g := imgGrans (hdFlits f)
    if bf s.red.ctl 16 8 ≠ 0 ∧ s.holdGrans + g ≤ 64 ∧ g ≤ s.freeGrans ∧ s.red.streams.length < 4096 ∧ 1 ≤ hdFlits f then
      { s with
        red.hold := s.red.hold ++ [⟨s.red.nextHold, s.now, rx, f, [], false⟩]
        red.nextHold := s.red.nextHold + 1
        red.streams := s.red.streams ++ [⟨rx, key, .prehold s.red.nextHold, 0, hdFlits f, flitPoison f, false, []⟩] }
    else s.redDiscard none 1 (hdJob f) (hdChunk f) (hdRank f)

/-- Take one kept data flit for the stream of its flow, where one is open. -/
def State.heldFlit (rx : Bool) (key : List Nat) (s : State) (f : NocFlit) : State :=
  match s.streamOf rx key with
  | some t => s.takeData t f
  | none => s

/-- Apply one held contribution to the job that has started (R263). A contribution still arriving goes on under its
own flow. -/
def State.applyHeld (s : State) (slot : Nat) (h : PreHeld) : State :=
  match s.redJob slot with
  | none => s
  | some j =>
    let key := if h.ended then [h.num] else flowKey h.head
    let s := { s with
      red.hold := s.red.hold.erase h
      red.streams := s.red.streams.filter fun t => t.dest != StreamTo.prehold h.num }
    let s := s.acceptHead h.rx key h.head slot j
    let s := h.data.foldl (State.heldFlit h.rx key) s
    if h.ended then match s.streamOf h.rx key with
      | some t => s.truncate t
      | none => s
    else s

end Sys2Proof.Machine
end

