-- ==== Sys2Proof/Machine/HitchOps.lean ====
section
/-!
DEFINITION. The hitch engine's shared operations (R275 to R300): signals of one PCLK, waiters, wakes, updates owed to
mirrors, and resets.
-/
namespace Sys2Proof.Machine

/-! ### Access -/

/-- A hitch; one not listed is in reset state (Table 12.2). -/
def State.hitch (s : State) (i : Nat) : Hitch := tget zeroHitch s.ht.hitches i
def State.modHitch (s : State) (i : Nat) (f : Hitch → Hitch) : State :=
  { s with ht.hitches := tupd zeroHitch s.ht.hitches i f }
/-- Owner of a hitch: its group's (R279). -/
def State.hitchOwner (s : State) (i : Nat) : Nat := (s.groupOwner (i / 64)).toNat
/-- Waiters of a hitch. -/
def State.waitersOf (s : State) (i : Nat) : List Waiter := s.ht.waiters.filter fun w => w.hitch = i
/-- The four links of a hitch. -/
def Hitch.links (h : Hitch) : List (BitVec 31) := [h.link0, h.link1, h.link2, h.link3]
def lkValid (l : BitVec 31) : Bool := bit l 0
def lkDie (l : BitVec 31) : Nat := bf l 1 8
def lkEp (l : BitVec 31) : Nat := bf l 9 10
def lkIdx (l : BitVec 31) : Nat := bf l 19 12

/-! ### Payload fields (Tables 12.3, 12.5, 12.7) -/

def htIdx (f : NocFlit) : Nat := payBits f 0 12
def htOp (f : NocFlit) : Nat := payBits f 12 2
def htFence (f : NocFlit) : Bool := payBits f 14 1 == 1
def htFar (f : NocFlit) : Bool := payBits f 15 1 == 1
def htOperand (f : NocFlit) : Nat := payBits f 16 32
def htCore (f : NocFlit) : Nat := payBits f 48 10
def htThread (f : NocFlit) : Nat := payBits f 58 6
def htTimeout (f : NocFlit) : Nat := payBits f 64 20

/-- Signaller or waiter as ARG1 of an event (DEDUCED, assumption log 23). -/
def htWho (die core thread : Nat) : Nat := packNat [(0, 8, die), (8, 10, core), (18, 6, thread)]

/-! ### Wakes (R285) -/

/-- Order of wakes: die, then core, then thread. -/
def Wake.before (a b : Wake) : Bool :=
  a.die < b.die || (a.die == b.die && (a.core < b.core || (a.core == b.core && a.thread < b.thread)))

/-- Insert a wake in order. -/
def insertWake (w : Wake) : List Wake → List Wake
  | [] => [w]
  | x :: l => if w.before x then w :: x :: l else x :: insertWake w l

def sortWakes (l : List Wake) : List Wake := l.foldl (fun a w => insertWake w a) []

/-- A flit of the hitch engine at egress (R276). Where the spec leaves its TAG or TENANT open, the flit was made with
the free value of `freeCtr`, which moves on here. -/
def State.htEgress (s : State) (f : NocFlit) : State :=
  { s with noc.qHitch := s.noc.qHitch ++ [⟨.flit f, flitVc f, s.now, none⟩], freeCtr := s.freeCtr + 1 }

/-- A TAG the spec leaves open (assumption log 24). -/
def State.openTag (s : State) : Nat := Config.freeValue s.freeCtr % 1024
/-- A TENANT the spec leaves open (assumption log 24). -/
def State.openTenant (s : State) : Nat := Config.freeValue s.freeCtr / 1024 % 256

/-- One HITCH_WAKE with the wakes of one die, at most 16 (Table 12.6). -/
def State.wakeFlit (s : State) (die : Nat) (l : List Wake) : NocFlit :=
  mkFlit 7 s.openTenant s.ownDie.toNat s.straps.hitchEp.toNat die 0x3F0 0x32 s.openTag false
    (packNat ((0, 5, l.length) :: l.zipIdx.flatMap fun (w, k) =>
      [(8 + 24 * k, 10, w.core), (18 + 24 * k, 6, w.thread), (24 + 24 * k, 2, w.cause)]))

/-- Status of an HT_WAIT by the cause of its wake (R296). -/
def waitStatus : Nat → Nat
  | 0 => 0 | 1 => 0x0A | _ => 0x36

/-- Drive one wake onto the wake bus; a core above 575 is never issued and is counted (R43, R285). In stand-alone mode the
bus holds its reset values (R49). -/
def State.busWake (s : State) (core thread cause : Nat) : State :=
  if s.test.alone then s
  else if core > 575 then { s with ht.badMsg := s.ht.badMsg + 1 }
  else { s with out.wakes := s.out.wakes ++ [(core, thread, cause)] }

/-- Issue the wakes of one PCLK in order of die, core and thread (R285). -/
def State.issueWakes (s : State) (l : List Wake) : State :=
  let l := sortWakes l
  let s := { s with ht.aborts := s.ht.aborts + BitVec.ofNat 8 (l.filter fun w => w.cause = 2).length }
  let own := fun w : Wake => w.desc.isNone && s.cls == .sc && w.die == s.ownDie.toNat
  let s := (l.filter own).foldl (fun a w => a.busWake w.core w.thread w.cause) s
  let far := l.filter fun w => w.desc.isNone && !own w
  let dies := (far.map Wake.die).eraseDups
  let s := dies.foldl (fun a d =>
    (blocksOf 16 (far.length + 1) (far.filter fun w => w.die = d)).foldl (fun a g => a.htEgress (a.wakeFlit d g)) a) s
  (l.filter fun w => w.desc.isSome).foldl (fun a w => match w.desc with
    | some (r, i) => a.complete r.val i (waitStatus w.cause) w.value w.gen
    | none => a) s

/-- Release wakes: issued at once, or with the others of their PCLK. -/
def State.sendWakes (s : State) (l : List Wake) : State :=
  match s.ht.due with
  | some w => { s with ht.due := some (w ++ l) }
  | none => s.issueWakes l

/-- Work of one PCLK: the wakes it releases are issued together, in order (R43, R285). -/
def State.onePclk (s : State) (work : State → State) : State :=
  let s := work { s with ht.due := some [] }
  { s with ht.due := none }.issueWakes (s.ht.due.getD [])

/-- The wake of a waiter with a cause. -/
def State.wakeOf (s : State) (w : Waiter) (cause : Nat) : Wake :=
  let h := s.hitch w.hitch
  ⟨w.die, w.core, w.thread, cause, w.desc, h.value.toNat, b2n h.gen⟩

/-- Abort wake of a thread that has no entry (R285). -/
def abortWake (die core thread : Nat) : Wake := ⟨die, core, thread, 2, none, 0, 0⟩

/-! ### Waiters (R283, R284) -/

/-- Condition of a wait (R283). -/
def meets (h : Hitch) (op : Nat) (operand : BitVec 32) : Bool :=
  match op with
  | 0 => operand.toNat ≤ h.value.toNat
  | 1 => h.value == operand
  | _ => b2n h.gen != bf operand 0 1

/-- Order of entries: hitch, die, core, thread. -/
def Waiter.before (a b : Waiter) : Bool :=
  a.hitch < b.hitch || (a.hitch == b.hitch && (a.die < b.die || (a.die == b.die && (a.core < b.core
    || (a.core == b.core && a.thread < b.thread)))))

def insertWaiter (w : Waiter) : List Waiter → List Waiter
  | [] => [w]
  | x :: l => if w.before x then w :: x :: l else x :: insertWaiter w l

/-- Release every waiter of a hitch whose condition holds (R284). -/
def State.evalWaiters (s : State) (i : Nat) : State :=
  let h := s.hitch i
  let go := (s.waitersOf i).filter fun w => meets h w.op w.operand
  { s with ht.waiters := s.ht.waiters.filter fun w => !(w.hitch = i && meets h w.op w.operand) }.sendWakes (go.map fun w => s.wakeOf w 0)

/-- Enter a wait (R283, R284): an entry of the same thread is replaced; it is released at once where it is met; a full table refuses
it. -/
def State.enterWait (s : State) (i die core thread op : Nat) (operand : BitVec 32) (timeout : Nat)
    (desc : Option (RingNo × BitVec 32)) : State :=
  let h := s.hitch i
  let wake := fun c => (⟨die, core, thread, c, desc, h.value.toNat, b2n h.gen⟩ : Wake)
  let same := fun w : Waiter => w.die == die && w.core == core && w.thread == thread
  let n := (s.ht.waiters.filter same).length
  let s := { s with
    ht.waiters := s.ht.waiters.filter fun w => !same w
    ht.replaced := s.ht.replaced + BitVec.ofNat 8 n }
  if meets h op operand then s.sendWakes [wake 0]
  else
    if s.ht.waiters.length ≥ 8192 then
      let s := { s with ht.wtFull := s.ht.wtFull + 1 }.raise 0x42 (arg0 := i) (arg1 := htWho die core thread)
      match desc with
      | some (r, x) => s.complete r.val x 0x34
      | none => s.sendWakes [wake 2]
    else
      let p := s.pick 0 ((List.range 8192).filter fun e => !(s.ht.waiters.any fun w => w.entry = e))
      let s := p.2
      let l := insertWaiter ⟨p.1, i, die, core, thread, op, operand, timeout, s.now, desc⟩ s.ht.waiters
      { s with ht.waiters := l, ht.high := if l.length > s.ht.high.toNat then BitVec.ofNat 14 l.length else s.ht.high }

/-! ### Updates owed to mirrors (R291, R292) -/

/-- Owe an update on a link: one pending slot for each link. -/
def State.owe (s : State) (i link : Nat) (realign : Bool) : State :=
  if s.ht.owed.any fun o => o.hitch = i && o.link = link then
    { s with
      ht.owed := s.ht.owed.map fun o => if o.hitch = i ∧ o.link = link then { o with realign := realign || o.realign } else o
      ht.coalesced := s.ht.coalesced + 1 }
  else { s with ht.owed := s.ht.owed ++ [⟨i, link, realign⟩] }

/-- A home's VALUE or GEN changed: owe every valid mirror an update. -/
def State.oweAll (s : State) (i : Nat) (realign : Bool) : State :=
  let h := s.hitch i
  if h.role ≠ 1 then s
  else (List.range 4).foldl (fun a k => if lkValid (h.links.getD k 0) then a.owe i k realign else a) s

/-- The update for a link as it leaves: the newest VALUE and GEN (Table 12.7). -/
def State.updateFlit (s : State) (o : Owed) : NocFlit :=
  let h := s.hitch o.hitch
  let l := h.links.getD o.link 0
  mkFlit 7 (s.hitchOwner o.hitch) s.ownDie.toNat s.straps.hitchEp.toNat (lkDie l)
    (if lkDie l = 0xFF then 0x3FF else lkEp l) 0x33 s.openTag false
    (packNat [(0, 12, lkIdx l), (12, 1, b2n h.gen), (13, 1, b2n o.realign), (16, 32, h.value.toNat), (48, 12, o.hitch),
      (64, 32, s.ht.epoch.toNat)])

/-- Send one owed update as VC 7 credit allows, round-robin in ascending hitch and link order (R291). -/
def State.feedOne (s : State) : State :=
  let key := fun o : Owed => o.hitch * 4 + o.link
  let room := fun o : Owed =>
    if lkDie ((s.hitch o.hitch).links.getD o.link 0) = 0xFF then s.ht.linkQ.isEmpty
    else (s.noc.qHitch.filter fun e => e.vc = 7).length < s.noc.egHeld.get 7
  let ok := s.ht.owed.filter room
  let later := ok.filter fun o => s.ht.owedPtr ≤ key o
  let cand := if later.isEmpty then ok else later
  match cand with
  | [] => s
  | x :: l =>
    let o := l.foldl (fun m y => if key y < key m then y else m) x
    let f := s.updateFlit o
    let s := { s with ht.owed := s.ht.owed.erase o, ht.owedPtr := key o + 1 }
    if flitDstDie f = 0xFF then { s with ht.linkQ := s.ht.linkQ ++ [f], freeCtr := s.freeCtr + 1 } else s.htEgress f

/-- Up to two updates in a PCLK. -/
def State.htFeed (s : State) : State := s.feedOne.feedOne

/-- After a change of a hitch: waiters, mirrors. -/
def State.hitchChanged (s : State) (i : Nat) : State := (s.evalWaiters i).oweAll i false

/-! ### Signals of one PCLK (R280 to R282) -/

/-- A signal that has passed its checks. -/
structure Sig where
  idx : Nat
  /-- 0 ADD, 1 SET, 2 ARRIVE, 3 the arrival of an ARRIVE_WAIT -/
  op : Nat
  operand : Nat
  die : Nat
  core : Nat
  thread : Nat
  timeout : Nat
  deriving DecidableEq, Repr

/-- The signal of a flit; the far package's signaller is recorded as die 0xFF (R293). -/
def sigOf (f : NocFlit) (rx : Bool) : Sig where
  idx := htIdx f
  op := if flitType f = 0x31 then 3 else htOp f
  operand := htOperand f
  die := if rx && flitDstDie f = 0xFF then 0xFF else flitSrcDie f
  core := htCore f
  thread := htThread f
  timeout := htTimeout f

/-- Refuse a signal: 1 wrong mode, 2 wrong role, 3 underflow (R280, R281). A refused ARRIVE_WAIT is woken with abort. -/
def State.refuseSig (s : State) (g : Sig) (code : Nat) : State :=
  let s := if code = 3 then { s with ht.underflow := s.ht.underflow + 1 } else { s with ht.wrong := s.ht.wrong + 1 }
  let s := s.raise 0x40 (code := code) (arg0 := g.idx) (arg1 := htWho g.die g.core g.thread)
  if g.op = 3 then s.sendWakes [abortWake g.die g.core g.thread] else s

/-- Record the last signaller and count applied signals. -/
def State.signed (s : State) (l : List Sig) : State :=
  match l.getLast? with
  | none => s
  | some g =>
    { s.modHitch g.idx fun h => { h with
        sigDie := BitVec.ofNat 8 g.die
        sigCore := BitVec.ofNat 10 g.core
        sigThread := BitVec.ofNat 6 g.thread
        sigTs := BitVec.ofNat 48 (s.ts 48) } with ht.sigs := s.ht.sigs + BitVec.ofNat 32 l.length }

/-- Signed addend of an ADD or ARRIVE. -/
def Sig.addend (g : Sig) : Int := if g.op = 0 then sext g.operand 32 else 1

/-- What a PCLK of signals makes of a counter's VALUE: the new value, whether it saturated, whether the negative ADDs
were refused (R281). -/
def combineCounter (v : Nat) (l : List Sig) : Nat × Bool × Bool :=
  let v := match (l.filter fun g => g.op = 1).getLast? with
    | some g => g.operand
    | none => v
  let adds := (l.filter fun g => g.op ≠ 1).map Sig.addend
  let pos := (adds.filter fun a => 0 ≤ a).sum
  let neg := (adds.filter fun a => a < 0).sum
  let r := (v : Int) + pos + neg
  let x := if r < 0 then (v : Int) + pos else r
  if x > 2 ^ 32 - 1 then (2 ^ 32 - 1, true, r < 0) else (x.toNat, false, r < 0)

/-- The signals of one PCLK at a counter (R281). -/
def State.counterCycle (s : State) (i : Nat) (l : List Sig) : State :=
  let bad := l.filter fun g => g.op = 3
  let s := bad.foldl (fun a g => a.refuseSig g 1) s
  let l := l.filter fun g => g.op ≠ 3
  if l.isEmpty then s
  else
    let h := s.hitch i
    let r := combineCounter h.value.toNat l
    let neg := l.filter fun g => g.op = 0 && g.addend < 0
    let applied := if r.2.2 then l.filter fun g => !(g.op = 0 && g.addend < 0) else l
    let s := if r.2.2 then neg.foldl (fun a g => a.refuseSig g 3) s else s
    let s := (s.modHitch i fun h => { h with value := BitVec.ofNat 32 r.1, ovf := h.ovf || r.2.1 }).signed applied
    let s := if r.2.1 then
        let s := { s with ht.overflow := s.ht.overflow + 1 }
        match h.ovf, applied.getLast? with
        | false, some g => s.raise 0x41 (arg0 := i) (arg1 := htWho g.die g.core g.thread)
        | _, _ => s
      else s
    if BitVec.ofNat 32 r.1 = h.value then s else s.hitchChanged i

/-- The signals of one PCLK at a barrier: arrivals up to the one that completes the generation; how many are left
(R282). -/
def State.barrierCycle (s : State) (i : Nat) (l : List Sig) : State × Nat :=
  let s := (l.filter fun g => g.op < 2).foldl (fun a g => a.refuseSig g 1) s
  let arr := l.filter fun g => 2 ≤ g.op
  let h := s.hitch i
  let n := min arr.length (h.target.toNat - h.value.toNat)
  let now_ := arr.take n
  if n = 0 then (s, arr.length)
  else
    let v := h.value.toNat + n
    let full := v ≥ h.target.toNat
    let s := (s.modHitch i fun h => { h with value := BitVec.ofNat 32 (if full then 0 else v), gen := xor h.gen full }).signed now_
    let s := s.hitchChanged i
    let s := (now_.filter fun g => g.op = 3).foldl (fun a g =>
      a.enterWait i g.die g.core g.thread 2 (BitVec.ofNat 32 (b2n h.gen)) g.timeout none) s
    (s, arr.length - n)

/-- The signals of one PCLK at one hitch, in taking order, at most eight; how many arrivals are left over. -/
def State.hitchCycle (s : State) (i : Nat) (l : List Sig) : State × Nat :=
  let h := s.hitch i
  if h.role = 2 then (l.foldl (fun a g => a.refuseSig g 2) s, 0)
  else if h.barrier then s.barrierCycle i l
  else (s.counterCycle i l, 0)

/-- The signals of one PCLK at every hitch: what was left over goes first; what does not fit is left over again. -/
def State.signalCycle (s : State) (new : List (NocFlit × Bool)) : State :=
  let all : List (NocFlit × Bool) := s.ht.intake ++ new
  let idxs := (all.map fun p => htIdx p.1).eraseDups
  { s with ht.intake := [] }.onePclk fun s => idxs.foldl (fun (a : State) (i : Nat) =>
    let l : List (NocFlit × Bool) := all.filter fun p => htIdx p.1 = i
    let r : State × Nat := a.hitchCycle i ((l.take 8).map fun (p : NocFlit × Bool) => sigOf p.1 p.2)
    let kept := ((l.take 8).filter fun (p : NocFlit × Bool) => 2 ≤ (sigOf p.1 p.2).op)
    { r.1 with ht.intake := r.1.ht.intake ++ kept.drop (kept.length - r.2) ++ l.drop 8 }) s

/-! ### Aborts and resets (R279, R295, R299) -/

/-- Wake every waiter of a hitch with cause abort. -/
def State.abortAll (s : State) (i : Nat) : State :=
  let l := s.waitersOf i
  { s with ht.waiters := s.ht.waiters.filter fun w => w.hitch ≠ i }.sendWakes (l.map fun w => s.wakeOf w 2)

/-- A hitch returns to reset state. -/
def State.resetHitch (s : State) (i : Nat) : State :=
  { s.abortAll i with
    ht.hitches := tdel s.ht.hitches i
    ht.owed := s.ht.owed.filter fun o => o.hitch ≠ i }

/-- A lashed owner change resets the hitches of its groups, after the signals of its PCLK (R279, R297). -/
def State.resetGroups (s : State) (gs : List Nat) : State :=
  if gs.isEmpty then s
  else (s.signalCycle []).onePclk fun s => (gs.flatMap fun g => (List.range 64).map fun k => 64 * g + k).foldl State.resetHitch s

/-- What FX_HT_STAT reads of SWEEPING. -/
def State.sweeping (s : State) : Bool := s.now < s.ht.sweepEnd

/-- A class 1 port that enters OPEN after a pair reset sweeps with abort wakes while SWEEP is set (R299). -/
def State.startSweep (s : State) : State :=
  if s.cls == .sc && bit s.ht.ctl 16 then { s with ht.sweepEnd := s.now + 9216, out.sweeps := s.out.sweeps + 1 } else s

/-- A blocked access of another tenant (R287). -/
def State.blockHitch (s : State) (i : Nat) (f : NocFlit) : State :=
  { s with ht.blocked := s.ht.blocked + 1 }.raise 0x43 (arg0 := i + s.hitchOwner i * 2 ^ 24) (arg1 := flitTenant f)
    (arg2 := htWho (flitSrcDie f) (htCore f) (htThread f)) (tenant := flitTenant f)

/-- A poisoned message (R288). -/
def State.poisonHitch (s : State) (f : NocFlit) : State :=
  { s with ht.poisoned := s.ht.poisoned + 1 }.raise 0x44 (arg0 := htIdx f) (arg1 := flitSrcDie f) (tenant := flitTenant f)

/-- Count BAD_MSG. -/
def State.badHitch (s : State) : State := { s with ht.badMsg := s.ht.badMsg + 1 }

end Sys2Proof.Machine
end

