-- ==== Sys2Proof/Machine/Hitch.lean ====
section
/-!
DEFINITION. The commands of the hitch engine (R275 to R301).
-/
namespace Sys2Proof.Machine

/-- A flit names a hitch the engine has (R276). -/
def State.htInRange (s : State) (i : Nat) : Bool := i < s.cls.hitches

/-- A checked signal joins its PCLK, or the check's outcome (R276, R280, R287, R288, R293): the state, and the flit where
it is to be combined. -/
def State.screenSignal (s : State) (rx : Bool) (f : NocFlit) : State × Option (NocFlit × Bool) :=
  let s := s.untake rx f
  if flitPoison f then (s.poisonHitch f, none)
  else if s.cls.isFibre && htFar f && !rx then
    let g := mkFlit 7 (flitTenant f) (flitSrcDie f) (flitSrcEp f) 0xFF 0x3FF 0x30 (flitTag f) false
      (flitPay f - bitsOf (flitPay f) 15 1 * 2 ^ 15)
    ({ s with ht.linkQ := s.ht.linkQ ++ [g] }, none)
  else if !s.htInRange (htIdx f) || htOp f = 3 then (s.badHitch, none)
  else if flitTenant f ≠ s.hitchOwner (htIdx f) then (s.blockHitch (htIdx f) f, none)
  else (s, some (f, rx))

/-- Screen the signals of a PCLK in taking order. -/
def State.screenAll : List (Bool × NocFlit) → State → State × List (NocFlit × Bool)
  | [], s => (s, [])
  | (rx, f) :: l, s =>
    if s.isTaken rx f && flitType f == 0x30 then
      let p := s.screenSignal rx f
      let q := State.screenAll l p.1
      (q.1, p.2.toList ++ q.2)
    else State.screenAll l s

/-- HITCH_SIGNAL (R280 to R282): the signals taken in one PCLK, in taking order. -/
def execHitchSignal (l : List (Bool × NocFlit)) (s : State) : Host.Outcome State Fault Refusal :=
  if s.hasHitch then
    let p := State.screenAll l s
    done (p.1.signalCycle p.2).htFeed
  else done s

/-- A wait that has been taken (R283, R285, R287, R288). -/
def State.takeWait (s : State) (rx : Bool) (f : NocFlit) : State :=
  let die := flitSrcDie f
  let abort := fun s : State => s.sendWakes [abortWake die (htCore f) (htThread f)]
  let i := htIdx f
  if flitPoison f then abort (s.poisonHitch f)
  else if !s.htInRange i then abort s
  else if htFar f then abort { s with ht.farWait := s.ht.farWait + 1 }
  else if flitTenant f ≠ s.hitchOwner i then abort (s.blockHitch i f)
  else if htOp f = 3 then s.signalCycle [(f, rx)]
  else s.enterWait i die (htCore f) (htThread f) (htOp f) (BitVec.ofNat 32 (htOperand f)) (htTimeout f) none

/-- HITCH_WAIT (R283). -/
def execHitchWait (rx : Bool) (f : NocFlit) (s : State) : Host.Outcome State Fault Refusal :=
  if s.hasHitch then
    done (if s.isTaken rx f && flitType f == 0x31 then ((s.untake rx f).takeWait rx f).htFeed else s)
  else done s

/-- HITCH_WAKE (R285): class 1 drives its wake bus in the order of the entries; a poisoned one is discarded (R288). -/
def execHitchWake (rx : Bool) (f : NocFlit) (s : State) : Host.Outcome State Fault Refusal :=
  match s.cls with
  | .sc =>
    done (if s.isTaken rx f && flitType f == 0x32 then
      let s := s.untake rx f
      if flitPoison f then s
      else (List.range (min 16 (payBits f 0 5))).foldl (fun a k =>
        a.busWake (payBits f (8 + 24 * k) 10) (payBits f (18 + 24 * k) 6) (payBits f (24 + 24 * k) 2)) s
    else s)
  | .fib => done (if s.isTaken rx f && flitType f == 0x32 then (s.untake rx f).badHitch else s)
  | _ => done s

/-- The named home sent the update (R291, R293). -/
def State.fromHome (s : State) (rx : Bool) (f : NocFlit) : Bool :=
  let h := s.hitch (htIdx f)
  let l := h.link0
  h.role == 2 && lkValid l && flitTenant f == s.hitchOwner (htIdx f) && flitSrcEp f == lkEp l && payBits f 48 12 == lkIdx l
    && (if lkDie l = 0xFF then rx else flitSrcDie f == lkDie l)

/-- A HITCH_UPDATE that has been taken (R288, R291, R292). -/
def State.takeUpdate (s : State) (rx : Bool) (f : NocFlit) : State :=
  let i := htIdx f
  if flitPoison f then s.poisonHitch f
  else if !s.htInRange i then s.badHitch
  else if !s.fromHome rx f then { s with ht.mirRej := s.ht.mirRej + 1 }
  else
    let h := s.hitch i
    let v := BitVec.ofNat 32 (payBits f 16 32)
    let g := payBits f 12 1 == 1
    if v = h.value ∧ g = h.gen then s
    else
      let s := s.modHitch i fun h => { h with value := v, gen := g }
      let s := if payBits f 13 1 = 1 then
          { s with ht.drift := s.ht.drift + 1 }.raise 0x45 (arg0 := i) (arg1 := h.value.toNat)
        else s
      s.evalWaiters i

/-- HITCH_UPDATE (R291). -/
def execHitchUpdate (rx : Bool) (f : NocFlit) (s : State) : Host.Outcome State Fault Refusal :=
  if s.hasHitch then
    done (if s.isTaken rx f && flitType f == 0x33 then (s.untake rx f).takeUpdate rx f else s)
  else done s

/-- HITCH_VALUE payload (Table 12.8). -/
def State.hitchValue (s : State) (i : Nat) : Nat :=
  let h := s.hitch i
  packNat [(0, 32, h.value.toNat), (32, 1, b2n h.gen), (33, 1, b2n h.barrier), (34, 2, h.role.toNat), (36, 1, b2n h.ovf),
    (37, 14, (s.waitersOf i).length), (64, 32, h.target.toNat)]

/-- HITCH_READ (R294): answered while one of 16 response slots is free; else it stays. -/
def execHitchRead (f : NocFlit) (s : State) : Host.Outcome State Fault Refusal :=
  if s.hasHitch then
    done (if s.isTaken false f && flitType f == 0x34 && (s.noc.qHitch.filter fun e => e.vc = 1).length < 16 then
      let s := (s.untake false f).freeSlot 0
      let i := htIdx f
      if !s.htInRange i then s.badHitch
      else
        let own := flitTenant f == s.hitchOwner i
        let s := if own then s else s.blockHitch i f
        s.htEgress (mkFlit 1 (flitTenant f) s.ownDie.toNat s.straps.hitchEp.toNat (flitSrcDie f) (flitSrcEp f) 0x35
          (flitTag f) (!own) (if own then s.hitchValue i else 0))
    else s)
  else done s

/-- WAITER_TIMEOUT (R286): timeouts do not advance while the port is in PARK (R299). -/
def execWaiterTimeout (entry : Nat) (s : State) : Host.Outcome State Fault Refusal :=
  if s.hasHitch then
    done (match s.ht.waiters.find? fun w => w.entry = entry with
      | some w =>
        if w.timeout = 0 || s.aon.pwr == .park then s
        else
          { s with ht.waiters := s.ht.waiters.erase w, ht.timeouts := s.ht.timeouts + 1 }.sendWakes [s.wakeOf w 1]
      | none => s)
  else done s

/-- REALIGN_EPOCH (R292). -/
def execRealignEpoch (s : State) : Host.Outcome State Fault Refusal :=
  if s.hasHitch then
    done (if s.start.opened && bf s.ht.ctl 0 16 ≠ 0 then
      let s := { s with ht.epoch := s.ht.epoch + 1 }
      (((s.ht.hitches.filter fun p => p.2.role = 1).map Prod.fst).foldl (fun a i => a.oweAll i true) s).htFeed
    else s)
  else done s

/-- A fence held at ingress may end (R289): no earlier VC 0 or VC 4 flit waits, and every frame that carried one has been
acknowledged. -/
def State.fenceClear (s : State) (order : Nat) : Bool :=
  ((s.noc.pool.get 0) ++ (s.noc.pool.get 4)).all (fun p => order < p.order)
    && octs.all fun b => (s.link.tx.get b).held.all fun h => match h.ord with
      | some o => decide (order < o)
      | none => true

/-- FENCE_RELEASE (R289): the oldest fence of a bucket ends as a move to the same braid ends. -/
def execFenceRelease (bucket : Nat) (s : State) : Host.Outcome State Fault Refusal :=
  done (match s.ht.fences.find? fun x => x.1 = bucket with
    | some x =>
      if s.fenceClear x.2 then
        let s := { s with ht.fences := s.ht.fences.erase x, ht.fencesDone := s.ht.fencesDone + 1 }
        let k := s.bucket bucket
        if k.moving then s else s.requeue bucket k.braid
      else s
    | none => s)

/-- Every VC 0 and VC 4 flit accepted before a fenced signal has left its receive buffer (R290). -/
def State.egFenceClear (s : State) (acc : Nat) : Bool :=
  octs.all fun b => (s.link.rx.get b).buf.all fun x => (flitVc x.flit != 0 && flitVc x.flit != 4) || acc ≤ x.acc

/-! ### Administration descriptors (R295, R296) -/

/-- Start a hitch descriptor and check the tenant of the hitch it names; signals left over from the PCLK before apply first
(R281, R295). -/
def State.htDesc (s : State) (r : RingNo) (i : BitVec 32) (op : Nat) (work : Nat → Desc → State → State) : State :=
  s.withDesc r i op fun d s =>
    let h := bf d 64 12
    if s.ringOwner r.val ≠ 0 ∧ (s.ringOwner r.val).toNat ≠ s.hitchOwner h then s.complete r.val i 0x07
    else work h d (s.signalCycle [])

/-- HT_CONFIG. -/
def execHtConfig (r : RingNo) (i : BitVec 32) (s : State) : Host.Outcome State Fault Refusal :=
  done (s.htDesc r i 0x30 fun h d s =>
    if !(s.waitersOf h).isEmpty then s.complete r.val i 0x30
    else
      let old := s.hitch h
      let s := s.modHitch h fun _ => {
        value := BitVec.ofNat 32 (bf d 80 32), barrier := bit d 76, role := BitVec.ofNat 2 (bf d 77 2)
        target := BitVec.ofNat 32 (bf d 112 32), gen := bit d 79, ovf := false, sigDie := 0, sigCore := 0, sigThread := 0
        sigTs := 0, link0 := BitVec.ofNat 31 (bf d 144 31), link1 := BitVec.ofNat 31 (bf d 175 31)
        link2 := BitVec.ofNat 31 (bf d 206 31), link3 := BitVec.ofNat 31 (bf d 237 31) }
      let s := { s with ht.owed := s.ht.owed.filter fun o => o.hitch ≠ h }
      let s := if (s.hitch h).value = old.value ∧ (s.hitch h).gen = old.gen then s else (s.oweAll h false).htFeed
      s.complete r.val i 0 (bf d 80 32))

/-- HT_RESET. -/
def execHtReset (r : RingNo) (i : BitVec 32) (s : State) : Host.Outcome State Fault Refusal :=
  done (s.htDesc r i 0x31 fun h _ s => (s.resetHitch h).complete r.val i 0 (s.waitersOf h).length)

/-- HT_ABORT. -/
def execHtAbort (r : RingNo) (i : BitVec 32) (s : State) : Host.Outcome State Fault Refusal :=
  done (s.htDesc r i 0x32 fun h _ s => (s.abortAll h).complete r.val i 0 (s.waitersOf h).length)

/-- HT_ABORT_THREAD: the thread's entry, where its hitch is one the ring may act on. -/
def execHtAbortThread (r : RingNo) (i : BitVec 32) (s : State) : Host.Outcome State Fault Refusal :=
  done (s.withDesc r i 0x33 fun d s =>
    let s := s.signalCycle []
    match s.ht.waiters.find? fun w => w.die == bf d 80 8 && w.core == bf d 88 10 && w.thread == bf d 98 6 with
    | none => s.complete r.val i 0 0 0
    | some w =>
      if s.ringOwner r.val ≠ 0 ∧ (s.ringOwner r.val).toNat ≠ s.hitchOwner w.hitch then s.complete r.val i 0x07
      else
        ({ s with ht.waiters := s.ht.waiters.erase w }.sendWakes [s.wakeOf w 2]).complete r.val i 0 1 w.hitch)

/-- HT_READ. -/
def execHtRead (r : RingNo) (i : BitVec 32) (s : State) : Host.Outcome State Fault Refusal :=
  done (s.htDesc r i 0x34 fun h _ s =>
    let x := s.hitch h
    s.complete r.val i 0 (packNat [(0, 32, x.value.toNat), (32, 32, x.target.toNat)])
      (packNat [(0, 1, b2n x.gen), (1, 1, b2n x.barrier), (2, 2, x.role.toNat), (4, 1, b2n x.ovf), (5, 14, (s.waitersOf h).length)]))

/-- Status of an HT_SIGNAL (R295): what its operation comes to. -/
def htSignalStatus (h : Hitch) (g : Sig) : Nat :=
  if h.role = 2 then 0x35
  else if h.barrier then (if g.op = 2 then 0 else 0x33)
  else
    let r := combineCounter h.value.toNat [g]
    if r.2.2 then 0x32 else if r.2.1 then 0x31 else 0

/-- HT_SIGNAL. -/
def execHtSignal (r : RingNo) (i : BitVec 32) (s : State) : Host.Outcome State Fault Refusal :=
  done (s.htDesc r i 0x35 fun h d s =>
    let g : Sig := ⟨h, bf d 76 2, bf d 80 32, s.ownDie.toNat, 0x3FF, r.val % 64, 0⟩
    let status := htSignalStatus (s.hitch h) g
    let s := (s.hitchCycle h [g]).1.htFeed
    s.complete r.val i status (s.hitch h).value.toNat)

/-- HT_WAIT: a waiter entry for (die 0xFF, core = ring, thread 0); its descriptor completes in place of a wake. -/
def execHtWait (r : RingNo) (i : BitVec 32) (s : State) : Host.Outcome State Fault Refusal :=
  done (s.htDesc r i 0x36 fun h d s =>
    s.enterWait h 0xFF r.val 0 (bf d 76 2) (BitVec.ofNat 32 (bf d 80 32)) (bf d 112 20) (some (r, i)))

/-! ### Debug view (R300) -/

/-- Entry number of the first waiter of a hitch. -/
def State.headOf (s : State) (i : Nat) : Nat := ((s.waitersOf i).head?.map Waiter.entry).getD 0

/-- Set debug latches. -/
def State.latch (s : State) (l : List (Nat × Nat)) : State :=
  { s with ht.dbg := l.foldl (fun t p => tput t p.1 (BitVec.ofNat 32 p.2)) s.ht.dbg }

/-- HITCH_DEBUG_COPY: a write of FX_HT_DBG_IDX copies the selected hitch; an index beyond the engine's range reads zero. -/
def State.copyHitch (s : State) (v : Reg) : State :=
  let i := bf v 0 12
  let s := { s with ht.dbgIdx := v &&& 0xFFF }
  if !s.htInRange i then s.latch [(0x7204, 0), (0x7208, 0), (0x720C, 0), (0x7210, 0), (0x7214, 0), (0x7218, 0), (0x721C, 0)]
  else
    let h := s.hitch i
    let n := (s.waitersOf i).length
    s.latch [(0x7204, h.value.toNat), (0x7208, h.target.toNat),
      (0x720C, packNat [(0, 1, b2n h.barrier), (1, 2, h.role.toNat), (3, 1, b2n h.gen), (4, 1, b2n h.ovf),
        (5, 8, s.hitchOwner i), (13, 14, n)]),
      (0x7210, packNat [(0, 13, s.headOf i), (13, 1, b2n (n == 0))]),
      (0x7214, packNat [(0, 8, h.sigDie.toNat), (8, 10, h.sigCore.toNat), (18, 6, h.sigThread.toNat)]),
      (0x7218, bf h.sigTs 0 32), (0x721C, bf h.sigTs 32 16)]

def execHitchDebugCopy (v : Reg) (s : State) : Host.Outcome State Fault Refusal :=
  if s.hasHitch then done (if s.start.opened then s.copyHitch v else s) else done s

/-- WAITER_DEBUG_COPY: a write of FX_HT_DBG_WIDX copies one waiter entry. -/
def State.copyWaiter (s : State) (v : Reg) : State :=
  let e := bf v 0 13
  let s := { s with ht.dbgWidx := v &&& 0x1FFF }
  match s.ht.waiters.find? fun w => w.entry = e with
  | none => s.latch [(0x7224, 0), (0x7228, 0), (0x722C, 0), (0x7230, 0)]
  | some w =>
    let rest := (s.waitersOf w.hitch).dropWhile fun x => x.entry ≠ e
    let next := (rest.drop 1).head?
    let left := w.timeout - (s.now - w.since) / 1600
    s.latch [(0x7224, packNat [(0, 1, 1), (1, 8, w.die), (9, 10, w.core), (19, 6, w.thread), (25, 2, w.op)]),
      (0x7228, w.operand.toNat),
      (0x722C, packNat [(0, 12, w.hitch), (12, 13, (next.map Waiter.entry).getD 0), (25, 1, b2n next.isNone)]),
      (0x7230, packNat [(0, 20, left), (20, 1, b2n (w.timeout == 0))])]

def execWaiterDebugCopy (v : Reg) (s : State) : Host.Outcome State Fault Refusal :=
  if s.hasHitch then done (if s.start.opened then s.copyWaiter v else s) else done s

end Sys2Proof.Machine
end

