-- ==== Sys2Proof/Machine/Detect.lean ====
section
/-!
DEFINITION. Strand detect (R99 to R103): the identity words and the patterns that send them, how a receiver decodes what a
site heard, and the classification of Tables 5.7 and 5.8. Functions of an observation alone.
-/
namespace Sys2Proof.Machine

/-! ### Identity words and patterns (R99, R100, R103) -/

/-- CHECK of bits [11:0] of an identity word. -/
def identCheck (x : Nat) : Nat := (x % 16 + x / 16 % 16 + x / 256 % 16) % 16 ^^^ 0xF

/-- The identity word of a strand of a braid. -/
def identWord (p b : Nat) : BitVec 16 :=
  let x := packNat [(0, 6, p), (6, 3, b), (9, 3, 5)]
  BitVec.ofNat 16 (x + identCheck x * 4096)

/-- A valid identity: strand and braid, by MARK, CHECK and the range of the class. -/
def identOf (c : PortClass) (w : BitVec 16) : Option (Nat × Nat) :=
  let x := bf w 0 12
  if bf w 9 3 = 5 ∧ bf w 12 4 = identCheck x ∧ bf w 0 6 < c.nstrands then some (bf w 0 6, bf w 6 3) else none

/-- `n` bits as pairs of half-bits, bit 0 first: a 1 is high then low, a 0 low then high. -/
def manchester (n x : Nat) : Nat :=
  packNat ((List.range n).map fun i => (2 * i, 2, if x.testBit i then 1 else 2))

/-- Half-bits of one repetition. -/
def repHalves (c : PortClass) : Nat := if c.isFibre then 48 else 38

/-- One repetition of a strand's identity pattern: the sync, three high half-bits and three low ones, or 0xA5 in carrier form
on fibre, then the identity word. -/
def identHalves (c : PortClass) (p b : Nat) : BitVec 48 :=
  let w := (identWord p b).toNat
  BitVec.ofNat 48 (if c.isFibre then manchester 24 (0xA5 + w * 256) else 7 + manchester 16 w * 64)

/-! ### What a site heard -/

/-- An observation decoded, by the columns of Tables 5.7 and 5.8. -/
inductive Heard where
  /-- 0 under both pulls; 1 under both pulls; follows the pull, 1 then 0 -/
  | low
  | high
  | follows
  /-- transitions, no accepted identity -/
  | noise
  /-- accepted identity, `inv` after inversion -/
  | ident (strand braid : Nat) (inv : Bool)
  /-- fibre: no power; power and no transitions -/
  | dark
  | stuck
  deriving DecidableEq, Repr

/-- The bits `lo` to `lo + n − 1` of a Manchester sequence, where every pair holds one. -/
def unManchester (h : BitVec 48) (lo : Nat) : Nat → Option Nat
  | 0 => some 0
  | n + 1 =>
    match unManchester h (lo + 2) n with
    | none => none
    | some x => if bit h lo == bit h (lo + 1) then none else some (b2n (bit h lo) + 2 * x)

/-- The word of a repetition whose sync is not inverted. -/
def repWord (c : PortClass) (h : BitVec 48) : Option Nat :=
  if c.isFibre then
    match unManchester h 0 24 with
    | some x => if x % 256 = 0xA5 then some (x / 256) else none
    | none => none
  else if bf h 0 6 = 7 then unManchester h 6 16 else none

/-- A repetition decoded: a valid identity, and whether the sync was inverted. -/
def repIdent (c : PortClass) (h : BitVec 48) : Option (Nat × Nat × Bool) :=
  match repWord c h, repWord c (~~~h) with
  | some w, _ => (identOf c (BitVec.ofNat 16 w)).map fun p => (p.1, p.2, false)
  | none, some w => (identOf c (BitVec.ofNat 16 w)).map fun p => (p.1, p.2, true)
  | none, none => none

/-- Repetitions that must decode to one valid word: 48 of 64, or 192 of 256 (R100, R103). -/
def identNeed (c : PortClass) : Nat := if c.isFibre then 192 else 48

/-- The identity accepted of an observation: enough repetitions decode to it and none to another valid word. The polarity is
that of the first of them (DESIGN CHOICE, assumption log 61). -/
def identHeard (c : PortClass) (l : List Reps) : Option (Nat × Nat × Bool) :=
  let ws := l.filterMap fun r => (repIdent c r.halves).map fun x => (r.count, x)
  match ws with
  | [] => none
  | (_, p, b, inv) :: _ =>
    if ws.all (fun x => x.2.1 = p ∧ x.2.2.1 = b) ∧ identNeed c ≤ (ws.map Prod.fst).sum then some (p, b, inv) else none

/-- Every half-bit of some repetitions is at one level. -/
def constantReps (c : PortClass) (v : Bool) (l : List Reps) : Bool :=
  l.all fun r => bf r.halves 0 (repHalves c) == if v then 2 ^ repHalves c - 1 else 0

/-- An observation without an accepted identity: the pull-up holds for the first half of it and the pull-down for the second. -/
def quietHeard (c : PortClass) (l : List Reps) : Heard :=
  if l.isEmpty then .noise
  else if c.isFibre then (if constantReps c true l || constantReps c false l then .stuck else .noise)
  else if constantReps c false l then .low
  else if constantReps c true l then .high
  else
    let up := l.takeWhile fun r => bf r.halves 0 38 == 2 ^ 38 - 1
    if (up.map Reps.count).sum = 32 ∧ constantReps c false (l.drop up.length) then .follows else .noise

/-- An observation decoded. -/
def heardOf (c : PortClass) : RxObs → Heard
  | .dark => .dark
  | .heard l => match identHeard c l with
    | some x => .ident x.1 x.2.1 x.2.2
    | none => quietHeard c l

/-- An observation of a set of sites, decoded; a site it does not list accepted its own identity word. -/
abbrev Heards := List (Fin 8 × Nat × Heard)

/-- Decode the sites of a report. -/
def heards (c : PortClass) (l : List (Fin 8 × Nat × RxObs)) : Heards := l.map fun x => (x.1, x.2.1, heardOf c x.2.2)

/-- What a site of a receive tile heard. -/
def heardAt (l : Heards) (tile : Fin 8) (site : Nat) : Heard :=
  match l.find? fun x => x.1 = tile ∧ x.2.1 = site with
  | some x => x.2.2
  | none => .ident site tile.val false

/-! ### Receive tiles (R102) -/

/-- The braid a site's accepted identity names. -/
def Heard.braid : Heard → Option Nat
  | .ident _ b _ => some b
  | _ => none

/-- Accepted identities of a tile that name a braid. -/
def tileCount (c : PortClass) (l : Heards) (tile b : Fin 8) : Nat :=
  ((List.range c.nstrands).filter fun q => (heardAt l tile q).braid == some b.val).length

/-- The braid most of a tile's accepted identities name, of some braids, the lowest on a tie. -/
def tileBraid (c : PortClass) (l : Heards) (bs : List (Fin 8)) (tile : Fin 8) : Option (Fin 8) :=
  let best := bs.foldl (fun m b => max m (tileCount c l tile b)) 0
  if best = 0 then none else bs.find? fun b => tileCount c l tile b == best

/-- The tile of a far braid: of the tiles assigned to it, the one with most of its identities, the lowest on a tie. -/
def tileFor (c : PortClass) (l : Heards) (bs : List (Fin 8)) (b : Fin 8) : Option (Fin 8) :=
  let ts := octs.filter fun t => tileBraid c l bs t == some b
  let best := ts.foldl (fun m t => max m (tileCount c l t b)) 0
  ts.find? fun t => tileCount c l t b == best

/-! ### Classification (Tables 5.7 and 5.8) -/

/-- Sites a clock may arrive on (R102). -/
def clockSite (q : Nat) : Bool := q == 32 || q == 33 || q == 34 || q == 35

/-- The sites of a tile on which a far strand's identity was accepted, with its polarity. -/
def siteOf (c : PortClass) (l : Heards) (tile b : Fin 8) (p : Nat) : List (Nat × Bool) :=
  (List.range c.nstrands).filterMap fun q =>
    match heardAt l tile q with
    | .ident x y inv => if x = p ∧ y = b.val then some (q, inv) else none
    | _ => none

/-- Code of an observation without an accepted identity of the braid; one that names another braid is foreign. -/
def obsCode : Heard → Nat
  | .low => 2
  | .high => 3
  | .follows => 1
  | .noise => 5
  | .dark => 0xB
  | .stuck => 0xC
  | .ident _ _ _ => 6

/-- Code of a far strand no site accepted: that of its own site; where that site accepted another strand of the braid, 4 if
a second site decoded the same word, else the code of the site that strand left, and so on (DESIGN CHOICE, assumption log 61). -/
def missingCode (c : PortClass) (l : Heards) (tile b : Fin 8) : Nat → Nat → Nat
  | 0, _ => 5
  | n + 1, q =>
    match heardAt l tile q with
    | .ident p y _ =>
      if y ≠ b.val then 6
      else if (siteOf c l tile b p).length > 1 then (if c.isFibre then 5 else 4)
      else missingCode c l tile b n p
    | x => obsCode x

/-- Classification of a far strand at the receive end: code, site, inverted. `retired` is its lane map bit. A fibre identity
accepted at two sites, or after inversion, has no row in Table 5.8: the model codes it 4, not used, or 9, used (DESIGN CHOICE,
assumption log 62). -/
def rxClass (c : PortClass) (l : Heards) (tile b : Fin 8) (p : Nat) (retired : Bool) : Nat × Option Nat × Bool :=
  match siteOf c l tile b p with
  | [] => (missingCode c l tile b c.nstrands p, none, false)
  | [(q, inv)] =>
    if !c.isFibre && p ≥ 34 && !clockSite q then (6, none, false)
    else if retired then (8, some q, inv)
    else if inv then (9, some q, true)
    else if q ≠ p then (0xA, some q, false) else (0, some q, false)
  | _ => (4, none, false)

/-- Codes that leave a strand usable. -/
def codeUsable (k : Nat) : Bool := k == 0 || k == 9 || k == 0xA

/-- Codes of a strand found faulty, which amend the lane map where it did not retire the strand already (R106). -/
def codeFaulty (k : Nat) : Bool := k == 1 || k == 2 || k == 3 || k == 4 || k == 5 || k == 0xB || k == 0xC

/-! ### Pad readback (R100, R101) -/

/-- One half of a braid tile, by half row and signal column (Table 4.2). -/
def halfTile : List (List Nat) :=
  [[0, 1, 2, 3, 4, 5], [6, 7, 8, 9, 10, 11], [12, 13, 34, 35, 14, 15], [16, 17, 32, 33, 18, 19], [20, 21, 22, 23, 24, 25],
    [26, 27, 28, 29, 30, 31]]

/-- The sites next to a strand's in its row or column; mirroring a face keeps them (R76). -/
def neighbours (p : Nat) : List Nat :=
  let at_ := fun (r c : Nat) => (halfTile.getD r []).getD c 99
  let here := (List.range 36).filter fun i => at_ (i / 6) (i % 6) == p
  here.flatMap fun i =>
    let r := i / 6
    let c := i % 6
    ((if r = 0 then [] else [at_ (r - 1) c]) ++ [at_ (r + 1) c] ++ (if c = 0 then [] else [at_ r (c - 1)]) ++ [at_ r (c + 1)]).filter
      fun x => x < 36

/-- Code of what a transmitter read back at a pad: short to ground or supply where the pad never follows one level of the
drive, neighbour short where it differs only as one neighbour drives the other value; 0 where the pads show no fault. -/
def padCode (p b : Nat) (l : TxObs) : Nat :=
  let drive := bf (identHalves .lt p b) 0 38
  let read := l.map fun r => bf r.halves 0 38
  if l.isEmpty || read.all (· == drive) then 0
  else if read.all fun h => h &&& drive == 0 then 2
  else if read.all fun h => h ||| drive == 2 ^ 38 - 1 then 3
  else if (neighbours p).any fun q =>
    read.all fun h => (h ^^^ drive) &&& (bf (identHalves .lt q b) 0 38 ^^^ drive ^^^ (2 ^ 38 - 1)) == 0 then 4
  else 0

end Sys2Proof.Machine
end

