-- ==== Sys2Proof/Machine/Trims.lean ====
section
/-!
DEFINITION. Trims (R142, R148, R157 to R162): loading, holding and retaining the trims of a strand, and the temperature sets of
fibre trims.
-/
namespace Sys2Proof.Machine

/-! ### Trims (R148, R162) -/

/-- Copy a strand's electrical trims into the AON store (R148, R162). -/
def State.retain (s : State) (dir : Nat) (b : Fin 8) (p : Nat) : State :=
  if s.cls.isFibre then s
  else
    let t := s.trim dir b p
    { s with aon.trims := tput s.aon.trims (strandKey dir b p) ⟨t.rx, t.dfe, t.tx⟩ }

/-- Apply held host values in one step (R162). -/
def applyPending (t : Trim) : Trim :=
  { t with
    rx := t.pRx.getD t.rx
    dfe := t.pDfe.getD t.dfe
    tx := t.pTx.getD t.tx
    otx := t.pOtx.getD t.otx
    orx := t.pOrx.getD t.orx
    pRx := none
    pDfe := none
    pTx := none
    pOtx := none
    pOrx := none }

/-- The optical trims of a direction are where calibration or the working set has put them: no tracking is due until the next
temperature value (R158). -/
def State.settleGoal (s : State) (dir : Nat) (b : Fin 8) (p : Nat) : State :=
  if s.cls.isFibre then s.modTrim dir b p fun t => { t with goal := some (if dir = 0 then t.otx else t.orx) } else s

/-- Put a transmit strand's trims of before its calibration back in one step; the AON store with them where CAL_END had
loaded new ones (R146, R150, R162). -/
def State.restoreServe (s : State) (b : Fin 8) (c : CalServe) : State :=
  let s := (s.modTrim 0 b c.strand fun t => { t with tx := c.old.tx, otx := c.oldO }).settleGoal 0 b c.strand
  if c.ended.isSome then s.retain 0 b c.strand else s

/-- Put a receive strand's trims of before its calibration back in one step, its deskew among them; the AON store with them where
the new ones had been loaded (R146, R150, R162). -/
def State.restoreTrims (s : State) (b : Fin 8) (r : CalRun) : State :=
  let s := (s.modTrim 1 b r.strand fun t => { t with rx := r.old.rx, dfe := r.old.dfe, orx := r.oldO }).settleGoal 1 b r.strand
  let s := s.modStrand 1 b r.strand fun x => { x with arrival := r.oldArrival, deskew := r.oldDeskew }
  if r.phase == .back then s.retain 1 b r.strand else s

/-- Host values are held: PENDING. -/
def Trim.pending (t : Trim) : Bool :=
  t.pRx.isSome || t.pDfe.isSome || t.pTx.isSome || t.pOtx.isSome || t.pOrx.isSome

/-- A retrain of a braid discards held values (R162). -/
def State.dropPending (s : State) (dir : Nat) (b : Fin 8) : State :=
  (List.range s.cls.nstrands).foldl (fun a p =>
    if (a.trim dir b p).pending then
      a.modTrim dir b p fun t => { t with pRx := none, pDfe := none, pTx := none, pOtx := none, pOrx := none }
    else a) s

/-! ### Temperature sets (R157 to R160) -/

/-- Codes of the four points (Table 7.9). -/
def pointCode (k : Nat) : Int := 416 + 60 * k

/-- Number of a working-set entry (R377). -/
def tsetKey (point dir braid wave : Nat) : Nat := ((point * 2 + dir) * 8 + braid) * 5 + wave

/-- A working-set entry in effect; built-in values are the reset codes of Table 7.11 (R161). -/
def State.tset (s : State) (point dir braid wave : Nat) : Reg :=
  tget (if dir = 0 then 0x00200800 else 0x08180800) s.cal.tsetAct (tsetKey point dir braid wave)

/-- Temperature the port uses: held between 30 °C and 95 °C (R157). -/
def State.tempHeld (s : State) : Int := max 376 (min 636 (s.cal.temp.toNat : Int))

/-- Set value of an interpolated trim at a temperature (R157). -/
def interp (v : Nat → Nat) (t : Int) : Int :=
  let k : Nat := if t ≤ 476 then 0 else if t ≤ 536 then 1 else 2
  let num := ((v (k + 1) : Int) - v k) * (t - pointCode k) + 30
  (v k : Int) + num / 60

/-- Live code: set value and offset, clamped to the DAC (R157). -/
def liveCode (v : Nat → Nat) (t off : Int) (len : Nat) : Nat :=
  (max (0 : Int) (min ((2 ^ len - 1 : Nat) : Int) (interp v t + off))).toNat

/-- The two interpolated fields of a direction: lowest bit and length (Table 7.11). -/
def interpFields (dir : Nat) : (Nat × Nat) × (Nat × Nat) := if dir = 0 then ((0, 12), (12, 10)) else ((0, 12), (12, 8))

/-- Set value of an interpolated trim of a wavelength at a temperature. -/
def State.setValue (s : State) (dir : Nat) (b : Fin 8) (p : Nat) (f : Nat × Nat) (t : Int) : Int :=
  interp (fun k => bf (s.tset k dir b.val p) f.1 f.2) t

/-- Live trims of a wavelength at the present temperature. -/
def State.liveTrim (s : State) (dir : Nat) (b : Fin 8) (p : Nat) : Reg :=
  let t := s.trim dir b p
  let f := interpFields dir
  let v := fun (g : Nat × Nat) (o : Int) => liveCode (fun k => bf (s.tset k dir b.val p) g.1 g.2) s.tempHeld o g.2
  let cur := if dir = 0 then t.otx else t.orx
  setBf (setBf cur f.1.1 f.1.2 (v f.1 t.off0)) f.2.1 f.2.2 (v f.2 t.off1)

/-- Set the optical trims of a direction. -/
def setOpt (dir : Nat) (v : Reg) (t : Trim) : Trim := if dir = 0 then { t with otx := v } else { t with orx := v }
def getOpt (dir : Nat) (t : Trim) : Reg := if dir = 0 then t.otx else t.orx

/-- Nearest point, moving only a whole degree past a midpoint (R159): a degree is four codes. -/
def nextNearest (cur : Nat) (t : Int) : Nat :=
  let up := cur < 3 && t > pointCode cur + 30 + 4
  let dn := cur > 0 && t < pointCode cur - 30 - 4
  if up then cur + 1 else if dn then cur - 1 else cur

/-- Nearest point with no history: the closest, the lower on a midpoint. -/
def startNearest (t : Int) : Nat := if t ≤ 446 then 0 else if t ≤ 506 then 1 else if t ≤ 566 then 2 else 3

/-- After a clean fibre calibration: offsets, and capture of a point (R157, R160). -/
def State.captureFibre (s : State) (dir : Nat) (b : Fin 8) (p temp1 temp6 : Nat) : State :=
  let f := interpFields dir
  let code := getOpt dir (s.trim dir b p)
  let near := (List.range 4).find? fun k => ((temp1 : Int) - pointCode k).natAbs ≤ 8
  let steady := ((temp6 : Int) - (temp1 : Int)).natAbs ≤ 8
  let s := match near with
    | some k =>
      if bit s.cal.ctl 17 && steady then
        { s with
          cal.tset := tput s.cal.tset (tsetKey k dir b.val p) code
          cal.tsetAct := tput s.cal.tsetAct (tsetKey k dir b.val p) code
          cal.captured := s.cal.captured ||| BitVec.ofNat 4 (2 ^ k) }.raise 0x23 (code := k) (braid := b.val) (dir := dir) (strand := p)
      else s
    | none => s
  let t : Int := max 376 (min 636 (temp1 : Int))
  (s.settleGoal dir b p).modTrim dir b p fun x => { x with
    off0 := (bf code f.1.1 f.1.2 : Int) - s.setValue dir b p f.1 t
    off1 := (bf code f.2.1 f.2.2 : Int) - s.setValue dir b p f.2 t }

end Sys2Proof.Machine
end

