-- ==== Sys2Proof/Machine/StrandOps.lean ====
section
/-!
DEFINITION. Strands and the strand-function exchange (R119 to R138): the lane map of R120, the request queue, starting,
switching and aborting an operation, and quarantine.
-/
namespace Sys2Proof.Machine

/-! ### Maps and widths (R105, R120) -/

/-- First entry of a list that satisfies a test and is not taken. -/
def firstFree (taken : List Nat) (l : List Nat) : Option Nat := l.find? fun p => !taken.contains p

/-- First pass of R120: each logical strand from its own group. -/
def mapGroups (u : List Nat) (stride : Nat) (w : Nat) : List (Option Nat) :=
  (List.range w).map fun l => ((List.range stride).map fun k => l * stride + k).find? fun p => u.contains p

/-- Second pass of R120: needs filled from the pool in order. -/
def fillNeeds : List (Option Nat) → List Nat → List Nat
  | [], _ => []
  | some p :: m, pool => p :: fillNeeds m pool
  | none :: m, q :: pool => q :: fillNeeds m pool
  | none :: m, [] => 0x3F :: fillNeeds m []

/-- The lane map of R120 over a usable set at a width. -/
def laneMap (c : PortClass) (u : List Nat) (w : Nat) : List Nat :=
  let groups := mapGroups u (c.ndata / w) w
  let taken := groups.filterMap id
  let pool := (c.spares.filter u.contains) ++ ((List.range c.ndata).filter fun p => u.contains p && !taken.contains p)
  fillNeeds groups pool

/-- The widest width a count of usable strands supports (R105); 0 for none. -/
def widestWidth (c : PortClass) (n : Nat) : Nat := (c.widths.find? fun w => w ≤ n).getD 0

/-- Usable set of a braid at this end (R120): strands that can carry a logical strand. -/
def State.usable (s : State) (dir : Nat) (b : Fin 8) : List Nat :=
  (List.range s.cls.nuse).filter fun p =>
    match (s.strand dir b p).st with
    | .active | .standby | .idle | .mirror => true
    | _ => false

/-- The other clock strand. -/
def otherClock (k : Nat) : Nat := if k = 34 then 35 else 34

/-- Strands a splice may choose as TO, in the order of the pool of R120. -/
def State.splicePool (s : State) (dir : Nat) (b : Fin 8) : List Nat :=
  (s.cls.spares ++ List.range s.cls.ndata).filter fun p =>
    (s.strand dir b p).st == .standby || (s.strand dir b p).st == .idle

/-- Transmit braid a receiving end's frame about braid `b` travels on (R125). -/
def State.replyBraid (s : State) (b : Fin 8) : Fin 8 :=
  let up := s.upTx
  if up.contains b then b else up.headD b

/-- Queue a CONTROL frame on a transmit braid. -/
def State.sendCtl (s : State) (b : Fin 8) (opcode : Nat) (p : NocFlit) : State :=
  s.modTx b fun t => { t with ctl := t.ctl ++ [(opcode, p)] }

/-! ### Quarantine (R119, R121, R132) -/

/-- A strand is whipped and quarantined with a code, and LANE_MAP_AMEND is raised; an override that names it lapses. -/
def State.quarantine (s : State) (dir : Nat) (b : Fin 8) (p : Nat) (code : Nat) : State :=
  let sh := s.shape dir b
  let lapses := sh.override && (sh.map.contains p || (s.strand dir b p).st == .active)
  let s := s.modStrand dir b p fun x => { x with st := .quarantined, logical := none, code := BitVec.ofNat 4 code }
  let s := s.modShape dir b fun x => { x with quarantines := x.quarantines + 1 }
  let s := s.raise 0x19 (code := code) (braid := b.val) (dir := dir) (strand := p)
  if lapses then
    (s.modShape dir b fun x => { x with override := false }).raise 0x1A (code := 2) (braid := b.val) (dir := dir)
  else s

/-- Give a released strand its disposition (Table 6.2). -/
def State.release (s : State) (dir : Nat) (b : Fin 8) (p disp code : Nat) : State :=
  match disp with
  | 2 => s.quarantine dir b p code
  | 1 => s.modStrand dir b p fun x => { x with st := .stoodAside, logical := none }
  | _ => s.modStrand dir b p fun x => { x with st := .standby, logical := none }

/-- Strands a map does not use are STANDBY, or IDLE while the braid is reefed: its width came from a REEF, or is below the widest
its usable strands support (R120, R128). -/
def State.settleSpares (s : State) (dir : Nat) (b : Fin 8) : State :=
  let sh := s.shape dir b
  let u := s.usable dir b
  let st := if sh.reefed || sh.width < widestWidth s.cls u.length then StrandSt.idle else .standby
  (u.filter fun p => !sh.map.contains p).foldl (fun a p =>
    if (a.strand dir b p).st == .mirror then a else a.modStrand dir b p fun x => { x with st := st, logical := none }) s

/-- Put a map and width in force: the strands it names carry their logical strands. -/
def State.setMap (s : State) (dir : Nat) (b : Fin 8) (map : List Nat) (clock : Nat) : State :=
  let s := s.modShape dir b fun x => { x with map := map, width := map.length, clock := clock }
  map.zipIdx.foldl (fun a q => a.modStrand dir b q.1 fun x =>
    { x with st := .active, logical := some q.2, home := some q.2 }) s

/-! ### Ends of an operation -/

/-- Complete the command behind an operation, where one asked for it. -/
def State.opDone (s : State) (o : StrandOp) (status result detail : Nat) : State :=
  match o.desc with
  | some (r, i) => s.complete r.val i status result detail
  | none => s

/-- RESULT of a strand-function command (Table 10.5). -/
def opResult (o : StrandOp) : Nat :=
  match o.op with
  | 1 => o.dest
  | 2 => o.frm
  | _ => o.width

/-- Operation kinds. -/
def StrandOp.spliceType (o : StrandOp) : Bool := o.op == 1 || o.op == 2 || o.op == 5

/-- Every strand of an operation returns to its state before PREPARE, and the map stays as it was (R129). Only a splice-type
operation has changed a state by then, that of TO, which keeps the code; Table 6.2 gives an aborted MIRROR the state STANDBY and
R129 the one before: the model takes R129 (DESIGN CHOICE, assumption log 64). -/
def State.restoreOp (s : State) (dir : Nat) (b : Fin 8) (o : StrandOp) (code : Nat) : State :=
  let s := if !o.spliceType then s else s.modStrand dir b o.dest fun x =>
    { x with st := if x.st == .mirror then x.prev else x.st, abort := BitVec.ofNat 4 code }
  s.modShape dir b fun x => { x with op := none, lastOp := o.op, lastToken := o.token, aborts := x.aborts + 1 }

/-- CLOCK of a payload: 0x3F in class 6, whose braids have no clock strand. -/
def clockField (clock : Nat) : Nat := if clock = 0 then 0x3F else clock

/-- Strand-function payload of an operation. -/
def opPayload (o : StrandOp) (b : Fin 8) (sw code role : Nat) : NocFlit :=
  mkStrand o.op b.val (b2n o.requested) o.token o.logical o.frm o.dest o.width o.disp o.reason sw code o.map
    (clockField o.clock) role

/-- ABORT of a request that has no TOKEN yet (R126 step 1). -/
def refusePayload (o : StrandOp) (b : Fin 8) (code : Nat) : NocFlit :=
  mkStrand o.op b.val 1 0 o.logical o.frm 0x3F 0 0 o.reason 0 code [] 0x3F 0

/-- Refuse a request: a remote one draws an ABORT with TOKEN 0x00, a command completes REFUSED. R125 names no braid for an ABORT
of the transmitting end; it travels as one of a receiving end does (DESIGN CHOICE, assumption log 64). -/
def State.refuseReq (s : State) (b : Fin 8) (o : StrandOp) (code : Nat) : State :=
  if o.requested then s.sendCtl (s.replyBraid b) 0x24 (refusePayload o b code)
  else s.opDone o 0x02 0 code

/-! ### The request queue (R135) -/

/-- Rank of a request. -/
def StrandOp.rank (o : StrandOp) : Nat :=
  if o.disp = 2 then 0 else if o.op = 6 then 1
  else match o.reason with
    | 3 => 2
    | 2 => 3
    | _ => 4

/-- Of two requests of one rank the later goes first only where both arrived in one PCLK from the two sources, and the arbiter
stood at the later one's. -/
def StrandOp.ahead (o x : StrandOp) : Bool :=
  o.rank < x.rank || (o.rank == x.rank && o.arrAt == x.arrAt && o.requested != x.requested && !x.first)

/-- Insert behind every request of a higher rank, and of its rank as they arrived. -/
def insertOp (o : StrandOp) : List StrandOp → List StrandOp
  | [] => [o]
  | x :: l => if o.ahead x then o :: x :: l else x :: insertOp o l

/-- The newest request below the first rank. -/
def newestLower (q : List StrandOp) : Option StrandOp :=
  q.foldl (fun m x => if x.rank = 0 then m else match m with
    | some y => if y.arr < x.arr then some x else m
    | none => some x) none

/-- Queue a request at the transmitting end: four at most; a quarantining one displaces the newest of lower rank. The
round-robin pointer moves past the source that was granted. -/
def State.queueOp (s : State) (b : Fin 8) (o : StrandOp) : State :=
  let q := (s.shape 0 b).queue
  let src := b2n o.requested
  let o := { o with arr := q.foldl (fun m x => max m (x.arr + 1)) 0, arrAt := s.now, first := s.link.reqPtr == src }
  let s := { s with link.reqPtr := 1 - src }
  if q.length < 4 then s.modShape 0 b fun x => { x with queue := insertOp o x.queue }
  else match o.disp == 2, newestLower q with
    | true, some last => (s.modShape 0 b fun x => { x with queue := insertOp o (x.queue.erase last) }).refuseReq b last 8
    | _, _ => s.refuseReq b o 8

/-! ### Starting an operation (R126, R133, R136) -/

/-- Next TOKEN of a braid: 0x01 to 0xFF, wrapping (R125). -/
def nextTok (t : Nat) : Nat := if t ≥ 255 then 1 else t + 1

/-- Assign a TOKEN and make the operation the one in progress. -/
def State.assignOp (s : State) (b : Fin 8) (o : StrandOp) : StrandOp × State :=
  let tok := nextTok (s.shape 0 b).lastToken
  let o := { o with token := tok }
  (o, s.modShape 0 b fun x => { x with op := some o, lastOp := o.op, lastToken := tok })

/-- Queue a PREPARE: a flit under the drive it announces goes out first (R126 step 2). -/
def State.sendPrepare (s : State) (b : Fin 8) (p : NocFlit) : State :=
  (s.modTx b fun t => { t with prepWait := true }).sendCtl b 0x21 p

/-- A strand chosen as TO mirrors, its state before PREPARE kept. -/
def State.mirrorTo (s : State) (dir : Nat) (b : Fin 8) (p : Nat) : State :=
  s.modStrand dir b p fun x => { x with prev := x.st, st := .mirror }

/-- Run a REEF: COMMIT at once (R126). `disp` 2 quarantines FROM at the switch. -/
def State.beginReef (s : State) (b : Fin 8) (o : StrandOp) (width : Nat) : State :=
  let u := (s.usable 0 b).filter fun p => p ≠ o.frm
  let o := { o with op := 3, width := width, map := laneMap s.cls u width, clock := (s.shape 0 b).clock, dest := 0x3F, logical := 0x3F }
  let r := s.assignOp b o
  r.2.sendCtl b 0x23 (opPayload r.1 b 0 0 0)

/-- PREPARE of a splice-type operation onto `to`. -/
def State.beginSplice (s : State) (b : Fin 8) (o : StrandOp) (dest : Nat) : State :=
  let sh := s.shape 0 b
  let o := { o with
    dest := dest
    width := sh.width
    map := if o.op = 5 then sh.map else sh.map.set o.logical dest
    clock := if o.op = 5 then dest else sh.clock }
  let r := (s.mirrorTo 0 b dest).assignOp b o
  r.2.sendPrepare b (opPayload { r.1 with map := [] } b 0 0 0)

/-- Start one request at the transmitting end. `retire` gives what happens where no width remains (R133). -/
def State.beginOp (s : State) (b : Fin 8) (o : StrandOp) (retire : State → State) : State :=
  let sh := s.shape 0 b
  match o.op with
  | 1 =>
    let f := s.strand 0 b o.frm
    match f.st == .active, f.logical with
    | true, some l =>
      let o := { o with logical := l }
      if o.dest ≠ 0x3F then
        let t := (s.strand 0 b o.dest).st
        if t = .standby ∨ t = .idle then s.beginSplice b o o.dest else s.refuseReq b o 4
      else match (s.splicePool 0 b).head? with
        | some p => s.beginSplice b o p
        | none =>
          if o.reason = 2 then s.refuseReq b o 7
          else match o.disp == 2, s.cal.serve.get b with
            | true, some c =>
              -- R136: the only standby strand covers a calibration: abandon it, return its logical strand, splice after
              match (s.strand 0 b c.strand).st == .stoodAside, (s.strand 0 b c.strand).home with
              | true, some h =>
                let back := { o with op := 2, requested := false, logical := h, frm := sh.map.getD h 0x3F, disp := 0, reason := 2, desc := none }
                let s := { s with cal.serve := s.cal.serve.put b none }.restoreServe b c
                (s.modShape 0 b fun x => { x with queue := insertOp o x.queue }).beginSplice b back c.strand
              | _, _ => s.refuseReq b o 7
            | _, _ =>
              if bit s.link.splAct 1 then
                let u := (s.usable 0 b).filter fun p => p ≠ o.frm
                let w := widestWidth s.cls u.length
                if w = 0 then retire (s.refuseReq b o 7)
                else s.beginReef b { o with reason := 5, disp := 2 } w
              else (s.refuseReq b o 7).raise 0x1C (braid := b.val) (arg0 := sh.width)
    | _, _ => s.refuseReq b o 4
  | 2 =>
    let t := s.strand 0 b o.dest
    match t.st == .stoodAside || t.st == .standby, t.home with
    | true, some l => s.beginSplice b { o with logical := l, frm := sh.map.getD l 0x3F } o.dest
    | _, _ => s.refuseReq b o 4
  | 3 =>
    if s.cls.widths.contains o.width && o.width < sh.width then s.beginReef b o o.width else s.refuseReq b o 7
  | 4 =>
    let w := min o.width (widestWidth s.cls (s.usable 0 b).length)
    if !s.cls.widths.contains o.width || o.width ≤ sh.width then s.refuseReq b o 7
    else if w ≤ sh.width then (if o.requested then s.refuseReq b o 7 else s.opDone o 0 sh.width 0)
    else
      let m := laneMap s.cls (s.usable 0 b) w
      let r := s.assignOp b { o with width := w, map := m, clock := sh.clock, logical := 0x3F, frm := 0x3F, dest := 0x3F }
      r.2.sendPrepare b (opPayload { r.1 with map := [] } b 0 0 0)
  | 5 =>
    let k := otherClock sh.clock
    if (s.strand 0 b k).st = .standby then
      s.beginSplice b { o with frm := sh.clock, logical := 0x3F } k
    else s.refuseReq b o 4
  | _ =>
    let k := if o.clock = 0x3F || s.cls.isFibre then sh.clock else o.clock
    if sh.override && (k == sh.clock || (s.strand 0 b k).st == .standby) then
      let r := s.assignOp b { o with width := o.map.length, clock := k, logical := 0x3F, frm := 0x3F, dest := 0x3F }
      r.2.sendPrepare b (opPayload r.1 b 0 0 0)
    else s.refuseReq b o 4

/-- A braid runs operations: ACTIVE or REEFED, up, none in progress, and no calibration holds its slot (R129, R134,
R145). A quarantining request and the return of a cover may start while a calibration holds the slot. -/
def State.slotOpen (s : State) (b : Fin 8) (o : StrandOp) : Bool :=
  (s.link.tx.get b).ladder == .up && (s.shape 0 b).op.isNone && !bit s.pwr.dozing b.val
    && ((s.cal.serve.get b).isNone || o.disp == 2 || (o.op == 2 && o.reason == 2))

/-- Start the first queued request that may start, at most `n` (a refused one makes room for the next). -/
def State.runQueue (retire : Fin 8 → State → State) : Nat → State → Fin 8 → State
  | 0, s, _ => s
  | n + 1, s, b =>
    match (s.shape 0 b).queue.find? (s.slotOpen b) with
    | none => s
    | some o =>
      let s := s.modShape 0 b fun x => { x with queue := x.queue.erase o }
      let s := s.beginOp b o (retire b)
      State.runQueue retire n s b

/-! ### The switch (R127, R128) -/

/-- Code a switch quarantines FROM with (R132). A host SPLICE with DISPOSITION quarantine has no cause code in the spec: the model
writes 0x7 (DESIGN CHOICE, assumption log 64). -/
def opCode (o : StrandOp) : Nat := if o.reason = 1 ∨ o.reason = 5 ∨ o.reason = 6 then 0xD else 0x7

/-- Count a switch and end the operation: TO of a splice-type one carries no abort code any more (Table 6.10). -/
def State.countSwitch (s : State) (dir : Nat) (b : Fin 8) (o : StrandOp) : State :=
  let s := if o.spliceType then s.modStrand dir b o.dest fun x => { x with abort := 0 } else s
  s.modShape dir b fun x => { x with
    op := none
    lastOp := o.op
    lastToken := o.token
    switches := if o.spliceType then x.switches + 1 else x.switches
    widths := if o.spliceType then x.widths else x.widths + 1 }

/-- A width operation leaves the braid reefed: after a REEF, and after an UNREEF that stops short of the widest (R120, R128). -/
def State.reefedBy (s : State) (dir : Nat) (b : Fin 8) (o : StrandOp) : Bool :=
  match o.op with
  | 3 => true
  | 4 => o.width < widestWidth s.cls (s.usable dir b).length
  | 6 => false
  | _ => (s.shape dir b).reefed

/-- The map or clock of the braid changes over at the switch. -/
def State.moveMap (s : State) (dir : Nat) (b : Fin 8) (o : StrandOp) : State :=
  if o.op = 5 then
    (s.modStrand dir b o.dest fun x => { x with st := .active }).modShape dir b fun x => { x with clock := o.clock }
  else
    let old := (s.shape dir b).clock
    let s := if o.clock = old then s
      else (s.modStrand dir b old fun x => { x with st := .standby }).modStrand dir b o.clock fun x => { x with st := .active }
    let reefed := s.reefedBy dir b o
    (s.setMap dir b o.map o.clock).modShape dir b fun x => { x with reefed := reefed }

/-- What happens to the strands that leave: FROM takes its DISPOSITION, others leave the width (Table 6.2). -/
def State.dispose (s : State) (dir : Nat) (b : Fin 8) (o : StrandOp) : State :=
  (if o.frm = 0x3F then s else s.release dir b o.frm o.disp (opCode o)).settleSpares dir b

/-- The receiving end accepts flit SWITCH_SEQ (R127). -/
def State.switchRx (s : State) (b : Fin 8) (o : StrandOp) : State :=
  ((s.moveMap 1 b o).dispose 1 b o).countSwitch 1 b o

/-- The transmitting end sends flit SWITCH_SEQ: new map, FROM still driven (R127). -/
def State.switchTx (s : State) (b : Fin 8) (o : StrandOp) : State :=
  let s := s.moveMap 0 b o
  if o.spliceType ∧ o.frm ≠ 0x3F then s.modStrand 0 b o.frm fun x => { x with st := .active } else s

/-- The part of a transmit end in the calibration of a strand, as it begins. -/
def State.serve0 (s : State) (b : Fin 8) (p token : Nat) : CalServe :=
  let t := s.trim 0 b p
  let r : RetTrim := ⟨t.rx, t.dfe, t.tx⟩
  { strand := p, token := token, step := 0, pattern := 0, old := r, oldO := t.otx, new := r, newO := t.otx
    temp1 := s.cal.temp.toNat, temp6 := s.cal.temp.toNat, ended := none }

/-- The transmit end's part in a calibration is over: a fibre one that succeeded sets its offsets, and may capture (R157, R160). -/
def State.serveDone (s : State) (b : Fin 8) (v : CalServe) : State :=
  let s := { s with cal.serve := s.cal.serve.put b none }
  if s.cls.isFibre && v.ended == some 0 then s.captureFibre 0 b v.strand v.temp1 v.temp6 else s

/-- A calibration holds the braid's slot from its cover to its return (R145). -/
def State.calHold (s : State) (b : Fin 8) (o : StrandOp) : State :=
  if o.reason ≠ 2 || !o.spliceType then s
  else if o.op = 2 then
    match s.cal.serve.get b with
    | some v => s.serveDone b v
    | none => s
  else { s with cal.serve := s.cal.serve.put b (some (s.serve0 b o.frm o.token)) }

/-- The transmitting end has SWITCH_SEQ acknowledged: FROM takes its DISPOSITION and the operation is complete. -/
def State.settleTx (s : State) (b : Fin 8) (o : StrandOp) : State :=
  (((s.dispose 0 b o).countSwitch 0 b o).calHold b o).opDone o 0 (opResult o) 0

/-! ### Aborts (R129) -/

/-- The return of a calibration is aborted: the strand has failed alignment (code 0x2, R148), or the old trims come back and the
strand, which nothing calibrates any more, stands by (Table 7.6; DESIGN CHOICE, assumption log 67). -/
def State.calReturnLost (s : State) (b : Fin 8) (code : Nat) : State :=
  match s.cal.serve.get b with
  | none => s
  | some v =>
    let s := { s with cal.serve := s.cal.serve.put b none }
    if code = 2 then s
    else (s.restoreServe b v).modStrand 0 b v.strand fun x => if x.st == .stoodAside then { x with st := .standby, logical := none } else x

/-- The transmitting end ends its operation with a code and tells the far end. A REQUEST behind it travels in the
ABORT's REQUESTED. -/
def State.abortTx (s : State) (b : Fin 8) (code : Nat) (tell : Bool) : State :=
  match (s.shape 0 b).op with
  | none => s
  | some o =>
    let s := s.restoreOp 0 b o code
    let s := if o.op = 2 && o.reason = 2 then s.calReturnLost b code else s
    let s := if tell then s.sendCtl b 0x24 (opPayload { o with map := [] } b 0 code 0) else s
    s.opDone o 0x03 0 code

/-- The receiving end ends the operation it was preparing. -/
def State.abortRx (s : State) (b : Fin 8) (code : Nat) (tell : Bool) : State :=
  match (s.shape 1 b).op with
  | none => s
  | some o =>
    let s := s.restoreOp 1 b o code
    let s := if tell then s.sendCtl (s.replyBraid b) 0x24 (opPayload { o with map := [], requested := false } b 0 code 1) else s
    s.opDone o 0x03 0 code

/-- A retrain supersedes operations whose SWITCH_SEQ has not been accepted, and queued requests of the receiving end
(R131); both ends do so by themselves. -/
def State.supersede (s : State) (dir : Nat) (b : Fin 8) : State :=
  if dir = 0 then s.abortTx b 5 false
  else
    let s := s.abortRx b 5 false
    let q := (s.shape 1 b).queue
    let s := s.modShape 1 b fun x => { x with queue := [] }
    q.foldl (fun a o => a.opDone o 0x03 0 5) s

/-- The strand-function request of a receiving end: sent to the far end and kept as outstanding (R126, R134). -/
def State.requestFar (s : State) (b : Fin 8) (o : StrandOp) : State :=
  let sh := s.shape 1 b
  let width := if o.op = 3 ∨ o.op = 4 then o.width else sh.width
  let clock := clockField (if o.op = 5 then otherClock sh.clock else sh.clock)
  let s := s.modShape 1 b fun x => { x with queue := x.queue ++ [o] }
  s.sendCtl (s.replyBraid b) 0x20 (mkStrand o.op b.val 0 0 o.logical o.frm o.dest width o.disp o.reason 0 0 [] clock 1)

/-- An operation with nothing filled in. -/
def op0 : StrandOp where
  op := 0
  requested := false
  token := 0
  logical := 0x3F
  frm := 0x3F
  dest := 0x3F
  width := 0
  disp := 0
  reason := 0
  map := []
  clock := 0x3F
  switchSeq := none
  commitSeq := none
  ready := false
  desc := none
  retried := false
  cal := false
  dropped := false
  arr := 0
  arrAt := 0
  first := false

/-- Operation of a received payload. -/
def opOf (p : NocFlit) : StrandOp :=
  { op0 with
    op := bf p 0 4
    requested := bit p 7
    token := bf p 8 8
    logical := bf p 16 6
    frm := bf p 22 6
    dest := bf p 28 6
    width := bf p 34 6
    disp := bf p 40 2
    reason := bf p 42 4
    map := mapField p (bf p 34 6)
    clock := bf p 258 6 }

end Sys2Proof.Machine
end

