-- ==== Sys2Proof/Machine/CalOps.lean ====
section
/-!
DEFINITION. Calibration and quality records (R142 to R163): covering and running a calibration, its end, and the
strand-quality records.
-/
namespace Sys2Proof.Machine

/-! ### Strand-quality records (R154, R155) -/

/-- Body of a record (Table 7.8). -/
def State.qualBody (s : State) (b : Fin 8) (p kind est errors units uncorr status eyeW eyeH : Nat) : Nat :=
  packNat [(0, 6, p), (6, 3, b.val), (9, 2, kind), (11, 3, (s.strand 1 b p).st.code), (14, 1, b2n s.cal.stale),
    (15, 10, s.cal.temp.toNat), (32, 16, eyeW), (48, 16, eyeH), (64, 8, est), (72, 24, satN 24 errors),
    (96, 32, satN 32 units), (128, 8, satN 8 uncorr), (136, 4, status)]

/-- Take a quality token. -/
def State.qualToken (s : State) : Bool × State :=
  let p := takeToken bktQuality s.cal.bucket s.now
  (p.1, { s with cal.bucket := p.2 })

/-- Post a record: its STRAND_QUALITY event, and the count of an EYE_SCAN (Table 10.5). -/
def State.postQual (s : State) (q : QualWait) : State :=
  let s := s.raiseBody 1 q.body (bitsOf q.body 6 3)
  let s := if q.kind = 0 then
      { s with cal.trims := tupd (trim0 s.cls) s.cal.trims q.key fun t => { t with accErrs := 0, accUnits := 0, accUncorr := 0 } }
    else s
  match q.scan with
  | none => s
  | some (r, i) =>
    let hit := fun j : ScanJob => j.ring = r ∧ j.index = i
    let s := { s with cal.scans := s.cal.scans.map fun j => if hit j then { j with posted := j.posted + 1 } else j }
    match s.cal.scans.find? fun j => hit j with
    | some j =>
      if j.left = 0 && !(s.cal.waiting.any fun w => w.scan == some (r, i)) then
        { s with cal.scans := s.cal.scans.erase j }.complete r.val i 0 j.posted 0
      else s
    | none => s

/-- Post what can be posted, KIND 1 to 3 first, at most `n` records (R155). -/
def State.postWaiting : Nat → State → State
  | 0, s => s
  | n + 1, s =>
    match s.cal.waiting, s.cal.periodic with
    | q :: l, _ =>
      let t := s.qualToken
      if t.1 then State.postWaiting n ({ t.2 with cal.waiting := l }.postQual q) else t.2
    | [], q :: l =>
      let t := s.qualToken
      if t.1 then State.postWaiting n ({ t.2 with cal.periodic := l }.postQual q) else t.2
    | [], [] => s

/-- Close a record of KIND 1, 2 or 3: it waits for a token and is never dropped. -/
def State.closeQual (s : State) (b : Fin 8) (p kind : Nat) (m : Meas) (status : Nat) (scan : Option (RingNo × BitVec 32)) : State :=
  let t := s.trim 1 b p
  let errs := if s.cls.isFibre || p ≥ 34 then m.errors else t.perErrs
  let body := s.qualBody b p kind m.est errs m.units (if s.cls.isFibre then m.uncorr else t.perCrc) status m.eyeW m.eyeH
  let s := s.modTrim 1 b p fun t => { t with
    eye := pack 32 [(0, 16, m.eyeW), (16, 16, m.eyeH)], err := pack 32 [(0, 8, m.est), (8, 24, satN 24 errs)] }
  let s := { s with cal.waiting := s.cal.waiting ++ [⟨strandKey 1 b p, kind, body, scan⟩] }
  State.postWaiting s.cal.waiting.length s

/-! ### Running a calibration (R145 to R150) -/

/-- Steps of Table 7.4 a class runs. -/
def PortClass.calSteps (c : PortClass) : List Nat :=
  if c.isFibre then [1, 2, 3, 4, 5, 6] else if c.isLat then [1, 2, 3, 4, 5, 6, 7] else [1, 3, 6, 7]

/-- Time of a step in PCLK (Table 7.4). -/
def PortClass.stepTime (c : PortClass) (k : Nat) : Nat :=
  us (if c.isFibre then [0, 600, 200, 600, 100, 300, 200].getD k 0
    else if c.isLat then [0, 20, 10, 20, 120, 80, 20, 40].getD k 0
    else [0, 20, 0, 20, 0, 0, 20, 40].getD k 0)

/-- PATTERN of a step (Table 7.4). -/
def PortClass.stepPattern (c : PortClass) (k : Nat) : Nat :=
  if c.isFibre then (if k ≤ 2 then 4 else 1) else if k ≤ 2 then 0 else if k = 3 then 2 else 1

/-- Calibration payload (Table 7.3). -/
def calPayload (b token strand step pattern status codes : Nat) : NocFlit :=
  pack 576 [(4, 3, b), (8, 8, token), (16, 6, strand), (22, 4, step), (26, 3, pattern), (29, 4, status), (33, 22, codes)]

/-- Change the running calibration of a receive braid. -/
def State.modRun (s : State) (b : Fin 8) (f : CalRun → CalRun) : State :=
  { s with cal.run := s.cal.run.upd b fun o => o.map f }

/-- Send the next CAL_STEP of a running calibration. -/
def State.sendCalStep (s : State) (b : Fin 8) (r : CalRun) (step : Nat) : State :=
  let s := s.modRun b fun r => { r with
    phase := .steps
    step := step
    stepDone := false
    stepAt := s.now
    temp1 := if step = 1 then s.cal.temp.toNat else r.temp1
    temp6 := if step = 6 then s.cal.temp.toNat else r.temp6 }
  s.sendCtl (s.replyBraid b) 0x28 (calPayload b.val r.token r.strand step (s.cls.stepPattern step) 0 0)

/-- First step: held host values replace steps 1 to 6; a wavelength has no step 7, so its step 6, which measures, runs (R162; DESIGN
CHOICE, assumption log 68). -/
def State.firstStep (s : State) (b : Fin 8) : State :=
  match s.cal.run.get b with
  | none => s
  | some r =>
    if r.held then
      let t := applyPending (s.trim 1 b r.strand)
      let s := s.modTrim 1 b r.strand applyPending
      let s := s.modRun b fun r => { r with new := ⟨t.rx, t.dfe, t.tx⟩, newO := t.orx }
      s.sendCalStep b r (if s.cls.isFibre then 6 else 7)
    else s.sendCalStep b r 1

/-- A strand the sequencer may calibrate (R145). -/
def calibratable : StrandSt → Bool
  | .active | .standby | .idle | .stoodAside => true
  | _ => false

/-- A CALIBRATE command notes the STATUS of a strand it names (Table 10.5). -/
def CalJob.note (j : CalJob) (q : Nat × Nat) (status : Nat) : CalJob :=
  if j.left.contains q then
    { j with left := j.left.erase q, oks := if status = 0 then j.oks + 1 else j.oks, worst := max j.worst status }
  else j

/-- Completion status of a CALIBRATE command (assumption log 21). -/
def CalJob.status (j : CalJob) : Nat :=
  if !j.single then 0
  else if j.worst = 2 ∨ j.worst = 5 ∨ j.worst = 6 then 2
  else if j.worst = 1 ∨ j.worst = 3 then 3 else 0

/-- Update the CALIBRATE commands that name a strand, all or one, and complete those with none left. -/
def State.calReport (s : State) (b : Fin 8) (p status : Nat) (only : Option (RingNo × BitVec 32) := none) : State :=
  let l := s.cal.jobs.map fun j => if only.all fun k => k == (j.ring, j.index) then j.note (b.val, p) status else j
  let s := { s with cal.jobs := l.filter fun j => !j.left.isEmpty }
  (l.filter fun j => j.left.isEmpty).foldl (fun a j => a.complete j.ring.val j.index j.status j.oks j.worst) s

/-- A calibration is over: status, counters, its KIND 1 record and the commands that asked for it. -/
def State.finishCal (s : State) (b : Fin 8) (r : CalRun) (status : Nat) (m : Meas) : State :=
  let s := { s with cal.run := s.cal.run.put b none }
  let s := s.modTrim 1 b r.strand fun t => { t with last := BitVec.ofNat 4 status, doneAt := some s.now }
  let s := match status with
    | 0 | 4 => { s with cal.done := s.cal.done + 1 }
    | 1 | 3 => { s with cal.abandoned := s.cal.abandoned + 1 }
    | 2 =>
      let s := { s with cal.noCover := s.cal.noCover + 1 }.raise 0x20 (braid := b.val) (dir := 1) (strand := r.strand)
      if r.range.isSome then s.raise 0x22 (arg0 := s.cal.nearest) (braid := b.val) (dir := 1) (strand := r.strand) else s
    | _ => s
  let s := if status = 0 && s.cls.isFibre then s.captureFibre 1 b r.strand r.temp1 r.temp6 else s
  (s.closeQual b r.strand 1 m status none).calReport b r.strand status

/-- A measurement with nothing measured. -/
def meas0 : Meas := ⟨0, 0, 0, 0, 0, 0⟩

/-- Load the trims found in one step, and copy the electrical ones to the AON store (R148). -/
def State.loadFound (s : State) (b : Fin 8) (r : CalRun) : State :=
  let s := (s.modTrim 1 b r.strand fun t => { t with rx := r.new.rx, dfe := r.new.dfe, orx := r.newO }).settleGoal 1 b r.strand
  let s := match r.arrival with
    | some a => s.modStrand 1 b r.strand fun x => { x with arrival := a, deskew := ((s.shape 1 b).target : Int) - a }
    | none => s
  s.retain 1 b r.strand

/-- Load final trims, tell the transmit end, and start the strand's return (R148). -/
def State.endSteps (s : State) (b : Fin 8) (status : Nat) (m : Meas) : State :=
  match s.cal.run.get b with
  | none => s
  | some r =>
    let s := if status = 0 then s.loadFound b r else s.restoreTrims b r
    let s := s.sendCtl (s.replyBraid b) 0x2A (calPayload b.val r.token r.strand r.step 0 status 0)
    match r.cover with
    | .splice =>
      let s := s.modRun b fun r => { r with phase := .back, status := status, meas := m }
      s.requestFar b { op0 with op := 2, frm := 0x3F, dest := r.strand, reason := 2, disp := 0, cal := true }
    | _ =>
      let s := s.modStrand 1 b r.strand fun x => { x with st := .standby, logical := none }
      (s.settleSpares 1 b).finishCal b r status m

/-- Stand a strand aside and begin its steps (R145). -/
def State.standAside (s : State) (b : Fin 8) (p : Nat) : State :=
  (s.modStrand 1 b p fun x => { x with st := .stoodAside, logical := none }).firstStep b

/-- Begin the calibration of a strand of a receive braid. -/
def State.beginCal (s : State) (b : Fin 8) (p : Nat) (range : Option Nat) : State :=
  let x := s.strand 1 b p
  let t := s.trim 1 b p
  let sh := s.shape 1 b
  let isClock := !s.cls.isFibre && p = sh.clock && x.st == .active
  let cover : CalCover := if isClock then .swap else if x.st == .active then .splice else .direct
  let r : CalRun := {
    strand := p, phase := .cover, cover := cover, token := 0, step := 0, stepDone := false, stepAt := s.now
    old := ⟨t.rx, t.dfe, t.tx⟩, oldO := t.orx, oldArrival := x.arrival, oldDeskew := x.deskew
    new := ⟨t.rx, t.dfe, t.tx⟩, newO := t.orx, arrival := none, meas := meas0, prev := x.st, temp1 := s.cal.temp.toNat, temp6 := s.cal.temp.toNat
    held := t.pending, range := range, status := 0, txCodes := 0 }
  if !calibratable x.st then s.finishCal b r 5 meas0
  else
    let s := { s with cal.run := s.cal.run.put b (some r) }
    match cover with
    | .direct => s.standAside b p
    | .splice =>
      s.requestFar b { op0 with op := 1, logical := x.logical.getD 0x3F, frm := p, reason := 2, disp := 1, cal := true }
    | .swap =>
      let o := s.strand 1 b (otherClock p)
      if o.st == .standby then
        s.requestFar b { op0 with op := 5, frm := p, dest := otherClock p, reason := 2, disp := 1, cal := true }
      else s.finishCal b r 2 meas0

/-- TIA_RANGE of the nearest point, where a receive wavelength's live range differs from it (R159). -/
def State.rangeMove (s : State) (b : Fin 8) (p : Nat) : Option Nat :=
  let want := bf (s.tset s.cal.nearest 1 b.val p) 20 2
  if s.cls.isFibre && want ≠ bf (s.trim 1 b p).orx 20 2 then some want else none

/-- The braid runs calibrations: it is trained, and awake (R150). -/
def State.calOpen (s : State) (b : Fin 8) : Bool :=
  (s.shape 1 b).trained && !(s.shape 1 b).retired && !bit s.pwr.dozing b.val

/-- The next calibration of a braid begins, one at a time: a strand asked for, else the next one of its sweep that can be
calibrated (R150, R151). A strand that ends at once makes room for the next, at most `n`. -/
def State.calRun : Nat → State → Fin 8 → State
  | 0, s, _ => s
  | n + 1, s, b =>
    if (s.cal.run.get b).isSome || !s.calOpen b then s
    else match s.cal.want.get b, (if bit s.cal.ctl 0 then s.cal.sweep.get b else []) with
      | p :: l, _ =>
        let s := { s with cal.want := s.cal.want.put b l, cal.ptr := (b.val + 1) % 8 }
        let moves := s.cal.moves.contains (b.val, p)
        let range := if moves then s.rangeMove b p else none
        State.calRun n ({ s with cal.moves := s.cal.moves.erase (b.val, p) }.beginCal b p range) b
      | [], p :: l =>
        let s := { s with cal.sweep := s.cal.sweep.put b l, cal.ptr := (b.val + 1) % 8 }
        State.calRun n (if calibratable (s.strand 1 b p).st then s.beginCal b p (s.rangeMove b p) else s) b
      | [], [] => { s with cal.sweep := s.cal.sweep.put b [] }

/-- Go on with the calibrations of a braid. -/
def State.calNext (s : State) (b : Fin 8) : State := State.calRun 80 s b

/-- Go on with the calibrations of every braid, from the sequencer's pointer on (R150). -/
def State.calAll (s : State) : State := (List.range 8).foldl (fun a k => a.calNext (oct (s.cal.ptr + k))) s

/-- A request completes at once with a status: its KIND 1 record, and the command that asked (R150, R154). -/
def State.refuseCal (s : State) (b : Fin 8) (p status : Nat) (job : Option (RingNo × BitVec 32)) : State :=
  let s := s.modTrim 1 b p fun t => { t with last := BitVec.ofNat 4 status, doneAt := some s.now }
  let s := s.closeQual b p 1 meas0 status none
  if job.isSome then s.calReport b p status job else s

/-- Ask for a strand's calibration (R145, R150). One that only waits its turn counts as running (DESIGN CHOICE,
assumption log 69). -/
def State.askCal (s : State) (b : Fin 8) (p : Nat) (job : Option (RingNo × BitVec 32)) : State :=
  let running := match s.cal.run.get b with
    | some r => r.strand == p
    | none => false
  if running || (s.cal.want.get b).contains p then s.refuseCal b p 6 job
  else if s.aon.pwr == .park || s.aon.pwr == .off || !calibratable (s.strand 1 b p).st then s.refuseCal b p 5 job
  else { s with cal.want := s.cal.want.upd b (· ++ [p]) }

/-- A wavelength is under calibration at this end. -/
def State.underCal (s : State) (dir : Nat) (b : Fin 8) (p : Nat) : Bool :=
  if dir = 0 then match s.cal.serve.get b with
    | some v => v.strand == p
    | none => false
  else match s.cal.run.get b with
    | some r => r.strand == p
    | none => false

/-- Range moves, in OPEN: a receive wavelength whose live TIA_RANGE differs from the nearest point's is calibrated (R159). -/
def State.askMoves (s : State) : State :=
  if s.start.st != .openSt || !s.cls.isFibre then s
  else (octs.foldl (fun a b => (List.range 5).foldl (fun (c : State) p =>
    if (c.rangeMove b p).isSome && calibratable (c.strand 1 b p).st && !c.underCal 1 b p && !c.cal.moves.contains (b.val, p)
        && !(c.cal.want.get b).contains p then
      { c with cal.moves := c.cal.moves ++ [(b.val, p)] }.askCal b p none
    else c) a) s).calAll

/-- A retrain of the braid ends its calibrations in both roles (R150, R162). -/
def State.calRetrain (s : State) (dir : Nat) (b : Fin 8) : State :=
  let s := s.dropPending dir b
  if dir = 1 then
    match s.cal.run.get b with
    | some r => (s.restoreTrims b r).finishCal b r 3 meas0
    | none => s
  else
    match s.cal.serve.get b with
    | some c => { s with cal.serve := s.cal.serve.put b none }.restoreServe b c
    | none => s

/-- A pair reset ends every calibration: the AON store goes back to the trims of the last one that completed (R150). -/
def State.calReset (s : State) : State :=
  if s.cls.isFibre then s
  else octs.foldl (fun a b =>
    let a := match s.cal.run.get b with
      | some r => if r.phase == .back then { a with aon.trims := tput a.aon.trims (strandKey 1 b r.strand) r.old } else a
      | none => a
    match s.cal.serve.get b with
    | some v => if v.ended.isSome then { a with aon.trims := tput a.aon.trims (strandKey 0 b v.strand) v.old } else a
    | none => a) s

/-- What an ABORT of a calibration's cover or return means for it (R148, R149, Table 7.6); any other code than those gives 0x3
(DESIGN CHOICE, assumption log 67). -/
def State.calAborted (s : State) (b : Fin 8) (o : StrandOp) (code : Nat) : State :=
  if !o.cal then s
  else match s.cal.run.get b with
    | none => s
    | some r =>
      match r.phase with
      | .cover => (s.finishCal b r (if code = 7 then 2 else 3) meas0).calNext b
      | _ =>
        if code = 2 then
          let s := if (s.strand 1 b r.strand).st != .quarantined then s.quarantine 1 b r.strand 7 else s
          (s.finishCal b r 4 r.meas).calNext b
        else
          let s := (s.restoreTrims b r).modStrand 1 b r.strand fun x =>
            if x.st == .stoodAside then { x with st := .standby, logical := none } else x
          (s.finishCal b r 3 r.meas).calNext b

/-- What the switch of a calibration's cover or return means for it (R145, R148). -/
def State.calSwitched (s : State) (b : Fin 8) (o : StrandOp) : State :=
  match s.cal.run.get b with
  | none => s
  | some r =>
    if o.reason ≠ 2 then s
    else match r.phase, o.op == 2 with
      | .cover, false =>
        (s.modRun b fun r => { r with token := o.token }).firstStep b
      | .back, true => (s.finishCal b r r.status r.meas).calNext b
      | _, _ => s

end Sys2Proof.Machine
end

