-- ==== Sys2Proof/Machine/Ladder.lean ====
section
/-!
DEFINITION. The failure ladder (R183 to R187, R131): the end of a replay run, braid and port retrains, retirement, and
the TRAIN sideband frames a retrain starts with (R98).
-/
namespace Sys2Proof.Machine

/-! ### Training phases (R107) -/

/-- A braid is in an attempt and has not measured its loop. -/
def TrainPhase.unmeasured : TrainPhase → Bool
  | .lock | .align | .measure => true
  | _ => false

/-- A braid is in an attempt. -/
def TrainPhase.running : TrainPhase → Bool
  | .lock | .align | .measure | .depth | .done => true
  | _ => false

/-! ### TRAIN sideband frames (R98) -/

/-- Key of the TRAIN frame of a phase and braid. -/
def trKey (phase braid : Nat) : Nat := phase * 8 + braid

/-- Send a TRAIN frame; it is repeated until the far end's frame of that phase and braid has come. -/
def State.sendTrain (s : State) (phase braid attempt : Nat) (fields : List (Nat × Nat × Nat)) : State :=
  let f := s.localFrame 3 (trainPay phase braid attempt fields)
  let s := s.sendLink f
  if (tfind s.start.taken (trKey phase braid)).isSome then s
  else { s with start.repeats := tput s.start.repeats (trKey phase braid) f }

/-- Forget what was sent and taken of some phases of a braid: a new attempt begins. -/
def State.forgetTrain (s : State) (braid : Nat) (phases : List Nat) : State :=
  { s with
    start.repeats := phases.foldl (fun t p => tdel t (trKey p braid)) s.start.repeats
    start.taken := phases.foldl (fun t p => tdel t (trKey p braid)) s.start.taken }

/-- What start-up keeps for a braid before its first detect. -/
def braid0 : StartBraid := zeroStartBraid

/-- Detect and map agreement of one braid begin (R131, R185). -/
def State.beginDetect (s : State) (b : Fin 8) (attempt : Nat) : State :=
  let s := s.forgetTrain b.val [1, 2, 3, 4, 5]
  let s := { s with start.txb := s.start.txb.put b braid0, start.rxb := s.start.rxb.put b braid0 }
  s.sendTrain 1 b.val attempt []

/-! ### Replay runs (R183) -/

/-- End the run of a receive braid: FX_RBn_LASTRP, and the REPLAY event where REPLAY_REC is set and a token is there. -/
def State.postRun (s : State) (b : Fin 8) : State :=
  match (s.link.rx.get b).run with
  | none => s
  | some r =>
    let s := s.modRx b fun x => { x with
      run := none, rpTs := r.ts, rpRounds := BitVec.ofNat 8 r.rounds, rpCause := BitVec.ofNat 3 r.cause }
    if !bit s.link.llCtl 4 then s
    else
      let t := takeToken bktReplay (s.bucketOf bktReplay 2) s.now
      let s := { s with flt.buckets := tput s.flt.buckets 2 t.2 }
      if t.1 then
        s.raiseBody 2 (packNat [(0, 3, b.val), (3, 3, r.cause), (8, 16, r.first.toNat), (24, 16, r.count), (40, 8, r.rounds),
          (48, 48, r.ts.toNat)]) b.val
      else { s with link.recDropped := s.link.recDropped + 1 }

/-! ### Going down (R187) -/

/-- Braids of a direction that are not retired. -/
def State.surviving (s : State) (dir : Nat) : Nat := (octs.filter fun b => !(s.shape dir b).retired).length

/-- Work that ends when a braid leaves UP: operations, calibrations, replays and runs; the crossings of its TXW and RXW domains are
reset, so the CONTROL FIFO opens empty (R63). -/
def State.quietBraid (s : State) (b : Fin 8) : State :=
  let s := (((s.supersede 0 b).supersede 1 b).calRetrain 0 b).calRetrain 1 b
  let s := (s.postRun b).modTx b fun t => { t with
    replay := none, farXon := 0, blind := false, ackIn := [], training := zeroTraining }
  let s := { s.modRx b fun r => { r with ctlIn := [], stream := 0, streamLen := 0, moved := 0 } with
    clk.rxwUp := setBf s.clk.rxwUp b.val 1 0 }
  let s := s.modShape 0 b fun x => { x with trained := false }
  s.modShape 1 b fun x => { x with trained := false }

/-- A braid number starts retraining; a retired direction takes part only where `revive` (Table 8.9). -/
def State.beginRetrain (s : State) (b : Fin 8) (revive : Bool) : State :=
  let s := s.quietBraid b
  let s := if revive then (s.modShape 0 b fun x => { x with retired := false }).modShape 1 b fun x => { x with retired := false }
    else s
  let s := s.modTx b fun t =>
    if t.ladder = .retired && !revive then t
    else { t with ladder := .retraining, retrains := t.retrains + 1, retrainAt := some s.now }
  let s := s.modRx b fun r => if r.shape.retired then r else { r with draining := false, finalSent := false }
  (if (s.link.rx.get b).due == .none then s else s.oweFrame b).gatherOwed

/-- A port retrain starts: steps 5 to 8 on all eight braids (R187). -/
def State.startPortRetrain (s : State) : State :=
  if s.link.retraining then s
  else
    let s := octs.foldl (fun a b => a.beginRetrain b true) s
    let s := octs.foldl (fun a b => a.forgetTrain b.val [1, 2, 3, 4, 5, 6]) s
    let s := { s with
      link.retraining := true, link.retrains := s.link.retrains + 1, noc.whRetrain := true
      start.st := .detect, start.patterns := 0, start.goSent := true
      start.trainMaskSent := 0, start.trainGoSent := false, start.trainMaskGot := 0, start.trainGoGot := false
      start.calSent := false, start.calGot := false
      start.txb := Oct.all braid0, start.rxb := Oct.all braid0 }
    s.sendTrain 1 0 0xF []

/-- Flits of a held frame. -/
def heldFlitsOf (h : Held) : List NocFlit := (if h.v0 then [h.s0] else []) ++ (if h.v1 then [h.s1] else [])

/-- A case of Table 14.7 holds a flit: every one, or those of a revoked ID. -/
def State.flushes (s : State) (case : Nat) (f : NocFlit) : Bool :=
  if case = 4 then s.pwr.revoked.any fun d => d.toNat = flitDstDie f else true

/-- Flits in pools, move queues, link queues of the engines and error responses. -/
def State.queuedFlits (s : State) : List NocFlit :=
  (s.cls.vcs.flatMap fun v => (s.noc.pool.get v).map PoolFlit.flit) ++ s.ten.linkQ ++ s.red.linkQ.map Prod.fst ++ s.ht.linkQ

/-- Flits a case of Table 14.7 holds: those queued with its destination, and but for a revoked die those of the replay buffer
(R347). -/
def State.heldFlits (s : State) (case : Nat) : List NocFlit :=
  s.queuedFlits.filter (s.flushes case)
    ++ if case = 4 then [] else octs.flatMap fun b => (s.link.tx.get b).held.flatMap heldFlitsOf

/-- A belay of a case of Table 14.7 starts (R347). -/
def State.startBelay (s : State) (case : Nat) : State :=
  if s.pwr.belays.any fun x => x.1 = case then s
  else { s with pwr.belays := s.pwr.belays ++ [(case, s.now)] }.raise 0x5A (code := case) (arg0 := (s.heldFlits case).length)

/-- A belay ends without loss. -/
def State.endBelay (s : State) (case : Nat) : State :=
  { s with pwr.belays := s.pwr.belays.filter fun x => x.1 ≠ case }

/-- In OPEN or in a port retrain, the port goes down when fewer braids of a direction than the minimum survive (R187). -/
def State.judgeDown (s : State) : State :=
  if (s.start.st != .openSt && !s.link.retraining) || s.link.down then s
  else if s.surviving 0 < s.minBraids ∨ s.surviving 1 < s.minBraids then
    ((({ s with link.down := true, noc.whRetrain := true }.raise 0x2A (arg0 := s.surviving 0) (arg1 := s.surviving 1)).startBelay
      1).lateralDown).portTopo
  else s

/-- A port that goes down starts a port retrain, where none runs (R187). -/
def State.checkDown (s : State) : State :=
  let t := s.judgeDown
  if t.link.down && !s.link.down then t.startPortRetrain else t

/-! ### Retirement (R185, R186) -/

/-- Strands of a retired braid are BRAID_RETIRED whatever they were (Table 6.2); a quarantined one is still quarantined when the
braid detects again (R137). -/
def State.retireStrands (s : State) (dir : Nat) (b : Fin 8) : State :=
  s.modStrands dir b (List.range s.cls.nstrands) fun _ x =>
    if x.st == .braidRetired then x else { x with st := .braidRetired, prev := x.st, logical := none }

/-- Retire one direction of a braid. A transmit braid's buckets start moving (R211). -/
def State.retireDir (s : State) (dir : Nat) (b : Fin 8) : State :=
  if (s.shape dir b).retired then s
  else
    let s := ((s.supersede dir b).calRetrain dir b).retireStrands dir b
    let s := s.modShape dir b fun x => { x with retired := true, trained := false, width := 0, map := [], clock := 0 }
    let flows := ((List.range 256).filter fun i => (s.bucket i).braid = b).length
    let s := s.raise 0x29 (arg0 := if dir = 0 then flows else 0) (braid := b.val) (dir := dir)
    if dir = 0 then
      let s := (s.modTx b fun t => { t with ladder := .retired, replay := none, finalGot := !s.start.opened }).gatherOwed
      if s.start.opened then s.recomputeTargets else s
    else (s.postRun b).modRx b fun r => { r with draining := s.start.opened, finalSent := false, nakWait := false, due := .none }

/-- A drained receive braid's last accepted number is told on a surviving transmit braid (R186 steps 1 and 2). How many frames the
far end then moves to each surviving braid is open to this end: a free value (R183, assumption log 65). -/
def State.sendFinal (s : State) (b : Fin 8) : State :=
  let r := s.link.rx.get b
  match s.upTx with
  | [] => s
  | u :: _ =>
    if r.draining && !r.finalSent && r.buf.isEmpty && s.start.st == .openSt && !s.link.retraining && s.noc.initDone then
      let s := s.modRx b fun r => { r with finalSent := true, draining := false }
      let s := s.sendCtl u 0x01 (pack 576 [(0, 3, b.val), (3, 16, (r.expected - 1).toNat)])
      (octs.filter fun q => q ≠ b && (s.link.rx.get q).shape.trained).foldl (fun a q =>
        let n := a.free
        n.2.modRx q fun x => { x with moved := x.moved + n.1 }) s
    else s

/-- Every BRAID_FINAL that may go. -/
def State.sendFinals (s : State) : State := octs.foldl State.sendFinal s

/-- A direction records a failed retrain; one recorded within 1 ms of an earlier one retires it (Table 8.9). -/
def State.failDir (s : State) (dir : Nat) (b : Fin 8) : State :=
  let last := if dir = 0 then (s.link.tx.get b).lastFail else (s.link.rx.get b).lastFail
  let s := if dir = 0 then s.modTx b fun t => { t with lastFail := some s.now }
    else s.modRx b fun r => { r with lastFail := some s.now }
  match last with
  | some t => if s.now ≤ t + ms 1 then s.retireDir dir b else s
  | none => s

/-- A retrain of a braid fails in the directions given. -/
def State.failRetrain (s : State) (b : Fin 8) (tx rx : Bool) : State :=
  let s := s.modTx b fun t => { t with failed := t.failed + 1 }
  let s := if tx && !(s.shape 0 b).retired then s.failDir 0 b else s
  if rx && !(s.shape 1 b).retired then s.failDir 1 b else s

/-- Complete the RETRAIN commands of a braid that is UP or retired (Table 10.5). -/
def State.settleRetrains (s : State) (b : Fin 8) : State :=
  let t := s.link.tx.get b
  if t.ladder == .up || t.ladder == .retired then
    let mine := s.link.retrainCmds.filter fun c => c.2.2 = some b
    let s := { s with link.retrainCmds := s.link.retrainCmds.filter fun c => c.2.2 ≠ some b }
    mine.foldl (fun a c => a.complete c.1.val c.2.1 0 t.shape.width t.training.reason) s
  else s

/-- A further retrain that starts within 1 ms of the last records that one as failed (R185). -/
def State.failEarly (s : State) (b : Fin 8) : State :=
  match (s.link.tx.get b).retrainAt with
  | some t => if s.now < t + ms 1 then s.failRetrain b true true else s
  | none => s

/-- Start a retrain of a braid in OPEN (R185). -/
def State.startRetrain (s : State) (b : Fin 8) (revive : Bool := false) : State :=
  if s.start.st != .openSt || s.link.retraining then s
  else
    let s := s.failEarly b
    let s :=
      if (s.shape 0 b).retired && (s.shape 1 b).retired && !revive then s
      else (s.beginRetrain b revive).beginDetect b 0
    (s.settleRetrains b).sendFinals.checkDown

/-! ### Replay (R176, R178, R179, R184) -/

/-- Start a replay from a held frame, or a retrain where a frame would be resent for the fifth time. -/
def State.startReplay (s : State) (b : Fin 8) (frm : BitVec 16) : State :=
  let t := s.link.tx.get b
  match t.held.find? fun h => !seqBefore h.seq frm && h.resends ≥ 4 with
  | some h => (s.raise 0x28 (arg0 := h.seq.toNat) (braid := b.val)).startRetrain b
  | none => s.modTx b fun t => { t with replay := some frm, replayFrom := frm, replayAt := s.now, freeResend := false }

/-- Resend from OLDEST after a retrain: not counted toward the four (R184). -/
def State.resendAll (s : State) (b : Fin 8) : State :=
  s.modTx b fun t =>
    if t.held.isEmpty then { t with replay := none, freeResend := false }
    else { t with replay := some t.oldest, replayFrom := t.oldest, replayAt := s.now, freeResend := true }

end Sys2Proof.Machine
end

