-- ==== Sys2Proof/Machine/Fec.lean ====
section
/-!
DEFINITION. Decoding the Reed–Solomon code of a fibre braid (R87, R88): syndromes, the error locator, and the corrected
codeword. A decoder's answer is checked: it is a codeword within 15 symbols of what was received, or there is none.
-/
namespace Sys2Proof.Machine

/-- `a` to the power `n` in GF(2^10). -/
def gfPow (a n : Nat) : Nat := (List.range n).foldl (fun x _ => gfMul x a) 1

/-- Inverse in GF(2^10): a^1022 = (a^511)², and a^(2^(k+1) − 1) = (a^(2^k − 1))² · a. -/
def gfInv (a : Nat) : Nat :=
  let x := (List.range 8).foldl (fun x _ => gfMul (gfMul x x) a) a
  gfMul x x

/-- Value at `x` of a polynomial given highest coefficient first. -/
def gfEval (p : List Nat) (x : Nat) : Nat := p.foldl (fun acc c => gfMul acc x ^^^ c) 0

/-- The 30 syndromes of 544 received symbols: the values at α^0 to α^29, zero on a codeword. -/
def rsSyndromes (r : List Nat) : List Nat := (List.range 30).map fun i => gfEval r (gfAlpha i)

/-- The received symbols are a codeword. -/
def rsClean (r : List Nat) : Bool := r.length == 544 && (rsSyndromes r).all (· == 0)

/-- Sum of two polynomials, lowest coefficient first. -/
def gfAdd : List Nat → List Nat → List Nat
  | [], q => q
  | p, [] => p
  | a :: p, b :: q => (a ^^^ b) :: gfAdd p q

/-- Product of two polynomials, lowest coefficient first. -/
def gfPolyMul : List Nat → List Nat → List Nat
  | [], _ => []
  | a :: p, q => gfAdd (q.map (gfMul a)) (0 :: gfPolyMul p q)

/-- State of the search for the error locator: the locator, the last one before a change of length, the length, the steps since
that change and its discrepancy. -/
structure Locator where
  c : List Nat
  b : List Nat
  len : Nat
  gap : Nat
  disc : Nat

/-- One step of the search, with syndrome number `n`. -/
def Locator.step (s : List Nat) (k : Locator) (n : Nat) : Locator :=
  let d := (List.range (k.len + 1)).foldl (fun a i => a ^^^ gfMul (k.c.getD i 0) (if i ≤ n then s.getD (n - i) 0 else 0)) 0
  if d = 0 then { k with gap := k.gap + 1 }
  else
    let q := gfMul d (gfInv k.disc)
    let c := gfAdd k.c (List.replicate k.gap 0 ++ k.b.map (gfMul q))
    if 2 * k.len ≤ n then ⟨c, k.c, n + 1 - k.len, 1, d⟩ else { k with c := c, gap := k.gap + 1 }

/-- The shortest locator the syndromes obey, lowest coefficient first. -/
def rsLocator (s : List Nat) : List Nat := ((List.range 30).foldl (Locator.step s) ⟨[1], [1], 0, 1, 1⟩).c

/-- Value at `x` of a polynomial given lowest coefficient first. -/
def gfEvalLow (p : List Nat) (x : Nat) : Nat := gfEval p.reverse x

/-- Formal derivative in characteristic 2, lowest coefficient first. -/
def gfDeriv (p : List Nat) : List Nat := ((p.drop 1).zipIdx).map fun q => if q.2 % 2 = 0 then q.1 else 0

/-- Error value at a symbol: symbol `j` is the coefficient of x^(543 − j). -/
def rsError (s loc : List Nat) (j : Nat) : Nat :=
  let x := gfAlpha (543 - j)
  let xi := gfInv x
  if gfEvalLow loc xi ≠ 0 then 0
  else gfMul (gfMul x (gfEvalLow ((gfPolyMul s loc).take 30) xi)) (gfInv (gfEvalLow (gfDeriv loc) xi))

/-- Decode 544 received symbols: the codeword at most 15 symbols away, or none (R88). -/
def rsDecode (r : List Nat) : Option (List Nat) :=
  if rsClean r then some r
  else
    let s := rsSyndromes r
    let loc := rsLocator s
    let c := r.zipIdx.map fun q => q.1 ^^^ rsError s loc q.2
    if rsClean c && ((List.zipWith (fun a b => b2n (a != b)) r c).sum ≤ 15) then some c else none

end Sys2Proof.Machine
end

