-- ==== Sys2Proof/Machine/Line.lean ====
section
/-!
DEFINITION. The line between the two ends of a braid (R34, R35, R80 to R92): what each pad and wavelength carries, how a link
flit is laid on strands and codewords, and how it is read back from what the strands and wavelengths bring.
-/
namespace Sys2Proof.Machine

/-! ### Bight modes (R116, R117) -/

/-- MODE and PATTERN of FX_BIGHT_CTL (Table 5.16). -/
def bightMode (v : Reg) : Nat := bf v 0 2
def bightPattern (v : Reg) : Nat := bf v 2 2

/-- The braid carries patterns and no frames: in B0 and B1 once it is off its traffic, in B2 once the far end loops it, and
while this end loops it for the far end. -/
def State.bighted (s : State) (b : Fin 8) : Bool :=
  bit s.bight.serving b.val || bit s.bight.looped b.val || (bightMode s.bight.ctl ≠ 3 && bit s.bight.ready b.val)

/-! ### What drives a strand (R34, R80, R84, R336, Table 6.1) -/

/-- What the transmit end puts on a physical strand or wavelength. -/
inductive Drive where
  /-- driver at high impedance; the all-zero word and modulator off on a wavelength (R34, R35, R86) -/
  | off
  /-- driver held at the low level -/
  | low
  /-- identity pattern at detect strength (R100, R103) -/
  | identity
  /-- forwarded clock (R80) -/
  | clock
  /-- stand-in pattern (R84) -/
  | standIn
  /-- PRBS31 of a re-admission test (R138) -/
  | prbs31
  /-- calibration patterns (Table 6.1) -/
  | calPattern
  /-- carrier form of the fibre sideband (R89) -/
  | carrier
  /-- the bits of a logical strand -/
  | data (l : Nat)
  deriving DecidableEq, Repr

/-- A braid has been driven since reset: it is in detect or later. -/
def State.driven (s : State) (b : Fin 8) : Bool :=
  let t := s.link.tx.get b
  t.ladder != .down || t.training.phase != .off || (7 ≤ s.start.st.code + 1 && s.start.st.code ≤ 11)

/-- An operation in progress on a transmit braid adds this strand to the width: it restarts the stand-in pattern (R126). -/
def State.joining (s : State) (b : Fin 8) (p : Nat) : Bool :=
  match (s.shape 0 b).op with
  | some o => (o.op == 4 || o.op == 6) && o.map.contains p
  | none => false

/-- What a transmit strand carries now. -/
def State.drive (s : State) (b : Fin 8) (p : Nat) : Drive :=
  let x := s.strand 0 b p
  let t := s.link.tx.get b
  if s.isOptical || !s.clocked || p ≥ s.cls.nstrands then .off
  else if x.st == .quarantined || x.st == .braidRetired then .off
  else if s.identifies b && (x.st == .testing || t.ladder != .up) then .identity
  else if !s.driven b || t.shape.retired then (if s.cls.isFibre then .carrier else .off)
  else if s.bighted b && bightMode s.bight.ctl == 1 then .off
  else if bit s.pwr.dozing b.val then
    if s.cls.isFibre then (if x.st == .active then .carrier else .off) else if p == t.shape.clock then .clock else .low
  else if !s.cls.isFibre && p ≥ 34 then .clock
  else match x.st with
    | .active => match x.logical with
      | some l => .data l
      | none => .standIn
    | .mirror => match t.shape.op with
      | some o => .data o.logical
      | none => .standIn
    | .standby => .standIn
    | .idle => if s.joining b p then .standIn else .low
    | .stoodAside => .calPattern
    | .testing => .prbs31
    | _ => .off

/-- The receiver of a strand is isolated: from reset until detect, and on a whipped strand (R34, Table 6.1). -/
def State.isolated (s : State) (b : Fin 8) (p : Nat) : Bool :=
  let x := s.strand 1 b p
  x.st == .quarantined || x.st == .braidRetired || !(s.driven b || bit s.start.patterns b.val)

/-! ### Patterns -/

/-- Seed of the stand-in pattern of a strand, or of wavelength 40 + `w` (R84, R86). -/
def standInSeed (c : PortClass) (p : Nat) : Nat := 0x101 + 2 * (if c.isFibre then 40 + p else p)

/-- State of a pattern generator after some steps. -/
def prbsSkip (taps : Nat × Nat) : Nat → Nat → Nat
  | 0, st => st
  | n + 1, st => prbsSkip taps n (prbsStep taps st).2

/-- `n` bits of a stand-in pattern from its bit `skip` on, the first in bit 0. -/
def standInBits (c : PortClass) (p skip n : Nat) : Nat := prbsRun (31, 28) n (prbsSkip (31, 28) skip (standInSeed c p))

/-- The level an identity pattern drives at a time: 8 PCLK a half-bit, or half a TXW word on fibre, counted in sixteenths of
one PCLK (R100, R103). -/
def State.identLevel (s : State) (b : Fin 8) (p : Nat) (at_ : Nat) : Bool :=
  let half := if s.cls.isFibre then 8 else 128
  bit (identHalves s.cls p b.val) ((at_ - 16 * s.start.patAt) / half % repHalves s.cls)

/-- The pattern a strand sends in a bight, from its bit `skip` on: seed 0x0101 + 2s modulo 2^n (R117). -/
def bightBits (pattern p skip n : Nat) : Nat :=
  let taps := prbsTaps pattern
  prbsRun taps n (prbsSkip taps skip ((0x101 + 2 * p) % 2 ^ taps.1))

/-- A flit period of the patterns of a braid's logical strands, from unit interval `ui` on, laid as a link flit is. -/
def State.patternFlit (s : State) (b : Fin 8) (ui : Nat) : LinkFlit :=
  let w := max 1 (s.shape 0 b).width
  let lines := (List.range w).map fun l => bightBits (bightPattern s.bight.ctl) l ui (1280 / w)
  BitVec.ofNat 1280 (packNat ((List.range 1280).map fun i => (i, 1, b2n ((lines.getD (i % w) 0).testBit (i / w)))))

/-- Physical strands of a braid that carry a copy of a logical strand beside the map: a mirror, and FROM from the switch until
it is acknowledged (R126, R127). -/
def State.copies (s : State) (b : Fin 8) : List (Nat × Nat) :=
  (List.range s.cls.nuse).filterMap fun p =>
    match s.drive b p with
    | .data l => if (s.shape 0 b).map.contains p then none else some (p, l)
    | _ => none

/-- Physical strands of a braid that send the stand-in pattern. -/
def State.standIns (s : State) (b : Fin 8) : List Nat := (List.range s.cls.nuse).filter fun p => s.drive b p == .standIn

/-! ### Electrical strands (R83, R84) -/

/-- What a physical strand carries in unit interval `u` of a link flit. -/
def LinkOut.pad (o : LinkOut) (c : PortClass) (p u : Nat) : Option Bool :=
  let bitOf := fun l => o.bits.toNat.testBit (u * o.width + l)
  if o.map.contains p then some (bitOf (o.map.idxOf p))
  else match o.also.find? fun x => x.1 = p with
    | some x => some (bitOf x.2)
    | none => if o.standIn.contains p then some ((standInBits c p (o.ui + u) 1).testBit 0) else none

/-- A link flit assembled from receive strands under a map: bit `i` comes in unit interval i / W of the strand that carries
logical strand i mod W, read at the site detect found it on and corrected for polarity (R83, R92). A site the command does not
list brought zeros. -/
def State.assemble (s : State) (b : Fin 8) (map : List Nat) (pads : List (Nat × Nat)) : LinkFlit :=
  let w := max 1 map.length
  let lines := map.map fun p =>
    let x := s.strand 1 b p
    (tget 0 pads (x.site.getD p), x.inverted)
  BitVec.ofNat 1280 (packNat ((List.range 1280).map fun i =>
    let q := lines.getD (i % w) (0, false)
    (i, 1, b2n (xor (q.1.testBit (i / w)) q.2))))

/-! ### Fibre wavelengths (R35, R86 to R89) -/

/-- PAM4 symbol `i` of the share of logical wavelength `l` in a codeword spread over `w`: five symbols for each of the codeword
symbols l, l + w and so on, bits [1:0] first (R87). -/
def shareSymbol (symbols : List Nat) (w l i : Nat) : Nat :=
  pam4 (bitsOf (symbols.getD (i / 5 * w + l) 0) (2 * (i % 5)) 2)

/-- A bus word of 40 PAM4 symbols, symbol `i` in bits [2i + 1 : 2i] (R35). -/
def busWord (f : Nat → Nat) : BitVec 80 := BitVec.ofNat 80 (packNat ((List.range 40).map fun i => (2 * i, 2, f i)))

/-- TXW cycles of a codeword at a width (Table 4.8). -/
def wordCycles (w : Nat) : Nat := 68 / max 1 w

/-- The 80-bit word a codeword puts on a wavelength in its TXW cycle `k`: its share, a copy of one, the stand-in pattern, or
all zero on a wavelength that is whipped or not in use (R35, R86). -/
def WordOut.word (o : WordOut) (p k : Nat) : BitVec 80 :=
  let share := fun l => busWord fun i => shareSymbol o.symbols o.width l (40 * k + i)
  if o.map.contains p then share (o.map.idxOf p)
  else match o.also.find? fun x => x.1 = p with
    | some x => share x.2
    | none =>
      if o.standIn.contains p then
        let x := standInBits .fib p (80 * (o.cycle + k)) 80
        busWord fun i => pam4 (bitsOf x (2 * i) 2)
      else 0

/-- The bus word of one bit in carrier form: 20 symbols at one of the levels 3 and 0, then 20 at the other (R89). -/
def carrierWord (v : Bool) : BitVec 80 := busWord fun i => if (i < 20) = v then 3 else 0

/-- Between frames the symbols alternate. -/
def carrierGap : BitVec 80 := busWord fun i => if i % 2 = 0 then 3 else 0

/-- The word a sideband frame in carrier form puts on a wavelength in its cycle `k`. -/
def CarrierOut.word (o : CarrierOut) (p k : Nat) : BitVec 80 :=
  if o.waves.contains p then carrierWord ((sbWord o.frame).toNat.testBit k) else 0

/-- The pair of bits of a PAM4 level. -/
def unPam4 : Nat → Nat
  | 0 => 0
  | 1 => 1
  | 2 => 3
  | _ => 2

/-- The 544 symbols of a received codeword, each share given as the levels of its PAM4 symbols, two bits each, by receive site;
a wavelength outside the map is discarded (R86, R87, R92). -/
def State.gather (s : State) (b : Fin 8) (map : List Nat) (shares : List (Nat × Nat)) : List Nat :=
  let w := max 1 map.length
  let lines := map.map fun p => tget 0 shares ((s.strand 1 b p).site.getD p)
  (List.range 544).map fun j =>
    let x := lines.getD (j % w) 0
    packNat ((List.range 5).map fun m => (2 * m, 2, unPam4 (bitsOf x (2 * (5 * (j / w) + m)) 2)))

/-- A received codeword decoded (R88): its 5,140 stream bits, whether it was uncorrectable, and for each symbol corrected the
place it stood at. -/
structure Decoded where
  stream : Nat
  bad : Bool
  fixed : List Nat

/-- Decode the symbols of a codeword; one with more than 15 errors passes as received. -/
def decodeWord (r : List Nat) : Decoded :=
  let c := (rsDecode r).getD r
  { stream := packNat ((List.range 514).map fun j => (10 * j, 10, c.getD j 0))
    bad := (rsDecode r).isNone
    fixed := (List.range 544).filter fun j => c.getD j 0 != r.getD j 0 }

/-- Count a codeword: uncorrectable ones in a row, and in each wavelength's record the symbols corrected on it and the
uncorrectable codewords (R88). -/
def State.countWord (s : State) (b : Fin 8) (map : List Nat) (d : Decoded) : State :=
  let s := s.modRx b fun r => { r with uncorr := if d.bad then r.uncorr + 1 else 0 }
  map.zipIdx.foldl (fun a q =>
    let n := (d.fixed.filter fun j => j % max 1 map.length == q.2).length
    a.modTrim 1 b q.1 fun t => { t with perErrs := t.perErrs + n, perCrc := t.perCrc + b2n d.bad }) s

/-- The stream bits of some codewords under a map, the first codeword's lowest. -/
def State.wordsStream (s : State) (b : Fin 8) (map : List Nat) (words : List (List (Nat × Nat))) : Nat :=
  words.foldr (fun w acc => (decodeWord (s.gather b map w)).stream + acc * 2 ^ 5140) 0

/-- A receive braid takes in the codewords that a command brings. -/
def State.takeWords (s : State) (b : Fin 8) (words : List (List (Nat × Nat))) : State :=
  let map := (s.shape 1 b).map
  let s := words.foldl (fun (a : State) w => a.countWord b map (decodeWord (a.gather b map w))) s
  let x := s.wordsStream b map words
  s.modRx b fun r => { r with stream := r.stream + x * 2 ^ r.streamLen, streamLen := r.streamLen + 5140 * words.length }

/-- Take the next link flit off the stream of a fibre receive braid, where it holds one. -/
def State.popFlit (s : State) (b : Fin 8) : Option LinkFlit × State :=
  let r := s.link.rx.get b
  if r.streamLen < 1280 then (none, s)
  else (some (BitVec.ofNat 1280 r.stream), s.modRx b fun r => { r with stream := r.stream / 2 ^ 1280, streamLen := r.streamLen - 1280 })

/-- The map a committed width operation waits to bring (R128). -/
def State.waitingMap (s : State) (b : Fin 8) : Option (List Nat) :=
  match (s.shape 1 b).op with
  | some o => if o.switchSeq.isSome && !o.spliceType then some o.map else none
  | none => none

/-- What the line of a receive braid brings for one link flit: the flit under the map in force, none where a fibre braid still
lacks bits of it; and while a committed width operation waits, the flit under its map (R128). A flit at a fibre switch point
begins a codeword, so the new map's copy is the first bits of the words. -/
def State.takeLine (s : State) (b : Fin 8) (rx : LineRx) : Option LinkFlit × Option LinkFlit × State :=
  let alt := s.waitingMap b
  if s.fibreHub then
    let other := alt.map fun m => (BitVec.ofNat 1280 (s.wordsStream b m rx.words) : LinkFlit)
    let fresh := (s.link.rx.get b).streamLen = 0
    let p := (s.takeWords b rx.words).popFlit b
    (p.1, if fresh then other else none, p.2)
  else
    (some (s.assemble b (s.shape 1 b).map rx.pads), alt.map fun m => s.assemble b m rx.pads, s)

end Sys2Proof.Machine
end

