-- ==== Sys2Proof/Machine/LinkTx.lean ====
section
/-!
DEFINITION. The transmit side of a braid (R164 to R172, R176 to R180, R201, R214): the acknowledgement a header carries,
slot grants, the frame of a flit period, and what an acknowledgement frees.
-/
namespace Sys2Proof.Machine

/-! ### Acknowledgement fields (R170, R171, R177) -/

/-- Sequence number an ACK may name: a CONTROL frame counts once it has left the CONTROL FIFO (R169). -/
def ackable (r : RxBraid) : BitVec 16 :=
  match r.ctlIn with
  | [] => r.expected - 1
  | c :: _ => c.2.2 - 1

/-- ACKKIND, ACKSEQ and what a receive braid keeps once its header has gone. With nothing due, ACKSEQ is ignored by its
reader and left open (assumption log 31). -/
def State.takeAck (s : State) (r : Fin 8) : Nat × BitVec 16 × State :=
  let x := s.link.rx.get r
  let sent := fun (k : BitVec 16) => s.modRx r fun x => { x with due := .none, lastAck := k, unacked := 0, timer := false }
  match x.due with
  | .nak => (2, x.expected, (sent x.expected).modRx r fun x => { x with
      naks := x.naks + 1, naksSent := x.naksSent + 1, lastNak := s.now })
  | .ack => (1, ackable x, sent (ackable x))
  | .none => let p := s.free; (0, BitVec.ofNat 16 p.1, p.2)

/-- A NAK of EXPECTED is due (Table 8.5). -/
def State.dueNak (s : State) (b : Fin 8) : State :=
  (s.modRx b fun r => { r with due := .nak }).oweFrame b

/-- An ACK is due, unless a NAK is. -/
def State.dueAck (s : State) (b : Fin 8) : State :=
  (s.modRx b fun r => { r with due := if r.due == .nak then .nak else .ack }).oweFrame b

/-! ### Driving a frame (R82, R83, R87) -/

/-- Put the bits of a link flit on a braid, laid on its lane map; a fibre braid packs its stream into codewords. -/
def State.driveRaw (s : State) (b : Fin 8) (bits : LinkFlit) : State :=
  let t := s.link.tx.get b
  let also := s.copies b
  let idle := s.standIns b
  let s := { s with out.link := s.out.link ++ [(⟨b, bits, t.shape.width, t.shape.map, also, idle, t.standUi⟩ : LinkOut)] }
  let len := t.streamLen + 1280
  let stream := t.stream + bits.toNat * 2 ^ t.streamLen
  let full := s.cls.isFibre && len ≥ 5140
  let s := if full then { s with out.codewords := s.out.codewords ++
      [(⟨b, rsCodeword (stream % 2 ^ 5140), t.shape.width, t.shape.map, also, idle, t.cycles⟩ : WordOut)] } else s
  s.modTx b fun t => { t with
    flits := t.flits + 1
    ui := t.ui + 1280 / max 1 t.shape.width
    standUi := t.standUi + 1280 / max 1 t.shape.width
    prepWait := false
    cycles := if full then t.cycles + wordCycles t.shape.width else t.cycles
    stream := if !s.cls.isFibre then 0 else if full then stream / 2 ^ 5140 else stream
    streamLen := if !s.cls.isFibre then 0 else if full then len - 5140 else len }

/-- Drive a link flit, scrambled by the braid's state. -/
def State.driveFlit (s : State) (b : Fin 8) (f : LinkFlit) : State :=
  let p := scrRun 1280 (s.link.tx.get b).scr.toNat
  (s.driveRaw b (BitVec.ofNat 1280 (f.toNat ^^^ p.1))).modTx b fun t => { t with scr := BitVec.ofNat 31 p.2 }

/-- A flit period in which a dozing or waking braid sends no frame: the scrambler and the flit count go on (R336). -/
def State.skipFlit (s : State) (b : Fin 8) : State :=
  s.modTx b fun t => { t with
    scr := BitVec.ofNat 31 (scrRun 1280 t.scr.toNat).2
    flits := t.flits + 1
    ui := t.ui + 1280 / max 1 t.shape.width
    standUi := t.standUi + 1280 / max 1 t.shape.width
    stream := 0
    streamLen := if s.cls.isFibre then (t.streamLen + 1280) % 5140 else 0 }

/-- Build and drive a frame whose acknowledgement fields are those of receive braid `r`. -/
def State.sendFrame (s : State) (b r : Fin 8) (ftype : Nat) (seq : BitVec 16) (opcode : Nat) (s0 s1 : NocFlit)
    (v0 v1 : Bool) (digest : Nat) : State :=
  let a := s.takeAck r
  let h : Hdr := {
    ftype := if ftype = 3 ∧ a.1 = 2 then 4 else ftype
    seq := seq, vc0 := if v0 then (flitVc s0).val else 0, v0 := v0, vc1 := if v1 then (flitVc s1).val else 0, v1 := v1
    ackSeq := a.2.1, ackKind := a.1, xon := (s.link.rx.get r).xon, opcode := opcode }
  a.2.2.driveFlit b (mkLink h s0 s1 digest)

/-- SEQ of an unsequenced frame (R173). -/
def nextSeq (t : TxBraid) : BitVec 16 := t.replay.getD t.next

/-! ### Slot grant (R198, R201, R214, R303) -/

/-- VCs that a braid may grant now: nothing outside OPEN, in a retrain or behind a LASH_SWITCH, DOZE_ENTER or PARK_READY;
only VC 6 and VC 7 while control traffic holds a dozing pair awake (R317, R335, R338, R339). -/
def State.mayGrant (s : State) (b v : Fin 8) : Bool :=
  s.start.st == .openSt && !s.link.retraining && !bit s.lash.swQueued b.val && !bit s.pwr.dzSent b.val && !bit s.pwr.pkSent b.val
    && (s.pwr.draining != .none || s.pwr.target != .doze || (s.pwr.ctrlAwake && (v == 6 || v == 7)))

/-- A flit of a queue beside the pool may leave on a braid: its bucket stands there and is not moving (R304). -/
def State.onBraid (s : State) (b : Fin 8) (f : NocFlit) : Bool :=
  let k := s.bucket (flowBucket f)
  k.braid == b && !k.moving

/-- Head of a source of a VC at a braid: 0 the pool, 1 the queue of error responses, of the reduction engine or of the
hitch engine. -/
def State.srcHead (s : State) (b v : Fin 8) (src : Nat) : Option NocFlit :=
  if src = 0 then ((s.noc.pool.get v).find? fun p => p.queue = some b).map PoolFlit.flit
  else if v = 1 then s.ten.linkQ.find? (s.onBraid b)
  else if v = 4 then (s.red.linkQ.find? fun p => s.onBraid b p.1).map Prod.fst
  else if v = 7 then s.ht.linkQ.find? (s.onBraid b)
  else none

/-- The source of a VC whose turn it is. -/
def State.srcTurn (s : State) (b v : Fin 8) : Option Nat :=
  roundRobin 2 ((s.link.tx.get b).srcPtr.get v) fun i => (s.srcHead b v i).isSome

/-- Remove the head of a source: the ingress order of a VC 0 or VC 4 flit of the pool, and the state with its slot freed. -/
def State.srcPop (s : State) (b v : Fin 8) (src : Nat) : Option Nat × Bool × State :=
  if src = 0 then
    match (s.noc.pool.get v).find? fun p => p.queue = some b with
    | none => (none, false, s)
    | some p =>
      let s := { s with noc.pool := s.noc.pool.upd v (·.erase p) }
      (if v = 0 ∨ v = 4 then some p.order else none, p.handed, if p.handed then s else s.freeSlot v)
  else if v = 1 then (none, false, { s with ten.linkQ := eraseFirst (s.onBraid b) s.ten.linkQ })
  else if v = 4 then
    match s.red.linkQ.find? fun p => s.onBraid b p.1 with
    | none => (none, false, s)
    | some p =>
      (none, false, { s with red.linkQ := s.red.linkQ.erase p, noc.redSent := s.noc.redSent ++ p.2.toList }.redSettle.redFeed)
  else (none, false, { s with ht.linkQ := eraseFirst (s.onBraid b) s.ht.linkQ }.htFeed)

/-- A granted flit: the flit, its ingress order, and whether it was handed over. -/
structure Grant where
  flit : NocFlit
  order : Option Nat
  handed : Bool
  deriving DecidableEq, Repr

/-- Fill one slot of a DATA frame: at most `n` flits are judged by the tenant-to-VC policy (R214). -/
def State.fillSlot : Nat → State → Fin 8 → Option Grant × State
  | 0, s, _ => (none, s)
  | n + 1, s, b =>
    let t := s.link.tx.get b
    let ok := fun i : Nat => let v := oct i
      bit t.farXon i && !t.blind && s.cls.carries v && s.mayGrant b v && (s.srcTurn b v).isSome
    match roundRobin 8 t.slotPtr ok with
    | none => (none, s)
    | some i =>
      let v := oct i
      match s.srcTurn b v with
      | none => (none, s)
      | some src =>
        match s.srcHead b v src with
        | none => (none, s)
        | some f =>
          let p := s.srcPop b v src
          let s := p.2.2
          if s.txPolicy f then
            (some ⟨f, p.1, p.2.1⟩, s.modTx b fun t => { t with slotPtr := (i + 1) % 8, srcPtr := t.srcPtr.put v ((src + 1) % 2) })
          else State.fillSlot n (s.policyDiscardTx f) b

/-- Account for a granted flit: its bucket's LAST_SEQ and its tenant's meters (R208, R321). -/
def State.granted (s : State) (b : Fin 8) (seq : BitVec 16) (two : Bool) (g : Grant) : State :=
  let i := flowBucket g.flit
  let s := if (s.bucket i).braid = b then s.setBucket i { s.bucket i with lastSeq := seq, ackAt := none } else s
  let ten := flitTenant g.flit
  (s.meter ten (if g.handed then 4 else 0) 1).meterBytes ten 2 (slotBytes two)

/-! ### Switch points and CONTROL frames (R126 to R128, R169) -/

/-- Committed operation whose SWITCH_SEQ is the next sequence number. -/
def State.switchDue (s : State) (b : Fin 8) : Option StrandOp :=
  let t := s.link.tx.get b
  match t.shape.op with
  | some o => if o.switchSeq = some t.next then some o else none
  | none => none

/-- The next flit stands at a switch point of Table 6.5. -/
def State.atSwitchPoint (s : State) (b : Fin 8) (o : StrandOp) : Bool :=
  let t := s.link.tx.get b
  if o.spliceType then true
  else if s.cls.isFibre then t.flits % 257 == 0
  else if s.cls.isLat then t.ui % (if o.width = 4 ∨ t.shape.width = 4 then 320 else 160) == 0
  else true

/-- A new sequenced frame may go: room in the window, and no switch that must wait (R128, R172). -/
def State.mayNumber (s : State) (b : Fin 8) : Bool :=
  let t := s.link.tx.get b
  (t.next - t.oldest).toNat < s.cls.replayDepth
    && match s.switchDue b with
      | some o => o.spliceType || (t.held.isEmpty && s.atSwitchPoint b o)
      | none => true

/-- CONTROL frames of a braid held unacknowledged. -/
def ctlHeld (t : TxBraid) : Nat := (t.held.filter fun h => h.ftype = 5).length

/-- A CONTROL frame may go: four at most unacknowledged, none behind a DOZE_ENTER or PARK_READY (R169, R335, R339). -/
def State.ctlReady (s : State) (b : Fin 8) : Bool :=
  let t := s.link.tx.get b
  !t.ctl.isEmpty && !(t.prepWait && (t.ctl.headD (0, 0)).1 == 0x21) && s.mayNumber b && ctlHeld t < 4 && (tfind s.pwr.lastCtl b.val).isNone

/-- Some VC of the braid has a flit it may grant. -/
def State.dataReady (s : State) (b : Fin 8) : Bool :=
  let t := s.link.tx.get b
  s.mayNumber b && octs.any fun v =>
    bit t.farXon v.val && !t.blind && s.cls.carries v && s.mayGrant b v && (s.srcTurn b v).isSome

/-- Flit SWITCH_SEQ goes out: the new map is in force from its first bit. -/
def State.doSwitch (s : State) (b : Fin 8) : State :=
  match s.switchDue b with
  | some o => s.switchTx b o
  | none => s

/-- Number a frame, hold it and send it. -/
def State.sendNew (s : State) (b : Fin 8) (ftype opcode : Nat) (s0 s1 : NocFlit) (v0 v1 : Bool) (ord : Option Nat) : State :=
  let s := s.doSwitch b
  let q := (s.link.tx.get b).next
  let s := s.modTx b fun t => { t with
    next := q + 1
    held := t.held ++ [⟨q, ftype, opcode, s0, s1, v0, v1, ord, 0, s.now⟩] }
  s.sendFrame b b ftype q opcode s0 s1 v0 v1 0

/-- Notes the port makes of a CONTROL frame's number: the SWITCH_SEQ of a COMMIT of the braid it travels on, a DOZE_ENTER or PARK_READY, a LASH_SWITCH. -/
def State.noteCtl (s : State) (b : Fin 8) (opcode : Nat) (p : NocFlit) (q : BitVec 16) : State :=
  match opcode with
  | 0x23 => if bf p 4 3 ≠ b.val then s else s.modShape 0 b fun x => { x with op := x.op.map fun o => { o with switchSeq := some (q + 8), commitSeq := some q } }
  | 0x32 | 0x33 => { s with pwr.lastCtl := tput s.pwr.lastCtl b.val q }
  | 0x41 => { s with
      lash.swSeq := tput s.lash.swSeq b.val q
      lash.swQueued := setBf s.lash.swQueued b.val 1 0 }
  | _ => s

/-- Send the oldest waiting CONTROL frame; a COMMIT takes SWITCH_SEQ eight numbers on (R126 step 4), a
LASH_SWITCH the number after its own (Table 13.3). -/
def State.sendControl (s : State) (b : Fin 8) : State :=
  let t := s.link.tx.get b
  match t.ctl with
  | [] => s
  | (op, p) :: l =>
    let q := t.next
    let p := if op = 0x23 ∧ bf p 4 3 = b.val then setBf p 46 16 ((q + 8).toNat) else if op = 0x41 then setBf p 67 16 ((q + 1).toNat) else p
    let s := s.modTx b fun t => { t with ctl := l, kindPtr := 1 }
    (s.sendNew b 5 op p 0 false false none).noteCtl b op p q

/-- The lower of two ingress orders. -/
def minOrd : Option Nat → Option Nat → Option Nat
  | some a, some b => some (min a b)
  | some a, none => some a
  | none, x => x

/-- Form a DATA frame, where slot 0 can be filled; whether one was sent. -/
def State.sendData (s : State) (b : Fin 8) : Bool × State :=
  let p := State.fillSlot 4 s b
  match p.1 with
  | none => (false, p.2)
  | some g =>
    let r := State.fillSlot 4 p.2 b
    let q := (r.2.link.tx.get b).next
    let s := r.2.modTx b fun t => { t with kindPtr := 0 }
    match r.1 with
    | none => (true, ((s.sendNew b 1 0 g.flit 0 true false g.order)).granted b q false g)
    | some h =>
      (true, (((s.sendNew b 1 0 g.flit h.flit true true (minOrd g.order h.order))).granted b q true g).granted b q true h)

/-- Send an IDLE (R168). -/
def State.sendIdle (s : State) (b : Fin 8) : State :=
  let t := s.link.tx.get b
  (s.modTx b fun t => { t with idleDue := false, lastIdle := s.now }).sendFrame b b 2 (nextSeq t) 0 0 0 false false s.ownDigest

/-- Send the ACK or NAK frame owed for another braid (R170). -/
def State.sendOwed (s : State) (b r : Fin 8) : State :=
  let t := s.link.tx.get b
  (s.modTx b fun t => { t with owe := t.owe.erase r }).sendFrame b r 3 (nextSeq t) r.val 0 0 false false 0

/-- Resend one held frame (R180): its meters count every sending, its resends the four of R184. -/
def State.resendOne (s : State) (b : Fin 8) (h : Held) : State :=
  let s := s.modTx b fun t => { t with
    resends := t.resends + 1
    held := t.held.map fun x => if x.seq = h.seq then
      { x with lastSent := s.now, resends := if t.freeResend then x.resends else x.resends + 1 } else x
    replay := if h.seq + 1 = t.next then none else some (h.seq + 1)
    freeResend := if h.seq + 1 = t.next then false else t.freeResend }
  let charge := fun (a : State) (f : NocFlit) => (a.meter (flitTenant f) 4 1).meterBytes (flitTenant f) 2 (slotBytes h.v1)
  let s := if h.v0 then charge s h.s0 else s
  let s := if h.v1 then charge s h.s1 else s
  s.sendFrame b b h.ftype h.seq h.opcode h.s0 h.s1 h.v0 h.v1 0

/-- CONTROL and DATA in their turns, else IDLE. -/
def State.sendFresh (s : State) (b : Fin 8) : State :=
  let turn := roundRobin 2 (s.link.tx.get b).kindPtr fun k => if k = 0 then s.ctlReady b else s.dataReady b
  match turn with
  | some 0 => s.sendControl b
  | some _ =>
    let p := s.sendData b
    if p.1 then p.2 else if p.2.ctlReady b then p.2.sendControl b else p.2.sendIdle b
  | none => s.sendIdle b

/-- The frame of one flit period on a braid that is up (Table 9.5, frame choice). -/
def State.sendPeriod (s : State) (b : Fin 8) : State :=
  let t := s.link.tx.get b
  let again := match t.replay with
    | some q => t.held.find? fun h => h.seq = q
    | none => none
  match again, t.owe with
  | some h, _ => s.resendOne b h
  | none, r :: _ => (s.modTx b fun t => { t with replay := none }).sendOwed b r
  | none, [] =>
    let s := s.modTx b fun t => { t with replay := none }
    if t.idleDue then s.sendIdle b else s.sendFresh b

/-! ### What acknowledgements do (R176, R178) -/

/-- A CONTROL frame has been acknowledged: DOZE_ENTER, PARK_READY and LASH_SWITCH count for their exchanges. -/
def State.ctlAcked (s : State) (b : Fin 8) (h : Held) : State :=
  match h.opcode with
  | 0x32 => { s with pwr.dzAcked := setBf s.pwr.dzAcked b.val 1 1 }
  | 0x33 => { s with pwr.pkAcked := setBf s.pwr.pkAcked b.val 1 1 }
  | 0x41 => { s with lash.swAcked := setBf s.lash.swAcked b.val 1 1 }
  | _ => s

/-- Free every held frame up to and including a number; an operation whose SWITCH_SEQ it covers is complete, and the
buckets whose LAST_SEQ it covers note the time (R127, R210). -/
def State.freeTo (s : State) (b : Fin 8) (k : BitVec 16) : State :=
  let t := s.link.tx.get b
  let covered := fun q : BitVec 16 => !seqBefore k q
  let gone := t.held.filter fun h => covered h.seq
  let s := s.modTx b fun t => { t with
    held := t.held.filter fun h => !covered h.seq
    oldest := k + 1
    ackAt := s.now
    replay := match t.replay with
      | some q => if covered q then (if k + 1 = t.next then none else some (k + 1)) else some q
      | none => none }
  let s := (gone.filter fun h => h.ftype = 5).foldl (fun a h => a.ctlAcked b h) s
  let s := { s with noc.buckets := s.noc.buckets.map fun p =>
    if p.2.moving && p.2.braid == b && p.2.ackAt.isNone && covered p.2.lastSeq then (p.1, { p.2 with ackAt := some s.now }) else p }
  match t.shape.op with
  | some o =>
    match o.switchSeq with
    | some q => if gone.any (fun h => h.seq = q) then s.settleTx b o else s
    | none => s
  | none => s

/-- Where a covered number lies: in the window, before it, or beyond it (R176). -/
inductive AckAt where
  | inside | stale | beyond
  deriving DecidableEq, Repr

/-- Judge a covered number against OLDEST and NEXT. -/
def ackWhere (t : TxBraid) (k : BitVec 16) : AckAt :=
  if (k - (t.oldest - 1)).toNat ≤ (t.next - t.oldest).toNat then .inside
  else if seqBefore k (t.oldest - 1) then .stale else .beyond

/-- Count an acknowledgement outside the window. -/
def State.ackOutside (s : State) (w : AckAt) : State :=
  match w with
  | .inside => s
  | .stale => { s with link.stale := s.link.stale + 1 }
  | .beyond => s.linkErr

/-- Apply one NAK: it frees what it covers and starts a replay, unless a replay from that number started less than one R_RT ago (R178). -/
def State.applyNak (s : State) (b : Fin 8) (q : BitVec 16) : State :=
  let w := ackWhere (s.link.tx.get b) (q - 1)
  if w ≠ .inside then s.ackOutside w
  else
    let t := s.link.tx.get b
    let served := t.replayFrom == q && decide (s.now < t.replayAt + s.link.rrt)
    let s := s.freeTo b (q - 1)
    if q = t.next || served then s else s.startReplay b q

/-- The latest of the ACKs in the window. -/
def bestAck (t : TxBraid) : List (BitVec 16) → Option (BitVec 16)
  | [] => none
  | k :: l =>
    match bestAck t l with
    | none => if ackWhere t k = .inside then some k else none
    | some m => if ackWhere t k = .inside && seqBefore m k then some k else some m

/-- Apply every acknowledgement received for a braid: the highest ACK, then NAKs still in the window; and the XON state of
the last header (R176, R201). -/
def State.applyAcks (s : State) (b : Fin 8) : State :=
  let t := s.link.tx.get b
  let acks := (t.ackIn.filter fun a => a.1 = 1).map fun a => a.2.1
  let naks := (t.ackIn.filter fun a => a.1 = 2).map fun a => a.2.1
  let s := match t.ackIn.getLast? with
    | some a => s.modTx b fun t => { t with
        farXon := a.2.2, ackIn := [], stalled := t.stalled &&& ~~~a.2.2 }
    | none => s
  let s := acks.foldl (fun a k => a.ackOutside (ackWhere t k)) s
  let s := match bestAck t acks with
    | some k => s.freeTo b k
    | none => s
  naks.foldl (fun a q => a.applyNak b q) s

end Sys2Proof.Machine
end

