-- ==== Sys2Proof/Machine/LinkRx.lean ====
section
/-!
DEFINITION. The receive side of a braid (R165, R166, R174 to R183, R199 to R202, R303 to R306, R400): judging a frame,
accepting it, and the release time of its flits.
-/
namespace Sys2Proof.Machine

/-! ### Delivering a slot -/

/-- A hitch signal or ARRIVE_WAIT with FENCE set (R290). -/
def isFenced (f : NocFlit) : Bool :=
  flitVc f == 7 && payBits f 14 1 == 1 && (flitType f == 0x30 || (flitType f == 0x31 && payBits f 12 2 == 3))

/-- A flit for an engine of the far package that this port lacks (R245, R276). -/
def State.strayFar (s : State) (f : NocFlit) : Bool :=
  flitDstDie f == 0xFF && ((flitVc f == 4 && !s.hasRed) || (flitVc f == 7 && !s.cls.isFibre))

/-- Write a legal slot of an accepted frame into its receive buffer, after the policy and the firewall (R303, R305); a
fenced base end discards it (R18, R359). -/
def State.deliver (s : State) (b : Fin 8) (q : BitVec 16) (rel : Time) (bytes : Nat) (f : NocFlit) : State :=
  let ten := flitTenant f
  let s := (s.meter ten 1 1).meterBytes ten 3 bytes
  if s.start.st == .fenced then { s with flt.fenceDiscards := s.flt.fenceDiscards + 1 }
  else if !s.rxPolicy b f then s.policyDiscardRx f
  else if !s.firewallAllows f then s.firewallDiscard f
  else if s.strayFar f then s.linkErr
  else
    let s := s.modRx b fun r => { r with buf := r.buf ++ [⟨f, q, s.noc.order, rel, false, isFenced f⟩] }
    ({ s with noc.order := s.noc.order + 1 }).updateXon b

/-- A valid slot obeys R166: slot 1 only behind slot 0, VC bits equal to the flit's VC, a VC of the class. -/
def slotLegal (c : PortClass) (ftype : Nat) (before : Bool) (vc : Nat) (f : NocFlit) : Bool :=
  ftype == 1 && before && vc == (flitVc f).val && c.carries (flitVc f)

/-- The legal slots of a frame, slot 0 first, and the number of slots that break R166. -/
def legalSlots (c : PortClass) (h : Hdr) (f : LinkFlit) : List NocFlit × Nat :=
  let a := h.v0 && slotLegal c h.ftype true h.vc0 (slot0 f)
  let b := h.v1 && slotLegal c h.ftype h.v0 h.vc1 (slot1 f)
  ((if a then [slot0 f] else []) ++ (if b then [slot1 f] else []), b2n (h.v0 && !a) + b2n (h.v1 && !b))

/-- The first legal slot whose VC buffer has no room (R202). -/
def State.overrunVc (s : State) (b : Fin 8) (l : List NocFlit) : Option (Fin 8) :=
  let r := s.link.rx.get b
  match l with
  | [] => none
  | [f] => if rxOcc r (flitVc f) < s.cls.rxDepth then none else some (flitVc f)
  | f :: g :: _ =>
    let need := if flitVc f = flitVc g then 2 else 1
    if rxOcc r (flitVc f) + need > s.cls.rxDepth then some (flitVc f)
    else if rxOcc r (flitVc g) + need > s.cls.rxDepth then some (flitVc g) else none

/-! ### CONTROL frames -/

/-- Opcodes of Table 8.4 that are not reserved. -/
def ctlKnown (op : Nat) : Bool :=
  op == 0x01 || op == 0x10 || (0x20 ≤ op && op ≤ 0x24) || (0x28 ≤ op && op ≤ 0x2A) || (0x30 ≤ op && op ≤ 0x33)
    || (0x40 ≤ op && op ≤ 0x42)

/-- Put a CONTROL payload into the CONTROL FIFO; its own command takes it out (R169). A sideband frame goes to the merge
of R90. -/
def State.takeCtl (s : State) (b : Fin 8) (h : Hdr) (p : NocFlit) : State :=
  if !ctlKnown h.opcode then s.linkErr
  else s.modRx b fun r => { r with ctlIn := r.ctlIn ++ [(h.opcode, p, h.seq)] }

/-- A CONTROL frame waits in the FIFO of a receive braid. -/
def State.ctlWaits (s : State) (b : Fin 8) (op : Nat) (p : NocFlit) : Bool :=
  (s.link.rx.get b).ctlIn.any fun c => c.1 = op ∧ c.2.1 = p

/-- Take the first CONTROL frame that satisfies a test out of the FIFO. Where the count and the timer have been cleared since and no
NAK has covered it, it counts from now as a frame to acknowledge (R169, R177; DEDUCED, assumption log 66). -/
def RxBraid.takeCtl (r : RxBraid) (p : Nat × NocFlit × BitVec 16 → Bool) : RxBraid :=
  match r.ctlIn.find? p with
  | none => r
  | some c =>
    let late := !r.timer && seqBefore r.lastAck c.2.2
    { r with
      ctlIn := eraseFirst p r.ctlIn
      unacked := if late then 1 else r.unacked
      timer := r.timer || late }

/-- Take a CONTROL frame out of the FIFO. -/
def State.dropCtl (s : State) (b : Fin 8) (op : Nat) (p : NocFlit) : State :=
  s.modRx b fun r => r.takeCtl fun c => c.1 = op ∧ c.2.1 = p

/-! ### Error attribution (R156) -/

/-- Bits the comparison of a failed and a replayed copy covers (R180). -/
def attributed (i : Nat) : Bool := i ≤ 27 || (54 ≤ i && i ≤ 1215) || (1216 ≤ i && i ≤ 1247)

/-- Bit errors of a failed copy on logical strand `l`. -/
def strandErrs (x : Nat) (w l : Nat) : Nat :=
  ((List.range 1280).filter fun i => attributed i && i % w == l && x.testBit i).length

/-- Attribute the differing bits of a failed copy to the strands of the map it arrived under. -/
def State.attribute (s : State) (b : Fin 8) (good : LinkFlit) (c : FailedCopy) : State :=
  let x := good.toNat ^^^ c.bits.toNat
  c.map.zipIdx.foldl (fun a p =>
    let n := strandErrs x c.map.length p.2
    if n = 0 then a else a.modTrim 1 b p.1 fun t => { t with perErrs := t.perErrs + n, perCrc := t.perCrc + 1 }) s

/-- Keep a failed copy in the compare buffer of four, dropping the oldest. -/
def State.keepFailed (s : State) (b : Fin 8) (q : BitVec 16) (f : LinkFlit) : State :=
  if s.cls.isFibre then s
  else
    let l := s.cal.compare.get b
    let l := if l.length ≥ 4 then l.drop 1 else l
    { s with cal.compare := s.cal.compare.put b (l ++ [⟨q, f, (s.shape 1 b).map⟩]) }

/-- Compare a frame that passed with the failed copies of its number. -/
def State.compareFailed (s : State) (b : Fin 8) (q : BitVec 16) (f : LinkFlit) : State :=
  let l := s.cal.compare.get b
  (l.filter fun c => c.seq = q).foldl (fun a c => a.attribute b f c)
    { s with cal.compare := s.cal.compare.put b (l.filter fun c => c.seq ≠ q) }

/-! ### Original arrivals and release times (R181, R400) -/

/-- Record the original arrival of a number, unless one is recorded. -/
def recordOrig (r : RxBraid) (q : BitVec 16) (now : Time) (tentative : Bool) : RxBraid :=
  if (tfind r.orig q.toNat).isSome then r else { r with orig := tput r.orig q.toNat (now, tentative) }

/-- Release time of a copy that reached the CRC check at `t`: receive crossing, alignment depth and phase (Table 8.12,
R190), rounded up to a whole PCLK. -/
def fixedRelease (r : RxBraid) (t : Time) : Time := (t * 16 + 32 + r.rxAlign.toNat * 16 + r.rxPhase.toNat + 15) / 16

/-- Rounds that put a release at or after the moment of acceptance (R181). -/
def roundsFor (rrt fixed now : Nat) : Nat := if now ≤ fixed ∨ rrt = 0 then 0 else (now - fixed + rrt - 1) / rrt

/-- The number seen last, over a half range. -/
def seqMax (a b : BitVec 16) : BitVec 16 := if seqBefore a b then b else a

/-- The original arrival of the frame being accepted: none where no copy was seen before its resend. -/
def origOf (r : RxBraid) (loop : Nat) (q : BitVec 16) (now : Time) : Option Time :=
  let resent := match r.resume, r.run with
    | some _, _ => true
    | none, some u => r.moved != 0 || (u.cause != 2 && u.cause != 4 && !seqBefore u.high q)
    | none, none => r.moved != 0
  match tfind r.orig q.toNat with
  | some (t, tentative) => some (if tentative && decide (now < t + loop) then now else t)
  | none => if resent then none else some now

/-- The accepted frame carries flits handed over from a retired braid: it is of a run of CAUSE 4 (R183, R186). -/
def RxBraid.handed (r : RxBraid) : Bool := r.resume.isNone && !r.nakWait && r.moved != 0

/-- The run of replay an accepted frame belongs to (R183). -/
def runNext (r : RxBraid) (rounds : Nat) (q : BitVec 16) (ts : BitVec 48) : Option Run :=
  match r.resume with
  | some c => some ⟨c, q, 1, seqMax q r.high, 0xFF, ts⟩
  | none =>
    if r.nakWait then some ⟨if r.naksSent ≤ 1 then 0 else 1, q, 1, seqMax q r.waitHigh, rounds, r.failTs⟩
    else match r.run with
      | some u =>
        if r.moved != 0 && u.cause != 4 then some ⟨4, q, 1, q, 0xFF, ts⟩
        else if u.cause = 2 then none else some { u with count := u.count + 1 }
      | none => if r.moved != 0 then some ⟨4, q, 1, q, 0xFF, ts⟩ else none

/-- The run ends with the accepted frame: the one at its high mark, or the last of the frames handed over. -/
def runEnds (r : RxBraid) (u : Run) (q : BitVec 16) : Bool :=
  if u.cause = 4 then r.moved ≤ 1 else !seqBefore q u.high

/-- Rounds of the frame being accepted: those of its run, or those its own arrival asks for as the first of one. -/
def roundsOf (r : RxBraid) (rrt fixed now : Nat) : Nat :=
  match r.resume, r.nakWait, r.run with
  | some _, _, _ => 0
  | none, true, _ => roundsFor rrt fixed now
  | none, false, some u => if u.cause < 2 then u.rounds else 0
  | none, false, none => 0

/-! ### Accepting (R174) -/

/-- The receive direction switches at the frame its COMMIT named (R126). -/
def State.switchAt (s : State) (b : Fin 8) (q : BitVec 16) : State :=
  match (s.shape 1 b).op with
  | some o => if o.switchSeq = some q then ((s.switchRx b o).opDone o 0 (opResult o) 0).calSwitched b o else s
  | none => s

/-- EXPECTED has passed CRC with room for its slots: accept it. -/
def State.accept (s : State) (b : Fin 8) (h : Hdr) (f : LinkFlit) (slots : List NocFlit) (bad : Nat) : State :=
  let r := s.link.rx.get b
  let q := h.seq
  let loop := ((s.link.tx.get b).loop.toNat + 15) / 16
  let orig := origOf r loop q s.now
  let fixed := fixedRelease r (orig.getD s.now)
  let m := roundsOf r s.link.rrt fixed s.now
  let rel := max (max s.now r.lastRel) (if orig.isNone then s.now else fixed + m * s.link.rrt)
  let s := if r.run.any (fun u => u.cause = 2 || (r.handed && u.cause != 4)) || (r.run.isSome && r.resume.isSome) then s.postRun b
    else s
  let run := runNext r m q (BitVec.ofNat 48 (s.ts 48))
  let s := s.modRx b fun r => { r with
    expected := q + 1
    nakWait := false
    naksSent := 0
    orig := tdel r.orig q.toNat
    high := seqMax r.high q
    lastRel := rel
    run := run
    moved := if r.handed then r.moved - 1 else r.moved
    resume := none
    unacked := r.unacked + 1
    timer := true }
  let s := if run.any (fun u => runEnds r u q) then s.postRun b else s
  let s := s.compareFailed b q f
  let s := (List.replicate bad ()).foldl (fun a _ => a.linkErr) s
  let s := slots.foldl (fun a g => a.deliver b q rel (slotBytes (slots.length == 2)) g) s
  let s := if h.ftype = 5 && !h.v0 then s.takeCtl b h (slot0 f) else s
  let s := if (s.link.rx.get b).unacked ≥ 32 then s.dueAck b else s
  s.switchAt b q

/-- The braid enters NAK_WAIT: its run ends, and a NAK of EXPECTED is due (Table 8.5). -/
def State.startWait (s : State) (b : Fin 8) (tentative : Bool) : State :=
  let s := (s.postRun b).modRx b fun r => { recordOrig r r.expected s.now tentative with
    nakWait := true, naksSent := 0, waitHigh := r.expected, failTs := BitVec.ofNat 48 (s.ts 48) }
  s.dueNak b

/-- The braid has seen a sequence number. -/
def State.seen (s : State) (b : Fin 8) (q : BitVec 16) : State :=
  s.modRx b fun r => { r with high := seqMax r.high q, waitHigh := seqMax r.waitHigh q }

/-- A frame failed CRC: only its arrival is used (R175). -/
def State.crcFailed (s : State) (b : Fin 8) (f : LinkFlit) : State :=
  let r := s.link.rx.get b
  let q := if r.nakWait then (hdrOf f).seq else r.expected
  let s := (s.keepFailed b q f).modRx b fun r => { r with crcFail := r.crcFail + 1 }
  let s := s.modTx b fun t => { t with blind := true }
  if r.nakWait then s else s.startWait b true

/-- Use the header of a frame that passed CRC (R170, R175): its acknowledgement and XON fields take effect at the transmit
braid they refer to. -/
def State.useHeader (s : State) (b : Fin 8) (h : Hdr) : State :=
  let target := if h.ftype = 3 ∨ h.ftype = 4 then oct h.opcode else b
  let mask : BitVec 8 := BitVec.ofNat 8 (maskOf (s.cls.vcs.map Fin.val))
  (s.modTx target fun t => { t with ackIn := t.ackIn ++ [(h.ackKind, h.ackSeq, h.xon &&& mask)] }).modTx b fun t => { t with blind := false }

/-- An unsequenced frame that passed CRC. -/
def State.takeUnsequenced (s : State) (b : Fin 8) (h : Hdr) (f : LinkFlit) : State :=
  let r := s.link.rx.get b
  let s := if h.ftype = 2 then s.compareDigest b (linkDigest f) else s
  if seqBefore r.expected h.seq then
    (if r.nakWait then s else s.startWait b false).seen b (h.seq - 1)
  else
    let s := if !r.nakWait && r.run.any (fun u => u.cause = 2) then s.postRun b else s
    if h.seq = r.expected then
      s.modRx b fun r => { r with orig := r.orig.filter fun p => !(p.1 = h.seq.toNat && p.2.2) }
    else s

/-- A duplicate while NORMAL: an immediate ACK, and a run of CAUSE 2 (R183). -/
def State.takeDuplicate (s : State) (b : Fin 8) (h : Hdr) : State :=
  let s := s.modRx b fun r => { r with
    dups := r.dups + 1
    run := match r.run with
      | none => some ⟨2, h.seq, 1, h.seq, 0, BitVec.ofNat 48 (s.ts 48)⟩
      | some u => some (if u.cause = 2 then { u with count := u.count + 1 } else u) }
  s.dueAck b

/-- A sequenced frame that passed CRC. -/
def State.takeSequenced (s : State) (b : Fin 8) (h : Hdr) (f : LinkFlit) : State :=
  let r := s.link.rx.get b
  if h.seq = r.expected then
    let l := legalSlots s.cls h f
    match s.overrunVc b l.1 with
    | none => s.accept b h f l.1 l.2
    | some v =>
      let s := (s.modRx b fun r => { r with overruns := r.overruns.upd v (· + 1) }).overrunEvent b v
      if r.nakWait then s else s.startWait b true
  else if seqBefore r.expected h.seq then
    let s := if r.nakWait then s else s.startWait b false
    (s.seen b h.seq).modRx b fun r => recordOrig r h.seq s.now false
  else if r.nakWait then s else s.takeDuplicate b h

/-- A link flit that passed CRC (R165, R174). -/
def State.takeFrame (s : State) (b : Fin 8) (f : LinkFlit) : State :=
  let h := hdrOf f
  if h.ftype = 0 ∨ h.ftype > 5 ∨ h.ackKind = 3 then s.linkErr
  else
    let s := s.useHeader b h
    if isSequenced h.ftype then s.takeSequenced b h f else s.takeUnsequenced b h f

/-- A link flit arrives on a trained receive braid: `bits` as the map in force lays it out and, while a committed width
operation waits for its switch, `alt` as the new map does (R128); each is still scrambled. -/
def State.receiveFlit (s : State) (b : Fin 8) (bits : LinkFlit) (alt : Option LinkFlit) : State :=
  let r := s.link.rx.get b
  let p := scrRun 1280 r.scr.toNat
  let s := s.modRx b fun r => { r with scr := BitVec.ofNat 31 p.2 }
  let clear := fun x : LinkFlit => (BitVec.ofNat 1280 (x.toNat ^^^ p.1) : LinkFlit)
  let f := clear bits
  let waits := match r.shape.op with
    | some o => o.switchSeq.isSome && !o.spliceType
    | none => false
  if linkCrcOk f then s.takeFrame b f
  else match waits, alt with
    | true, some x => if linkCrcOk (clear x) then s.takeFrame b (clear x) else s.crcFailed b f
    | _, _ => s.crcFailed b f

end Sys2Proof.Machine
end

