-- ==== Sys2Proof/Machine/PowerOps.lean ====
section
/-!
DEFINITION. Power states (R329 to R349): the estimate and the caps, the pair target, width changes, DOZE and the wake
burst, the drain toward PARK, and belays with their flush.
-/
namespace Sys2Proof.Machine

/-! ### Who leads (R316, R333) -/

/-- This end leads its pair: the lower class code, or between fibre ports the lower hub unique ID. -/
def State.leads (s : State) : Bool :=
  match s.cls with
  | .sc | .lt => true
  | .sb | .lh | .lg => false
  | .fib => s.straps.uid.toNat < s.start.farUid.toNat

/-- The lowest transmit braid that is up; where none is, the lowest that is not retired (R333, R316). -/
def State.lowTx (s : State) : Fin 8 :=
  match s.upTx with
  | b :: _ => b
  | [] => ((octs.find? fun b => !(s.shape 0 b).retired)).getD 0

/-! ### Estimate and caps (R330 to R332) -/

/-- Widest width of the class. -/
def PortClass.wmax (c : PortClass) : Nat := if c.isFibre then 4 else 32

/-- Round a quotient to the nearest, halves up. -/
def roundDiv (n d : Nat) : Nat := (2 * n + d) / (2 * d)

/-- Widest usable width of a braid of a direction (R105). -/
def State.widest (s : State) (dir : Nat) (b : Fin 8) : Nat := widestWidth s.cls (s.usable dir b).length

/-- Sum over the 16 braids that are not retired of 10 · Wmax times the term of R330, at a width of each. -/
def State.powerSum (s : State) (width : Nat → Fin 8 → Nat) : Nat :=
  ((List.range 2).map fun d =>
    ((octs.filter fun b => !(s.shape d b).retired).map fun b => s.cls.wmax + 9 * width d b).sum).sum

/-- The estimate of R330, units of 10 mW. -/
def State.estimateAt (s : State) (width : Nat → Fin 8 → Nat) : Nat :=
  roundDiv (s.pwr.fullPwr * s.powerSum width) (160 * s.cls.wmax)

/-- The estimate with every live braid capped at a width. -/
def State.estimateCap (s : State) (w : Nat) : Nat := s.estimateAt fun d b => min w (s.widest d b)

/-- DOZE fraction of Table 14.1 in hundredths. -/
def PortClass.dozePct (c : PortClass) : Nat := if c.isFibre then 30 else 6

/-- Power of a block in its present state (R330, R44). -/
def State.powerNow (s : State) : Nat :=
  match s.aon.pwr with
  | .active | .reefed => s.estimateAt fun d b => (s.shape d b).width
  | .doze => roundDiv (s.pwr.fullPwr * s.cls.dozePct) 100
  | .park => s.pwr.parkPwr
  | .off => 0

/-- The cap of R332. A PARK or OFF STATE of the last budget no longer binds once R342 released it. -/
def State.ownCap (s : State) : PwrState × Nat :=
  let wmax := s.cls.wmax
  let limit := (if s.pwr.budget = 0xFFFF then s.pwr.fullPwr else s.pwr.budget) * s.pwr.level / 256
  if s.pwr.parkCmd.isSome then (.park, wmax)
  else
    let forced := match pwrOf s.pwr.budState with
      | some .doze => some PwrState.doze
      | some .park => if s.pwr.released then none else some PwrState.park
      | some .off => if s.pwr.released then none else some PwrState.off
      | _ => none
    match forced with
    | some st => (st, wmax)
    | none =>
      match s.cls.widths.find? fun w =>
          (s.pwr.budWidth = 0 || w ≤ s.pwr.budWidth) && s.estimateCap w ≤ limit with
      | some w => (if w = wmax then .active else .reefed, w)
      | none =>
        if !s.cls.isFibre || s.cls.dozePct * s.pwr.fullPwr ≤ limit * 100 then (.doze, wmax) else (.park, wmax)

/-! ### Width changes (R334) -/

/-- The width a braid is headed for: that of a width operation in progress, else its present one. -/
def State.headedWidth (s : State) (b : Fin 8) : Nat :=
  match (s.shape 0 b).op with
  | some o => if o.spliceType then (s.shape 0 b).width else o.width
  | none => (s.shape 0 b).width

/-- Ask for the width of an ACTIVE or REEFED target on one transmit braid. -/
def State.applyWidth (s : State) (b : Fin 8) : State :=
  let sh := s.shape 0 b
  let s := s.modShape 0 b fun x => { x with queue := x.queue.filter fun o => o.reason ≠ 3 }
  let asked := s.pwr.target == .active || s.pwr.target == .reefed
  let w := min (if s.pwr.targetWidth = 0 then s.cls.wmax else s.pwr.targetWidth) (s.widest 0 b)
  let cur := s.headedWidth b
  if !asked || sh.retired || !sh.trained || w = 0 || w = cur then s
  else s.queueOp b { op0 with op := if w < cur then 3 else 4, width := w, reason := 3 }

/-- Ask for the target's width on every transmit braid. -/
def State.applyWidths (s : State) : State := octs.foldl State.applyWidth s

/-- Run the strand queue of a braid; a braid left without a width retires (R133). -/
def State.runStrands (s : State) (b : Fin 8) : State :=
  State.runQueue (fun c a => (a.retireDir 0 c).checkDown) 5 s b

/-! ### DOZE (R335 to R338) -/

/-- Transmit braids that are not retired. -/
def State.keptTx (s : State) : List (Fin 8) := octs.filter fun b => !(s.shape 0 b).retired

/-- The present state shown while awake: the target's, or by the widths while control traffic holds a dozing pair awake. -/
def State.awakeState (s : State) : PwrState :=
  match s.pwr.target with
  | .reefed => .reefed
  | .active => .active
  | _ => if s.keptTx.all fun b => s.widest 0 b ≤ (s.shape 0 b).width then .active else .reefed

/-- Forget the exchange of DOZE_ENTER frames. -/
def State.clearDoze (s : State) : State :=
  { s with pwr.dzSent := 0, pwr.dzAcked := 0, pwr.dzGot := 0, pwr.dozing := 0, pwr.lastCtl := [] }

/-- Start this end's wake burst: every dozing transmit braid drives 128 flit periods of the clock pattern and then
resumes with an IDLE (R337). A fibre braid resumes at its next codeword boundary: the part of the first flit that falls
into that codeword is left open. -/
def State.startBurst (s : State) : State :=
  if s.pwr.dozing = 0 then s
  else
    let was := octs.filter fun b => bit s.pwr.dozing b.val
    let s := was.foldl (fun a b =>
      let p := a.free
      p.2.modTx b fun t => { t with
        idleDue := true
        stream := if a.cls.isFibre then p.1 % 2 ^ t.streamLen else 0 }) s
    let left := Oct.ofFn fun b => if was.contains b && !s.cls.isFibre then 128 else 0
    let s := { s.clearDoze with pwr.burstLeft := left }
    let s := { s with aon.pwr := s.awakeState }
    (octs.foldl State.runStrands s).calAll

/-- A DOZE entry is asked for, or one is in flight and completes (R335, Table 14.8). -/
def State.dozeAsked (s : State) : Bool :=
  s.start.st == .openSt && !s.link.retraining && s.pwr.draining == .none
    && ((s.pwr.target == .doze && !s.pwr.ctrlAwake) || s.pwr.dzSent ≠ s.pwr.dozing || (s.pwr.dzGot ≠ 0 && s.pwr.dozing = 0))

/-- Everything a receive braid accepted is covered by an ACK sent. -/
def ackSent (r : RxBraid) : Bool := r.due == .none && r.ctlIn.isEmpty && r.lastAck == r.expected - 1

/-- One transmit braid's part of a DOZE entry. -/
def State.dozeBraid (s : State) (b : Fin 8) : State :=
  let t := s.link.tx.get b
  let r := s.link.rx.get b
  if t.ladder != .up || bit s.pwr.dozing b.val then s
  else if !bit s.pwr.dzSent b.val then
    if s.dozeAsked && t.held.isEmpty && t.ctl.isEmpty && t.replay.isNone then
      { s.sendCtl b 0x32 (mkPwr 0 0 0 b.val) with pwr.dzSent := setBf s.pwr.dzSent b.val 1 1 }
    else s
  else if bit s.pwr.dzAcked b.val && (r.shape.retired || (bit s.pwr.dzGot b.val && ackSent r)) then
    { s with pwr.dozing := setBf s.pwr.dozing b.val 1 1, pwr.rxDoze := setBf s.pwr.rxDoze b.val 1 1 }
  else s

/-- The end is in DOZE once every transmit braid that is not retired dozes. -/
def State.dozeEnter (s : State) : State :=
  if s.aon.pwr != .doze && s.pwr.dozing ≠ 0 && s.keptTx.all fun b => bit s.pwr.dozing b.val then
    { s with aon.pwr := .doze, pwr.dozes := s.pwr.dozes + 1 }
  else s

/-- A DOZE with no entry in flight ends: the target is another, a drain must leave it, or a CONTROL frame waits (R337). -/
def State.dozeLeave (s : State) : State :=
  let leave := s.pwr.target != .doze || s.pwr.draining != .none || s.pwr.ctrlAwake
    || octs.any fun b => bit s.pwr.dozing b.val && !(s.link.tx.get b).ctl.isEmpty
  if s.aon.pwr == .doze && s.pwr.dzSent = s.pwr.dozing && leave then s.startBurst else s

/-! ### The drain (R339, R340) -/

/-- A descriptor other than the PARK command in force is started and not ended. -/
def State.workRuns (s : State) : Bool :=
  s.rings.ring.any fun p => p.2.descs.any fun e =>
    (e.st == .started || e.st == .running || e.st == .fetching)
      && !(match s.pwr.parkCmd with
        | some c => c.1.val == p.1 && c.2.1 == e.index
        | none => false)

/-- Steps 2 and 3 are done: engines ended their work and every flit held has been granted. -/
def State.grantedAll (s : State) : Bool :=
  !s.workRuns && s.cls.vcs.all (fun v => (s.noc.pool.get v).isEmpty) && s.ten.linkQ.isEmpty && s.red.linkQ.isEmpty
    && s.red.mirrorWait.isEmpty && s.red.jobs.isEmpty && s.ht.linkQ.isEmpty && s.ht.owed.isEmpty && s.ht.intake.isEmpty
    && s.noc.taken.isEmpty

/-- Step 4: every sequenced frame is acknowledged. -/
def State.ackedAll (s : State) : Bool := s.keptTx.all fun b => (s.link.tx.get b).held.isEmpty && (s.link.tx.get b).ctl.isEmpty

/-- Step 5: every flit received is with its NoC. -/
def State.deliveredAll (s : State) : Bool :=
  octs.all (fun b => (s.link.rx.get b).buf.isEmpty) && s.noc.qRing.isEmpty && s.noc.qRed.isEmpty && s.noc.qHitch.isEmpty
    && s.noc.qErr.isEmpty

/-- Step 6: every completion entry, event and shadow line is written. -/
def State.writtenAll (s : State) : Bool :=
  s.rings.fifo.isEmpty && s.rings.ring.all (fun p => p.2.writes.isEmpty || p.2.st == .halted || p.2.st == .disabled)
    && octs.all fun k => (s.rings.line.get k).dirtyAt.isNone && (s.rings.line.get k).shWait = 0
      && (s.rings.line.get k).st != .reading

/-- Complete the PARK command in force, where its descriptor still waits. -/
def State.parkDone (s : State) (status : Nat) (result : Nat := 0) : State :=
  match s.pwr.parkCmd with
  | some c =>
    match s.desc c.1.val c.2.1 with
    | some e => if dOpcode e.desc = 0x0A then s.complete c.1.val c.2.1 status result else s
    | none => s
  | none => s

/-- A drain starts: credits are withheld, fetching stops and reduction jobs close (R339, R272). -/
def State.startDrain (s : State) (why : DrainFor) : State :=
  if s.pwr.draining != .none then { s with pwr.draining := why }
  else { s with pwr.draining := why, pwr.limits := 0, noc.whDrain := true, pwr.ctrlAwake := false }.redPark

/-- A drain ends without parking: credits and fetching resume, and so does the watch for sideband loss that the far end's
PARK_READY stopped (R70): no PARK is announced any more. -/
def State.stopDrain (s : State) : State :=
  let s := { s with
    sb.watchOff := false
    pwr.draining := .none, noc.whDrain := false, pwr.pkSent := 0, pwr.pkAcked := 0, pwr.pkGot := 0, pwr.lastCtl := [] }
  ((List.range 64).foldl (fun a r => State.fetchMore 8 a r) s).returnCredits

/-- The main island powers down: the state is kept in the retention store and every domain of the island stops
(R339 step 8, R341, R65). pm_iso_n falls first, and pm_main_on one AON cycle, 40 ns, later (R44). -/
def State.powerDown (s : State) : State :=
  { s with
    aon.isoN := false, aon.downAt := some (s.now + 64), aon.parkAt := some (s.aon.parkAt.getD s.now), aon.pwr := .park
    aon.exiting := false
    start.st := .park
    clk.rootLock := false, clk.pclkUp := false, clk.nclkUp := false, clk.refUp := false
    clk.nclkOk := false, clk.nclkAsync := false, clk.rxwOk := 0, clk.rxwUp := 0
    sb.up := false, sb.watchOff := true, sb.watchAt := none
    noc.crdInit := false, noc.initDone := false, noc.returned := false, noc.audit := none
    pwr.draining := .none, noc.whDrain := false, pwr.pkSent := 0, pwr.pkAcked := 0, pwr.pkGot := 0, pwr.lastCtl := []
    pwr.rxDoze := 0 }

/-- pm_main_on falls, and with it the supply of the main island (R44). -/
def State.switchOff (s : State) : State :=
  if s.aon.downAt.isSome then { s with aon.downAt := none, aon.mainOn := false, aon.mainGood := false } else s

/-- One AON cycle has passed since pm_iso_n fell (R44). -/
def State.switchTick (s : State) : State :=
  match s.aon.downAt with
  | some t => if t ≤ s.now then s.switchOff else s
  | none => s

/-- What OFF loses (R299, R345): everything the retention store held. The AON island keeps what R65 gives it. -/
def State.enterOff (s : State) : State := { s with aon.pwr := .off }

/-- The port parks. -/
def State.parkNow (s : State) : State :=
  let s := { s.powerDown with pwr.parks := s.pwr.parks + 1, aon.parkDur := (s.pwr.parkCmd.map fun c => c.2.2).filter (· ≠ 0) }
  if s.pwr.target == .off then s.enterOff else s

/-- Ask for a paired reset with a CAUSE of this end's own: RESET_PAIR goes to the far end (R68, R53). -/
def State.sendReset (s : State) (cause : BitVec 4) (drain : Bool) : State :=
  { s.withholdReset with start.reqSent := true, aon.reqCause := some cause }.sendResetPair cause.toNat false drain false

/-- A paired reset that drained first goes on: the end that was asked answers and requests, the end that asks sends its
request (R67, R68). -/
def State.resetAfterDrain (s : State) : State :=
  let s := { s with pwr.draining := .none, start.reqDrain := false }
  let c := s.aon.reqCause.getD 1
  if c = 2 then (s.sendResetPair 2 true false false).requestReset 2 else s.sendReset c true

/-- The port has traffic that a paired reset with DRAIN drains first: it has entered OPEN, be it in a port retrain or FENCED
(R67, R68). -/
def State.drains (s : State) : Bool := s.start.opened && !s.start.failed

/-- Ask for a paired reset, draining first where it asks so and the port carries traffic. -/
def State.askReset (s : State) (cause : BitVec 4) (drain : Bool) : State :=
  if drain && s.drains then
    { s.withholdReset with start.reqDrain := true, aon.reqCause := some cause }.startDrain .reset
  else s.sendReset cause drain

/-- Step 7 on one transmit braid. -/
def State.parkBraid (s : State) (b : Fin 8) : State :=
  if (s.link.tx.get b).ladder == .up && !bit s.pwr.pkSent b.val then
    { s.sendCtl b 0x33 (mkPwr 0 0 0 b.val) with pwr.pkSent := setBf s.pwr.pkSent b.val 1 1 }
  else s

/-- Step 7 is over: PARK_READY acknowledged on every transmit braid, the far one accepted on every live receive braid and
covered by an ACK. -/
def State.parkReady (s : State) : Bool :=
  s.keptTx.all (fun b => bit s.pwr.pkAcked b.val)
    && s.liveRx.all fun b => bit s.pwr.pkGot b.val && ackSent (s.link.rx.get b)

/-- Go on with a drain. -/
def State.drainStep (s : State) : State :=
  if s.pwr.draining == .none || s.aon.pwr == .doze then s
  else if s.pwr.pkSent ≠ 0 then
    let s := s.keptTx.foldl State.parkBraid s
    if s.parkReady then s.parkNow else s
  else if s.grantedAll && s.ackedAll && s.deliveredAll then
    let s := s.parkDone 0
    let s := (octs.filter fun k => (s.rings.line.get k).dirtyAt.isSome).foldl State.writeShadow s
    if s.writtenAll then
      (if s.pwr.draining == .reset then s.resetAfterDrain else s.keptTx.foldl State.parkBraid s)
    else s
  else s

/-! ### The pair target (R333) -/

/-- Apply a pair target. -/
def State.applyTarget (s : State) (st : PwrState) (w : Nat) : State :=
  if s.pwr.target = st ∧ s.pwr.targetWidth = w then s
  else
    let s := { s with pwr.target := st, pwr.targetWidth := w }
    match st with
    | .park | .off => s.startDrain .park
    | _ =>
      let s := if s.pwr.draining == .park then
          { (s.parkDone 1).stopDrain with pwr.parkCmd := none } else s
      let s := if st == .doze then s
        else
          let s := { s with pwr.ctrlAwake := false }
          if s.aon.pwr == .active || s.aon.pwr == .reefed then { s with aon.pwr := s.awakeState } else s
      let s := s.applyWidths
      octs.foldl State.runStrands s

/-- The target of two caps: the deeper state and the smaller width; a far width of 0 is no cap yet (assumption log 40). -/
def State.pairTarget (s : State) : PwrState × Nat :=
  let st := if s.pwr.nearCap.code < s.pwr.farCap.code then s.pwr.farCap else s.pwr.nearCap
  let w := if s.pwr.farWidth = 0 then s.pwr.nearWidth else min s.pwr.nearWidth s.pwr.farWidth
  (if st == .reefed && w = s.cls.wmax then .active else st, w)

/-- The leader computes the target; a changed one goes out in PWR_GO and is applied at once. -/
def State.leadTarget (s : State) : State :=
  let t := s.pairTarget
  if !s.leads || s.start.st != .openSt || (s.pwr.target = t.1 ∧ s.pwr.targetWidth = t.2) then s
  else
    let s := { s with pwr.goNum := s.pwr.goNum + 1 }
    (s.sendCtl s.lowTx 0x31 (mkPwr t.1.code t.2 s.pwr.goNum.toNat 0)).applyTarget t.1 t.2

/-- Tell the far end this end's cap. -/
def State.sendCap (s : State) : State :=
  let s := { s with pwr.capNum := s.pwr.capNum + 1 }
  s.sendCtl s.lowTx 0x30 (mkPwr s.pwr.nearCap.code s.pwr.nearWidth s.pwr.capNum.toNat 0)

/-- Set this end's cap. -/
def State.setCap (s : State) (c : PwrState × Nat) : State :=
  if s.pwr.nearCap = c.1 ∧ s.pwr.nearWidth = c.2 then s
  else
    let s := { s with pwr.nearCap := c.1, pwr.nearWidth := c.2 }
    if s.start.st == .openSt then s.sendCap.leadTarget else s

/-- Braids that are retired: transmit braids in bits 7 to 0, receive braids above. -/
def State.retiredMask (s : State) : BitVec 16 :=
  BitVec.ofNat 16 (maskOf ((octs.filter fun b => (s.shape 0 b).retired).map Fin.val)
    + 256 * maskOf ((octs.filter fun b => (s.shape 1 b).retired).map Fin.val))

/-- Recompute this end's cap (R332). -/
def State.recap (s : State) : State := { s with pwr.capBraids := s.retiredMask }.setCap s.ownCap

/-- The cap is recomputed after any braid retires or rejoins (R332). -/
def State.capStep (s : State) : State :=
  if s.start.st == .openSt && s.retiredMask != s.pwr.capBraids then s.recap else s

/-- At OPEN each end sends its cap (R333). -/
def State.capAtOpen (s : State) : State :=
  let c := s.ownCap
  ({ s with pwr.nearCap := c.1, pwr.nearWidth := c.2, pwr.capBraids := s.retiredMask }.sendCap).leadTarget

/-- A park is abandoned after its second DRAIN_LIMIT (R340). -/
def State.abandonPark (s : State) : State :=
  let step := if s.grantedAll && s.ackedAll then 5 else 4
  let s := (s.raise 0x58 (code := step)).parkDone 3
  { s.stopDrain with pwr.abandoned := s.pwr.abandoned + 1, pwr.parkCmd := none }.setCap (.doze, s.cls.wmax)

/-! ### Flush (R348, R349) -/

/-- Discard one flushed flit: LOST, FLUSHED, and the answer of a VC 0 flit. -/
def State.flushOne (s : State) (case : Nat) (f : NocFlit) : State :=
  let vc0 := flitVc f == 0
  let s := s.meter (flitTenant f) 6 1
  let s := { s with
    pwr.flushed := s.pwr.flushed + 1
    pwr.responses := if vc0 then s.pwr.responses + 1 else s.pwr.responses
    pwr.flushes := s.pwr.flushes.map fun x => if x.1 = case then (x.1, x.2.1 + 1, x.2.2 + b2n vc0) else x }
  if vc0 then s.answerNoc f 3 else s

/-- Room for the answers of a number of VC 0 flits. -/
def State.errRoom (s : State) (n : Nat) : Bool := s.noc.qErr.length + n ≤ 16

/-- Flush the pool of a VC. -/
def State.flushPool (s : State) (case : Nat) (v : Fin 8) : State :=
  (s.noc.pool.get v).foldl (fun a p =>
    if a.flushes case p.flit && (v != 0 || a.errRoom 1) then
      let a := { a with noc.pool := a.noc.pool.upd v (·.erase p) }
      let a := a.flushOne case p.flit
      if p.handed then a else a.freeSlot v
    else a) s

/-- Flush the link queues of the engines and of the error responses: none of their flits is on VC 0 but a HITCH_READ never
waits there. -/
def State.flushLinks (s : State) (case : Nat) : State :=
  let gone := (s.ten.linkQ ++ s.red.linkQ.map Prod.fst ++ s.ht.linkQ).filter (s.flushes case)
  let keep := fun f => !s.flushes case f
  gone.foldl (fun a f => a.flushOne case f)
    { s with
      ten.linkQ := s.ten.linkQ.filter keep
      red.linkQ := s.red.linkQ.filter fun p => keep p.1
      ht.linkQ := s.ht.linkQ.filter keep
      noc.redSent := s.noc.redSent ++ (s.red.linkQ.filter fun p => !keep p.1).filterMap Prod.snd }

/-- A held frame without the flits a case flushes. -/
def Held.without (h : Held) (gone : NocFlit → Bool) : Held :=
  { h with v0 := h.v0 && !gone h.s0, v1 := h.v1 && !gone h.s1 }

/-- Flush the replay buffer of a braid, in order, while there is room for its answers: the whole of it, or under case 4 the
flits of a revoked ID. Frames already sent are carried while the link carries them (Table 14.7), so a case 4 too flushes
them only once the port is FAILED or FENCED (assumption log 72, DEDUCED). -/
def State.flushHeld (s : State) (case : Nat) (b : Fin 8) : State :=
  (s.link.tx.get b).held.foldl (fun a h =>
    let l := (heldFlitsOf h).filter (a.flushes case)
    let rest := h.without (a.flushes case)
    if case = 4 && l.isEmpty then a
    else if a.errRoom (l.filter fun f => flitVc f == 0).length then
      l.foldl (fun c f => c.flushOne case f) (a.modTx b fun t => { t with
        held := if rest.v0 || rest.v1 then t.held.map fun x => if x = h then rest else x else t.held.erase h
        replay := none })
    else a) s

/-- A flush goes on: pools, move queues and link queues; the replay buffer too once the port is FAILED or FENCED. -/
def State.flushCase (s : State) (case : Nat) : State :=
  let s := s.cls.vcs.foldl (fun a v => a.flushPool case v) s
  let s := s.flushLinks case
  if s.start.failed || s.start.st == .fenced then octs.foldl (fun a b => a.flushHeld case b) s else s

/-- Nothing of the case is left to flush. -/
def State.flushOver (s : State) (case : Nat) : Bool :=
  s.cls.vcs.all (fun v => !(s.noc.pool.get v).any fun p => s.flushes case p.flit)
    && (!(s.start.failed || s.start.st == .fenced) || octs.all fun b =>
      !(s.link.tx.get b).held.any fun h => (heldFlitsOf h).any (s.flushes case) || (case ≠ 4))

/-- Go on with every flush, and with sinking. -/
def State.flushStep (s : State) : State :=
  let s := s.pwr.flushes.foldl (fun a x => a.flushCase x.1) s
  let s := (s.pwr.flushes.filter fun x => s.flushOver x.1).foldl (fun a x =>
    let a := { a with pwr.flushes := a.pwr.flushes.erase x }.raise 0x5B (code := x.1) (arg0 := x.2.1) (arg1 := x.2.2)
    if a.start.failed || a.start.st == .fenced then { a with pwr.sinking := true }.returnCredits else a) s
  if s.pwr.sinking then s.flushCase 3 else s

/-! ### The port's own power work -/

/-- RESUME commands that waited until DOZE is left complete (Table 10.5). -/
def State.resumeStep (s : State) : State :=
  if s.aon.pwr == .doze then s
  else s.pwr.resumeCmds.foldl (fun a k => a.complete k.1.val k.2 0 a.aon.pwr.code) { s with pwr.resumeCmds := [] }

/-- What the power machine does of itself: the DOZE entry and exit, the drain, and the flush. -/
def State.powerStep (s : State) : State :=
  if s.aon.pwr == .park || s.aon.pwr == .off then s
  else
    let s := s.capStep
    let s := (s.keptTx.foldl State.dozeBraid s).dozeEnter.dozeLeave
    s.resumeStep.drainStep.flushStep

end Sys2Proof.Machine
end

