-- ==== Sys2Proof/Machine/StartOps.lean ====
section
/-!
DEFINITION. Start-up (R93 to R115): failing a step, strand detect and its classification, the lane maps of both
directions, the start of training, and the steps from one state to the next. A braid retrain and a port retrain run
the same work (R185, R187).
-/
namespace Sys2Proof.Machine

/-! ### Failing a step (R97) -/

/-- The step fails: FAILED and FAIL_CODE, the event, the belay of a failed port; work of the step stops. -/
def State.startFail (s : State) (code : Nat) : State :=
  if s.start.failed then s
  else
    let s := { s with start.failed := true, start.failCode := BitVec.ofNat 8 code, start.repeats := [], start.patterns := 0 }
    let s := octs.foldl (fun (a : State) b => a.modTx b fun t =>
      { t with training := { t.training with phase := if t.training.phase.running then .off else t.training.phase } }) s
    ((s.raise 0x10 (code := code) (arg0 := s.start.st.code)).startBelay 2).judgeDown

/-! ### Detect (R100 to R104) -/

/-- Report a strand's code: STRAND_FAULT, and LANE_MAP_AMEND where the record did not retire it: at a start for a strand found
faulty, at run time for every strand quarantined (R106, R132). -/
def State.reportCode (s : State) (dir : Nat) (b : Fin 8) (p k : Nat) (retired : Bool) : State :=
  if k = 0 then s
  else
    let s := s.raise 0x18 (code := k) (arg0 := (s.strand dir b p).st.code) (braid := b.val) (dir := dir) (strand := p)
    if (codeFaulty k || (s.start.opened && !codeUsable k)) && !retired then s.raise 0x19 (code := k) (braid := b.val) (dir := dir) (strand := p) else s

/-- A strand already quarantined stays so: detect never re-admits one (R101, R131). -/
def State.outOfUse (s : State) (dir : Nat) (b : Fin 8) (p : Nat) : Bool :=
  let x := s.strand dir b p
  x.st == .quarantined || (x.st == .braidRetired && x.prev == .quarantined)

/-- A strand of an overridden map is quarantined by detect: the override lapses for the braid (R121). -/
def State.lapseDetect (s : State) (dir : Nat) (b : Fin 8) (p : Nat) : State :=
  if (s.shape dir b).override && (s.shape dir b).map.contains p then
    (s.modShape dir b fun x => { x with override := false }).raise 0x1A (code := 2) (braid := b.val) (dir := dir)
  else s

/-- Classify one receive strand of a logical braid heard by a tile. -/
def State.classRx (s : State) (l : Heards) (tile b : Fin 8) (p : Nat) : State :=
  let retired := (s.cfg.retRx.get b).getLsbD p
  let k := rxClass s.cls l tile b p retired
  let held := s.outOfUse 1 b p
  let s := if codeUsable k.1 || held then s else s.lapseDetect 1 b p
  let s := s.modStrand 1 b p fun x => { x with
    st := if codeUsable k.1 && !held then .standby else .quarantined
    code := if held && codeUsable k.1 then x.code else BitVec.ofNat 4 k.1
    logical := none
    site := k.2.1
    inverted := k.2.2 }
  if held then s else s.reportCode 1 b p k.1 retired

/-- The usable set a receive end reports (R104). -/
def State.usableMask (s : State) (dir : Nat) (b : Fin 8) : Nat :=
  maskOf ((List.range s.cls.nstrands).filter fun p => (s.strand dir b p).st == .standby)

/-- Fields of DETECT_RESULT: the data strands and the two clock bits. -/
def resultFields (c : PortClass) (m : Nat) : List (Nat × Nat × Nat) :=
  if c.isFibre then [(11, 5, m)] else [(11, 34, m), (45, 1, bitsOf m 34 1), (46, 1, bitsOf m 35 1)]

/-- The mask of a received DETECT_RESULT. -/
def resultMask (c : PortClass) (p : BitVec 64) : Nat :=
  if c.isFibre then bf p 11 5 else bf p 11 36

/-- The receive end's observation of one far braid ends: its strands are classified and DETECT_RESULT is sent. -/
def State.endObserve (s : State) (l : Heards) (b : Fin 8) (attempt : Nat) : State :=
  let s := match s.start.tileOf.get b with
    | some t => (List.range s.cls.nstrands).foldl (fun (a : State) p => a.classRx l t b p) s
    | none => (List.range s.cls.nstrands).foldl (fun (a : State) p =>
        if a.outOfUse 1 b p then a
        else (a.modStrand 1 b p fun x => { x with st := .quarantined, code := 6, logical := none, site := none }).reportCode 1 b p 6 false) s
  let m := s.usableMask 1 b
  let s := { s with start.rxb := s.start.rxb.upd b fun x => { x with usable := BitVec.ofNat 36 m, resultSent := true } }
  s.sendTrain 2 b.val attempt (resultFields s.cls m)

/-- Classify the strands of a transmit braid by pad readback and lane map (R101). -/
def State.classTx (s : State) (l : List (Fin 8 × Nat × TxObs)) (b : Fin 8) : State :=
  (List.range s.cls.nstrands).foldl (fun a p =>
    let retired := (a.cfg.retTx.get b).getLsbD p
    let k := match l.find? fun x => x.1 = b ∧ x.2.1 = p with
      | some x =>
        let k := if a.cls.isFibre then 0 else padCode p b.val x.2.2
        if k = 0 && retired then 8 else k
      | none => if retired then 8 else 0
    if a.outOfUse 0 b p then a.modStrand 0 b p fun x => { x with st := .quarantined, logical := none }
    else
      let a := if k = 0 then a else a.lapseDetect 0 b p
      let a := a.modStrand 0 b p fun x => { x with
        st := if k = 0 then .standby else .quarantined, code := BitVec.ofNat 4 k, logical := none }
      a.reportCode 0 b p k retired) s

/-! ### Lane maps (R105, R106) -/

/-- Clock of a braid whose usable mask is `m`: CK0, else CK1; 0xFF for none. -/
def clockOf (c : PortClass) (m : Nat) : Nat :=
  if c.isFibre then 0xFF else if m.testBit 34 then 34 else if m.testBit 35 then 35 else 0xFF

/-- Width and map of a braid from its usable mask; no width without a clock. -/
def mapOf (c : PortClass) (m : Nat) : List Nat :=
  let u := (List.range c.nuse).filter m.testBit
  let w := if !c.isFibre && clockOf c m = 0xFF then 0 else widestWidth c u.length
  if w = 0 then [] else laneMap c u w

/-- MAP_CRC over 34 bytes (R106). -/
def mapCrc (map : List Nat) (clock : Nat) : Nat :=
  crc32cBytes ((List.range 32).map (fun i => map.getD i 0xFF) ++ [clock, map.length])

/-- Put the map of R120 in force for a direction from its usable mask. -/
def State.loadMap (s : State) (dir : Nat) (b : Fin 8) (m : Nat) : State :=
  let c := clockOf s.cls m
  let s := s.setMap dir b (mapOf s.cls m) (if c = 0xFF then 0 else c)
  let s := if c = 0xFF then s else s.modStrand dir b c fun x => { x with st := .active }
  ((s.modShape dir b fun x => { x with reefed := false }).settleSpares dir b).modShape dir b fun x => { x with target := 512, op := none }

/-- Codes detect may give a strand it finds unusable (Tables 5.7, 5.8). -/
def PortClass.detectCodes (c : PortClass) : List Nat := if c.isFibre then [0xB, 0xC, 5, 6] else [2, 3, 4, 1, 5, 6]

/-- A transmit strand is not used: quarantined. Where only the far end found it unusable in the detect of a retrain, the event of
R132 and CODE carry the far end's detect code, which no frame brings: it is left free (assumption log 64). -/
def State.excludeTx (s : State) (b : Fin 8) (p : Nat) : State :=
  let found := (s.strand 0 b p).st == .standby && s.start.opened
  let s := if found then s.lapseDetect 0 b p else s
  let s := s.modStrand 0 b p fun y => { y with st := .quarantined, logical := none }
  if !found then s
  else
    let k := s.pick 5 s.cls.detectCodes
    (k.2.modStrand 0 b p fun y => { y with code := BitVec.ofNat 4 k.1 }).raise 0x19 (code := k.1) (braid := b.val) (strand := p)

/-- Transmit braid `b` knows both its own pads and the far DETECT_RESULT: the strands it may use and its map (R104, R105). -/
def State.useResult (s : State) (b : Fin 8) : State :=
  let x := s.start.txb.get b
  if !x.observed || !x.resultGot then s
  else
    let m := maskOf ((List.range s.cls.nstrands).filter fun p => x.far.getLsbD p && (s.strand 0 b p).st == .standby)
    let s := (List.range s.cls.nstrands).foldl (fun a p => if m.testBit p then a else a.excludeTx b p) s
    { s with start.txb := s.start.txb.upd b fun y => { y with usable := BitVec.ofNat 36 m } }.loadMap 0 b m

/-- A DETECT_RESULT is noted. -/
def State.noteResult (s : State) (b : Fin 8) (far attempt : Nat) : State :=
  { s with start.txb := s.start.txb.upd b fun x => { x with
    far := BitVec.ofNat 36 far, resultGot := true, attempt := BitVec.ofNat 4 attempt } }

/-- The pads of a transmit braid have been observed. -/
def State.observeTx (s : State) (l : List (Fin 8 × Nat × TxObs)) (b : Fin 8) : State :=
  { s.classTx l b with start.txb := s.start.txb.upd b fun x => { x with observed := true } }

/-- Send MAP_AGREE of a transmit braid. -/
def State.sendMap (s : State) (b : Fin 8) : State :=
  let x := s.start.txb.get b
  let m := x.usable.toNat
  let s := { s with start.txb := s.start.txb.upd b fun x => { x with mapSent := true } }
  s.sendTrain 3 b.val x.attempt.toNat [(11, 32, mapCrc (mapOf s.cls m) (clockOf s.cls m))]

/-- Retire one direction outside the ladder of OPEN, where no traffic has run (R105 to R107). -/
def State.retireStart (s : State) (dir : Nat) (b : Fin 8) : State :=
  if s.start.opened then s.retireDir dir b
  else
    let s := s.retireStrands dir b
    let s := s.modShape dir b fun x => { x with retired := true, trained := false, width := 0, map := [], clock := 0 }
    if dir = 0 then s.modTx b fun t => { t with ladder := .retired } else s

/-- Retire the directions of a braid that have no width. -/
def State.dropEmpty (s : State) (b : Fin 8) : State :=
  let s := if (s.shape 0 b).width = 0 then s.retireStart 0 b else s
  if (s.shape 1 b).width = 0 then s.retireStart 1 b else s

/-! ### Training (R107, R189) -/

/-- A braid begins an attempt: LOCK, with trims from the AON store where they are valid (R107). -/
def State.beginTraining (s : State) (b : Fin 8) (attempt : Nat) : State :=
  let load := fun (a : State) (dir p : Nat) =>
    match tfind a.aon.trims (strandKey dir b p) with
    | some t => if bit a.aon.retained (8 * dir + b.val) then
        a.modTrim dir b p fun x => { x with rx := t.rx, dfe := t.dfe, tx := t.tx } else a
    | none => a
  let s := (List.range s.cls.nstrands).foldl (fun a p => load (load a 0 p) 1 p) s
  let s := s.modRx b fun r => { r with stream := 0, streamLen := 0, uncorr := 0 }
  s.modTx b fun t => { t with
    training := { zeroTraining with phase := .lock, attempt := attempt }, standUi := 0, cycles := 0, stream := 0, streamLen := 0 }

/-- Braids with an agreed map in some direction. -/
def State.agreed (s : State) : Nat :=
  maskOf ((octs.filter fun b => !(s.shape 0 b).retired || !(s.shape 1 b).retired).map Fin.val)

/-- Step 7 begins (R107). -/
def State.enterTrain (s : State) : State :=
  let m := s.agreed
  let s := { s with start.st := .train, start.trainMaskSent := BitVec.ofNat 8 m, start.trainGoSent := true }
  s.sendTrain 4 0 0 [(11, 8, m)]

/-- Step 6 is over once MAP_AGREE has come for every braid: braids whose maps do not match are retired (R106). -/
def State.tryTrain (s : State) : State :=
  if s.start.st != .splice || s.start.failed then s
  else if octs.all fun b => (s.start.txb.get b).mapSent && (s.start.rxb.get b).mapGot then
    let s := octs.foldl State.dropEmpty s
    if s.surviving 0 < s.minBraids ∨ s.surviving 1 < s.minBraids then s.startFail 3 else s.enterTrain
  else s

/-- Step 6 begins once every DETECT_RESULT has been sent and received (R104); in stand-alone mode only where a bight supplies
the far end (R49). -/
def State.trySplice (s : State) : State :=
  if s.start.st != .detect || s.start.failed || (s.test.alone && !s.bight.active) then s
  else if octs.all fun b => (s.start.rxb.get b).resultSent && (s.start.txb.get b).resultGot && (s.start.txb.get b).observed then
    let s := octs.foldl State.useResult s
    let s := octs.foldl (fun a b => a.loadMap 1 b (a.start.rxb.get b).usable.toNat) { s with start.st := .splice, start.patterns := 0 }
    octs.foldl State.sendMap s
  else s

/-- Step 5 begins (R100). -/
def State.enterDetect (s : State) : State :=
  let s := { s with start.st := .detect, start.goSent := true, start.txb := Oct.all braid0, start.rxb := Oct.all braid0 }
  s.sendTrain 1 0 0 []

/-! ### Steps 8 to 10 -/

/-- Step 8 begins. -/
def State.enterCalibrate (s : State) : State :=
  { s with start.st := .calibrate, start.repeats := [] }

/-- Step 7 is over once TRAIN_DONE has been sent and received for every braid in training: at least the minimum of each
direction trained, or the step fails. -/
def State.tryCalibrate (s : State) : State :=
  if s.start.st != .train || s.start.failed then s
  else
    let overs := octs.all fun b =>
      ((s.shape 1 b).retired || (s.start.rxb.get b).doneSent) && ((s.shape 0 b).retired || (s.start.txb.get b).doneGot)
    if !overs || !s.start.trainGoGot then s
    else if s.surviving 0 < s.minBraids ∨ s.surviving 1 < s.minBraids then s.startFail 4
    else s.enterCalibrate

/-- Send one BEACON (R109, Table 5.9). -/
def State.sendBeacon (s : State) : State :=
  let f : SbFrame := { s.localFrame 1 s.straps.uid.toNat with
    destDie := if s.cls == .sc then 0x00 else 0xFF
    destPort := if s.cls == .sc then 0x9F else 0x00
    srcDie := if s.cls == .sc then 0xFF else s.sbDie }
  s.sendLink f

/-- The far class is not permitted, or a fibre port meets its own hub (R3, R23, R109). -/
def State.classFail (s : State) (code : Nat) : State :=
  (s.raise 0x11 (code := code) (arg0 := s.sb.farClass.toNat) (arg1 := 0) (arg2 := s.start.farUid.toNat)).startFail
    (if code = 1 then 6 else 8)

/-- Features of the class's advertisement (Table 5.13). -/
def PortClass.features (c : PortClass) : Nat :=
  match c with
  | .sc => 2
  | .sb => 0
  | .lt => 1
  | .lh => 1
  | .lg => 4
  | .fib => 3

/-- Step 10 begins: NEGOTIATE (R113). -/
def State.enterNegotiate (s : State) : State :=
  let s := { s with start.st := .negotiate }
  s.sendTrain 7 0 0 [(11, 3, 3), (14, 3, 3), (17, 4, s.cls.code), (21, 4, s.straps.ownRates.toNat), (25, 16, s.cls.features)]

/-- Step 9 is over: far class permitted, a far BEACON, and the DIE_ID frame the end needs or forwards (Table 5.3). -/
def State.tryNegotiate (s : State) : State :=
  if s.start.st != .discover || s.start.failed then s
  else
    let named := match s.cls with
      | .sc => s.start.dieIdGot
      | .sb | .lg => s.start.dieIdFwd
      | _ => true
    if s.sb.hbSeen && s.cls.farOk.contains s.sb.farClass.toNat && s.start.beaconGot && named then s.enterNegotiate else s

/-- Step 9 begins: the class check, then the first BEACON (R109). -/
def State.enterDiscover (s : State) : State :=
  let s := octs.foldl (fun a b => a.forgetTrain b.val [1, 2, 3, 4, 5]) { s with start.st := .discover, start.repeats := [] }
  if s.sb.hbSeen && !s.cls.farOk.contains s.sb.farClass.toNat then s.classFail 1
  else s.sendBeacon.tryNegotiate

/-! ### OPEN (R115) -/

/-- Meters and epochs at OPEN (R324, R325): after a pair reset the open epoch closes with cause restart. -/
def State.metersAtOpen (s : State) : State :=
  if s.mtr.running || s.isOptical then s
  else
    let s := { s with mtr.next := s.nextBoundary s.clk.tsc.toNat, mtr.running := true }
    if s.mtr.restart then { s.closeEpoch 3 s.clk.tsc.toNat with mtr.restart := false } else s

/-- The port enters OPEN for the first time since its pair reset: every braid is in service, ingress credits return,
and the cap goes out (R32, R115, R208, R299, R333). -/
def State.enterOpen (s : State) : State :=
  let first := !s.start.opened
  let s := { s with start.st := .openSt, start.opened := true, lash.unequal := false }
  let s := if first && s.mtr.restart then s.startSweep else s
  let s := { s with aon.pwr := s.awakeState }
  (((s.metersAtOpen.openBuckets.returnCredits).capAtOpen).portTopo).askMoves

/-- A spare pair parks after step 10, and again where no DIE_ID frame brings it into use (R15, R94). -/
def State.parkSpare (s : State) : State :=
  let s := s.powerDown
  { s with aon.parkSpare := true, pwr.parks := s.pwr.parks + 1 }

/-- Step 11, or PARK for a spare. -/
def State.enterLash (s : State) : State :=
  if s.start.spare && s.cls.isStack then s.parkSpare else { s with start.st := .lash }

/-! ### Steps 2 to 4 -/

/-- Guest-port enable is set, or the block is no guest port (R21). -/
def State.guestOn (s : State) : Bool := s.cls != .lg || bit (s.prot 0x0838) 0

/-- Announce the release (R67). -/
def State.announce (s : State) (ack : Bool) : State :=
  { s.sendResetPair s.aon.cause.toNat ack false true with start.sentRel := true }

end Sys2Proof.Machine
end

