-- ==== Sys2Proof/Machine/SerialOps.lean ====
section
/-!
DEFINITION. Step 4 of start-up (R363 to R377, R381): reading the port's records over the serial memory relay, choosing
a slot of each type, and applying the chosen records; then the steps 2 to 4 that lead to it and away from it.
-/
namespace Sys2Proof.Machine

/-! ### Where the records lie (Tables 16.1 to 16.3) -/

/-- Extent number of the port (Table 16.2). -/
def State.extent (s : State) : Nat :=
  let t := s.tile
  let i := s.index
  match s.cls with
  | .sc => 7 * t + i
  | .sb => 56 + 7 * t + i
  | .lt => 112 + 3 * t + i
  | .lh => 136 + 3 * t + i
  | .lg => 160 + i
  | .fib => 162 + i

/-- Address of a slot of type 0x10 + j. -/
def State.slotAddr (s : State) (j slot : Nat) : Nat :=
  if j = 0 then slot * 0x1000 else 0x01000000 + s.extent * 0x10000 + (j - 1) * 0x2000 + slot * 0x1000

/-- Types the class uses. -/
def PortClass.usesType (c : PortClass) (j : Nat) : Bool := j < 7 || (j == 7 && c.isFibre)

/-- Smallest and largest LENGTH of a type (R371 to R377). -/
def typeLen (j : Nat) : Nat × Nat :=
  match j with
  | 0 => (48, 48)
  | 1 => (40, 40)
  | 2 => (168, 168)
  | 3 => (40, 40)
  | 7 => (1312, 1312)
  | _ => (40, 4096)

/-- A little-endian field of a record. -/
def leField (l : List (BitVec 8)) (at_ n : Nat) : Nat :=
  ((l.drop at_).take n).foldr (fun v a => v.toNat + 256 * a) 0

/-- The record names this port (R368). -/
def State.prefixOk (s : State) (l : List (BitVec 8)) : Bool :=
  leField l 16 8 == s.straps.uid.toNat && leField l 24 2 == s.extent && leField l 26 1 == s.cls.code

/-- TYPE and LENGTH of a slot's first bytes. -/
def headShape (j : Nat) (l : List (BitVec 8)) : Bool :=
  leField l 0 4 == 0x10 + j && (typeLen j).1 ≤ leField l 4 4 && leField l 4 4 ≤ (typeLen j).2

/-- A slot's first bytes promise a record of this port (R369). -/
def State.headOk (s : State) (j : Nat) (l : List (BitVec 8)) : Bool := headShape j l && (j == 0 || s.prefixOk l)

/-- An erased slot. -/
def erased (l : List (BitVec 8)) : Bool := leField l 0 4 == 0xFFFFFFFF

/-- The CRC of a record checks (R367). -/
def recordCrcOk (l : List (BitVec 8)) : Bool :=
  crc32cBytes ((l.take 12 ++ (l.drop 16)).map BitVec.toNat) == leField l 12 4

/-! ### Bodies (R371, R373 to R377) -/

/-- Entry `i` of a staging record: offset and value. -/
def stageEntry (l : List (BitVec 8)) (i : Nat) : Nat × Nat := (leField l (40 + 8 * i) 2, leField l (44 + 8 * i) 4)

/-- Entries of a staging record. -/
def stageEntries (l : List (BitVec 8)) : List (Nat × Nat) := (List.range (leField l 32 4)).map (stageEntry l)

/-- Offsets a staging record of a kind may name (R376). -/
def kindOffset (j off : Nat) : Bool :=
  match j with
  | 4 => off == 0x8000 || isRuleReg off || isTvc off
  | 5 => off == 0x9008 || off == 0x9004
  | _ => isMapOvr off

/-- Strictly ascending. -/
def ascending : List Nat → Bool
  | a :: b :: l => a < b && ascending (b :: l)
  | _ => true

/-- The checks of a type's body. -/
def State.bodyOk (s : State) (j : Nat) (l : List (BitVec 8)) : Bool :=
  match j with
  | 0 =>
    leField l 16 4 == 0x4D495846 && leField l 20 1 == 1 && leField l 21 3 == 0 && leField l 24 8 < 2 ^ 52
      && leField l 24 8 % 64 == 0 && (!s.cls.isHub || leField l 32 8 == s.straps.uid.toNat)
  | 1 =>
    let v := leField l 32 8
    1 ≤ bitsOf v 0 4 && bitsOf v 0 4 ≤ 8 && bitsOf v 4 16 != 0 && bitsOf v 20 12 != 0 && v / 2 ^ 40 == 0
  | 2 =>
    (List.range 16).all (fun i => leField l (32 + 8 * i) 8 < 2 ^ s.cls.nstrands)
      && (s.cls == .sb || leField l 160 1 % 2 == 0)
  | 3 => leField l 32 4 / 2 ^ 31 == 1 && leField l 36 4 / 2 ^ 31 == 1
  | 7 => (List.range 320).all fun e =>
      leField l (32 + 4 * e) 4 < (if e / 40 % 2 = 0 then 2 ^ 22 else 2 ^ 28)
  | _ =>
    let n := leField l 32 4
    n ≤ 507 && leField l 4 4 == 40 + 8 * n
      && (stageEntries l).all (fun e => kindOffset j e.1) && ascending ((stageEntries l).map Prod.fst)

/-! ### Reads (R370 to R372) -/

/-- TAGs no outstanding read uses. -/
def State.freeTags (s : State) : List Nat :=
  (List.range 16).filter fun t => !(s.cfg.reads.any fun r => r.tag.toNat = t)

/-- Send an SM_READ: a hub-end port gives it to the controller, any other routes it (R42, R39). -/
def State.sendSmRead (s : State) (tag addr len : Nat) : State :=
  let f : SbFrame := { s.localFrame 5 (packNat [(0, 4, tag), (4, 26, addr), (30, 13, len)]) with destDie := 0, destPort := 0 }
  if s.agentHere then { s with out.smReq := s.out.smReq ++ [f] } else s.sendRouted f

/-- Issue a read of a slot. -/
def State.smRead (s : State) (slot : Nat) (whole : Bool) (addr len reissues : Nat) : State :=
  let p := s.pick 0 s.freeTags
  let s := { p.2 with cfg.reads := p.2.cfg.reads ++ [(⟨BitVec.ofNat 4 p.1, addr, len, [], reissues, false, slot, whole⟩ : SmRead)] }
  s.sendSmRead p.1 addr len

/-- The bytes of a complete read. -/
def readBytes (r : SmRead) : List (BitVec 8) :=
  (List.range r.len).map fun i => BitVec.ofNat 8 (bf (tget 0 r.got (i / 6)) (8 * (i % 6)) 8)

/-- Frames of a reply. -/
def readFrames (len : Nat) : Nat := (len + 5) / 6

/-! ### Applying the chosen records -/

/-- The bytes of a chosen record. -/
def State.chosenRec (s : State) (j : Nat) : Option (List (BitVec 8)) := (tfind s.cfg.chosen j).map Prod.snd

/-- The port profile (R373). -/
def State.applyProfile (s : State) : State :=
  match s.chosenRec 1 with
  | none => s
  | some l =>
    let v := leField l 32 8
    { s with
      link.llCtl := setBf s.link.llCtl 0 4 (bitsOf v 0 4)
      lash.window := BitVec.ofNat 16 (bitsOf v 4 16)
      pwr.fullPwr := bitsOf v 20 12
      pwr.parkPwr := bitsOf v 32 8 }

/-- The lane map (R374). -/
def State.applyMapRec (s : State) : State :=
  match s.chosenRec 2 with
  | none => s
  | some l => { s with
      cfg.retTx := Oct.ofFn fun b => BitVec.ofNat 36 (leField l (32 + 8 * b.val) 8)
      cfg.retRx := Oct.ofFn fun b => BitVec.ofNat 36 (leField l (96 + 8 * b.val) 8)
      cfg.spareRec := leField l 160 1 % 2 == 1 }

/-- The lashing parties: the one write of each register (R309, R375). A register that holds its write keeps it. -/
def State.applyParties (s : State) : State :=
  match s.chosenRec 3 with
  | none => s
  | some l =>
    if s.lash.partySet ≠ 0 then s
    else
      let a : Reg := BitVec.ofNat 32 (leField l 32 4) &&& 0x8003FFFF
      let b : Reg := BitVec.ofNat 32 (leField l 36 4) &&& 0x8003FFFF
      { s with lash.partyA := a, lash.partyB := b, lash.partySet := 3 }

/-- Equal valid parties raise the same-party event (R309). -/
def State.checkParties (s : State) : State :=
  if bit s.lash.partyA 31 && s.lash.partyA == s.lash.partyB then s.raise 0x49 (arg0 := s.lash.partyA.toNat) else s

/-- Stage one value where the class has the register (R311). -/
def State.stageValue (s : State) (off : Nat) (v : Reg) : State :=
  if protectedOff s.cls off then { s with lash.staged := tput s.lash.staged off (shadowValue off v) } else s

/-- A staging record is staged whole (R376). -/
def State.applyStaging (s : State) (j : Nat) : State :=
  match s.chosenRec j with
  | none => s
  | some l => (stageEntries l).foldl (fun a e => a.stageValue e.1 (BitVec.ofNat 32 e.2)) s

/-- The fibre temperature sets (R161, R377). -/
def State.applyTset (s : State) : State :=
  if !s.cls.isFibre then s
  else match tfind s.cfg.chosen 7 with
    | some (slot, l) => { s with
        cal.tset := (List.range 320).map fun e => (e, BitVec.ofNat 32 (leField l (32 + 4 * e) 4))
        cal.tsetAct := (List.range 320).map fun e => (e, BitVec.ofNat 32 (leField l (32 + 4 * e) 4))
        cal.loaded := BitVec.ofNat 2 (slot + 1)
        cal.gen := BitVec.ofNat 32 (leField l 8 4)
        cal.captured := 0 }
    | none => { s with cal.tset := [], cal.tsetAct := [], cal.loaded := 0, cal.gen := 0, cal.captured := 0 }.raise 0x24

/-- Load the trims of every wavelength from the working set (Table 5.3), at the temperature held; before a valid one has come, its reset
value (DESIGN CHOICE, assumption log 71). -/
def State.loadFibreTrims (s : State) : State :=
  if !s.cls.isFibre then s
  else
    let s := { s with cal.nearest := startNearest s.tempHeld }
    octs.foldl (fun a b => (List.range 5).foldl (fun (c : State) p =>
      let c := c.modTrim 0 b p fun t => { t with otx := (c.tset c.cal.nearest 0 b.val p) }
      let c := c.modTrim 1 b p fun t => { t with orx := (c.tset c.cal.nearest 1 b.val p) }
      let c := c.modTrim 0 b p fun t => { t with otx := c.liveTrim 0 b p }
      let c := c.modTrim 1 b p fun t => { t with orx := c.liveTrim 1 b p }
      (c.settleGoal 0 b p).settleGoal 1 b p) a) s

/-- TOPO_ADDR of the image header. -/
def State.applyHeader (s : State) : State :=
  match s.chosenRec 0 with
  | none => s
  | some l => { s with cfg.topoAddr := BitVec.ofNat 64 (leField l 24 8) }

/-- Step 4 ends (R369): a required record missing fails it with 0x01; else the chosen records are applied in the order of
Table 16.3 and step 5 begins. -/
def State.finishConfig (s : State) : State :=
  let s := { s with cfg.done := true, cfg.at_ := some 8, cfg.reads := [] }
  if (s.chosenRec 0).isNone || (s.chosenRec 1).isNone || (s.chosenRec 2).isNone then s.startFail 1
  else
    let s := ((s.applyHeader.applyProfile.applyMapRec.applyParties.checkParties.applyStaging 4).applyStaging 5).applyStaging 6
    s.applyTset.loadFibreTrims.enterDetect

/-! ### Choosing slots (R369) -/

/-- Set the SLOT code of a type. -/
def State.setSlot (s : State) (j v : Nat) : State := { s with cfg.slotCode := setBf s.cfg.slotCode (2 * j) 2 v }

/-- A slot found not valid is counted unless it is erased. -/
def State.reject (s : State) : State := { s with cfg.rejected := s.cfg.rejected + 1 }

/-- Reads of a type begin: the first bytes of both slots. -/
def State.startHeads (s : State) (j : Nat) : State :=
  let s := { s with cfg.at_ := some j, cfg.headA := none, cfg.headB := none, cfg.unreadA := false, cfg.unreadB := false, cfg.order := [] }
  (s.smRead 0 false (s.slotAddr j 0) 32 0).smRead 1 false (s.slotAddr j 1) 32 0

/-- Go on to a type, or end step 4; the read of the party record alone, while a guest port waits in IDENT, ends here. -/
def State.startType : Nat → State → Nat → State
  | 0, s, _ => s.finishConfig
  | n + 1, s, j =>
    if s.start.st == .ident then { s with cfg.at_ := none, cfg.reads := [] }.applyParties
    else if j ≥ 8 then s.finishConfig
    else if s.cls.usesType j then s.startHeads j
    else State.startType n (s.setSlot j 3) (j + 1)

/-- The type is settled: go on to the next; with no valid image header nothing else is read. -/
def State.nextType (s : State) (j : Nat) : State :=
  if j = 0 ∧ (s.chosenRec 0).isNone then s.finishConfig else State.startType 9 s (j + 1)

/-- Read the next slot of the order whole, or settle the type. -/
def State.tryNext (s : State) (j : Nat) : State :=
  match s.cfg.order with
  | [] => s.nextType j
  | slot :: _ =>
    let head := (if slot = 0 then s.cfg.headA else s.cfg.headB).getD []
    s.smRead slot true (s.slotAddr j slot) (leField head 4 4) 0

/-- Judge the first bytes of one slot: usable, with its GENERATION; FOREIGN and REJECTED are noted. -/
def State.judgeHead (s : State) (j : Nat) (head : Option (List (BitVec 8))) : Option Nat × State :=
  match head with
  | none => (none, s.reject)
  | some l =>
    let s := if headShape j l && j != 0 && !s.prefixOk l then { s with cfg.foreign := s.cfg.foreign ||| BitVec.ofNat 8 (2 ^ j) } else s
    if s.headOk j l then (some (leField l 8 4), s)
    else (none, if erased l then s else s.reject)

/-- Both slots' first bytes are settled: order them by GENERATION, slot A first when equal. -/
def State.headsDone (s : State) (j : Nat) : State :=
  let a := s.judgeHead j s.cfg.headA
  let b := a.2.judgeHead j s.cfg.headB
  let order := match a.1, b.1 with
    | some x, some y => if x < y then [1, 0] else [0, 1]
    | some _, none => [0]
    | none, some _ => [1]
    | none, none => []
  { b.2 with cfg.order := order }.tryNext j

/-- A whole record has been read, or could not be: it is chosen where it is valid. Both slots of the temperature sets are
judged (FX_TSET_SLOT). -/
def State.wholeDone (s : State) (j slot : Nat) (rec_ : Option (List (BitVec 8))) : State :=
  let s := { s with cfg.order := s.cfg.order.drop 1 }
  let ok := match rec_ with
    | some l => s.headOk j l && recordCrcOk l && s.bodyOk j l
    | none => false
  if ok then
    let s := if (tfind s.cfg.chosen j).isNone then
        { s.setSlot j (slot + 1) with cfg.chosen := tput s.cfg.chosen j (slot, rec_.getD []) } else s
    if j = 7 then
      (if slot = 0 then { s with cal.aValid := true } else { s with cal.bValid := true }).tryNext j
    else { s with cfg.order := [] }.nextType j
  else s.reject.tryNext j

/-- A read has ended, with its bytes or unreadable. -/
def State.readDone (s : State) (r : SmRead) (bytes : Option (List (BitVec 8))) : State :=
  let s := { s with cfg.reads := s.cfg.reads.erase r }
  match s.cfg.at_ with
  | none => s
  | some j =>
    if r.whole then s.wholeDone j r.slot bytes
    else
      let s := match r.slot, bytes with
        | 0, some l => { s with cfg.headA := some l }
        | 0, none => { s with cfg.unreadA := true }
        | _, some l => { s with cfg.headB := some l }
        | _, none => { s with cfg.unreadB := true }
      if (s.cfg.headA.isSome || s.cfg.unreadA) && (s.cfg.headB.isSome || s.cfg.unreadB) then s.headsDone j else s

/-- Step 4 begins: the image header first (R369). -/
def State.enterConfig (s : State) : State :=
  State.startType 9 { s with
    start.st := .config, cfg.chosen := [], cfg.reads := [], cfg.slotCode := 0, cfg.done := false
    cal.aValid := false, cal.bValid := false } 0

/-! ### Steps 2 and 3 (R96) -/

/-- Step 3 completes: a class 1 port learns its site from the base end's HEARTBEAT. -/
def State.completeSideband (s : State) : State :=
  let s := { s with start.fresh := false }
  let s :=
    if s.cls == .sc then { s with
      start.siteTile := BitVec.ofNat 3 (s.sb.farDie.toNat - 1)
      start.siteIndex := BitVec.ofNat 4 (bf s.sb.farPort 0 5)
      start.siteValid := true }
    else s
  s.enterConfig

/-- SIDEBAND ends once RELEASED = 1 has gone both ways; a class 1 port also needs the HEARTBEAT it learns its site from. -/
def State.trySideband (s : State) : State :=
  if s.start.st == .sideband && s.start.sentRel && s.start.gotRel && (s.cls != .sc || s.sb.hbSeen) then s.completeSideband else s

/-- A guest port held in IDENT reads its party record alone (R309). -/
def State.readPartiesEarly (s : State) : State :=
  if s.cls == .lg && s.start.st == .ident && s.cfg.at_.isNone && s.lash.partySet = 0 && !s.guestOn then s.startHeads 3 else s

/-- IDENT ends once the main island is powered, the root locked and its domains out of reset; a guest port waits for its
enable. -/
def State.tryIdent (s : State) : State :=
  if s.start.st == .ident && s.mainUp && s.clk.rootLock && s.clk.pclkUp then
    (if s.guestOn then { s with start.st := .sideband, cfg.at_ := none, cfg.reads := [] }.trySideband else s.readPartiesEarly)
  else s

end Sys2Proof.Machine
end

