-- ==== Sys2Proof/Machine/LashOps.lean ====
section
/-!
DEFINITION. Lashing (R308 to R320): the lock-violation log, staging, proposals and their digest, commits, the effects
of a lashing that applies, and the agreement of two ends on a policy.
-/
namespace Sys2Proof.Machine

/-! ### The lock-violation log (R319) -/

/-- Log a write the port ignored. -/
def State.logViolation (s : State) (a : Access) (off : Nat) (value : Reg) (cause : Nat) : State :=
  let h := s.lash.head
  let first := !s.lash.viol
  let s := { s with
    lash.log := tput s.lash.log h.toNat ⟨BitVec.ofNat 16 off, a.srcEp, BitVec.ofNat 4 cause, true, value,
      BitVec.ofNat 48 (s.ts 48), a.srcDie⟩
    lash.head := h + 1, lash.violCount := s.lash.violCount + 1, lash.viol := true }
  if first then s.raise 0x4B (code := cause) (arg0 := off) (arg1 := value.toNat) else s

/-! ### Parties (R309, R310) -/

/-- The access comes from the party a register names; test access matches no party. -/
def isParty (party : Reg) (a : Access) : Bool :=
  bit party 31 && !a.tap && bf party 0 8 == a.srcDie.toNat && bf party 8 10 == a.srcEp.toNat

def State.isA (s : State) (a : Access) : Bool := isParty s.lash.partyA a
def State.isB (s : State) (a : Access) : Bool := isParty s.lash.partyB a

/-! ### Ends of a lashing (Table 13.2) -/

/-- Complete the FENCE_DIE and UNFENCE_DIE commands that wait (R231, R315). -/
def State.fenceDone (s : State) (status detail : Nat) : State :=
  s.lash.fenceCmds.foldl (fun a c => a.complete c.1.val c.2 status 0 detail) { s with lash.fenceCmds := [] }

/-- A proposal or link lashing ends without applying: its values stay staged. -/
def State.endLash (s : State) (code : Nat) : State :=
  { s with
    lash.outcome := BitVec.ofNat 4 code, lash.proposed := none, lash.digestValid := false
    lash.linkWait := false, lash.switching := false, lash.commit := [] }.fenceDone 0x0C code

/-- Staging and unstaging end an open proposal (R313). -/
def State.lashTouched (s : State) : State := if s.lash.proposed.isSome then s.endLash 5 else s

/-- A link lashing is in progress at this end. -/
def State.lashBusy (s : State) : Bool := s.lash.linkWait || s.lash.switching

/-! ### Proposals (R312, R313) -/

/-- The digest of the staged set under a nonce (R312). -/
def State.lashDigest (s : State) (nonce : Reg) : Nat :=
  let le := fun (n v : Nat) => (List.range n).map fun i => bitsOf v (8 * i) 8
  let site := packNat [(0, 4, s.index), (4, 3, s.tile), (7, 1, b2n s.isOptical)]
  crc32cBytes (le 4 nonce.toNat ++ le 8 s.straps.uid.toNat ++ [site] ++ le 4 s.lash.count.toNat
    ++ s.lash.staged.flatMap fun e => le 2 e.1 ++ le 4 e.2.toNat)

/-- A proposal of the present staged set would be INVALID (R312, R313). -/
def State.proposalBad (s : State) : Bool :=
  s.lash.staged.isEmpty || s.lashBusy
    || s.lash.staged.any fun e =>
      (isOwnerReg e.1 && (s.ring ((e.1 - 0x540C) / 0x10)).enabled)
        || (isTvc e.1 && s.start.st != .lash && s.start.st != .openSt)

/-! ### The effects of a lashing (R315, Table 13.1) -/

/-- A base end enters FENCED: what is bound across the link is belayed (R18, R347). -/
def State.enterFenced (s : State) (traffic : Bool) : State :=
  if s.start.st == .fenced then s
  else
    let s := { s with start.st := .fenced }
    if traffic then s.startBelay 3 else { s with pwr.belays := s.pwr.belays ++ [(3, s.now)] }

/-- A base end leaves FENCED and sinking, and enters DISCOVER (R360). -/
def State.leaveFenced (s : State) : State :=
  if s.start.st != .fenced then s
  else
    let s := { s.endBelay 3 with
      pwr.sinking := false, pwr.flushes := s.pwr.flushes.filter fun x => x.1 ≠ 3
      start.beaconGot := false, start.dieIdFwd := false }
    s.enterDiscover

/-- Groups of hitches whose owner a lashing changes. -/
def State.changedGroups (s : State) (items : Tbl Reg) : List Nat :=
  (List.range 64).filter fun g =>
    match tfind items (0x7100 + 4 * (g / 4)) with
    | some v => bf v (8 * (g % 4)) 8 != (s.groupOwner g).toNat
    | none => false

/-- Entries and fields of a staged override of a transmit braid (R327). -/
def State.mapOvr (s : State) (b : Fin 8) : Bool × List Nat × Nat :=
  let r := fun i => s.prot (0x1040 + 0x100 * b.val + 4 * i)
  let e := fun l => if l < 30 then bf (r (l / 5)) (6 * (l % 5)) 6 else bf (r 6) (6 * (l - 30)) 6
  (bit (r 6) 24, (List.range (min 32 (bf (r 6) 18 6))).map e, bf (r 6) 12 6)

/-- A list names nothing twice. -/
def distinct : List Nat → Bool
  | [] => true
  | x :: l => !l.contains x && distinct l

/-- A lashed override of a braid: refused with its event, queued as a MAP_LOAD, or removed (R121). -/
def State.applyOverride (s : State) (b : Fin 8) : State :=
  let o := s.mapOvr b
  let w := bf (s.prot (0x1058 + 0x100 * b.val)) 18 6
  if !o.1 then s.modShape 0 b fun x => { x with override := false }
  else
    let u := s.usable 0 b
    let clockOk := o.2.2 == 0x3F || s.cls.isFibre || o.2.2 == 34 || o.2.2 == 35
    if s.cls.widths.contains w && o.2.1.all u.contains && distinct o.2.1 && clockOk then
      (s.modShape 0 b fun x => { x with override := true }).queueOp b { op0 with
        op := 6, width := w, map := o.2.1, clock := o.2.2, reason := 4 }
    else (s.modShape 0 b fun x => { x with override := false }).raise 0x1A (code := 1) (braid := b.val)

/-- Every staged value becomes live together, with what Table 13.1 gives each item; the lashing count advances. -/
def State.applyItems (s : State) (items : Tbl Reg) : State :=
  let has := fun off => (tfind items off).isSome
  let groups := s.changedGroups items
  let s := items.foldl (fun a e => a.setProt e.1 e.2) s
  let s := { s with
    lash.staged := s.lash.staged.filter fun e => tfind items e.1 != some e.2
    lash.count := s.lash.count + 1 }
  let s := s.resetGroups groups
  let s := if has 0x9004 && s.mtr.running then { s with mtr.next := s.nextBoundary s.clk.tsc.toNat } else s
  let s := (octs.filter fun b => (List.range 7).any fun i => has (0x1040 + 0x100 * b.val + 4 * i)).foldl State.applyOverride s
  let s :=
    if s.cls == .lg && has 0x0838 then
      (if bit (s.prot 0x0838) 0 then s.tryIdent
       else if s.start.st != .ident then s.askReset 7 true else s)
    else s
  let s :=
    if s.cls == .sb && has 0x083C then
      (if bit (s.prot 0x083C) 0 then s.enterFenced true else s.leaveFenced)
    else s
  if s.start.st == .lash then s.enterOpen else s

/-- A commit without a link item applies (R315). -/
def State.applyLocal (s : State) : State :=
  let s := { s with lash.outcome := 0, lash.proposed := none, lash.digestValid := false }
  (s.applyItems s.lash.staged).fenceDone 0 0

/-! ### Two ends (R316 to R318) -/

/-- LINK_DIGEST of the policy a set of values leaves (Table 13.3). -/
def State.linkDigestOf (s : State) (items : Tbl Reg) : Nat :=
  crc32cBytes (tvcBytes fun off => (tfind items off).getD (s.prot off))

/-- Send LASH_WITHDRAW. -/
def State.withdraw (s : State) (cause : Nat) : State :=
  s.sendCtl s.lowTx 0x42 (mkLash (s.linkDigestOf s.lash.commit) (s.lash.link + 1).toNat 0 0 cause)

/-- This end switches: local items, transmit policy, and a LASH_SWITCH queued on every transmit braid that is up or
retraining; every receive braid keeps the old table until its far LASH_SWITCH (R317 steps 3 to 6). -/
def State.lashSwitch (s : State) : State :=
  let old := (List.range 64).map fun j => (0x8100 + 4 * j, s.prot (0x8100 + 4 * j))
  let dest := octs.filter fun b => (s.link.tx.get b).ladder == .up || (s.link.tx.get b).ladder == .retraining
  let digest := s.linkDigestOf s.lash.commit
  let count := (s.lash.link + 1).toNat
  let mask : BitVec 8 := BitVec.ofNat 8 (maskOf (dest.map Fin.val))
  let s := { s with
    lash.oldTvc := old, lash.oldOn := 0xFF, lash.linkWait := false, lash.switching := true
    lash.swQueued := mask, lash.swSent := mask, lash.swSeq := [], lash.swAcked := 0, lash.swGot := 0 }
  let s := dest.foldl (fun a b => a.sendCtl b 0x41 (mkLash digest count b.val 0 0)) s
  (s.applyItems s.lash.commit).fenceDone 0 0

/-- A switched lashing is APPLIED once every LASH_SWITCH is acknowledged and a far one is in on every receive braid that is
not retired (R317 step 7). -/
def State.lashStep (s : State) : State :=
  if s.lash.switching
      && octs.all (fun b => (s.shape 0 b).retired || !bit s.lash.swSent b.val || bit s.lash.swAcked b.val)
      && octs.all (fun b => (s.shape 1 b).retired || bit s.lash.swGot b.val) then
    { s with
      lash.link := s.lash.link + 1, lash.switching := false, lash.outcome := 0, lash.commit := []
      lash.offer := none, lash.oldTvc := [], lash.oldOn := 0, lash.swSent := 0, lash.swQueued := 0 }
  else s

/-- The leader holds a commit and a far offer: equal ones switch, unequal ones withdraw (R317, R318). -/
def State.tryMatch (s : State) : State :=
  match s.lash.linkWait && s.leads, s.lash.offer with
  | true, some o =>
    if o.1.toNat = s.linkDigestOf s.lash.commit ∧ o.2.1 = s.lash.link + 1 then s.lashSwitch
    else { s.withdraw 8 with lash.offer := none }.endLash 8
  | _, _ => s

/-- A taken commit with a link item: LASH_OFFER, LINK_WAIT, and the match (R317 steps 1 and 2). -/
def State.linkStart (s : State) : State :=
  let s := { s with
    lash.proposed := none, lash.digestValid := false, lash.commit := s.lash.staged
    lash.linkWait := true, lash.waitAt := s.now }
  (s.sendCtl s.lowTx 0x40 (mkLash (s.linkDigestOf s.lash.commit) (s.lash.link + 1).toNat 0 0 0)).tryMatch

/-- A commit is taken (R314). -/
def State.takeCommit (s : State) : State := if s.lash.staged.any fun e => isTvc e.1 then s.linkStart else s.applyLocal

/-- The power machine, the two-end lashing and the transmit queues go on. -/
def State.portStep (s : State) : State := s.powerStep.lashStep

end Sys2Proof.Machine
end

