-- ==== Sys2Proof/Machine/NocCmds.lean ====
section
/-!
DEFINITION. The commands of the NoC interface (R27 to R33, R203 to R206): ingress flits and the flits the port's own
engines take, egress credits, the credit handshake and the credit audit.
-/
namespace Sys2Proof.Machine

/-! ### Flits for the port's own engines (R222, R245, R276, R331) -/

/-- What the ring engine does with a flit of its own endpoint: responses arrive as their own commands, power messages
wait for theirs. -/
def State.ringTake (s : State) (f : NocFlit) : State :=
  if flitVc f == 6 && (flitType f == 0x3C || flitType f == 0x3D) then s.takeFlit false f else s

/-- What the reduction engine does with a VC 4 flit it takes (R245). -/
def State.redTake (s : State) (rx : Bool) (f : NocFlit) : State :=
  if flitType f == 0x38 || flitType f == 0x39 then s.takeFlit rx f else { s with red.cBadType := s.red.cBadType + 1 }

/-- What the hitch engine does with a flit it takes (R276). -/
def State.htTake (s : State) (rx : Bool) (f : NocFlit) : State :=
  if flitVc f == 7 && 0x30 ≤ flitType f && flitType f ≤ 0x33 then s.takeFlit rx f
  else if flitVc f == 0 && flitType f == 0x34 then s.takeFlit rx f
  else s.badHitch

/-- A flit the port takes for one of its engines, from ingress or from a receive braid; none where it goes on. -/
def State.engineTake (s : State) (rx : Bool) (f : NocFlit) : Option State :=
  let here := flitDstDie f == s.ownDie.toNat
  let far := rx && flitDstDie f == 0xFF
  let ep := flitDstEp f
  if !rx && here && ep == s.straps.ringEp.toNat then some (s.ringTake f)
  else if s.hasRed && ((here && ep == s.straps.redEp.toNat) || far) && flitVc f == 4 then some (s.redTake rx f)
  else if s.hasRed && !rx && here && ep == s.straps.redEp.toNat && flitVc f == 1 then some s
  else if s.hasHitch && ((here && ep == s.straps.hitchEp.toNat) || (far && s.cls.isFibre && flitVc f == 7))
      && !(rx && flitVc f == 0 && flitType f == 0x34) then some (s.htTake rx f)
  else none

/-- A flit of a receive braid waits behind a fenced signal of the braid (R290). -/
def RxBraid.behindFence (r : RxBraid) (x : RxFlit) : Bool :=
  flitVc x.flit == 7 && r.buf.any fun y => y.fenced && y.acc < x.acc

/-- The port's engines take their eligible flits out of a receive braid's buffer, in release order (R213, R245, R276). -/
def State.takeEligible (s : State) (b : Fin 8) : State :=
  (s.link.rx.get b).buf.foldl (fun a x =>
    if x.eligible && !x.fenced && !(a.link.rx.get b).behindFence x then
      match a.engineTake true x.flit with
      | some t => (t.modRx b fun r => { r with buf := r.buf.erase x }).updateXon b
      | none => a
    else a) s

/-- The first fenced signal of a receive braid is no longer held. -/
def State.endFence (s : State) (b : Fin 8) (x : RxFlit) : State :=
  (s.modRx b fun r => { r with buf := r.buf.map fun y => if y = x then { y with fenced := false } else y }).takeEligible b

/-- EGRESS_FENCE_RELEASE (R290): the first fenced signal of a receive braid is released at egress, or taken by the hitch
engine. -/
def execEgressFenceRelease (b : Fin 8) (s : State) : Host.Outcome State Fault Refusal :=
  done (match (s.link.rx.get b).buf.find? fun x => x.fenced with
    | some x => if s.egFenceClear x.acc then (s.endFence b x).egressStep.portStep else s
    | none => s)

/-! ### Ingress -/

/-- DST_DIE may be carried: the hub, a tile, or an ID assigned at this moment (R12). The hub's agent knows the IDs it has assigned; elsewhere `assigned` says it (assumption log 45). -/
def State.dieOk (s : State) (d : Nat) (assigned : Bool) : Bool :=
  if (9 ≤ d && d ≤ 0xF) || d == 0xFF then false
  else if d ≤ 8 then true
  else if s.cls.isHub then s.agent.assigned.any fun x => x.toNat == d
  else assigned

/-- The port holds a flit for a die ID. -/
def State.holdsFor (s : State) (d : Nat) : Bool :=
  (s.cls.vcs.any fun v => (s.noc.pool.get v).any fun p => flitDstDie p.flit = d)
    || (s.ten.linkQ ++ s.red.linkQ.map Prod.fst ++ s.ht.linkQ).any fun f => flitDstDie f = d

/-- An ID of which the port still holds flits is not assigned any more: the hub has revoked it, and the port belays them (R16,
R347). How a port away from the hub learns of a revocation the spec does not say (assumption log 73, DESIGN CHOICE). -/
def State.learnRevoked (s : State) (d : Nat) : State :=
  if 0x10 ≤ d && d < 0xFF && !s.cls.isHub && s.holdsFor d && !s.pwr.revoked.any fun x => x.toNat = d then
    { s with pwr.revoked := s.pwr.revoked ++ [BitVec.ofNat 8 d] }.startBelay 4
  else s

/-- A flit sampled at NoC ingress (R7, R12, R30, R32, R198). -/
def State.ingress (s : State) (f : NocFlit) (assigned : Bool) : State :=
  let v := flitVc f
  if !s.noc.returned || !s.cls.carries v || s.noc.inHeld.get v = 0 then s.boundaryErr
  else
    let s := { s with noc.inHeld := s.noc.inHeld.upd v (· - 1) }
    if !s.dieOk (flitDstDie f) assigned then ((s.freeSlot v).boundaryErr).learnRevoked (flitDstDie f)
    else match s.engineTake false f with
      -- a HITCH_READ keeps its slot until the engine takes it (R294)
      | some t => if v = 0 && t.isTaken false f then t else t.freeSlot v
      | none => (s.enqueue f (isFenced f)).portStep

/-- NOC_INGRESS_FLIT: flits of one NCLK cycle come in slot order (R29). -/
def execNocIngressFlit (f : NocFlit) (assigned : Bool) (s : State) : Host.Outcome State Fault Refusal :=
  if s.isOptical then done s else done (s.ingress f assigned)

/-! ### Egress credits (R30, R204) -/

/-- Credits the NoC returns on a VC. -/
def State.takeCredits (s : State) (v : Fin 8) (n : Nat) : State :=
  if !s.noc.initDone || n = 0 then s
  else
    let have_ := s.noc.egHeld.get v
    let s := { s with
      noc.egHeld := s.noc.egHeld.put v (min 511 (have_ + n))
      noc.egStalled := setBf s.noc.egStalled v.val 1 0 }
    let s := if have_ + n > 511 then s.boundaryErr else s
    s.egressStep.sendFinals.portStep

/-- NOC_EGRESS_CREDIT. -/
def execNocEgressCredit (v : Fin 8) (n : BitVec 5) (s : State) : Host.Outcome State Fault Refusal :=
  if s.isOptical then done s else done (s.takeCredits v n.toNat)

/-! ### Credit initialisation (R32, Table 2.5) -/

/-- noc_crd_init_ack is sampled: both sides zero their counts, and a retrain's withholding ends. -/
def State.creditAck (s : State) : State :=
  if !s.noc.crdInit then s
  else
    let s := { s.zeroCredits with noc.crdInit := false, noc.initDone := true, noc.timeoutRaised := false }
    let s := if s.link.retraining then s else { s with noc.whRetrain := false }
    s.returnCredits.sendFinals.portStep

/-- CREDIT_INIT_ACK. -/
def execCreditInitAck (s : State) : Host.Outcome State Fault Refusal :=
  if s.isOptical then done s else done s.creditAck

/-- CREDIT_INIT_TIMEOUT: the event is raised once until a handshake has succeeded. -/
def execCreditInitTimeout (s : State) : Host.Outcome State Fault Refusal :=
  if s.isOptical then done s
  else done (if s.noc.crdInit && !s.noc.timeoutRaised then { s with noc.timeoutRaised := true }.raise 0x0E else s)

/-- CREDIT_INIT_RETRY: noc_crd_init rises again. -/
def execCreditInitRetry (s : State) : Host.Outcome State Fault Refusal :=
  if s.isOptical then done s
  else done (if s.noc.crdInit && s.noc.timeoutRaised then s.startCreditInit else s)

/-! ### Credit audit (R33, R205, R206) -/

/-- VC and direction of turn `n` of the audit sequence. -/
def PortClass.auditTurn (c : PortClass) (n : Nat) : Fin 8 × Bool := (c.vcs.getD (n / 2 % c.vcs.length) 0, n % 2 = 1)

/-- Start the next audit: its snapshot is the port's own count. -/
def State.auditStart (s : State) : State :=
  if bit s.noc.fcCtl 0 && !s.test.alone && s.start.opened && s.noc.initDone && !s.noc.crdInit && s.noc.audit.isNone then
    let t := s.cls.auditTurn s.noc.nextAudit
    { s with
      noc.audit := some (t.1, t.2, if t.2 then s.noc.egHeld.get t.1 else s.noc.inHeld.get t.1)
      noc.nextAudit := (s.noc.nextAudit + 1) % (2 * s.cls.vcs.length) }
  else s

/-- CREDIT_AUDIT_START. -/
def execCreditAuditStart (s : State) : Host.Outcome State Fault Refusal :=
  if s.isOptical then done s else done s.auditStart

/-- Compare an answer for the ingress direction (Table 9.4); a window of 128 − LOST_IN that has fallen to zero is
exhausted (R204, R206). -/
def State.auditIn (s : State) (v : Fin 8) (snap cnt : Nat) : State :=
  if cnt < snap then
    let s := { s with
      noc.lostIn := s.noc.lostIn.upd v (· + (snap - cnt))
      noc.inHeld := s.noc.inHeld.upd v (· - (snap - cnt)) }.raise 0x31 (code := 0) (arg0 := snap) (arg1 := cnt) (vc := v.val)
    if 128 ≤ s.noc.lostIn.get v then
      s.raise 0x33 (code := 0) (arg0 := s.noc.lostIn.get v) (vc := v.val)
    else s
  else s.raise 0x32 (code := 0) (arg0 := snap) (arg1 := cnt) (vc := v.val)

/-- Compare an answer for the egress direction (Table 9.4). -/
def State.auditEg (s : State) (v : Fin 8) (snap cnt : Nat) : State :=
  if snap < cnt then
    { s with noc.lostEg := s.noc.lostEg.upd v (· + (cnt - snap)) }.raise 0x31 (code := 1) (dir := 1) (arg0 := snap) (arg1 := cnt) (vc := v.val)
  else
    { s with noc.egHeld := s.noc.egHeld.upd v (· - (snap - cnt)) }.raise 0x32 (code := 1) (dir := 1) (arg0 := snap) (arg1 := cnt) (vc := v.val)

/-- The NoC's answer to the audit in flight. -/
def State.auditAnswer (s : State) (cnt : Nat) : State :=
  match s.noc.audit with
  | none => s
  | some (v, dir, snap) =>
    let s := { s with noc.audit := none, noc.audits := s.noc.audits + 1 }
    if cnt = snap then s
    else
      let s := { s with noc.mismatch := s.noc.mismatch + 1 }
      if dir then s.auditEg v snap cnt else s.auditIn v snap cnt

/-- CREDIT_AUDIT_ANSWER. -/
def execCreditAuditAnswer (cnt : BitVec 9) (s : State) : Host.Outcome State Fault Refusal :=
  if s.isOptical then done s else done (s.auditAnswer cnt.toNat)

/-- CREDIT_AUDIT_ABANDON. -/
def execCreditAuditAbandon (s : State) : Host.Outcome State Fault Refusal :=
  if s.isOptical then done s
  else done (if s.noc.audit.isSome then { s with noc.audit := none, noc.abandoned := s.noc.abandoned + 1 } else s)

end Sys2Proof.Machine
end

