-- ==== Sys2Proof/Machine/BightOps.lean ====
section
/-!
DEFINITION. Bight modes (R116 to R118): starting and stopping a run, taking braids off their traffic, the exchange of B2,
and the counters.
-/
namespace Sys2Proof.Machine

/-- Braids a run names (Table 5.16). -/
def bightBraids (v : Reg) : BitVec 8 := BitVec.ofNat 8 (bf v 4 8)

/-! ### Counters (R117, Table 5.17) -/

/-- Strands taking part on a braid: every physical strand in B0, the whole braid in B1, the logical strands in B2. -/
def State.bightStrands (s : State) (b : Fin 8) : List Nat :=
  match bightMode s.bight.ctl with
  | 1 => List.range s.cls.nstrands
  | 2 => [0]
  | _ => List.range (s.shape 1 b).width

/-- Add to a saturating counter of 32 bits kept as a number. -/
def addSat (t : Tbl Nat) (k n lim : Nat) : Tbl Nat := tput t k (min lim (tget 0 t k + n))

/-- Count errors and bits of one checker. ERRORS saturates at 2^32 − 1; BITS in units of 2^16. -/
def State.bightCount (s : State) (k errors bits : Nat) : State :=
  { s with
    bight.errs := addSat s.bight.errs k errors (2 ^ 32 - 1)
    bight.bits := addSat s.bight.bits k bits (2 ^ 48 - 1) }

/-- The checker's view of received bits, the first in bit 0: they obey the pattern's recurrence and are not all zero, so they are
a stretch of the expected pattern (R117). -/
def onPattern (taps : Nat × Nat) (n bits : Nat) : Bool :=
  bits % 2 ^ taps.1 != 0 && (List.range (n - taps.1)).all fun i =>
    bits.testBit (i + taps.1) == xor (bits.testBit i) (bits.testBit (i + taps.1 - taps.2))

/-- Generator state behind the last bits of a stretch of `n`: the newest in bit 0. -/
def stateBehind (taps : Nat × Nat) (n bits : Nat) : Nat :=
  packNat ((List.range taps.1).map fun j => (j, 1, b2n (bits.testBit (n - 1 - j))))

/-- B1 turns a link flit back at PCLK, ahead of scrambling: the checker sees the 1,280 pattern bits sent, locks to them and
counts them without error (R116, R117). -/
def State.turnBack (s : State) (b : Fin 8) : State :=
  let k := strandKey 1 b 0
  let s := { s with bight.run := tput s.bight.run b.val (tget 0 s.bight.run b.val + 1280) }
  if s.bight.locked.contains k then s.bightCount k 0 1280
  else { s.bightCount k 0 (1280 - 64) with bight.locked := s.bight.locked ++ [k] }

/-- One flit period of a pattern in B2: the braid drives each logical strand's own pattern (R116, R117). -/
def State.sendPattern (s : State) (b : Fin 8) : State :=
  let sh := s.shape 0 b
  let t := s.link.tx.get b
  let ui := tget 0 s.bight.run b.val
  let s := { s with out.link := s.out.link ++
    [(⟨b, s.patternFlit b ui, sh.width, sh.map, s.copies b, s.standIns b, t.standUi⟩ : LinkOut)] }
  { (s.modTx b fun t => { t with standUi := t.standUi + 1280 / max 1 sh.width }) with
    bight.run := tput s.bight.run b.val (ui + 1280 / max 1 sh.width) }

/-- The run stops: what each locked checker has counted since its last report is added. Counts the command does not bring
are left open (assumption log 4). -/
def State.freezeCounts (s : State) (counts : List (Fin 8 × Nat × Nat × Nat)) : State :=
  let s := if bightMode s.bight.ctl = 2 then s else s.bight.locked.foldl (fun a k =>
    match counts.find? fun c => strandKey 1 c.1 c.2.1 = k with
    | some c => a.bightCount k c.2.2.1 c.2.2.2
    | none =>
      let e := a.free
      let n := e.2.free
      n.2.bightCount k e.1 n.1) s
  { s with bight.locked := [] }

/-- LOCK: every strand taking part of the braid is locked. -/
def State.bightLock (s : State) : Nat :=
  if !s.bight.active then 0
  else maskOf ((octs.filter fun b => bit s.bight.braids b.val
    && (s.bightStrands b).all fun p => s.bight.locked.contains (strandKey 1 b p)).map Fin.val)

/-- Errors summed over every strand. -/
def State.bightErrors (s : State) : Nat := (s.bight.errs.map Prod.snd).sum

/-! ### Starting (R116, R118) -/

/-- The port is past step 7. -/
def State.pastTrain (s : State) : Bool := s.start.opened || (7 ≤ s.start.st.code && s.start.st.code ≤ 11)

/-- Braids of both directions trained at one width. -/
def State.oneWidth (s : State) (b : Fin 8) : Bool :=
  (s.shape 0 b).trained && (s.shape 1 b).trained && !(s.shape 0 b).retired && !(s.shape 1 b).retired
    && (s.shape 0 b).width == (s.shape 1 b).width

/-- Taking braids out would leave fewer in service than the minimum. -/
def State.tooFew (s : State) (m : BitVec 8) : Bool :=
  s.pastTrain && (s.serviceList.filter fun b => !bit m b.val).length < s.minBraids

/-- A RUN is refused. -/
def State.bightBad (s : State) (v : Reg) : Bool :=
  let mode := bightMode v
  bightPattern v == 3 || (mode == 1 && !s.test.alone) || (s.isOptical && mode != 1)
    || (mode != 1 && s.tooFew (bightBraids v))
    || (mode == 3 && octs.any fun b => bit (bightBraids v) b.val && !s.oneWidth b)

/-- Take braids out of service: their flows move off (R118). -/
def State.takeOut (s : State) (m : BitVec 8) : State :=
  let s := { s with noc.bightOut := s.noc.bightOut ||| m }
  if s.start.opened then s.recomputeTargets else s

/-- Put a braid that carried no pattern back into service. -/
def State.putBack (s : State) (b : Fin 8) : State :=
  let s := { s with noc.bightOut := setBf s.noc.bightOut b.val 1 0 }
  if s.start.opened then s.recomputeTargets else s

/-- No flit of the braid waits or is unacknowledged, and no bucket stands on it. -/
def State.offTraffic (s : State) (b : Fin 8) : Bool :=
  !s.start.opened || ((s.link.tx.get b).held.isEmpty && (s.link.tx.get b).ctl.isEmpty
    && (List.range 256).all fun i => (s.bucket i).braid != b)

/-- Send BIGHT_REQ; it is repeated until BIGHT_ACK comes. -/
def State.sendBightReq (s : State) (b : Fin 8) (enter : Bool) : State :=
  let f := s.localFrame 3 (trainPay 8 b.val 0 [(11, 1, b2n enter)])
  { s.sendLink f with start.repeats := tput s.start.repeats (8 * 8 + b.val) f }

/-- Send BIGHT_ACK. -/
def State.sendBightAck (s : State) (b : Fin 8) (enter refused : Bool) : State :=
  s.sendLink (s.localFrame 3 (trainPay 9 b.val 0 [(11, 1, b2n enter), (12, 1, b2n refused)]))

/-- Go on with braids whose traffic has left: a B2 is requested, a far request answered. -/
def State.bightStep (s : State) : State :=
  if s.bight.braids = 0 ∧ s.bight.asked = 0 then s
  else octs.foldl (fun a b =>
    let a :=
      if bit a.bight.braids b.val && !bit a.bight.ready b.val && (bightMode a.bight.ctl == 1 || a.offTraffic b) then
        let a := { a with bight.ready := setBf a.bight.ready b.val 1 1 }
        if bightMode a.bight.ctl = 3 then
          { a.sendBightReq b true with bight.waiting := setBf a.bight.waiting b.val 1 1 }
        else a
      else a
    if bit a.bight.asked b.val && a.offTraffic b then
      { a.sendBightAck b true false with
        bight.asked := setBf a.bight.asked b.val 1 0, bight.serving := setBf a.bight.serving b.val 1 1 }
    else a) s

/-- RUN written 1 to a bight that does not run. -/
def State.bightRun (s : State) (v : Reg) : State :=
  let s := { s with bight.ctl := v, bight.errs := [], bight.bits := [], bight.losses := [], bight.locked := [], bight.chk := [], bight.run := [] }
  if bightMode v = 0 then { s with bight.ctl := setBf v 12 1 0, bight.refused := false }
  else if s.bightBad v then { s with bight.ctl := setBf v 12 1 0, bight.refused := true }
  else
    let s := { s with
      bight.active := true, bight.refused := false, bight.braids := bightBraids v, bight.ready := 0, bight.waiting := 0, bight.looped := 0 }
    (if bightMode v = 1 then s else s.takeOut (bightBraids v)).bightStep

/-- A braid that carried a pattern retrains before its flows return; outside OPEN no retrain is to be had. -/
def State.bightEnds (s : State) (b : Fin 8) : State :=
  if s.start.st == .openSt && !s.link.retraining then s.startRetrain b else s.putBack b

/-- The run stops: counters freeze, and each braid returns to service (R118). -/
def State.bightStop (s : State) (counts : List (Fin 8 × Nat × Nat × Nat)) : State :=
  if !s.bight.active then { s with bight.ctl := setBf s.bight.ctl 12 1 0 }
  else
    let mode := bightMode s.bight.ctl
    let s := s.freezeCounts counts
    let part := octs.filter fun b => bit s.bight.braids b.val
    let touched := part.filter s.bighted
    let s := if mode = 3 then
        (part.filter fun b => bit (s.bight.looped ||| s.bight.waiting) b.val).foldl (fun a b => a.sendBightReq b false) s
      else s
    let s := { s with
      bight.active := false, bight.ctl := setBf s.bight.ctl 12 1 0
      bight.braids := 0, bight.ready := 0, bight.waiting := 0, bight.looped := 0, bight.cmd := none }
    if mode = 1 then s
    else part.foldl (fun a b => if touched.contains b then a.bightEnds b else a.putBack b) s

/-- One braid of a B2 drops out of the run. -/
def State.bightDrop (s : State) (b : Fin 8) : State :=
  let s := { s with
    bight.refused := true
    bight.braids := setBf s.bight.braids b.val 1 0, bight.ready := setBf s.bight.ready b.val 1 0
    bight.waiting := setBf s.bight.waiting b.val 1 0
    start.repeats := tdel s.start.repeats (8 * 8 + b.val) }
  let s := if bit (s.bight.asked ||| s.bight.serving) b.val then s else s.putBack b
  if s.bight.braids ≠ 0 then s
  else
    let cmd := s.bight.cmd
    let s := { s with bight.active := false, bight.ctl := setBf s.bight.ctl 12 1 0, bight.cmd := none }
    match cmd with
    | some c => s.complete c.1.val c.2 2 0 1
    | none => s

end Sys2Proof.Machine
end

