-- ==== Sys2Proof/Machine/TrainOps.lean ====
section
/-!
DEFINITION. Training of a braid (R188 to R192): the TRAIN frames a braid sends, what each phase takes from the far end's,
the pad arithmetic, and the end of an attempt.
-/
namespace Sys2Proof.Machine

/-! ### Fixed paths (Table 8.12) -/

/-- Fixed transmit path in 1/16 PCLK, from the ingress sample to the first bit on the medium. -/
def PortClass.txFixed (c : PortClass) (cross : Nat) : Nat := 48 + cross + 16 * byReach c 1 2 3
/-- Fixed receive path in 1/16 PCLK, from the first bit at the medium to the CRC check. -/
def PortClass.rxFixed (c : PortClass) : Nat := 16 * byReach c 1 3 27

/-- Change the training of a braid. -/
def State.modTrain (s : State) (b : Fin 8) (f : Training → Training) : State :=
  s.modTx b fun t => { t with training := f t.training }

/-- One braid's training. -/
def State.training (s : State) (b : Fin 8) : Training := (s.link.tx.get b).training

/-- DEPTH frames carry the longest flight of the port: a fibre port sends and takes them once every braid in training has
measured (R191). -/
def State.depthReady (s : State) : Bool := !s.cls.isFibre || octs.all fun b => !(s.training b).phase.unmeasured

/-- Longest flight measured over the braids, in 1/16 PCLK. -/
def State.longestFlight (s : State) : Nat := octs.foldl (fun m b => max m (s.link.rx.get b).flight.toNat) 0

/-! ### Ends of an attempt (R107, R189) -/

/-- Send TRAIN_DONE for a receive braid. An exit from PARK sends none: its braids have DONE frames alone (R343). -/
def State.sendTrainDone (s : State) (b : Fin 8) (ok : Bool) (reason : Nat) : State :=
  let n := (s.training b).attempt
  let s := s.modTrain b fun t => { t with reason := reason }
  if s.aon.exiting then s
  else
  let s := { s with start.rxb := s.start.rxb.upd b fun x => { x with ok := ok, doneSent := ok || 2 ≤ n } }
  s.sendTrain 5 b.val n [(11, 1, b2n ok), (12, 4, reason)]

/-- The first flit after training is the next one: both directions load the scrambler, the records of original arrivals
and NAK_WAIT are gone, and held frames are to be resent from OLDEST (R82, R185). -/
def State.startStream (s : State) (b : Fin 8) : State :=
  let seed : BitVec 31 := BitVec.ofNat 31 (0x7FFFFFF0 + b.val)
  let cause := if s.link.retraining then some 5 else if s.start.opened && !s.aon.exiting then some 3 else none
  let s := (s.modTx b fun t => { t with
    scr := seed, flits := 0, ui := 0, stream := 0, streamLen := 0, cycles := 0, farXon := 0, blind := false, lastIdle := s.now }).resendAll b
  let s := s.modRx b fun r => { r with
    xon := BitVec.ofNat 8 (xonMask s.cls r)
    scr := seed, stream := 0, streamLen := 0, uncorr := 0, nakWait := false, orig := [], resume := cause, due := if r.due == .nak then .none else r.due }
  let s := s.modShape 0 b fun x => { x with quarantines := 0 }
  if (s.shape 1 b).retired then s else s.modShape 1 b fun x => { x with trained := true, quarantines := 0 }

/-- The attempt succeeds: TRAIN_DONE with OK for the receive braid. A start has no retrain to end: its transmit braid
comes up with the far TRAIN_DONE. -/
def State.trainedNow (s : State) (b : Fin 8) : State :=
  let s := (s.modTrain b fun t => { t with phase := .trained }).startStream b
  (if (s.shape 1 b).retired then s else s.sendTrainDone b true 0).tryCalibrate

/-- An attempt fails with a REASON: TRAIN_DONE says so. In step 7 three attempts run and the third failure retires the
receive direction; a braid retrain is one attempt, whose end is BRAID_RETRAIN_TIMEOUT (R107, R185). -/
def State.trainFailed (s : State) (b : Fin 8) (reason : Nat) : State :=
  if s.start.failed then s
  else
  let n := (s.training b).attempt
  let s := (s.modTrain b fun t => { t with phase := .failed }).sendTrainDone b false reason
  if s.start.st != .train then s
  else if n < 2 then
    let t := s.training b
    (s.beginTraining b (n + 1)).modTrain b fun x => { x with reason := t.reason }
  else
    let s := if (s.shape 1 b).retired then s
      else (s.raise 0x13 (code := reason) (arg0 := n + 1) (braid := b.val) (dir := 1)).retireStart 1 b
    s.tryCalibrate

/-! ### The pad (R190, R191) -/

/-- Flight of a braid in 1/16 PCLK by its loop and the far end's figures. -/
def State.flightOf (s : State) (b : Fin 8) (loop farTx farRx : Nat) : Int :=
  ((loop : Int) - s.cls.txFixed (s.training b).cross - farRx - farTx - s.cls.rxFixed) / 2

/-- The pad of a braid is set. -/
def TrainPhase.padded : TrainPhase → Bool
  | .done | .trained => true
  | _ => false

/-- Longest flight of this end's braids whose far figures are in, in 1/16 PCLK. -/
def State.knownFlight (s : State) : Nat :=
  octs.foldl (fun m b => if (s.training b).phase.padded then max m (s.link.rx.get b).flight.toNat else m) 0

/-- A fibre port's term F grows to the longest flight known; the pads already set grow with it, and a braid whose pad leaves its
range fails with REASON 3 (R190, R191). -/
def State.growF (s : State) (flight : Nat) : State :=
  let f := (flight + 15) / 16
  if !s.cls.isFibre || s.start.st != .train || f ≤ s.link.fterm then s
  else
    let d := f - s.link.fterm
    let s := { s with link.fterm := f, link.latency := s.cls.latencyOf f, link.rrt := s.cls.rrtOf f }
    octs.foldl (fun a b =>
      let r := a.link.rx.get b
      if !(a.training b).phase.padded then a
      else if (r.rxAlign.toNat + d) * 16 + r.rxPhase.toNat > a.cls.padMax * 16 then a.trainFailed b 3
      else a.modRx b fun r => { r with rxAlign := r.rxAlign + BitVec.ofNat 6 d }) s

/-- DEPTH is over: the pad, or REASON 3 where the loop is too long or the pad out of range (R182, R190). -/
def State.setPad (s : State) (b : Fin 8) : State :=
  let t := s.training b
  let loop := (s.link.tx.get b).loop.toNat
  let flight := s.flightOf b loop t.farTxFixed t.farRxFixed
  let s := s.modRx b fun r => { r with flight := BitVec.ofNat 14 flight.toNat }
  let s := s.growF (max (max s.knownFlight flight.toNat) t.farFlight)
  let path : Int := t.farTxFixed + flight + s.cls.rxFixed + 32
  let pad : Int := s.link.latency * 16 - path
  if loop > s.link.rrt * 16 || pad < 0 || pad > s.cls.padMax * 16 then s.trainFailed b 3
  else (s.modRx b fun r => { r with
      rxAlign := BitVec.ofNat 6 (pad.toNat / 16), rxPhase := BitVec.ofNat 4 (pad.toNat % 16) }).modTrain b fun t => { t with phase := .done }

/-- Go on with the braids that wait in DEPTH or DONE for a far frame that has come. -/
def State.settleTrain (s : State) : State :=
  octs.foldl (fun a b =>
    let a := if (a.training b).phase == .depth && (a.training b).depthGot && a.depthReady then a.setPad b else a
    if (a.training b).phase == .done && (a.training b).doneGot then a.trainedNow b else a) s

/-! ### TRAIN frames (Table 8.10) -/

/-- The TRAIN frame of a flit period, and the echo it answers with. -/
def State.trainFrame (s : State) (b : Fin 8) (at_ : Nat) : LinkFlit × Bool :=
  let t := s.training b
  let echo := fun (other : LinkFlit) => match t.echo with
    | some e => (mkTrain b.val 3 [(27, 16, e.1.toNat), (43, 16, at_ - e.2)], true)
    | none => (other, false)
  match t.phase with
  | .measure => echo (mkTrain b.val 1 [])
  | .depth =>
    echo (if s.depthReady then mkTrain b.val 4 [(64, 16, s.cls.txFixed t.cross), (80, 16, s.cls.rxFixed),
      (96, 16, if s.cls.isFibre then s.longestFlight else 0)] else mkTrain b.val 1 [])
  | .done => (mkTrain b.val 5 [], false)
  | .align => (mkTrain b.val 1 [], false)
  | _ => (mkTrain b.val 0 [], false)

/-- One flit period of a braid in training, its frame launched at a time in 1/16 PCLK. -/
def State.sendTraining (s : State) (b : Fin 8) (at_ : Nat) : State :=
  let p := s.trainFrame b at_
  (s.driveRaw b p.1).modTrain b fun t => { t with tcount := t.tcount + 1, echo := if p.2 then none else t.echo }

/-- A MEASURE frame takes a flit period (Table 8.11). -/
def State.sendMeasure (s : State) (b : Fin 8) (at_ : Nat) : State :=
  let n := (s.training b).tcount
  (s.driveRaw b (mkTrain b.val 2 [(11, 16, n.toNat)])).modTrain b fun t => { t with
    tcount := n + 1, launches := tput t.launches n.toNat at_ }

/-! ### Taking TRAIN frames (Table 8.11) -/

/-- Insert into a rising list. -/
def insertNat (x : Nat) : List Nat → List Nat
  | [] => [x]
  | y :: l => if x ≤ y then x :: y :: l else y :: insertNat x l

/-- Eight loops that agree within 1/16 PCLK: the two in the middle. -/
def loopsAgree (l : List Nat) : Option (Nat × Nat) :=
  let s := l.foldl (fun a x => insertNat x a) []
  if l.length = 8 ∧ s.getD 7 0 ≤ s.getD 0 0 + 1 then some (s.getD 3 0, s.getD 4 0) else none

/-- An ECHO frame: its loop counts where its MEASURE is known; the eighth loop that agrees ends MEASURE. The median of eight
loops is left open between the two middle ones (assumption log 42). -/
def State.takeEcho (s : State) (b : Fin 8) (f : LinkFlit) (at_ : Nat) : State :=
  let t := s.training b
  match tfind t.launches (bf f 27 16) with
  | none => s
  | some launch =>
    let loops := ((at_ - launch - bf f 43 16) :: t.loops).take 8
    match loopsAgree loops with
    | none => s.modTrain b fun t => { t with loops := loops }
    | some m =>
      let p := s.pick m.1 [m.1, m.2]
      let own := p.2.cls.txFixed t.cross
      let flight := p.2.flightOf b p.1 own p.2.cls.rxFixed
      ((p.2.modTrain b fun t => { t with phase := .depth, loops := loops }).modTx b fun x => { x with
        loop := BitVec.ofNat 14 p.1 }).modRx b fun r => { r with flight := BitVec.ofNat 14 flight.toNat }

/-- A direction whose partner is retired cannot measure a loop: its receive end is done once aligned, at a depth the spec
leaves open (assumption log 43). -/
def State.alignAlone (s : State) (b : Fin 8) : State :=
  let p := s.free
  (p.2.modRx b fun r => { r with rxAlign := BitVec.ofNat 6 (p.1 % (p.2.cls.padMax + 1)), rxPhase := BitVec.ofNat 4 (p.1 / 64) }).trainedNow b

/-- A TRAIN frame that passed CRC on a braid in training. -/
def State.takeTrainFrame (s : State) (b : Fin 8) (f : LinkFlit) (at_ : Nat) : State :=
  let tp := bf f 4 4
  let s := match tp with
    | 2 => s.modTrain b fun t => { t with echo := some (BitVec.ofNat 16 (bf f 11 16), at_) }
    | 4 => s.modTrain b fun t => { t with
        depthGot := true, farTxFixed := bf f 64 16, farRxFixed := bf f 80 16, farFlight := bf f 96 16 }
    | 5 => s.modTrain b fun t => { t with doneGot := true }
    | _ => s
  let t := s.training b
  let s := match t.phase with
    | .align =>
      if t.good < 15 then s.modTrain b fun t => { t with good := t.good + 1 }
      else if (s.shape 0 b).retired then s.alignAlone b
      -- an exit from PARK takes the loop it holds (Table 14.5)
      else if s.aon.exiting then s.modTrain b fun t => { t with good := 16, phase := .depth }
      else s.modTrain b fun t => { t with good := 16, phase := .measure }
    | .measure => if tp = 3 then s.takeEcho b f at_ else s
    | _ => s
  s.settleTrain

/-- A TRAIN frame of the braid that passes its CRC. -/
def trainOk (b : Fin 8) (f : LinkFlit) : Bool := linkCrcOk f && bf f 0 4 == 6 && bf f 4 4 ≤ 5 && bf f 8 3 == b.val

/-- A fibre braid finds its flit boundary at the first TRAIN frame whose CRC checks: bits before it are dropped (R88). -/
def State.findFlit (s : State) (b : Fin 8) : State :=
  let r := s.link.rx.get b
  let at_ := fun k => trainOk b (BitVec.ofNat 1280 (r.stream / 2 ^ k))
  let k := ((List.range (r.streamLen + 1 - 1280)).find? at_).getD (r.streamLen - 1279)
  s.modRx b fun r => { r with stream := r.stream / 2 ^ k, streamLen := r.streamLen - k }

/-- What the line brings in training: a link flit under the map in force, none where a fibre braid still lacks bits of it. -/
def State.trainLine (s : State) (b : Fin 8) (rx : LineRx) : Option LinkFlit × State :=
  if s.fibreHub then
    let s := s.takeWords b rx.words
    (if (s.training b).good = 0 then s.findFlit b else s).popFlit b
  else (some (s.assemble b (s.shape 1 b).map rx.pads), s)

/-- A link flit of a braid in training. -/
def State.trainLink (s : State) (b : Fin 8) (rx : LineRx) (at_ : Nat) : State :=
  let t := s.training b
  if !t.phase.running || t.phase == .lock || s.start.failed || !s.domainUp (.rxw b) then s
  else
    let p := s.trainLine b rx
    match p.1 with
    | none => p.2
    | some f => if trainOk b f then p.2.takeTrainFrame b f at_ else p.2.modTrain b fun t => { t with good := 0 }

end Sys2Proof.Machine
end

