-- ==== Sys2Proof/Machine/Link.lean ====
section
/-!
DEFINITION. The commands of the link layer (R164 to R187, R203, R210): frames received and sent, acknowledgements, release,
retrains and the handover of a retired braid.
-/
namespace Sys2Proof.Machine

/-! ### Receiving -/

/-- The far end of a B2 drives what it received, after deskew and correction, onto the same logical strands of its transmit
braid, one TXW cycle later; on fibre the symbols as they came, with no code of its own (R116). -/
def State.loopBack (s : State) (b : Fin 8) (rx : LineRx) : State :=
  let sh := s.shape 0 b
  let t := s.link.tx.get b
  if s.fibreHub then
    rx.words.foldl (fun (a : State) w => { a with out.codewords := a.out.codewords ++
      [(⟨b, a.gather b (a.shape 1 b).map w, sh.width, sh.map, a.copies b, a.standIns b, t.cycles⟩ : WordOut)] }) s
  else { s with out.link := s.out.link ++
    [(⟨b, s.assemble b (s.shape 1 b).map rx.pads, sh.width, sh.map, s.copies b, s.standIns b, t.standUi⟩ : LinkOut)] }

/-- A link flit arrives on a trained receive braid; while the far end dozes or drives its wake burst, the flit period
carries no frame and only the scrambler goes on (R336, R337). -/
def State.frameIn (s : State) (b : Fin 8) (rx : LineRx) : State :=
  let sh := s.shape 1 b
  if !sh.trained || sh.retired || !s.clocked || !s.domainUp (.rxw b) then s
  else if s.bighted b then (if bit s.bight.serving b.val then s.loopBack b rx else s)
  else if bit s.pwr.rxDoze b.val || s.pwr.rxLeft.get b ≠ 0 then
    { (s.modRx b fun r => { r with scr := BitVec.ofNat 31 (scrRun 1280 r.scr.toNat).2 }) with
      pwr.rxLeft := s.pwr.rxLeft.upd b (· - 1) }
  else
    let p := s.takeLine b rx
    match p.1 with
    | some bits => (p.2.2.receiveFlit b bits p.2.1).sendFinals.portStep
    | none => p.2.2

/-- LINK_FRAME_RECEIVE. -/
def execLinkFrameReceive (b : Fin 8) (pads : List (Nat × Nat)) (words : List (List (Nat × Nat))) (s : State) :
    Host.Outcome State Fault Refusal := done (s.frameIn b ⟨pads, words⟩)

/-- ACK_APPLY: what received headers say takes effect at a transmit braid. -/
def execAckApply (b : Fin 8) (s : State) : Host.Outcome State Fault Refusal :=
  done (if s.clocked then ((((s.applyAcks b).runStrands b).settleRetrains b).calNext b).portStep else s)

/-- NAK_REPEAT. -/
def execNakRepeat (b : Fin 8) (s : State) : Host.Outcome State Fault Refusal :=
  done (if (s.link.rx.get b).nakWait && (s.shape 1 b).trained then s.dueNak b else s)

/-- ACK_TIMER_EXPIRY. -/
def execAckTimerExpiry (b : Fin 8) (s : State) : Host.Outcome State Fault Refusal :=
  done (if (s.link.rx.get b).timer then s.dueAck b else s)

/-- REPLAY_TIMEOUT: a replay from OLDEST. -/
def execReplayTimeout (b : Fin 8) (s : State) : Host.Outcome State Fault Refusal :=
  let t := s.link.tx.get b
  done (if t.ladder == .up && !t.held.isEmpty then s.startReplay b t.oldest else s)

/-- FLIT_RELEASE: the earliest flit of a receive braid not yet released becomes eligible (R181). -/
def execFlitRelease (b : Fin 8) (s : State) : Host.Outcome State Fault Refusal :=
  done (if !s.clocked then s else match (s.link.rx.get b).buf.find? fun x => !x.eligible with
    | some x =>
      let s := s.modRx b fun r => { r with buf := r.buf.map fun y => if y = x then { y with eligible := true } else y }
      (s.takeEligible b).egressStep.sendFinals.portStep
    | none => s)

/-! ### Sending -/

/-- IDLE_DUE. -/
def execIdleDue (b : Fin 8) (s : State) : Host.Outcome State Fault Refusal :=
  done (if (s.link.tx.get b).ladder == .up then s.modTx b fun t => { t with idleDue := true } else s)

/-- The frame of a braid that has trained and whose far end has not said so yet, or whose retrain has not ended: held frames
again from OLDEST (R185), a sideband frame of a fibre port (R89), else an IDLE; no other new frame. -/
def State.sendTrained (s : State) (b : Fin 8) : State :=
  let t := s.link.tx.get b
  let again := match t.replay with
    | some q => t.held.find? fun h => h.seq = q
    | none => none
  match again with
  | some h => s.resendOne b h
  | none => if s.ctlReady b && (t.ctl.headD (0, 0)).1 == 0x10 then s.sendControl b else s.sendIdle b

/-- What a transmit braid does in one flit period, which launches at `at_`: a training frame, nothing but the scrambler's
steps while it dozes or wakes, the frame of Table 9.5, or an IDLE while it waits for its retrain to end. -/
def State.flitPeriod (s : State) (b : Fin 8) (at_ : Nat) : State :=
  let t := s.link.tx.get b
  if !s.clocked || t.shape.retired || s.start.reqHeld then s
  else if s.bighted b then
    if bit s.bight.serving b.val then s
    else if bightMode s.bight.ctl = 2 then s.turnBack b
    else if bightMode s.bight.ctl = 3 then s.sendPattern b else s
  else if t.training.phase.running then s.sendTraining b at_
  else if s.pwr.burstLeft.get b ≠ 0 then { s.skipFlit b with pwr.burstLeft := s.pwr.burstLeft.upd b (· - 1) }
  else if bit s.pwr.dozing b.val then s.skipFlit b
  else if t.ladder == .up then (s.sendPeriod b).portStep.bightStep
  else if s.streams b then s.sendTrained b
  else s

/-- TRANSMIT_FLIT_PERIOD: `frac` is the launch time within its PCLK, in sixteenths. -/
def execTransmitFlitPeriod (b : Fin 8) (frac : BitVec 4) (s : State) : Host.Outcome State Fault Refusal :=
  done (s.flitPeriod b (s.now * 16 + frac.toNat))

/-- VC_STALL (R203). -/
def execVcStall (b v : Fin 8) (egress : Bool) (s : State) : Host.Outcome State Fault Refusal :=
  let ms_ := max 1 (bf s.noc.fcCtl 9 7)
  done (if egress then
      (if (s.link.rx.get b).buf.any (fun x => x.eligible && flitVc x.flit == v) && s.noc.egHeld.get v = 0
          && !bit s.noc.egStalled v.val then
        { s with noc.stalls := s.noc.stalls + 1, noc.egStalled := setBf s.noc.egStalled v.val 1 1 }.raise 0x30 (code := 1)
          (arg0 := ms_) (braid := b.val) (dir := 1) (vc := v.val)
      else s)
    else
      let t := s.link.tx.get b
      if (s.srcTurn b v).isSome && !bit t.farXon v.val && !bit t.stalled v.val then
        { (s.modTx b fun t => { t with stalled := setBf t.stalled v.val 1 1 }) with noc.stalls := s.noc.stalls + 1 }.raise 0x30
          (code := 0) (arg0 := ms_) (braid := b.val) (vc := v.val)
      else s)

/-- BUCKET_QUIESCENT (R210). -/
def execBucketQuiescent (i : BitVec 8) (s : State) : Host.Outcome State Fault Refusal :=
  let k := s.bucket i.toNat
  done (if k.moving && s.inService k.braid && s.quiescent i.toNat then (s.completeMove i.toNat).portStep else s)

/-! ### Retrains (R185, R187) -/

/-- A direction of a retraining braid has trained. -/
def State.dirOk (s : State) (dir : Nat) (b : Fin 8) : Bool :=
  let x := if dir = 0 then s.start.txb.get b else s.start.rxb.get b
  x.ok && (if dir = 0 then x.doneGot else x.doneSent)

/-- The directions of a braid that trained return to UP, and to service where a bight had taken the braid out. -/
def State.comeUp (s : State) (b : Fin 8) : State :=
  let s := if bit (s.bight.braids ||| s.bight.asked ||| s.bight.serving) b.val then s
    else { s with noc.bightOut := setBf s.noc.bightOut b.val 1 0 }
  let s := s.forgetTrain b.val [1, 2, 3, 4, 5]
  let s := s.modTrain b fun t => { t with phase := if t.phase.running then .off else t.phase }
  if (s.shape 0 b).retired then s.modTx b fun t => { t with ladder := .retired }
  else ((s.modShape 0 b fun x => { x with trained := true }).modTx b fun t => { t with ladder := .up }).gatherOwed

/-- What follows once a braid is UP or retired after a retrain: flows, width, cap, commands that wait. -/
def State.afterRetrain (s : State) (b : Fin 8) : State :=
  ((((s.recomputeTargets.applyWidth b).recap.settleRetrains b).runStrands b).calNext b).sendFinals.checkDown.portStep

/-- Every direction of the braid that is not retired has trained. -/
def State.retrained (s : State) (b : Fin 8) : Bool :=
  ((s.shape 0 b).retired || s.dirOk 0 b) && ((s.shape 1 b).retired || s.dirOk 1 b)

/-- A braid retrains in OPEN. -/
def State.retrainsOpen (s : State) (b : Fin 8) : Bool :=
  s.start.st == .openSt && !s.link.retraining && (tfind s.start.taken (trKey 1 b.val)).isSome

/-- BRAID_RETRAIN_COMPLETE. -/
def execBraidRetrainComplete (b : Fin 8) (s : State) : Host.Outcome State Fault Refusal :=
  done (if s.retrainsOpen b && (s.dirOk 0 b || s.dirOk 1 b) && s.retrained b then (s.comeUp b).afterRetrain b else s)

/-- BRAID_RETRAIN_TIMEOUT: the directions that have not trained fail; the braid goes on with what trained, or tries again. -/
def State.retrainTimeout (s : State) (b : Fin 8) : State :=
  let s := s.failRetrain b (!s.dirOk 0 b) (!s.dirOk 1 b)
  if s.retrained b then (s.comeUp b).afterRetrain b
  else (((s.beginRetrain b false).beginDetect b 0).settleRetrains b).sendFinals.checkDown

def execBraidRetrainTimeout (b : Fin 8) (s : State) : Host.Outcome State Fault Refusal :=
  done (if s.start.st == .openSt && !s.link.retraining && ((s.link.tx.get b).ladder == .retraining
      || (!(s.shape 1 b).retired && !(s.shape 1 b).trained)) then s.retrainTimeout b else s)

/-- CODEWORD_LOCK_LOSS (R88). -/
def execCodewordLockLoss (b : Fin 8) (s : State) : Host.Outcome State Fault Refusal :=
  done (if s.cls.isFibre && (s.shape 1 b).trained && !s.bighted b && (s.link.rx.get b).uncorr ≥ 16 then s.startRetrain b else s)

/-! ### Handover (R186, R211) -/

/-- CONTROL frames that speak of the braid they travel on, and end with it: DOZE_ENTER, PARK_READY and LASH_SWITCH. -/
def boundCtl (op : Nat) : Bool := op == 0x32 || op == 0x33 || op == 0x41

/-- CONTROL frames not yet sent that concern a retired braid alone: those above, and the strand functions of work that ended
(DESIGN CHOICE, assumption log 75). -/
def ownCtl (b : Fin 8) (c : Nat × NocFlit) : Bool :=
  (0x20 ≤ c.1 && c.1 ≤ 0x24 && bf c.2 4 3 == b.val) || boundCtl c.1

/-- Flits of held frames as the pool takes them, each for its bucket's target braid. -/
def State.handedFlits (s : State) (l : List Held) : List PoolFlit :=
  l.flatMap fun h => (heldFlitsOf h).map fun f =>
    let i := flowBucket f
    ⟨f, some (s.bucket i).target, i, h.ord.getD s.noc.order, false, true⟩

/-- The queues of one VC after a handover: what stood in other braids' queues, the held flits, the retired braid's own
queue, then the move queue. -/
def handPool (s : State) (b v : Fin 8) (handed pool : List PoolFlit) : List PoolFlit :=
  (pool.filter fun p => p.queue.isSome && p.queue ≠ some b)
    ++ (handed.filter fun p => flitVc p.flit == v)
    ++ ((pool.filter fun p => p.queue = some b).map fun p => { p with queue := some (s.bucket p.bucket).target })
    ++ pool.filter fun p => p.queue.isNone

/-- Held frames after LAST go to the surviving braids (R186); the buckets of the braid complete their moves. What NEXT and
OLDEST of the retired braid become is in no rule: NEXT stays and OLDEST becomes NEXT, the window of a braid with nothing held
(DESIGN CHOICE, assumption log 75). -/
def State.handover (s : State) (b : Fin 8) (last : BitVec 16) : State :=
  let t := s.link.tx.get b
  let rest := t.held.filter fun h => seqBefore last h.seq
  let handed := s.handedFlits (rest.filter fun h => h.ftype = 1)
  let s := { s with noc.pool := Oct.ofFn fun v => handPool s b v handed (s.noc.pool.get v) }
  let ctl := ((rest.filter fun h => h.ftype = 5 && !boundCtl h.opcode).map fun h => (h.opcode, h.s0))
    ++ t.ctl.filter fun c => !ownCtl b c
  let s := ctl.foldl (fun a c =>
    match a.upTx with
    | u :: _ => a.sendCtl u c.1 c.2
    | [] => a) s
  let s := s.modTx b fun t => { t with held := [], oldest := t.next, replay := none, finalGot := true, ctl := [] }
  ((List.range 256).filter fun i => (s.bucket i).braid = b && (s.bucket i).moving).foldl State.completeMove s

/-- BRAID_FINAL: received on braid `b`. -/
def execBraidFinal (b : Fin 8) (p : NocFlit) (s : State) : Host.Outcome State Fault Refusal :=
  done (if s.ctlWaits b 0x01 p then
      let s := s.dropCtl b 0x01 p
      let x := oct (bf p 0 3)
      if (s.link.tx.get x).ladder == .retired && !(s.link.tx.get x).finalGot then
        (s.handover x (BitVec.ofNat 16 (bf p 3 16))).portStep
      else s
    else s)

/-- BRAID_FINAL_TIMEOUT. -/
def execBraidFinalTimeout (b : Fin 8) (s : State) : Host.Outcome State Fault Refusal :=
  let t := s.link.tx.get b
  done (if s.start.st == .openSt && t.ladder == .retired && !t.finalGot then s.startPortRetrain else s)

/-! ### The end of a port retrain (R187) -/

/-- REASON of the last TRAIN_DONE a port retrain leaves: that of the highest braid with one that is not zero. -/
def State.lastReason (s : State) : Nat :=
  octs.foldl (fun r b => if (s.training b).reason = 0 then r else (s.training b).reason) 0

/-- Complete the RETRAIN commands that name the port; where it stays FAILED, those that name a braid end with 0x0D. -/
def State.settlePortRetrain (s : State) : State :=
  let mask := maskOf (s.liveTx.map Fin.val)
  let l := s.link.retrainCmds
  let s := { s with link.retrainCmds := if s.start.failed then [] else l.filter fun c => c.2.2.isSome }
  let s := (l.filter fun c => c.2.2.isNone).foldl (fun a c => a.complete c.1.val c.2.1 0 mask a.lastReason) s
  if s.start.failed then (l.filter fun c => c.2.2.isSome).foldl (fun a c => a.complete c.1.val c.2.1 0x0D) s else s

/-- At least MIN_BRAIDS trained: the port returns to OPEN. -/
def State.portReturns (s : State) : State :=
  let s := octs.foldl (fun a b =>
    let a := if !(a.shape 0 b).retired && !a.dirOk 0 b then a.retireDir 0 b else a
    let a := if !(a.shape 1 b).retired && !a.dirOk 1 b then a.retireDir 1 b else a
    a.comeUp b) s
  let s := { s with
    start.st := .openSt, start.repeats := [], start.taken := [], link.retraining := false, link.down := false }
  let s := ((s.endBelay 1).recomputeTargets.startCreditInit).applyWidths
  let s := (octs.foldl (fun a b => (a.settleRetrains b).runStrands b) s.capAtOpen).calAll
  s.settlePortRetrain.portStep

/-- PORT_RETRAIN_END. -/
def execPortRetrainEnd (s : State) : Host.Outcome State Fault Refusal :=
  done (if !s.link.retraining then s
    else if s.start.failed then { s with start.failCode := 4, link.retraining := false }.settlePortRetrain
    else if s.start.st == .calibrate && s.start.calSent && s.start.calGot then s.portReturns else s)

end Sys2Proof.Machine
end

