-- ==== Sys2Proof/Machine/SidebandOps.lean ====
section
/-!
DEFINITION. Receiving on the sideband (R37 to R41, R69, R70, R90): a frame heard on the link, taken from the ring
station's buffer or from the serial memory relay, and the intake of a TRAIN frame (R98).
-/
namespace Sys2Proof.Machine

/-- The sideband receiver runs: the main island is powered and its reference domains are out of reset (R64). -/
def State.sbRuns (s : State) : Bool := s.mainUp && s.clk.refUp && s.aon.pairN

/-- A fibre hub block merges copies accepted within 256 ns, 409.6 PCLK (R90); an optical end merges none (R91). -/
def State.isCopy (s : State) (f : SbFrame) : Bool :=
  s.fibreHub && s.sb.merged.any fun m => m.2 = f && decide (10 * (s.now - m.1) ≤ 4096)

/-- Frames a fibre hub block remembers to merge their copies. -/
def State.mergeWith (s : State) (f : SbFrame) : List (Time × SbFrame) :=
  if s.fibreHub then (s.sb.merged.filter fun m => decide (10 * (s.now - m.1) ≤ 4096)) ++ [(s.now, f)] else []

/-- The merge takes the in-band copies of a frame out of the CONTROL FIFOs of the receive braids (R90, R169). -/
def State.takeCopies (s : State) (w : SbWord) : State :=
  if s.fibreHub then
    octs.foldl (fun a b => a.modRx b fun r => r.takeCtl fun c => c.1 == 0x10 && bf c.2.1 0 128 == w.toNat) s
  else s

/-- Note a valid frame on the link: sideband up, the wake drive ends, and the loss watch resumes after PARK (R70, R344). -/
def State.noteFrame (s : State) (f : SbFrame) : State :=
  { s with
    sb.lastRx := s.now
    sb.up := !s.sb.lost
    sb.watchOff := s.sb.watchOff && !s.aon.exiting && s.sb.watchAt.isNone
    sb.watchAt := none
    sb.merged := s.mergeWith f
    pwr.wakeDrive := false }

/-- A guest port hears only what R96 and R39 allow: while disabled HEARTBEAT and BEACON, and before its partner is named
no other SRC_DIE than 0xFF. -/
def State.guestHears (s : State) (f : SbFrame) : Bool :=
  s.cls != .lg || (s.guestOn || f.typ == 0 || f.typ == 1)

/-- A frame arrives on the link: whether it is to be acted on, and the state once it is noted. A base end in FENCED discards
every frame of its compute end but a BEACON (R359). -/
def State.hear (s : State) (f : SbFrame) : Bool × State :=
  if !s.sbRuns then (false, s)
  else if s.isCopy f then (false, s.takeCopies (sbWord f))
  else
    let s := (s.takeCopies (sbWord f)).noteFrame f
    if s.cls == .lg && !s.sb.partnerNamed && f.srcDie != 0xFF then (false, s.sbErr)
    else if s.start.st == .fenced && f.typ != 1 then (false, { s with flt.fenceDiscards := s.flt.fenceDiscards + 1 })
    else (s.guestHears f, s)

/-- A frame reaches the port: from the ring station's buffer, from the relay queue, or else on the link. -/
def State.receive (s : State) (f : SbFrame) : Bool × State :=
  if s.sb.ringBuf.contains f then (true, { s with sb.ringBuf := s.sb.ringBuf.erase f })
  else if s.sb.relay.contains f then (true, { s with sb.relay := s.sb.relay.erase f })
  else s.hear f

/-- A frame is link-local. -/
def isLocal (f : SbFrame) : Bool := f.destDie == 0xFF

/-- A frame is addressed to this block. -/
def State.addressed (s : State) (f : SbFrame) : Bool := f.destDie == s.sbDie && f.destPort == s.portCode

/-! ### TRAIN frames (R98) -/

/-- Phases that belong to the present step. -/
def State.phaseHere (s : State) (phase : Nat) : Bool :=
  match s.start.st with
  | .detect => phase == 1 || phase == 2
  | .splice => 1 ≤ phase && phase ≤ 3
  | .train => phase == 4 || phase == 5 || (!s.start.trainGoGot && 1 ≤ phase && phase ≤ 3)
  | .calibrate => phase == 6 || phase == 8 || phase == 9
  | .negotiate => 7 ≤ phase && phase ≤ 9
  | .openSt => (1 ≤ phase && phase ≤ 6) || phase == 8 || phase == 9
  | .discover | .lash | .fenced => phase == 8 || phase == 9
  | _ => false

/-- A TRAIN frame of a phase: a repeat of one already taken is ignored, one of another step is an error, and work stops
in a failed step; else it is taken and its own repeats end. -/
def State.takeTrain (s : State) (f : SbFrame) (phase : Nat) (work : State → State) : State :=
  if f.typ ≠ 3 ∨ trPhase f.payload ≠ phase ∨ !isLocal f then s
  else
    let h := s.hear f
    let s := h.2
    let key := trKey phase (trBraid f.payload).val
    if !h.1 then s
    else if tfind s.start.taken key = some f.payload then s
    else if !s.phaseHere phase then s.sbErr
    else if s.start.failed then s
    else work { s with start.taken := tput s.start.taken key f.payload, start.repeats := tdel s.start.repeats key }

end Sys2Proof.Machine
end

