-- ==== Sys2Proof/Machine/AgentOps.lean ====
section
/-!
DEFINITION. The hub's serial memory and its controller (R363 to R371, R378), and the discovery agent (R12 to R18, R110 to
R112, R357, R358, R360, R379): what it knows of each site, the IDs it gives, the spares it chooses and the events it
raises at other ports. They are the hub's, so they act where the block is a hub block; a base end (class 2) keeps the
agent's view of its own site, which its own events come from (assumption log 44).
-/
namespace Sys2Proof.Machine

/-! ### The serial memory (R363, R364) -/

/-- What a byte nothing has written reads: the erased value (R364). -/
def erasedByte : BitVec 8 := 0xFF

/-- One byte of the memory. -/
def memRead (m : List Host.Cell) (a : Nat) : BitVec 8 := tget erasedByte m a

/-- Write one byte; an erased byte is not listed. -/
def memWrite (m : List Host.Cell) (a : Nat) (v : BitVec 8) : List Host.Cell :=
  if v = erasedByte then tdel m a else tput m a v

/-- Addresses strictly rising. -/
def memSorted : List Host.Cell → Bool
  | a :: b :: l => a.1 < b.1 && memSorted (b :: l)
  | _ => true

/-- The canonical form: rising, and no erased byte listed. -/
def memWf (m : List Host.Cell) : Bool := memSorted m && m.all fun c => c.2 != erasedByte

/-- Bytes from an address. -/
def memBytes (m : List Host.Cell) (a n : Nat) : List (BitVec 8) := (List.range n).map fun i => memRead m (a + i)

/-- Erase a 4 KiB sector. -/
def memErase (m : List Host.Cell) (a : Nat) : List Host.Cell := m.filter fun c => !(a ≤ c.1 && c.1 < a + 0x1000)

/-- Write bytes from an address. -/
def memProgram (m : List Host.Cell) (a : Nat) : List (BitVec 8) → List Host.Cell
  | [] => m
  | v :: l => memProgram (memWrite m a v) (a + 1) l

/-! ### The controller's answers (R370, R371) -/

/-- CODE of an SM_ERROR for a read, 0 where it is answered with data. -/
def smCode (g : Agent) (addr len : Nat) : Nat :=
  if !g.usable then 4
  else if len = 0 then 2
  else if addr + len > g.size || addr / 0x1000 != (addr + len - 1) / 0x1000 then 1
  else if g.busy.any fun w => w.1 == addr / 0x1000 * 0x1000 then 5 else 0

/-- The reply to an SM_READ: SM_DATA frames from INDEX 0, or one SM_ERROR, to the source of the request with its PROXY. -/
def smReply (g : Agent) (f : SbFrame) : List SbFrame :=
  let tag := bf f.payload 0 4
  let addr := bf f.payload 4 26
  let len := bf f.payload 30 13
  let frame := fun (typ pay : Nat) =>
    SbFrame.mk (BitVec.ofNat 4 typ) 0 f.proxy f.srcDie f.srcPort 0 0 (BitVec.ofNat 64 pay)
  let code := smCode g addr len
  if code ≠ 0 then [frame 7 (packNat [(0, 4, tag), (4, 4, code)])]
  else (List.range ((len + 5) / 6)).map fun i =>
    let bytes := memBytes g.mem (addr + 6 * i) (min 6 (len - 6 * i))
    frame 6 (leField bytes 0 6 + packNat [(48, 12, i), (60, 4, tag)])

/-! ### Slot writes (R378, R379) -/

/-- The slots of the record extents: TYPE index of a slot's sector, and its pair's other slot. -/
def slotType (addr : Nat) : Option (Nat × Nat) :=
  let pair := if addr / 0x1000 % 2 = 0 then addr + 0x1000 else addr - 0x1000
  if addr % 0x1000 ≠ 0 then none
  else if addr ≤ 0x1000 then some (0, pair)
  else if 0x01000000 ≤ addr && addr < 0x01B20000 && addr % 0x10000 < 0xE000 then some (addr % 0x10000 / 0x2000 + 1, pair)
  else none

/-- The record of a slot where its header and CRC are valid: TYPE, LENGTH in range, CRC (R369, R378). -/
def slotRecord (m : List Host.Cell) (addr j : Nat) : Option (List (BitVec 8)) :=
  let head := memBytes m addr 32
  if headShape j head then
    let l := memBytes m addr (leField head 4 4)
    if recordCrcOk l then some l else none
  else none

/-- GENERATION of a slot's valid record. -/
def slotGen (m : List Host.Cell) (addr j : Nat) : Option Nat := (slotRecord m addr j).map fun l => leField l 8 4

/-- The higher GENERATION of a pair, and the slot that holds it, the lower address on a tie. -/
def pairGen (m : List Host.Cell) (a b j : Nat) : Option (Nat × Nat) :=
  match slotGen m a j, slotGen m b j with
  | some x, some y => if x < y then some (y, b) else some (x, a)
  | some x, none => some (x, a)
  | none, some y => some (y, b)
  | none, none => none

/-- A slot write passes the controller's check (R378). -/
def slotWriteOk (g : Agent) (addr : Nat) (data : List (BitVec 8)) : Bool :=
  match slotType addr with
  | none => false
  | some (j, other) =>
    let best := pairGen g.mem (min addr other) (max addr other) j
    g.usable && headShape j data && leField data 4 4 == data.length && recordCrcOk data
      && leField data 8 4 == (match best with | some p => (p.1 + 1) % 2 ^ 32 | none => 1)
      && (match best with | some p => p.2 != addr | none => true)

/-- A slot write that passed begins: the sector is erased and its programming runs. -/
def beginSlot (g : Agent) (addr : Nat) (data : List (BitVec 8)) : Agent :=
  { g with mem := memErase g.mem addr, busy := some (addr, data) }

/-- The programming under way completes. -/
def finishSlot (g : Agent) : Agent :=
  match g.busy with
  | some w => { g with mem := memProgram g.mem w.1 w.2, busy := none }
  | none => g

/-! ### The lane map records of the compute sites (R374, R379) -/

/-- Slot A of the lane map of the base end at a compute site. -/
def laneMapSlot (site : Nat) : Nat := 0x01000000 + (56 + site) * 0x10000 + 0x2000

/-- The newest valid lane map of a site's base end, and the slot it is in. -/
def siteMap (g : Agent) (site : Nat) : Option (Nat × List (BitVec 8)) :=
  let a := laneMapSlot site
  match pairGen g.mem a (a + 0x1000) 2 with
  | some p => (slotRecord g.mem p.2 2).map fun l => (p.2, l)
  | none => none

/-- SPARE of a site's lane map. -/
def siteSpare (g : Agent) (site : Nat) : Bool :=
  match siteMap g site with
  | some p => leField p.2 160 1 % 2 == 1
  | none => false

/-- GENERATION of a site's lane map. -/
def siteGen (g : Agent) (site : Nat) : Nat :=
  match siteMap g site with
  | some p => leField p.2 8 4
  | none => 0

/-- A record with another GENERATION and SPARE, its CRC made good. -/
def remakeMap (l : List (BitVec 8)) (gen : Nat) (spare : Bool) : List (BitVec 8) :=
  let body := l.take 8 ++ leBytes 4 gen
  let rest := (l.take 160).drop 16 ++ [BitVec.ofNat 8 (leField l 160 1 / 2 * 2 + b2n spare)] ++ l.drop 161
  body ++ leBytes 4 (crc32cBytes ((body ++ rest).map BitVec.toNat)) ++ rest

/-- The agent writes SPARE of a site: one record with every other byte kept, into the slot that does not hold the newest
(R378, R379). With no valid record, or a device that is not usable, nothing is written. -/
def writeSpare (g0 : Agent) (site : Nat) (spare : Bool) : Agent :=
  let g := finishSlot g0
  match siteMap g site with
  | none => g
  | some (slot, l) =>
    if (leField l 160 1 % 2 == 1) == spare then g
    else
      let a := laneMapSlot site
      let dest := if slot = a then a + 0x1000 else a
      let data := remakeMap l (leField l 8 4 + 1) spare
      if slotWriteOk g dest data then finishSlot (beginSlot g dest data) else g

/-- The site that becomes spare is written first, then the one that leaves spare. -/
def writeSpares (g : Agent) (dest frm : Nat) : Agent := writeSpare (writeSpare g dest true) frm false

/-! ### What the agent knows -/

/-- The site that a proxied frame comes from: a base end, or a guest port. -/
def siteOfFrame (f : SbFrame) : Option Nat :=
  let cls := bf f.srcPort 5 3
  let n := bf f.srcPort 0 5
  if cls = 2 ∧ 1 ≤ f.srcDie.toNat ∧ f.srcDie.toNat ≤ 8 ∧ n < 7 then some (7 * (f.srcDie.toNat - 1) + n)
  else if cls = 5 ∧ f.srcDie = 0 ∧ n < 2 then some (56 + n)
  else none

/-! ### What the agent sends -/

/-- DIE_ID payload (Table 5.10). -/
def dieIdPay (id : DieId) (spare refused : Bool) (uid : BitVec 64) : BitVec 64 :=
  pack 64 [(0, 8, id.toNat), (8, 1, b2n spare), (9, 1, b2n refused), (16, 48, uid.toNat)]

/-- Send a DIE_ID frame to a site's port: PROXY 1 for its die, PROXY 0 for the base end itself. Only the hub sends. -/
def State.sendDieId (s : State) (n : Nat) (proxy : Bool) (id : DieId) (spare refused : Bool) : State :=
  if !s.agentHere then s
  else
    let die : DieId := if n < 56 then BitVec.ofNat 8 (n / 7 + 1) else 0
    let port : BitVec 8 := if n < 56 then BitVec.ofNat 8 (0x40 + n % 7) else BitVec.ofNat 8 (0xA0 + (n - 56))
    s.sendRing ⟨2, 0, proxy, die, port, 0, 0x9F, dieIdPay id spare refused ((s.site n).uid.getD 0)⟩

/-! ### IDs (R12 to R17) -/

/-- Give a site an ID: it becomes active; an ID it held before is no longer assigned (R13, R21). -/
def State.giveId (s : State) (n : Nat) (id : DieId) : State :=
  let old := (s.site n).dieId
  let s := s.modSite n fun x => { x with state := 1, dieId := id }
  ({ s with agent.assigned := s.agent.assigned.filter (· ≠ old) ++ [id] }).topo

/-- The port's own ID of a guest port, given once a start (R21). -/
def State.giveGuest (s : State) (g : Nat) : State :=
  { s.giveId (56 + g) (BitVec.ofNat 8 (0x40 + g)) with agent.guestUsed := setBf s.agent.guestUsed g 1 1 }

/-- The next replacement ID, where the pool has one (R15, R17). -/
def State.nextId (s : State) : Option DieId :=
  if s.agent.nextRepl ≤ 0xFE then some (BitVec.ofNat 8 s.agent.nextRepl) else none

/-- Take the next replacement ID. -/
def State.takeId (s : State) : State := { s with agent.nextRepl := s.agent.nextRepl + 1 }

/-- A die becomes available at run time and joins as an active die, or the pool is exhausted. -/
def State.admitNow (s : State) (n : Nat) : State :=
  match s.nextId with
  | some id => (s.takeId.giveId n id).sendDieId n true id false false
  | none => s.siteRaise n 0x64

/-- A die becomes its tile's spare. -/
def State.makeSpare (s : State) (n : Nat) : State :=
  ((s.modSite n fun x => { x with state := 2, dieId := 0xFF, unfenced := false }).topo).sendDieId n true 0xFF true false

/-! ### Spares at the start (R14, R379) -/

/-- A compute site failed: no beacon, or its pair failed. -/
def State.siteFailed (s : State) (n : Nat) : Bool := (s.site n).uid.isNone || (s.site n).state == 3

/-- The recorded spare of a tile: the newest of the lane maps that read SPARE, the lowest site on a tie. -/
def State.recordedSpare (s : State) (t : Nat) : Option Nat :=
  let l := (tileSites t).filter (siteSpare s.agent)
  let best := l.foldl (fun m n => max m (siteGen s.agent n)) 0
  l.find? fun n => siteGen s.agent n == best

/-- Choose the spare of a tile and write what changes. The answer is the spare site, whether it is usable or held OFF. -/
def State.chooseSpare (s : State) (t : Nat) : Nat × State :=
  match s.recordedSpare t with
  | none =>
    let failed := (tileSites t).filter s.siteFailed
    let new := failed.getLastD (7 * t + 6)
    let old := s.free
    let s := old.2
    let s := { s with agent := writeSpare s.agent new true }
    (new, s.siteRaise new 0x61 0 (new % 7) old.1)
  | some r =>
    let others := (tileSites t).filter fun n => n ≠ r && siteSpare s.agent n
    let s := { s with agent := others.foldl (fun g n => writeSpare g n false) s.agent }
    let failed := (tileSites t).filter fun n => n ≠ r && s.siteFailed n
    if s.siteFailed r then (r, s.agentRaise .lh t 0 0x62 0 (r % 7))
    else match failed with
      | x :: _ =>
        let s := { s with agent := writeSpares s.agent x r }
        (x, s.siteRaise x 0x61 0 (x % 7) (r % 7))
      | [] => (r, s)

/-- Discovery of one tile closes: its spare, then the states of its sites. -/
def State.closeTile (s : State) (t : Nat) : State :=
  let p := s.chooseSpare t
  let s := (tileSites t).foldl (fun a n =>
    if a.siteFailed n then a.modSite n fun x => { x with state := 3 }
    else if n = p.1 then a.modSite n fun x => { x with state := 2 }
    else a.modSite n fun x => { x with state := 1 }) p.2
  let active := s.activeIn t
  if active < 6 then s.agentRaise .lh t 0 0x63 0 active else s

/-- Discovery closes (R110): spares, IDs in the order of R13, and one DIE_ID frame to each die that beaconed. A spare site and
a failed one, which becomes its tile's spare held OFF, have SPARE (R14, R15); a failed one is refused too. -/
def State.closeDiscovery (s : State) : State :=
  if s.agent.closed then s
  else
    let s := (List.range 8).foldl State.closeTile { s with agent.closed := true }
    let act := (List.range 56).filter fun n => (s.site n).state == 1
    let s := (act.zip (List.range 56)).foldl (fun (a : State) p => a.giveId p.1 (BitVec.ofNat 8 (0x10 + p.2))) s
    let s := [0, 1].foldl (fun (a : State) g =>
      if (a.site (56 + g)).uid.isSome && (a.site (56 + g)).state == 0 then a.giveGuest g else a) s
    ((List.range 58).filter fun n => (s.site n).uid.isSome).foldl (fun a n =>
      let x := a.site n
      a.sendDieId n true x.dieId (n < 56 && (x.state == 2 || x.state == 3)) (x.state == 3)) s.topo

/-- A site has beaconed or failed. -/
def State.heardFrom (s : State) (n : Nat) : Bool := (s.site n).uid.isSome || (s.site n).state == 3

/-- A guest port has beaconed or failed, or its enable is clear: a guest port knows its own enable, that of another one is a
free value here (assumption log 60). -/
def State.guestDone (s : State) (g : Nat) : Bool × State :=
  if s.heardFrom (56 + g) then (true, s)
  else if s.ownSite == some (56 + g) then (!s.guestOn, s)
  else (s.free.1 % 2 == 1, s.free.2)

/-- Discovery closes early once every compute site and enabled guest port has beaconed or failed (R110). -/
def State.tryClose (s : State) : State :=
  if s.agent.closed || !(List.range 56).all s.heardFrom then s
  else
    let p := s.guestDone 0
    let q := p.2.guestDone 1
    if p.1 && q.1 then q.2.closeDiscovery else q.2

/-! ### Beacons at the agent (R110, R359, R360) -/

/-- A fenced or revoked die beacons: the event, at most once a second, and the revocation again; after an UNFENCE_DIE it
becomes its tile's spare. -/
def State.fencedBeacon (s : State) (n : Nat) (uid : BitVec 64) (id : BitVec 8) : State :=
  if (s.site n).unfenced then
    { s with agent.revokedUids := s.agent.revokedUids.filter fun x => x.1 ≠ uid }.makeSpare n
  else
    let due := match (s.site n).beaconAt with
      | some t => decide (t + ms 1000 ≤ s.now)
      | none => true
    let s := if due then (s.modSite n fun x => { x with beaconAt := some s.now }).siteRaise n 0x66 0 id.toNat 0 uid.toNat else s
    s.sendDieId n false id false true

/-- A guest with another unique ID beacons on a port whose own ID has been used: that ID stays revoked until the next start and
the newcomer takes a replacement ID (R21). -/
def State.nextGuest (s : State) (n : Nat) : State :=
  let old := (s.site n).dieId
  ({ s with agent.assigned := s.agent.assigned.filter (· ≠ old) }.modSite n fun x => { x with state := 0, dieId := 0xFF }).topo.admitNow n

/-- A beacon after discovery closed from a site that is no spare and no active die: a die becoming available. -/
def State.lateBeacon (s : State) (n : Nat) : State :=
  if n < 56 then (if s.activeIn (n / 7) < 6 then s.admitNow n else s.makeSpare n)
  else if bit s.agent.guestUsed (n - 56) then s.nextGuest n
  else (s.giveGuest (n - 56)).sendDieId n true (BitVec.ofNat 8 (0x40 + (n - 56))) false false

/-- The later of two sites that beacon with one unique ID is refused and its site is treated as failed; the earlier in the order
of R13 keeps the ID (R110). R110 does not say what a duplicate that beacons after discovery has closed is: that the order of
R13 decides there too is the model's choice (DESIGN CHOICE, assumption log 74). -/
def State.refuseDie (s : State) (n : Nat) : State :=
  let old := (s.site n).dieId
  let s := s.modSite n fun y => { y with state := 3, dieId := 0xFF }
  ({ s with agent.assigned := s.agent.assigned.filter (· ≠ old) }.topo).sendDieId n true 0xFF (n < 56) true

/-- A beacon reaches the agent. -/
def State.agentBeacon (s : State) (n : Nat) (uid : BitVec 64) : State :=
  match s.agent.revokedUids.find? fun x => x.1 = uid with
  | some x => s.fencedBeacon n uid x.2
  | none =>
    let x := s.site n
    let elsewhere := (List.range 58).filter fun m => m ≠ n && (s.site m).uid = some uid && (s.site m).state != 3
    match elsewhere with
    | m :: _ =>
      let s := (s.modSite n fun y => { y with uid := some uid }).refuseDie (max n m)
      if !s.agent.closed then s.tryClose
      else if n < m then s.lateBeacon n else s
    | [] =>
      if !s.agent.closed then (s.modSite n fun y => { y with uid := some uid }).tryClose
      else if x.uid = some uid && (x.state == 1 || x.state == 2) then s.sendDieId n true x.dieId (x.state == 2) false
      else (s.modSite n fun y => { y with uid := some uid }).lateBeacon n

/-! ### Dead dies (R15, R358) -/

/-- What the agent keeps of a read. -/
def State.noteRead (s : State) (r : SiteRead) : State :=
  s.modSite r.site fun x => { x with
    opened := x.opened || r.state == 0xB
    downSince := if r.down then some (x.downSince.getD s.now) else none
    counts := (x.counts.filter fun c => decide (s.now < c.1 + ms 1000)) ++ [(s.now, r.count)] }

/-- Cause of R358 in a read, 0 for none. -/
def State.deadCause (s : State) (r : SiteRead) : Nat :=
  let x := s.site r.site
  let down := match x.downSince with
    | some t => r.down && decide (t + ms (max 1 r.deadMs) ≤ s.now)
    | none => false
  let advanced := x.counts.any fun c => 4 ≤ (r.count - c.2).toNat && (r.count - c.2).toNat < 128
  if x.opened && r.failed then 1 else if down then 2 else if advanced then 3 else 0

/-- The site of a tile whose die is its parked spare. -/
def State.parkedSpare (s : State) (t : Nat) : Option Nat := (tileSites t).find? fun n => (s.site n).state == 2

/-- A die is declared dead: its ID is revoked, its base end is told, and the tile's spare takes its place (R15). -/
def State.declareDead (s : State) (r : SiteRead) (cause : Nat) : State :=
  let n := r.site
  let x := s.site n
  let old := x.dieId
  let s := s.sendDieId n false old false true
  let s := { s with
    agent.assigned := s.agent.assigned.filter (· ≠ old)
    agent.revokedUids := s.agent.revokedUids ++ [(x.uid.getD 0, old)] }
  -- the port belays what it holds for the revoked ID (R347)
  let s := if s.agentHere then { s with pwr.revoked := s.pwr.revoked ++ [old] }.startBelay 4 else s
  let spare := s.parkedSpare (n / 7)
  let s := (s.modSite n fun y => { y with state := 5, fenceCount := r.count, fenceSeen := false, unfenced := false }).topo
  match spare, s.nextId with
  | some m, some id =>
    let s := (s.takeId.giveId m id).modSite m fun y => { y with waking := true }
    { s with agent := writeSpares s.agent n m }.siteRaise n 0x60 cause old.toNat id.toNat
  | some m, none => (s.siteRaise n 0x60 cause old.toNat 0xFF).siteRaise m 0x64
  | none, _ => s.siteRaise n 0x60 cause old.toNat 0xFF

/-- One read of the poll: a waking spare is named once it waits in NEGOTIATE, an UNFENCE_DIE shows as a base end that left
FENCED without a reset (assumption log 18), and an active die may be declared dead. Before discovery closes a failed pair
is a failed site. -/
def State.pollSite (s : State) (r : SiteRead) : State :=
  let x := s.site r.site
  let s := s.modSite r.site fun y => { y with gen := r.gen, braids := r.braids }
  if !s.agent.closed then (if r.failed then (s.modSite r.site fun y => { y with state := 3 }).tryClose else s)
  else if x.state == 5 || x.state == 4 then
    s.modSite r.site fun y => { y with
      state := if r.state = 0xD then 4 else y.state
      fenceSeen := y.fenceSeen || r.state == 0xD
      -- COUNT at the last read in FENCED: a pair reset of the fenced pair moves it on (R359)
      fenceCount := if r.state = 0xD then r.count else y.fenceCount
      unfenced := y.unfenced || (y.fenceSeen && r.state == 8 && r.count == y.fenceCount) }
  else if x.state == 1 then
    let s :=
      if x.waking && r.state == 9 then
        (s.modSite r.site fun y => { y with waking := false }).sendDieId r.site true x.dieId false false
      else s
    let s := s.noteRead r
    let c := s.deadCause r
    if c = 0 || 56 ≤ r.site then s else s.declareDead r c
  else s

/-- What the agent reads of this block, a base end. -/
def State.ownRead (s : State) : SiteRead where
  site := 7 * s.tile + s.index
  state := s.start.st.code
  failed := s.start.failed
  down := s.link.down
  count := s.aon.count
  deadMs := bf s.flt.ctl 0 8
  gen := s.start.negGen.toNat
  braids := s.trainedBraids

end Sys2Proof.Machine
end

