-- ==== Sys2Proof/Machine/Start.lean ====
section
/-!
DEFINITION. The commands of start-up (R93 to R115): step timeouts, strand detect, maps, training, the first calibration,
discovery and negotiation, and the same work for a braid retrain, a port retrain and a re-admission (R131, R138, R187).
-/
namespace Sys2Proof.Machine

/-! ### Timeouts (R97) -/

/-- A step reaches its timeout: the step's own failure where it shows here, else the far end stopped (Table 5.4). -/
def State.stepTimeout (s : State) : State :=
  if s.start.failed then s
  else match s.start.st with
    | .config => s.finishConfig
    | .detect =>
      if s.test.alone then s
      else if octs.any fun b => !(s.start.txb.get b).resultGot then s.startFail 2 else s.startFail 0xB
    | .splice => if s.surviving 0 < s.minBraids ∨ s.surviving 1 < s.minBraids then s.startFail 3 else s.startFail 0xB
    | .train =>
      if s.liveTx.length < s.minBraids ∨ s.liveRx.length < s.minBraids then s.startFail 4 else s.startFail 0xB
    | .calibrate => s.startFail 5
    | .negotiate => if s.aon.parkSpare then s else s.startFail 0xB
    | _ => s

/-- START_STEP_TIMEOUT. -/
def execStartStepTimeout (s : State) : Host.Outcome State Fault Refusal := done s.stepTimeout

/-- SIDEBAND_NOT_UP. -/
def execSidebandNotUp (s : State) : Host.Outcome State Fault Refusal :=
  done (if s.start.st == .sideband && !s.start.notUpRaised then
    { s with start.notUpRaised := true }.raise 0x0F (arg0 := 10) else s)

/-! ### One braid's detect and map in OPEN (R131, R185) -/

/-- A braid detects by itself: a retrain in OPEN whose DETECT_GO has gone both ways. -/
def State.detectsAlone (s : State) (b : Fin 8) : Bool :=
  s.start.st == .openSt && !s.link.retraining && (s.link.tx.get b).ladder != .up
    && (tfind s.start.taken (trKey 1 b.val)).isSome

/-- A direction of a retraining braid whose map came out empty is retired. -/
def State.dropOpen (s : State) (dir : Nat) (b : Fin 8) : State :=
  if (s.shape dir b).width = 0 && !(s.shape dir b).retired then s.retireDir dir b else s

/-- A retraining transmit braid sends MAP_AGREE once its map is known. -/
def State.mapOpen (s : State) (b : Fin 8) : State :=
  let x := s.start.txb.get b
  if s.detectsAlone b && x.observed && x.resultGot && !x.mapSent && !(s.shape 0 b).retired then
    (((s.useResult b).sendMap b).dropOpen 0 b)
  else s

/-- A retraining braid starts to train once TRAIN_GO has gone both ways. -/
def State.goOpen (s : State) (b : Fin 8) : State :=
  let x := s.start.txb.get b
  if x.trainSent && x.trainGot && (s.training b).phase == .off then s.beginTraining b 0 else s

/-- TRAIN_GO of a retraining braid, once every direction left has an agreed map. -/
def State.trainOpen (s : State) (b : Fin 8) : State :=
  let tx := s.shape 0 b
  let rx := s.shape 1 b
  if s.detectsAlone b && !(tx.retired && rx.retired) && (tx.retired || (s.start.txb.get b).mapSent)
      && (rx.retired || (s.start.rxb.get b).mapOk) && !(s.start.txb.get b).trainSent then
    let s := { s with start.txb := s.start.txb.upd b fun x => { x with trainSent := true } }
    (s.sendTrain 4 b.val 0 [(11, 8, 2 ^ b.val)]).goOpen b
  else s

/-- What a change of a retraining braid's detect lets follow. -/
def State.stepOpen (s : State) (b : Fin 8) : State :=
  let s := (s.mapOpen b).trainOpen b
  ((s.settleRetrains b).sendFinals.recomputeTargets).checkDown

/-! ### Re-admission (R138) -/

/-- Quarantined strands of a braid in a direction. -/
def State.strandsIn (s : State) (dir : Nat) (b : Fin 8) (st : StrandSt) : List Nat :=
  (List.range s.cls.nstrands).filter fun p => (s.strand dir b p).st == st

/-- The quarantined strands of a braid become TESTING. -/
def State.beginTesting (s : State) (b : Fin 8) : State :=
  [0, 1].foldl (fun (a : State) d => a.modStrands d b (a.strandsIn d b .quarantined) fun _ x => { x with st := .testing }) s

/-- No strand of a braid is under test. -/
def State.testOver (s : State) (b : Fin 8) : Bool :=
  (s.strandsIn 0 b .testing).isEmpty && (s.strandsIn 1 b .testing).isEmpty

/-- A test that is over starts the retrain its command asked for: of the braid, or of the port once every braid's is. -/
def State.settleAdmits (s : State) : State :=
  let overs := fun c : RingNo × BitVec 32 × Option (Fin 8) => match c.2.2 with
    | some b => s.testOver b
    | none => octs.all s.testOver
  let go := s.link.admits.filter overs
  let s := { s with link.admits := s.link.admits.filter fun c => !overs c, link.retrainCmds := s.link.retrainCmds ++ go }
  go.foldl (fun a c => match c.2.2 with
    | some b => a.startRetrain b
    | none => a.startPortRetrain) s

/-- The identity exchange on the strands under test ends at this end: short, open and foreign ones go back. -/
def State.testObserved (s : State) (b : Fin 8) (rx : Heards) (tx : List (Fin 8 × Nat × TxObs)) : State :=
  let tile := (s.start.tileOf.get b).getD b
  let s := (s.strandsIn 1 b .testing).foldl (fun a p =>
    let k := (rxClass a.cls rx tile b p false).1
    if codeUsable k then a
    else a.modStrand 1 b p fun x => { x with st := .quarantined, code := BitVec.ofNat 4 k }) s
  let s := (s.strandsIn 0 b .testing).foldl (fun a p =>
    match tx.find? fun x => x.1 = b ∧ x.2.1 = p with
    | some x =>
      let k := padCode p b.val x.2.2
      if k = 0 then a else a.modStrand 0 b p fun y => { y with st := .quarantined, code := BitVec.ofNat 4 k }
    | none => a) s
  let m := maskOf (s.strandsIn 1 b .testing)
  (s.sendTrain 2 b.val 2 (resultFields s.cls m)).settleAdmits

/-- The far result of a re-admission test: strands that did not arrive go back. -/
def State.testResult (s : State) (b : Fin 8) (far : Nat) : State :=
  ((s.strandsIn 0 b .testing).foldl (fun a p =>
    if far.testBit p then a else a.modStrand 0 b p fun x => { x with st := .quarantined }) s).settleAdmits

/-! ### DETECT_GO -/

/-- Identity patterns start on a braid of its own detect. -/
def State.startPattern (s : State) (b : Fin 8) : State :=
  s.startPatterns (setBf (if s.now < s.start.patAt + s.cls.patternTime then s.start.patterns else 0) b.val 1 1)

/-- Patterns of a start or a port retrain: on every braid at once, or on the first group of a fibre port (R100, R103). -/
def State.startAllPatterns (s : State) : State := s.startPatterns (if s.cls.isFibre then 0x0F else 0xFF)

/-- A port already in TRAIN, whose own maps all agreed, goes back to SPLICE for a second detect that the far end asks for before
its TRAIN_GO (DEDUCED, assumption log 63). -/
def State.backToSplice (s : State) : State :=
  if s.start.st == .train then { s.forgetTrain 0 [4] with start.st := .splice, start.trainGoSent := false, start.trainMaskSent := 0 } else s

/-- The far end asks for a second detect of a direction, or answers the request of this end (R106): the braid's identity
patterns run again and its pads are read again. -/
def State.detectAgain (s : State) (b : Fin 8) : State :=
  let s := if (s.start.rxb.get b).attempt = 1 then s else s.sendTrain 1 b.val 1 []
  { s.startPattern b with start.txb := s.start.txb.upd b fun x => { x with observed := false } }.backToSplice

/-- A received DETECT_GO at work. -/
def State.detectGo (s : State) (b : Fin 8) (attempt : Nat) (payload : BitVec 64) : State :=
  if s.start.st == .detect && attempt ≠ 1 && attempt ≠ 2 then
    if s.start.goSent then s.startAllPatterns else s
  else if attempt = 1 then s.detectAgain b
  else if s.start.st != .openSt then s
  else if attempt = 0xF then
    let s := s.startPortRetrain
    { s with
      start.taken := tput s.start.taken (trKey 1 0) payload, start.repeats := tdel s.start.repeats (trKey 1 0) }.startAllPatterns
  else if attempt = 2 then
    if s.testOver b then ((s.beginTesting b).sendTrain 1 b.val 2 []).startPattern b else s.startPattern b
  else if (s.link.tx.get b).ladder == .up || (!(s.shape 1 b).retired && (s.shape 1 b).trained) then
    let s := s.failEarly b
    if (s.shape 0 b).retired && (s.shape 1 b).retired then (s.settleRetrains b).sendFinals.checkDown
    else
      let s := ((s.beginRetrain b false).beginDetect b 0).settleRetrains b
      let s := { s with
        start.taken := tput s.start.taken (trKey 1 b.val) payload, start.repeats := tdel s.start.repeats (trKey 1 b.val) }
      (s.startPattern b).sendFinals.checkDown
  else if (s.shape 0 b).retired && (s.shape 1 b).retired then
    -- a RETRAIN command of the far end revives the braid (Table 8.9)
    let s := (s.beginRetrain b true).beginDetect b 0
    { s with
      start.taken := tput s.start.taken (trKey 1 b.val) payload, start.repeats := tdel s.start.repeats (trKey 1 b.val) }.startPattern b
  else s.startPattern b

/-- DETECT_GO. -/
def execDetectGo (f : SbFrame) (s : State) : Host.Outcome State Fault Refusal :=
  done (s.takeTrain f 1 fun s => s.detectGo (trBraid f.payload) (trAttempt f.payload) f.payload)

/-! ### DETECT_OBSERVATION_END -/

/-- The observation of some braids ends (R100 to R104): their tiles, the pads of the transmit braids, the receive braids. -/
def State.observeGroup (s : State) (bs : List (Fin 8)) (rx : Heards) (tx : List (Fin 8 × Nat × TxObs)) : State :=
  let s := bs.foldl (fun a b => { a with start.tileOf := a.start.tileOf.put b (tileFor a.cls rx bs b) }) s
  let s := bs.foldl (fun a b => a.observeTx tx b) s
  bs.foldl (fun a b => a.endObserve rx b 0) s

/-- The observation of a start ends: of all eight braids, or of the group a fibre port has in detect; after its first group
the second begins (R103). -/
def State.observeAll (s : State) (rx : Heards) (tx : List (Fin 8 × Nat × TxObs)) : State :=
  if s.start.st != .detect || s.start.failed || s.start.patterns = 0 then s
  else
    let bs := octs.filter fun b => bit s.start.patterns b.val
    let s := s.observeGroup bs rx tx
    if s.start.patterns = 0x0F then { s with start.patterns := 0xF0, start.patAt := s.start.patAt + s.cls.patternTime }
    else s.trySplice

/-- Pads found faulty in the second detect of a direction. -/
def State.padsAgain (s : State) (b : Fin 8) (tx : List (Fin 8 × Nat × TxObs)) : State :=
  let s := tx.foldl (fun (a : State) x =>
    let k := if a.cls.isFibre then 0 else padCode x.2.1 b.val x.2.2
    if x.1 ≠ b ∨ k = 0 ∨ a.outOfUse 0 b x.2.1 then a
    else (a.modStrand 0 b x.2.1 fun y => { y with st := .quarantined, code := BitVec.ofNat 4 k, logical := none }).reportCode 0 b x.2.1 k
      ((a.cfg.retTx.get b).getLsbD x.2.1)) s
  { s with start.txb := s.start.txb.upd b fun x => { x with observed := true } }

/-- The transmit end has both the pads and the result of the second detect: its new map, and MAP_AGREE. The two ends disagree a
second time where the map of what the far end marked usable is another; the direction is then retired at both (R106). -/
def State.mapAgain (s : State) (b : Fin 8) : State :=
  let x := s.start.txb.get b
  if !(x.attempt == 1 && x.observed && x.resultGot && !x.mapSent) then s
  else
    let s := s.modStrands 0 b (List.range s.cls.nstrands) fun _ y =>
      if y.st == .quarantined then y else { y with st := .standby, logical := none }
    let s := (s.useResult b).sendMap b
    let m := (s.start.txb.get b).usable.toNat
    let s := if mapCrc (mapOf s.cls m) (clockOf s.cls m) = mapCrc (mapOf s.cls x.far.toNat) (clockOf s.cls x.far.toNat) then s
      else s.retireStart 0 b
    if s.start.st == .openSt then (s.dropOpen 0 b).stepOpen b else s.tryTrain

/-- The observation of one braid ends: a re-admission test, the second detect of one direction, or a braid retrain. -/
def State.observeOne (s : State) (b : Fin 8) (rx : Heards) (tx : List (Fin 8 × Nat × TxObs)) : State :=
  if s.start.failed then s
  else if !s.testOver b && s.start.st == .openSt then s.testObserved b rx tx
  else if bit s.start.patterns b.val && (s.start.st == .splice || (s.start.txb.get b).mapSent || (s.start.rxb.get b).attempt == 1) then
    let s := s.padsAgain b tx
    let s := if (s.start.rxb.get b).attempt == 1 && !(s.start.rxb.get b).mapGot && !(s.start.rxb.get b).resultSent then
        let s := s.endObserve rx b 1
        s.loadMap 1 b (s.start.rxb.get b).usable.toNat
      else s
    s.mapAgain b
  else if s.detectsAlone b then
    let s := if (s.start.tileOf.get b).isSome then s else { s with start.tileOf := s.start.tileOf.put b (tileFor s.cls rx [b] b) }
    let s := if (s.shape 0 b).retired then s else s.observeTx tx b
    let s := if (s.shape 1 b).retired then s
      else
        let s := s.endObserve rx b 0
        (s.loadMap 1 b (s.start.rxb.get b).usable.toNat).dropOpen 1 b
    s.stepOpen b
  else s

/-- DETECT_OBSERVATION_END. -/
def execDetectObservationEnd (b : Option (Fin 8)) (rx : List (Fin 8 × Nat × RxObs)) (tx : List (Fin 8 × Nat × TxObs))
    (s : State) : Host.Outcome State Fault Refusal :=
  done (match b with
    | none => s.observeAll (heards s.cls rx) tx
    | some b => s.observeOne b (heards s.cls rx) tx)

/-! ### DETECT_RESULT -/

/-- A received DETECT_RESULT at work. -/
def State.detectResult (s : State) (b : Fin 8) (far attempt : Nat) : State :=
  if attempt = 2 then s.testResult b far
  else if attempt = 1 then
    let s := s.backToSplice.noteResult b far 1
    { s with start.txb := s.start.txb.upd b fun x => { x with mapSent := false } }.mapAgain b
  else
    let s := s.noteResult b far attempt
    if s.start.st == .openSt then s.stepOpen b else s.trySplice

/-- DETECT_RESULT. -/
def execDetectResult (f : SbFrame) (s : State) : Host.Outcome State Fault Refusal :=
  done (s.takeTrain f 2 fun s =>
    s.detectResult (trBraid f.payload) (resultMask s.cls f.payload) (trAttempt f.payload))

/-! ### MAP_AGREE -/

/-- The CRC of the own computation for a receive braid. -/
def State.ownMapCrc (s : State) (b : Fin 8) : Nat :=
  let m := (s.start.rxb.get b).usable.toNat
  mapCrc (mapOf s.cls m) (clockOf s.cls m)

/-- A received MAP_AGREE at work: equal, a second detect of the direction, or its retirement (R106). -/
def State.mapAgree (s : State) (b : Fin 8) (far : Nat) : State :=
  let own := s.ownMapCrc b
  let note := fun (a : State) (ok : Bool) =>
    { a with start.rxb := a.start.rxb.upd b fun x => { x with mapGot := true, mapOk := ok } }
  let on := fun (a : State) => if a.start.st == .openSt then a.stepOpen b else a.tryTrain
  if own = far then on (note s true)
  else if (s.start.rxb.get b).attempt = 0 then
    let s := { s with start.rxb := s.start.rxb.upd b fun x => { x with attempt := 1, resultSent := false } }
    s.sendTrain 1 b.val 1 []
  else on ((note s false).raise 0x14 (arg0 := own) (arg1 := far) (braid := b.val) (dir := 1) |>.retireStart 1 b)

/-- MAP_AGREE. -/
def execMapAgree (f : SbFrame) (s : State) : Host.Outcome State Fault Refusal :=
  done (s.takeTrain f 3 fun s => s.mapAgree (trBraid f.payload) (bf f.payload 11 32))

/-! ### Training -/

/-- TRAIN_GO has gone both ways: the braids with an agreed map train together (R107). -/
def State.trainAll (s : State) : State :=
  let s := if s.cls.isFibre then { s with link.fterm := 0, link.latency := s.cls.latencyOf 0, link.rrt := s.cls.rrtOf 0 } else s
  (octs.filter fun b => bit s.start.trainMaskSent b.val).foldl (fun a b => a.beginTraining b 0) s

/-- A received TRAIN_GO at work. -/
def State.trainGo (s : State) (b : Fin 8) (mask : BitVec 8) : State :=
  if s.start.st == .openSt then
    { s with start.txb := s.start.txb.upd b fun x => { x with trainGot := true } }.goOpen b
  else
    let first := !s.start.trainGoGot
    let s := { s with start.trainMaskGot := mask, start.trainGoGot := true }
    if first && s.start.trainGoSent then s.trainAll else s

/-- TRAIN_GO. -/
def execTrainGo (f : SbFrame) (s : State) : Host.Outcome State Fault Refusal :=
  done (s.takeTrain f 4 fun s => s.trainGo (trBraid f.payload) (BitVec.ofNat 8 (bf f.payload 11 8)))

/-- TRAIN_LINK_FRAME: a TRAIN link frame reaches the CRC check `frac` sixteenths into its PCLK. -/
def execTrainLinkFrame (b : Fin 8) (rx : LineRx) (frac : BitVec 4) (s : State) : Host.Outcome State Fault Refusal :=
  done (s.trainLink b rx (s.now * 16 + frac.toNat))

/-- Largest deskew setting and the middle one (R122, R124). -/
def PortClass.deskewMax (c : PortClass) : Int := if c.isFibre then 31 else 1023
def PortClass.deskewMid (c : PortClass) : Int := if c.isFibre then 16 else 512

/-- The target training sets: the middle, or the value nearest it that fits every usable strand; none fits where the
arrivals spread too far (R122). -/
def deskewTarget (c : PortClass) (l : List Int) : Option Int :=
  let lo := l.foldl max (-c.deskewMax)
  let hi := (l.foldl min c.deskewMax) + c.deskewMax
  if lo ≤ hi then some (max lo (min hi c.deskewMid)) else none

/-- Arrivals and deskew settings of a receive braid. -/
def State.setArrivals (s : State) (b : Fin 8) (d : Int) (l : List (Nat × Int)) : State :=
  (l.foldl (fun (a : State) x => a.modStrand 1 b x.1 fun y => { y with arrival := x.2, deskew := d - x.2 }) s).modShape 1 b
    fun x => { x with target := d.toNat }

/-- Codeword lock: eight consecutive codewords at the boundary found decode with zero syndrome (R88). -/
def State.wordsLock (s : State) (b : Fin 8) (words : List (List (Nat × Nat))) : Bool :=
  words.length ≥ 8 && (words.drop (words.length - 8)).all fun w => rsClean (s.gather b (s.shape 1 b).map w)

/-- Every logical strand is locked, on fibre with codeword lock: its receive clock runs, the arrivals set the deskew, and the
braid goes on to ALIGN, or the attempt fails with REASON 3 (R64, R107, R122, R189). `cross` is the transmit crossing in 1/16
PCLK. -/
def State.lockAchieved (s : State) (b : Fin 8) (cross : Nat) (arrivals : List (Nat × Int)) (words : List (List (Nat × Nat))) : State :=
  if (s.training b).phase != .lock || s.start.failed || !s.clocked || (s.fibreHub && !s.wordsLock b words) then s
  else
    let s := { s with clk.rxwUp := setBf s.clk.rxwUp b.val 1 1 }
    let u := s.usable 1 b
    match deskewTarget s.cls ((arrivals.filter fun x => u.contains x.1).map Prod.snd) with
    | some d => (s.setArrivals b d arrivals).modTrain b fun t => { t with phase := .align, good := 0, cross := cross }
    | none => s.trainFailed b 3

/-- BRAID_LOCK_ACHIEVED. -/
def execBraidLockAchieved (b : Fin 8) (cross : BitVec 8) (seen : LockSeen) (s : State) : Host.Outcome State Fault Refusal :=
  done (s.lockAchieved b cross.toNat seen.arrivals seen.words)

/-- MEASURE_TIMER: a MEASURE frame launches `frac` sixteenths into its PCLK. -/
def execMeasureTimer (b : Fin 8) (frac : BitVec 4) (s : State) : Host.Outcome State Fault Refusal :=
  done (if (s.training b).phase == .measure && !s.start.failed then s.sendMeasure b (s.now * 16 + frac.toNat) else s)

/-- REASON of an attempt that times out in its phase (Table 5.5); in DONE the spec names none. -/
def State.timeoutReason (s : State) (b : Fin 8) (noClock : Bool) : Nat × State :=
  match (s.training b).phase with
  | .lock => (if noClock then 1 else if s.cls.isFibre then 5 else 2, s)
  | .align => (4, s)
  | .measure | .depth => (3, s)
  | _ => let p := s.free; (p.1 % 6, p.2)

/-- TRAIN_ATTEMPT_TIMEOUT; `noClock` says no clock was seen in LOCK. -/
def execTrainAttemptTimeout (b : Fin 8) (noClock : Bool) (s : State) : Host.Outcome State Fault Refusal :=
  done (if (s.training b).phase.running then
      let r := s.timeoutReason b noClock
      r.2.trainFailed b r.1
    else s)

/-- The far end trained our transmit braid. -/
def State.farTrained (s : State) (b : Fin 8) : State :=
  let s := { s with start.txb := s.start.txb.upd b fun x => { x with doneGot := true, ok := true } }
  let s := s.modTrain b fun t => { t with reason := 0 }
  let s :=
    if (s.shape 1 b).retired && (s.training b).phase.running then
      (s.modTrain b fun t => { t with phase := .trained }).startStream b
    else s
  let s := s.modShape 0 b fun x => { x with trained := true }
  let s := if s.start.st == .train && !s.link.retraining then s.modTx b fun t => { t with ladder := .up } else s
  s.tryCalibrate

/-- The far end failed to train our transmit braid: after three attempts of step 7 the direction is retired. -/
def State.farFailed (s : State) (b : Fin 8) (attempt reason : Nat) : State :=
  let s := s.modTrain b fun t => { t with reason := reason }
  if s.start.st != .train then
    { s with start.txb := s.start.txb.upd b fun x => { x with doneGot := true, ok := false } }
  else if attempt < 2 then s
  else
    let s := { s with start.txb := s.start.txb.upd b fun x => { x with doneGot := true, ok := false } }
    let s := if (s.shape 0 b).retired then s
      else (s.raise 0x13 (code := reason) (arg0 := attempt + 1) (braid := b.val)).retireStart 0 b
    s.tryCalibrate

/-- TRAIN_DONE. -/
def execTrainDone (f : SbFrame) (s : State) : Host.Outcome State Fault Refusal :=
  done (s.takeTrain f 5 fun s =>
    let b := trBraid f.payload
    if bit f.payload 11 then s.farTrained b else s.farFailed b (trAttempt f.payload) (bf f.payload 12 4))

/-! ### Step 8 -/

/-- Results of the first calibration for one strand: trims of its end, and for a receive strand its arrival, its KIND 1
record and, on fibre, its offsets and capture (R108, R147, R154, R157, R160). -/
def State.firstResult (s : State) (dir : Nat) (b : Fin 8) (p : Nat) (x : Found) : State :=
  if dir = 0 then
    let s := s.modTrim 0 b p fun t => { t with tx := x.tx &&& txMask s.cls, otx := x.otx &&& otxMask s.cls, last := 0, doneAt := some s.now }
    let s := s.retain 0 b p
    if s.cls.isFibre then s.captureFibre 0 b p x.temp1.toNat x.temp6.toNat else s
  else
    let s := s.modTrim 1 b p fun t => { t with
      rx := x.rx &&& rxMask s.cls, dfe := x.dfe &&& dfeMask s.cls, orx := x.orx &&& orxMask s.cls, last := 0, doneAt := some s.now }
    let s := s.retain 1 b p
    let d := ((s.shape 1 b).target : Int) - x.arrival
    let s := s.modStrand 1 b p fun y => { y with arrival := x.arrival, deskew := d }
    let s := { s with cal.done := s.cal.done + 1 }
    let s := if s.cls.isFibre then s.captureFibre 1 b p x.temp1.toNat x.temp6.toNat else s
    let s := s.closeQual b p 1 x.meas 0 none
    -- a strand whose shift leaves the deskew range is spliced out as at run time
    if (d < 0 || s.cls.deskewMax < d) && (s.strand 1 b p).st == .active && (s.cls.isFibre || p < 34) then
      s.requestFar b { op0 with op := 1, logical := ((s.strand 1 b p).logical.getD 0x3F), frm := p, reason := 1, disp := 2 }
    else s

/-- FIRST_CALIBRATION_COMPLETE: the sequence of step 8 completes with what it found, by direction, braid and strand. -/
def execFirstCalibrationComplete (results : List (Bool × Fin 8 × Nat × Found)) (iref : Nat) (s : State) :
    Host.Outcome State Fault Refusal :=
  done (if s.start.st != .calibrate || s.start.failed || s.start.calSent then s
    else
      -- ln_iref in 0.1 µA against the internal reference (R47)
      let s := if iref < 450 || 550 < iref then s.raise 0x26 (arg0 := iref) else s
      let s := results.foldl (fun a r => a.firstResult (b2n r.1) r.2.1 r.2.2.1 r.2.2.2) s
      let kept := maskOf (s.liveTx.map Fin.val) + 256 * maskOf (s.liveRx.map Fin.val)
      let s := { s with
        start.calSent := true
        aon.retained := if s.cls.isFibre then s.aon.retained else s.aon.retained ||| BitVec.ofNat 16 kept }
      let s := s.sendTrain 6 0 0 [(11, 1, 1)]
      if s.start.calGot && !s.link.retraining then s.enterDiscover else s)

/-- CAL_DONE: a port retrain ends with PORT_RETRAIN_END, a start goes on to DISCOVER. -/
def execCalDone (f : SbFrame) (s : State) : Host.Outcome State Fault Refusal :=
  done (s.takeTrain f 6 fun s =>
    if !bit f.payload 11 || s.start.st != .calibrate then s
    else
      let s := { s with start.calGot := true }
      if s.start.calSent && !s.link.retraining then s.enterDiscover else s)

/-! ### Discovery (R109 to R111) -/

/-- BEACON_TIMER. -/
def execBeaconTimer (s : State) : Host.Outcome State Fault Refusal :=
  done (if s.start.st == .discover && !s.start.failed then s.sendBeacon else s)

/-- Proxy a frame of the far end (R39): on by the routes, or to the serial memory controller where it is addressed there. -/
def State.proxyUp (s : State) (f : SbFrame) : State :=
  let g := { f with srcDie := s.sbDie, srcPort := s.portCode, proxy := true }
  if s.agentHere && g.destDie == 0 && g.destPort == 0 then
    { s with out.smReq := s.out.smReq ++ [g], agent.answers := s.agent.answers ++ smReply s.agent g }
  else s.sendRouted g

/-- The block proxies frames of its far end: every block but an optical end (R91), and a guest port once it is enabled. -/
def State.proxies (s : State) : Bool := !s.isOptical && s.guestOn

/-- A beacon heard on the link. -/
def State.beaconHeard (s : State) (f : SbFrame) : State :=
  let uid := f.payload
  let loop := s.cls.isFibre && uid == s.straps.uid
  let s := { s with start.farUid := uid, start.beaconGot := s.start.beaconGot || !loop }
  let s := if loop && s.start.st == .discover && !s.start.failed then s.classFail 2 else s
  let s := s.portTopo
  let s :=
    if !isLocal f && f.srcDie == 0xFF && s.proxies then
      let s := if s.start.st == .fenced then { s with flt.fenceBeacons := s.flt.fenceBeacons + 1 } else s
      let s := s.proxyUp f
      match s.ownSite with
      | some n => if s.cls == .sb then s.agentBeacon n uid else s
      | none => s
    else s
  s.tryNegotiate

/-- BEACON: from the far end, or a proxied one that reaches the hub's discovery agent. -/
def execBeacon (f : SbFrame) (s : State) : Host.Outcome State Fault Refusal :=
  done (if f.typ ≠ 1 then s
    else if s.agentHere && f.proxy && f.destDie == 0 && f.destPort == 0x9F then
      match siteOfFrame f with
      | some n => s.agentBeacon n f.payload
      | none => s
    else
      let h := s.hear f
      if h.1 then h.2.beaconHeard f else h.2)

/-- DISCOVERY_WINDOW_EXPIRY. -/
def execDiscoveryWindowExpiry (s : State) : Host.Outcome State Fault Refusal :=
  done (if s.agentHere then s.closeDiscovery else s)

/-- A spare pair in NEGOTIATE whose DIE_ID frame brings it into use enters LASH; in DISCOVER the frame lets it go on. -/
def State.afterDieId (s : State) : State :=
  if s.start.st == .negotiate && s.aon.parkSpare && !s.start.spare then
    { s with aon.parkSpare := false, start.st := .lash }
  else s.tryNegotiate

/-- A DIE_ID frame for the die of a failed site, its tile's spare from now on: SPARE and REFUSED (R14, R15). -/
def failedSite (f : SbFrame) : Bool := bit f.payload 8 && bit f.payload 9

/-- The pair of a failed site is held OFF, on the path of R345 (R15). -/
def State.holdOff (s : State) : State := s.powerDown.enterOff

/-- A proxy forwards a DIE_ID frame link-local; a base end copies SPARE (R111). -/
def State.forwardDieId (s : State) (f : SbFrame) : State :=
  let s := s.sendLink { f with proxy := false, destDie := 0xFF }
  let s := { s with start.dieIdFwd := true, sb.partnerNamed := true }
  let s :=
    if s.cls != .sb then s
    else
      let n := 7 * s.tile + s.index
      let spare := bit f.payload 8
      let state := if bit f.payload 9 then 3 else if spare then 2 else 1
      { (s.modSite n fun x => { x with
          uid := some s.start.farUid, dieId := BitVec.ofNat 8 (bf f.payload 0 8), state := state, unfenced := false }) with
        start.spare := spare, agent.closed := true }
  if s.cls == .sb && failedSite f then s.holdOff else s.afterDieId

/-- A compute die takes its DIE_ID frame (R111). -/
def State.takeDieId (s : State) (f : SbFrame) : State :=
  if bf f.payload 16 48 ≠ s.straps.uid.toNat % 2 ^ 48 then s.sbErr
  else
    let s := { s with
      start.dieId := BitVec.ofNat 8 (bf f.payload 0 8), start.spare := bit f.payload 8, start.dieIdGot := true }
    if failedSite f then (s.startFail 9).holdOff
    else if bit f.payload 9 then s.startFail 9 else s.afterDieId

/-- DIE_ID: link-local to a compute end, or with PROXY to its base end or guest port. -/
def execDieId (f : SbFrame) (s : State) : Host.Outcome State Fault Refusal :=
  done (if f.typ ≠ 2 then s
    else
      let h := s.receive f
      if !h.1 then h.2
      else if isLocal f then (if s.cls == .sc then h.2.takeDieId f else h.2.sbErr)
      else if !s.addressed f then h.2
      else if f.proxy && (s.cls == .sb || s.cls == .lg) then h.2.forwardDieId f
      else h.2.sbErr)

/-- A base end takes a revocation: it enters FENCED (R111, R358, R359). -/
def State.revoked (s : State) (f : SbFrame) : State :=
  if bf f.payload 16 48 ≠ s.start.farUid.toNat % 2 ^ 48 || !bit f.payload 9 || bit f.payload 8 then s.sbErr
  else
    let id : BitVec 8 := BitVec.ofNat 8 (bf f.payload 0 8)
    let n := 7 * s.tile + s.index
    let known := s.agent.revokedUids.any fun x => x.1 = s.start.farUid
    let s := s.modSite n fun x => { x with state := 4, unfenced := false }
    let s := if known then s else { s with agent.revokedUids := s.agent.revokedUids ++ [(s.start.farUid, id)] }
    let s := s.setProt 0x083C (pack 32 [(0, 1, 1), (8, 8, id.toNat)])
    s.enterFenced s.start.opened

/-- DIE_ID_REVOCATION: a DIE_ID frame with PROXY = 0 addressed to the base end itself. -/
def execDieIdRevocation (f : SbFrame) (s : State) : Host.Outcome State Fault Refusal :=
  done (if f.typ ≠ 2 || f.proxy || isLocal f || !s.addressed f then s
    else
      let h := s.receive f
      if !h.1 then h.2
      else if s.cls == .sb then h.2.revoked f else h.2.sbErr)

/-! ### Negotiation (R113, R114) -/

/-- Highest set bit of a RATES field, as the field with that bit alone. -/
def topRate (r : Nat) : Nat := if r.testBit 2 then 4 else if r.testBit 1 then 2 else if r.testBit 0 then 1 else 0

/-- RATES bit of the rate the port trained at. -/
def State.trainedRate (s : State) : Nat := if s.cls.isFibre then 4 else if s.clk.ratio = 40 then 2 else 1

/-- A received NEGOTIATE at work. -/
def State.negotiated (s : State) (p : BitVec 64) : State :=
  let farMax := bf p 11 3
  let farMin := bf p 14 3
  let g := min 3 farMax
  let rate := topRate ((BitVec.ofNat 4 (bf p 21 4)) &&& s.straps.ownRates).toNat
  if g < max 3 farMin || rate = 0 then (s.raise 0x12 (arg0 := farMax) (arg1 := farMin)).startFail 7
  else
    let s := { s with
      start.negGen := BitVec.ofNat 3 g, start.negRate := BitVec.ofNat 4 rate
      start.negFarClass := BitVec.ofNat 4 (bf p 17 4)
      start.negFarMax := BitVec.ofNat 3 farMax, start.negFarMin := BitVec.ofNat 3 farMin
      start.negFarFeat := BitVec.ofNat 3 (bf p 25 3), start.negValid := true }
    if rate ≠ s.trainedRate then
      -- the pair returns to step 7 at the new root ratio
      let s := octs.foldl (fun a b => a.forgetTrain b.val [4, 5, 6, 7]) s
      let s := octs.foldl (fun (a : State) b => (a.modShape 0 b fun x => { x with trained := false }).modShape 1 b
        fun x => { x with trained := false }) s
      let clear := fun (x : StartBraid) => { x with doneSent := false, doneGot := false, ok := false }
      { s with
        clk.ratio := if rate = 2 then 40 else 32
        start.trainGoGot := false, start.calSent := false, start.calGot := false
        start.txb := s.start.txb.map clear, start.rxb := s.start.rxb.map clear }.enterTrain
    else s.enterLash

/-- NEGOTIATE. -/
def execNegotiate (f : SbFrame) (s : State) : Host.Outcome State Fault Refusal :=
  done (s.takeTrain f 7 fun s => if s.start.negValid && s.start.st == .negotiate && s.aon.parkSpare then s else s.negotiated f.payload)

/-- SPARE_DIE_ID_TIMEOUT (R15). -/
def execSpareDieIdTimeout (s : State) : Host.Outcome State Fault Refusal :=
  done (if s.start.st == .negotiate && s.aon.parkSpare && s.start.spare then s.parkSpare else s)

/-- TRAIN_FRAME_REPEAT (R98). -/
def execTrainFrameRepeat (s : State) : Host.Outcome State Fault Refusal :=
  done (if s.start.failed || !s.sbRuns then s else s.start.repeats.foldl (fun a f => a.sendLink f.2) s)

end Sys2Proof.Machine
end

