-- ==== Sys2Proof/Machine/RegGate.lean ====
section
/-!
DEFINITION. How the register window answers an access (R95, R382 to R388, Tables 5.2 and 17.8 to 17.24): which offsets hold a
register, which blocks respond in the present state, and what becomes of a write that is not taken.
-/
namespace Sys2Proof.Machine

/-- What the window does with an access before any register's own rule. -/
inductive Gate where
  /-- the register answers -/
  | take
  /-- a write without all four byte enables (R384) -/
  | partialWrite
  /-- no register, or a block the class lacks (R385) -/
  | unmapped
  /-- the block does not respond in this state (R386) -/
  | blocked
  /-- OFF, where only three registers respond (R387) -/
  | off
  deriving DecidableEq, Repr

/-- An offset in a block of `len` bytes repeated per braid: its place in the block. -/
def perBraid (off base : Nat) : Nat := if base ≤ off && off < base + 0x800 then off % 0x100 else 0xFFF

/-- Offsets of the identity and status block (Table 17.9). The copies of R396 read zero in other classes. -/
def identReg (optical : Bool) (off : Nat) : Bool :=
  [0x0, 0x4, 0x10, 0x14, 0x30, 0x38, 0x3C, 0x40, 0x44, 0x58].contains off
    || (!optical && [0x20, 0x48, 0x50, 0x54].contains off)
    || (!optical && [0x60, 0x64, 0x68].contains off)

/-- Offsets that hold a register in a block of the class (Tables 17.9 to 17.24). A register whose fields the class lacks is there
and reads zero (R163, R385). -/
def regKnown (c : PortClass) (optical : Bool) (off : Nat) : Bool :=
  if off % 4 ≠ 0 then false
  else if off < 0x400 then identReg optical off
  else if 0xC000 ≤ off then [0xC000, 0xC004, 0xC008, 0xC00C, 0xC010].contains off
  else if optical then false
  else if off < 0x800 then inRun off 0x400 4 4 || off == 0x440
  else if off < 0x1000 then inRun off 0x800 4 19 || inRun off 0x880 4 6
  else if off < 0x1800 then
    [0x10, 0x14, 0x20, 0x24, 0x28].contains (perBraid off 0x1000) || isMapOvr off
  else if off < 0x2000 then [0x10, 0x14, 0x20, 0x24, 0x28, 0x2C, 0x30].contains (perBraid off 0x1800)
  else if off < 0x3000 then
    inRun off 0x2000 4 10 || inRun off 0x2040 4 7
  else if off < 0x4000 then inRun off 0x3000 4 4
  else if off < 0x5000 then inRun off 0x4000 4 11
  else if off < 0x6000 then
    inRun off 0x5000 4 5 || inRun off 0x5040 4 32 || off == 0x50C0 || inRun off 0x5400 4 256 || inRun off 0x5800 4 256
      || inRun off 0x5C00 4 128
  else if off < 0x7000 then c.hasRed && inRun off 0x6000 4 13
  else if off < 0x8000 then
    c.hasHitch && (inRun off 0x7000 4 10 || inRun off 0x7100 4 16 || inRun off 0x7200 4 13)
  else if off < 0x9000 then inRun off 0x8000 4 6 || isTvc off || isRuleReg off
  else if off < 0xA000 then inRun off 0x9000 4 15
  else if off < 0xB000 then inRun off 0xA000 4 10
  else inRun off 0xB000 4 7 || inRun off 0xB040 4 8

/-- A block the class has: its registers respond in some state (Table 17.8). -/
def blockPresent (c : PortClass) (optical : Bool) (off : Nat) : Bool :=
  if off < 0x400 then true
  else if 0xC000 ≤ off then off < 0xD000
  else if optical then false
  else if 0x6000 ≤ off && off < 0x7000 then c.hasRed
  else if 0x7000 ≤ off && off < 0x8000 then c.hasHitch
  else true

/-- Every block of the class responds: the port has entered OPEN since its pair reset (Table 5.2). -/
def State.allVisible (s : State) : Bool := s.start.opened || s.start.st == .fenced

/-- The block of an offset responds in the present state (Table 5.2, R49); none does while the main island is held in reset. -/
def State.responds (s : State) (off : Nat) (tap : Bool) : Bool :=
  if s.start.st == .reset || !s.aon.pairN || (!s.aon.mainGood && s.start.st != .park) then false
  else if s.allVisible || (tap && s.test.alone) || off < 0x400 then true
  else (0x800 ≤ off && off < 0x1000) && (s.cls == .lg || s.start.st == .lash)

/-- The registers that respond in OFF (R387). -/
def offReg (off : Nat) : Bool := off == 0 || off == 0x14 || off == 0xA004

/-- What the window does with an access. -/
def State.gate (s : State) (a : Access) (wr : Bool) : Gate :=
  let off := a.off.toNat
  if s.aon.pwr == .off && s.start.st == .park then (if offReg off && !wr then .take else .off)
  else if wr && !a.tap && a.be ≠ 0xF then .partialWrite
  else if !blockPresent s.cls s.isOptical off then .unmapped
  else if !s.responds off a.tap then .blocked
  else if !regKnown s.cls s.isOptical off then .unmapped
  else .take

/-- An access ends done, with the data of a read. -/
def State.accDone (s : State) (data : Reg := 0) : State := { s with glob.readData := data, glob.refusedAcc := false }

/-- An access ends refused: a read returns zero. -/
def State.accRefused (s : State) : State := { s with glob.readData := 0, glob.refusedAcc := true }

/-- A write refused and logged with a cause (R319). -/
def State.refuseWrite (s : State) (a : Access) (cause : Nat) : State :=
  (s.logViolation a a.off.toNat a.data cause).accRefused

/-- A write the gate does not pass. -/
def State.gateWrite (s : State) (a : Access) (g : Gate) : State :=
  match g with
  | .take => s
  | .partialWrite => { s with glob.partialCnt := s.glob.partialCnt + 1 }.accRefused
  | .unmapped => { s with glob.unmapped := s.glob.unmapped + 1 }.accDone
  | .blocked => s.refuseWrite a 3
  | .off => s.accRefused

/-- A read the gate does not pass. -/
def State.gateRead (s : State) (g : Gate) : State :=
  match g with
  | .unmapped => { s with glob.unmapped := s.glob.unmapped + 1 }.accDone
  | .take => s
  | _ => s.accRefused

/-- A write of one register by its own command: the gate, then its effect. -/
def State.regWrite (s : State) (a : Access) (act : State → State) : State :=
  match s.gate a true with
  | .take => (act s.accDone)
  | g => s.gateWrite a g

end Sys2Proof.Machine
end

