-- ==== Sys2Proof/Machine/Lash.lean ====
section
/-!
DEFINITION. The commands of lashing (R308 to R319): the writes of the lashing registers, the commit window, and the CONTROL
frames of a two-end lashing.
-/
namespace Sys2Proof.Machine

/-! ### Staging (R310, R311) -/

/-- A write of FX_LSH_SDATA: party A stages a value into the shadow of the register at SOFF. -/
def State.lashStage (s : State) (a : Access) : State :=
  if !s.isA a then s.refuseWrite a 4
  else if !protectedOff s.cls s.shadowOff then s.refuseWrite a 5
  else
    let off := s.shadowOff
    -- a fence change that a command staged is discarded by new staging of it (R231)
    let s := if off = 0x83C then s.lashTouched.fenceDone 0x0C s.lash.outcome.toNat else s.lashTouched
    s.stageValue off a.data

/-- LASH_STAGE. -/
def execLashStage (a : Access) (s : State) : Host.Outcome State Fault Refusal :=
  done (if a.off = 0x80C then s.regWrite a fun s => s.lashStage a else s)

/-- A write of FX_LSH_UNSTAGE: one offset, or all (Table 13.8). -/
def State.lashUnstage (s : State) (a : Access) : State :=
  if !s.isA a then s.refuseWrite a 4
  else
    let s := s.lashTouched
    let s := if bit a.data 16 || bf a.data 0 16 = 0x83C then s.fenceDone 0x0C s.lash.outcome.toNat else s
    { s with lash.staged := if bit a.data 16 then [] else tdel s.lash.staged (bf a.data 0 16) }

/-- LASH_UNSTAGE. -/
def execLashUnstage (a : Access) (s : State) : Host.Outcome State Fault Refusal :=
  done (if a.off = 0x814 then s.regWrite a fun s => s.lashUnstage a else s)

/-! ### Proposals (R312, R313) -/

/-- A write of FX_LSH_PROPOSE: the proposal opens and its digest is computed, or it is INVALID. An open one is superseded. -/
def State.lashPropose (s : State) (a : Access) : State :=
  if !s.isA a then s.refuseWrite a 4
  else
    let s := if s.lash.proposed.isSome then s.endLash 5 else s
    if s.proposalBad then
      (if s.lashBusy then { s with lash.outcome := 6 } else s.endLash 6)
    else { s with lash.proposed := some (a.data, a.srcDie, a.srcEp), lash.digestValid := false }

/-- LASH_PROPOSE. -/
def execLashPropose (a : Access) (s : State) : Host.Outcome State Fault Refusal :=
  done (if a.off = 0x818 then s.regWrite a fun s => s.lashPropose a else s)

/-- LASH_DIGEST_READY: the digest is computed and checked, DIGEST_VALID rises and the window starts. -/
def execLashDigestReady (s : State) : Host.Outcome State Fault Refusal :=
  done (match s.lash.proposed, s.lash.digestValid with
    | some p, false =>
      if s.proposalBad then s.endLash 6
      else { s with lash.digest := BitVec.ofNat 32 (s.lashDigest p.1), lash.digestValid := true, lash.windowAt := s.now }
    | _, _ => s)

/-! ### Commit, abort and the window (R314) -/

/-- A write of FX_LSH_COMMIT. -/
def State.lashCommit (s : State) (a : Access) : State :=
  match s.lash.proposed with
  | some p =>
    if p.2.1 = a.srcDie && p.2.2 = a.srcEp && !a.tap then s.endLash 0xB
    else if !s.isB a then s.refuseWrite a 4
    else if !s.lash.digestValid || a.data ≠ s.lash.digest then s.endLash 4
    else s.takeCommit
  | none => if s.isB a then s else s.refuseWrite a 4

/-- LASH_COMMIT. -/
def execLashCommit (a : Access) (s : State) : Host.Outcome State Fault Refusal :=
  done (if a.off = 0x820 then s.regWrite a fun s => (s.lashCommit a).portStep else s)

/-- A write of 1 to FX_LSH_ABORT by a party: an open proposal ends; the leader's commit is withdrawn; a follower that has sent
its offer, and an end that has switched, count it as late (R314, R318). -/
def State.lashAbort (s : State) (a : Access) : State :=
  let code := if s.isA a then 1 else 2
  if !s.isA a && !s.isB a then s.refuseWrite a 4
  else if !bit a.data 0 then s
  else if s.lash.proposed.isSome then s.endLash code
  else if s.lash.linkWait && s.leads then (s.withdraw code).endLash code
  else if s.lashBusy then { s with lash.lateAbort := s.lash.lateAbort + 1 }
  else s

/-- LASH_ABORT. -/
def execLashAbort (a : Access) (s : State) : Host.Outcome State Fault Refusal :=
  done (if a.off = 0x824 then s.regWrite a fun s => s.lashAbort a else s)

/-- LASH_WINDOW_EXPIRY. -/
def execLashWindowExpiry (s : State) : Host.Outcome State Fault Refusal :=
  done (if s.lash.proposed.isSome && s.lash.digestValid then s.endLash 3 else s)

/-! ### CONTROL frames (R316 to R318) -/

/-- A received LASH_OFFER is held; a newer one replaces it. -/
def execLashOffer (b : Fin 8) (p : NocFlit) (s : State) : Host.Outcome State Fault Refusal :=
  done (if s.ctlWaits b 0x40 p then
      let s := s.dropCtl b 0x40 p
      ({ s with lash.offer := some (BitVec.ofNat 32 (bf p 0 32), BitVec.ofNat 32 (bf p 32 32), s.now) }.tryMatch).portStep
    else s)

/-- A received LASH_SWITCH: the follower switches on the first, then the receive side of its braid does. -/
def State.takeSwitch (s : State) (b : Fin 8) : State :=
  let s := if s.lash.linkWait && !s.leads then s.lashSwitch else s
  if !s.lash.switching then s
  else { s with
    lash.swGot := setBf s.lash.swGot b.val 1 1
    lash.oldOn := setBf s.lash.oldOn b.val 1 0 }.lashStep

/-- LASH_SWITCH. -/
def execLashSwitch (b : Fin 8) (p : NocFlit) (s : State) : Host.Outcome State Fault Refusal :=
  done (if s.ctlWaits b 0x41 p then ((s.dropCtl b 0x41 p).takeSwitch b).portStep else s)

/-- A received LASH_WITHDRAW: the follower abandons its lashing, or drops a held offer. -/
def State.takeWithdraw (s : State) (cause : Nat) : State :=
  let s := { s with lash.offer := none }
  if s.lash.linkWait && !s.leads then s.endLash (if cause = 8 then 8 else 9) else s

/-- LASH_WITHDRAW. -/
def execLashWithdraw (b : Fin 8) (p : NocFlit) (s : State) : Host.Outcome State Fault Refusal :=
  done (if s.ctlWaits b 0x42 p then (s.dropCtl b 0x42 p).takeWithdraw (bf p 83 4) else s)

/-- LEADER_LINK_TIMEOUT: a commit with no far offer, or a far offer with no commit. -/
def execLeaderLinkTimeout (s : State) : Host.Outcome State Fault Refusal :=
  done (if !s.leads then s
    else if s.lash.linkWait then (s.withdraw 7).endLash 7
    else if s.lash.offer.isSome && !s.lash.switching then { s.withdraw 7 with lash.offer := none }
    else s)

/-- FOLLOWER_LINK_TIMEOUT. -/
def execFollowerLinkTimeout (s : State) : Host.Outcome State Fault Refusal :=
  done (if s.lash.linkWait && !s.leads then
      (s.endLash 7).raise 0x4A (code := 7) (arg0 := s.lash.link.toNat)
    else s)

/-! ### Parties (R309) -/

/-- A write of FX_LSH_PARTY_A or FX_LSH_PARTY_B: once, through test access, where no record was loaded. -/
def State.partyWrite (s : State) (a : Access) : State :=
  let isB := a.off = 0x834
  let v : Reg := a.data &&& 0x8003FFFF
  if bit s.lash.partySet (b2n isB) then s.refuseWrite a 1
  else if !a.tap then s.refuseWrite a 4
  else
    let s := { s with lash.partySet := setBf s.lash.partySet (b2n isB) 1 1 }
    if isB then { s with lash.partyB := v } else { s with lash.partyA := v }

/-- PARTY_WRITE. -/
def execPartyWrite (a : Access) (s : State) : Host.Outcome State Fault Refusal :=
  done (if a.off = 0x830 ∨ a.off = 0x834 then s.regWrite a fun s => s.partyWrite a else s)

end Sys2Proof.Machine
end

