-- ==== Sys2Proof/Machine/Bight.lean ====
section
/-!
DEFINITION. The commands of the bight modes (R116 to R118): a run written to FX_BIGHT_CTL, the exchange of B2, and the
pattern checkers.
-/
namespace Sys2Proof.Machine

/-- A write of FX_BIGHT_CTL: it starts a run, stops one, or moves the selection. While a run is on, MODE, PATTERN and BRAIDS
stay as they are (assumption log 46). -/
def State.writeBight (s : State) (v : Reg) (counts : List (Fin 8 × Nat × Nat × Nat)) : State :=
  let v := v &&& 0x3FFFFF
  if bit v 12 then
    if s.bight.active then { s with bight.ctl := setBf s.bight.ctl 13 9 (bf v 13 9) } else s.bightRun v
  else if s.bight.active then
    let cmd := s.bight.cmd
    let lock := s.bightLock
    let s := { s.bightStop counts with bight.ctl := v }
    match cmd with
    | some c => s.complete c.1.val c.2 0 s.bightErrors lock
    | none => s
  else { s with bight.ctl := v }

/-- BIGHT_RUN: `counts` are errors and bits by braid and strand that locked checkers have counted since their last report. -/
def execBightRun (a : Access) (counts : List (Fin 8 × Nat × Nat × Nat)) (s : State) : Host.Outcome State Fault Refusal :=
  done (if a.off = 0xC000 then s.regWrite a fun s => s.writeBight a.data counts else s)

/-- A received BIGHT_REQ: entering is refused where this end's own crossing request stands, where the braid is not trained at
one width, or where too few braids would stay in service; leaving ends the loop (R118). -/
def State.bightReq (s : State) (b : Fin 8) (enter : Bool) : State :=
  let own := bit s.bight.waiting b.val
  if enter then
    if bit (s.bight.serving ||| s.bight.asked) b.val then
      (if bit s.bight.serving b.val then s.sendBightAck b true false else s)
    else if (own && s.leads) || !s.oneWidth b || s.tooFew (BitVec.ofNat 8 (2 ^ b.val)) then s.sendBightAck b true true
    else
      let s := { s with bight.asked := setBf s.bight.asked b.val 1 1 }
      ((if own then s.bightDrop b else s).takeOut (BitVec.ofNat 8 (2 ^ b.val))).bightStep
  else
    let served := bit s.bight.serving b.val
    let asked := bit s.bight.asked b.val
    let s := { s.sendBightAck b false false with
      bight.serving := setBf s.bight.serving b.val 1 0, bight.asked := setBf s.bight.asked b.val 1 0 }
    if served then s.bightEnds b else if asked then s.putBack b else s

/-- A BIGHT frame of a phase that has been heard: its work, where the step allows it (R98). -/
def State.takeBight (s : State) (f : SbFrame) (phase : Nat) (work : State → State) : State :=
  if f.typ ≠ 3 ∨ trPhase f.payload ≠ phase ∨ !isLocal f then s
  else
    let h := s.hear f
    if !h.1 then h.2
    else if !h.2.phaseHere phase then h.2.sbErr
    else if h.2.start.failed then h.2 else work h.2

/-- BIGHT_REQ. -/
def execBightReq (f : SbFrame) (s : State) : Host.Outcome State Fault Refusal :=
  done (s.takeBight f 8 fun s => s.bightReq (trBraid f.payload) (bit f.payload 11))

/-- A received BIGHT_ACK. -/
def State.bightAck (s : State) (b : Fin 8) (enter refused : Bool) : State :=
  let s := { s with start.repeats := tdel s.start.repeats (8 * 8 + b.val) }
  if !enter || !bit s.bight.waiting b.val then s
  else if refused then s.bightDrop b
  else { s with bight.waiting := setBf s.bight.waiting b.val 1 0, bight.looped := setBf s.bight.looped b.val 1 1 }

/-- BIGHT_ACK. -/
def execBightAck (f : SbFrame) (s : State) : Host.Outcome State Fault Refusal :=
  done (s.takeBight f 9 fun s => s.bightAck (trBraid f.payload) (bit f.payload 11) (bit f.payload 12))

/-- The strand takes part in the run. -/
def State.checks (s : State) (b : Fin 8) (p : Nat) : Bool :=
  s.bight.active && bit s.bight.braids b.val && (s.bightStrands b).contains p

/-- The pattern of the run. -/
def State.bightTaps (s : State) : Nat × Nat := prbsTaps (bightPattern s.bight.ctl)

/-- CHECKER_LOCK: the last 64 bits are a stretch of the expected pattern. -/
def execCheckerLock (b : Fin 8) (seen : CheckerSeen) (s : State) : Host.Outcome State Fault Refusal :=
  let k := strandKey 1 b seen.p
  done (if s.checks b seen.p && !s.bight.locked.contains k && onPattern s.bightTaps 64 seen.bits.toNat then
      { s with
        bight.locked := s.bight.locked ++ [k]
        bight.chk := tput s.bight.chk k (stateBehind s.bightTaps 64 seen.bits.toNat) }
    else s)

/-- Errors of a window of 256 bits that follows `bits` bits behind a checker's state. -/
def State.windowErrors (s : State) (k bits : Nat) (window : BitVec 256) : Nat :=
  popCount 256 (prbsRun s.bightTaps 256 (prbsSkip s.bightTaps bits (tget 0 s.bight.chk k)) ^^^ window.toNat)

/-- CHECKER_LOCK_LOSS: errors and bits the checker counted since it locked or was last reported, and the window behind them; 64
errors in it lose the lock, fewer only count. -/
def execCheckerLockLoss (b : Fin 8) (p : Nat) (run : CheckerRun) (window : BitVec 256) (s : State) : Host.Outcome State Fault Refusal :=
  let k := strandKey 1 b p
  let e := s.windowErrors k run.bits window
  done (if !s.bight.locked.contains k then s
    else
      let s := s.bightCount k (run.errors + e) (run.bits + 256)
      if e ≥ 64 then
        { s with bight.locked := s.bight.locked.erase k, bight.losses := addSat s.bight.losses k 1 0xFFFF }
      else { s with bight.chk := tput s.bight.chk k (prbsSkip s.bightTaps (run.bits + 256) (tget 0 s.bight.chk k)) })

end Sys2Proof.Machine
end

