-- ==== Sys2Proof/Machine/CancelOps.lean ====
section
/-!
DEFINITION. Ending a running descriptor (Table 10.6): what a CANCEL, and DRAIN_LIMIT during a drain (R340), do to a command,
a reduction job or a hitch operation that has started.
-/
namespace Sys2Proof.Machine

/-- The key of a descriptor. -/
def descKey (r : Nat) (i : BitVec 32) : RingNo × BitVec 32 := (Fin.ofNat 64 r, i)

/-! ### Strand-function commands -/

/-- Requests of a braid and direction without those of a command. A receiving end keeps the request the far end still holds,
to abort it when it is prepared. -/
def State.dropRequests (s : State) (dir : Nat) (b : Fin 8) (k : RingNo × BitVec 32) : State :=
  s.modShape dir b fun x => { x with
    queue := if dir = 0 then x.queue.filter fun o => o.desc ≠ some k
      else x.queue.map fun o => if o.desc = some k then { o with desc := none, dropped := true } else o }

/-- The operation in progress of a braid and direction is that of a command. -/
def State.opOfCmd (s : State) (dir : Nat) (b : Fin 8) (k : RingNo × BitVec 32) : Option StrandOp :=
  match (s.shape dir b).op with
  | some o => if o.desc = some k then some o else none
  | none => none

/-- End a strand-function command: its operation aborts with ABORT_CODE 0x6 and the command completes CANCELLED. A committed
operation has no abort (R129): it runs on to its switch, and the command keeps its own status (assumption log 47). -/
def State.cancelStrand (s : State) (k : RingNo × BitVec 32) (d : Desc) : State :=
  let dir := dDir d
  let b := dBraid d
  match s.opOfCmd dir b k with
  | some o =>
    if o.switchSeq.isSome then s
    else
      let s := s.modShape dir b fun x => { x with op := x.op.map fun o => { o with desc := none } }
      (if dir = 0 then s.abortTx b 6 true else s.abortRx b 6 true).complete k.1.val k.2 1 0 6
  | none => (s.dropRequests dir b k).complete k.1.val k.2 1 0 6

/-! ### Calibration and scans -/

/-- The running calibration of a braid is one a command still names. -/
def State.calRuns (s : State) (j : CalJob) (b : Fin 8) : Option CalRun :=
  match s.cal.run.get b with
  | some r => if j.left.contains (b.val, r.strand) then some r else none
  | none => none

/-- End a CALIBRATE: strands not begun leave the queue unless another command names them; a running one ends at its present
step as for a missing CAL_STEP_DONE. -/
def State.cancelCal (s : State) (k : RingNo × BitVec 32) : State :=
  match s.cal.jobs.find? fun j => (j.ring, j.index) = k with
  | none => s.complete k.1.val k.2 1
  | some j =>
    let s := { s with cal.jobs := s.cal.jobs.erase j }
    let others := fun q => s.cal.jobs.any fun x => x.left.contains q
    let s := { s with cal.want := Oct.ofFn fun b =>
      (s.cal.want.get b).filter fun p => !j.left.contains (b.val, p) || others (b.val, p) }
    let s := octs.foldl (fun a b =>
      match a.calRuns j b with
      | some r => if r.phase = .steps then a.endSteps b 3 meas0 else a
      | none => a) s
    s.complete k.1.val k.2 1 j.oks j.worst

/-- End an EYE_SCAN or PRBS_TEST; what a PRBS_TEST has counted so far only its checker knows (assumption log 4). -/
def State.cancelScan (s : State) (k : RingNo × BitVec 32) : State :=
  match s.cal.scans.find? fun j => (j.ring, j.index) = k with
  | none => s.complete k.1.val k.2 1
  | some j =>
    let s := { s with
      cal.scans := s.cal.scans.erase j
      cal.waiting := s.cal.waiting.map fun (w : QualWait) => if w.scan = some k then { w with scan := none } else w }
    if j.prbs then
      let e := s.free
      let n := e.2.free
      n.2.complete k.1.val k.2 1 e.1 n.1
    else s.complete k.1.val k.2 1 j.posted

/-! ### The others -/

/-- End a BIGHT command: the run stops, its counts so far in RESULT. -/
def State.cancelBight (s : State) (k : RingNo × BitVec 32) : State :=
  if s.bight.cmd = some k then
    let lock := s.bightLock
    let s := s.bightStop []
    s.complete k.1.val k.2 1 s.bightErrors lock
  else s.complete k.1.val k.2 1

/-- End a park that still drains, as RESUME does (R231, R340): a PARK command completes CANCELLED, the drain ends at once and
the cap is computed anew; one that the budget arithmetic would park again becomes ACTIVE until the next budget. -/
def State.endPark (s : State) : State :=
  let s := { s.parkDone 1 with pwr.parkCmd := none, pwr.released := true }
  let s := if s.pwr.draining == .park then s.stopDrain else s
  let c := s.ownCap
  (s.setCap (if c.1 == .park || c.1 == .off then (.active, s.cls.wmax) else c)).portStep

/-- Withdraw a staged fence change (Table 10.6). -/
def State.cancelFence (s : State) (k : RingNo × BitVec 32) : State :=
  let s := { s with lash.fenceCmds := s.lash.fenceCmds.erase k }
  ({ s.lashTouched with lash.staged := tdel s.lash.staged 0x83C }).complete k.1.val k.2 1

/-- End a HT_WAIT: its waiter entry goes without a wake. -/
def State.cancelWait (s : State) (k : RingNo × BitVec 32) : State :=
  { s with ht.waiters := s.ht.waiters.filter fun w => w.desc ≠ some k }.complete k.1.val k.2 1

/-- End one started descriptor: the CANCEL's DETAIL, and the state. A RETRAIN runs on. -/
def State.cancelRunning (s : State) (k : RingNo × BitVec 32) (d : Desc) : Nat × State :=
  match dOpcode d with
  | 0x01 => if s.link.retrainCmds.any (fun c => (c.1, c.2.1) = k) || s.link.admits.any (fun c => (c.1, c.2.1) = k) then (3, s)
      else (0, s.complete k.1.val k.2 1)
  | 0x02 | 0x03 | 0x04 | 0x05 => (0, s.cancelStrand k d)
  | 0x06 => (0, s.cancelCal k)
  | 0x07 | 0x08 => (0, s.cancelScan k)
  | 0x09 => (0, s.cancelBight k)
  | 0x0A => (0, if s.pwr.parkCmd.any (fun c => (c.1, c.2.1) = k) then s.endPark else s.complete k.1.val k.2 1)
  | 0x0B => (0, { s with pwr.resumeCmds := s.pwr.resumeCmds.filter (· ≠ k) }.complete k.1.val k.2 1)
  | 0x0E | 0x0F => (0, s.cancelFence k)
  | 0x20 =>
    match s.red.jobs.find? fun j => (j.2.ring, j.2.index) = k with
    | some j => (0, s.cancelJob j.1)
    | none => (0, s.complete k.1.val k.2 1)
  | 0x35 | 0x36 => (0, s.cancelWait k)
  | 0x0D => (0, { s with rings.cancels := s.rings.cancels.filter fun j => (j.ring, j.index) ≠ k }.complete k.1.val k.2 1)
  | _ => (0, s.complete k.1.val k.2 1)

/-- Every started descriptor of the port but RETRAIN and PARK. -/
def State.runningDescs (s : State) : List ((RingNo × BitVec 32) × Desc) :=
  s.rings.ring.flatMap fun p =>
    (p.2.descs.filter fun e => (e.st == .started || e.st == .running) && dOpcode e.desc != 0x01 && dOpcode e.desc != 0x0A).map
      fun e => (descKey p.1 e.index, e.desc)

/-- DRAIN_LIMIT ends running descriptors as under CANCEL (R340). -/
def State.endRunning (s : State) : State := s.runningDescs.foldl (fun a x => (a.cancelRunning x.1 x.2).2) s

end Sys2Proof.Machine
end

