-- ==== Sys2Proof/Machine/Rings.lean ====
section
/-!
DEFINITION. The commands of the rings (R219 to R242): doorbell lines, descriptors, shadow lines, completion entries,
message-signalled writes, and the states of a ring.
-/
namespace Sys2Proof.Machine

/-! ### Doorbell lines (R224) -/

/-- The port takes no notification while it is in PARK (R224). -/
def State.ringsAsleep (s : State) : Bool := s.start.st == .park

/-- DOORBELL_NOTIFICATION. -/
def execDoorbellNotification (k : Fin 8) (s : State) : Host.Outcome State Fault Refusal :=
  done (if s.ringsAsleep then s
    else match (s.rings.line.get k).st with
      | .unused => s
      | .watching => s.watchRead k
      | .reading | .retrying => s.modLine k fun l => { l with pending := true })

/-- A watch read failed: reissued after 1 µs, or at the third failure in a row every ring of the line halts. -/
def State.watchFailed (s : State) (k : Fin 8) : State :=
  let s := s.modLine k fun l => { l with fails := l.fails + 1 }
  if (s.rings.line.get k).fails = 3 then (s.lineRings k).foldl (fun a r => a.haltRing r 4 0) s
  else s.modLine k fun l => { l with st := .retrying }

/-- A watch read came: its slots are applied to the line's rings (R225). -/
def State.watchTaken (s : State) (k : Fin 8) (data : BitVec 512) : State :=
  let s := s.modLine k fun l => { l with fails := 0 }
  let s := (s.lineRings k).foldl (fun a r => a.applySlot r (BitVec.ofNat 32 (bf data (64 * (a.ring r).dbSlot) 32))) s
  if (s.rings.line.get k).pending then (s.modLine k fun l => { l with pending := false }).watchRead k
  else s.modLine k fun l => { l with st := .watching }

/-- WATCH_READ_RESPONSE. -/
def execWatchReadResponse (k : Fin 8) (data : BitVec 512) (err : Bool) (s : State) : Host.Outcome State Fault Refusal :=
  done (if (s.rings.line.get k).st == .reading then (if err then s.watchFailed k else s.watchTaken k data) else s)

/-- WATCH_READ_RETRY. -/
def execWatchReadRetry (k : Fin 8) (s : State) : Host.Outcome State Fault Refusal :=
  done (if s.clocked && (s.rings.line.get k).st == .retrying then s.watchRead k else s)

/-- DOORBELL_POLL: POLL zero means none. -/
def execDoorbellPoll (s : State) : Host.Outcome State Fault Refusal :=
  done (if bf s.rings.ctl 0 10 = 0 ∨ s.ringsAsleep ∨ !s.clocked then s
    else (octs.filter fun k => (s.rings.line.get k).st == .watching).foldl State.watchRead s)

/-- Watch reads when the port leaves PARK (R224). -/
def State.wakeLines (s : State) : State :=
  (octs.filter fun k => !(s.lineRings k).isEmpty).foldl (fun a k => (a.modLine k fun l => { l with pending := false }).watchRead k) s

/-! ### Descriptors (R228, R229) -/

/-- A fetched line is checked: SEQ, then the checks of R228. -/
def State.takeDesc (s : State) (r : RingNo) (i : BitVec 32) (e : RingDesc) (data : Desc) : State :=
  let s := s.modDesc r.val i fun e => { e with desc := data }
  if dSeq data ≠ i.toNat % 65536 then
    if e.rereads < 3 then s.modDesc r.val i fun e => { e with st := .rereading, rereads := e.rereads + 1 }
    else
      let s := { s.modDesc r.val i (fun e => { e with st := .ready }) with rings.staleDesc := s.rings.staleDesc + 1 }
      (s.consume r.val).completeUnstarted r.val i 0x08
  else
    let s := (s.modDesc r.val i fun e => { e with st := .ready }).consume r.val
    if e.marked then s.completeUnstarted r.val i 0x01
    else match s.descCheck r.val data with
      | some status => s.completeUnstarted r.val i status
      | none => s

/-- DESCRIPTOR_FETCH_RESPONSE: a response to a ring that has left RUNNING is not applied to it (R241). -/
def execDescriptorFetchResponse (r : RingNo) (i : BitVec 32) (data : Desc) (err : Bool) (s : State) :
    Host.Outcome State Fault Refusal :=
  done (match s.desc r.val i with
    | none => s
    | some e =>
      if e.st != .fetching || (s.ring r.val).st != .running then s
      else if err then
        ((s.modDesc r.val i fun e => { e with st := .ready, desc := data }).consume r.val).completeUnstarted r.val i 0x09
      else s.takeDesc r i e data)

/-- DESCRIPTOR_REREAD. -/
def execDescriptorReread (r : RingNo) (i : BitVec 32) (s : State) : Host.Outcome State Fault Refusal :=
  done (match s.desc r.val i with
    | some e =>
      if s.clocked && e.st == .rereading && (s.ring r.val).st == .running then
        (s.ringMem ⟨.descFetch, 0, s.ringOwner r.val, BitVec.ofNat 52 ((s.ring r.val).entryAddr i), 64, 0, false, r.val, i.toNat⟩).modDesc
          r.val i fun e => { e with st := .fetching }
      else s
    | none => s)

/-- The target of a descriptor can accept it (R229): a strand-function command needs room in its braid's request queue,
a REDUCE a free job slot. -/
def State.targetReady (s : State) (d : Desc) : Bool :=
  if 2 ≤ dOpcode d && dOpcode d ≤ 5 then (s.shape (dDir d) (dBraid d)).queue.length < 4
  else if dOpcode d = 0x20 then s.red.jobs.length < 32
  else true

/-- The oldest unstarted descriptor of a ring. -/
def Ring.head (g : Ring) : Option RingDesc := g.descs.find? fun e => e.st != .started && e.st != .running

/-- The ring has a descriptor the dispatcher may start. -/
def State.ringReady (s : State) (r : Nat) : Bool :=
  match (s.ring r).head with
  | some e => s.startable r e && s.targetReady e.desc
  | none => false

/-- Start the head of a ring. -/
def State.startHead (s : State) (r : Nat) : State :=
  match (s.ring r).head with
  | some e => ((s.reserve r).modDesc r e.index fun x => { x with st := .started }).fetchMore 8 r
  | none => s

/-- Complete the descriptors that wait only for a slot: those that failed a check and those a CANCEL marked. -/
def State.settleUnstarted (s : State) (r : Nat) : State :=
  ((s.ring r).descs.filter fun e => e.st == .ready && (e.bad.isSome || e.marked)).foldl
    (fun a e => if a.slotFree r then a.completeUnstarted r e.index (e.bad.getD 1) else a) s

/-- One PCLK of the dispatcher for the rings of one kind: the ring started, and the pointer after it. -/
def State.dispatchKind (s : State) (kind ptr : Nat) : State × Nat :=
  let s := (s.ringsOf kind).foldl State.settleUnstarted s
  match roundRobin 64 ptr fun r => (s.ring r).enabled && (s.ring r).kind == kind && s.ringReady r with
  | some r => (s.startHead r, (r + 1) % 64)
  | none => (s, ptr)

/-- One PCLK of the dispatcher: command, hitch administration, reduction (R229). -/
def State.dispatch (s : State) : State :=
  let a := s.dispatchKind 0 s.rings.ptrCmd
  let b := a.1.dispatchKind 2 s.rings.ptrHit
  let c := b.1.dispatchKind 1 s.rings.ptrRed
  { c.1 with rings.ptrCmd := a.2, rings.ptrHit := b.2, rings.ptrRed := c.2 }

/-- DESCRIPTOR_DISPATCH. -/
def execDescriptorDispatch (s : State) : Host.Outcome State Fault Refusal :=
  done (if s.clocked then s.dispatch else s)

/-! ### Shadow lines (R226) -/

/-- SHADOW_WRITE_DUE. -/
def execShadowWriteDue (k : Fin 8) (s : State) : Host.Outcome State Fault Refusal :=
  done (if s.clocked && (s.rings.line.get k).dirtyAt.isSome then s.writeShadow k else s)

/-- Issue the message-signalled writes of a ring whose shadow write is visible. -/
def State.issueMsi (s : State) (r : Nat) : State :=
  let n := (s.ring r).msiPend
  (List.replicate n ()).foldl (fun a _ => a.requestMsi r) (s.modRing r fun g => { g with msiPend := 0 })

/-- SHADOW_WRITE_RESPONSE: an error halts every ring of the line; else message-signalled writes it covers go out. -/
def execShadowWriteResponse (k : Fin 8) (err : Bool) (s : State) : Host.Outcome State Fault Refusal :=
  done (if (s.rings.line.get k).shWait = 0 then s
    else
      let s := s.modLine k fun l => { l with shWait := l.shWait - 1 }
      if err then (s.lineRings k).foldl (fun a r => a.haltRing r 5 0) s
      else if (s.rings.line.get k).shWait = 0 then (s.lineRings k).foldl State.issueMsi s else s)

/-! ### Completion entries (R233 to R235) -/

/-- The 256 bits of a completion entry (Table 10.7). -/
def cplEntry (e : CplEntry) (phase : Nat) : Nat :=
  packNat [(0, 1, phase), (1, 6, e.ring.val), (8, 8, e.status), (16, 8, e.opcode), (32, 32, e.index.toNat),
    (64, 32, e.user.toNat), (96, 64, e.result.toNat), (160, 32, e.detail.toNat), (192, 48, e.ts.toNat)]

/-- A completion ring takes its oldest FIFO entry, where it runs and has a free entry; the slot is released. -/
def State.writeCpl (s : State) (c : Nat) : State :=
  let g := s.ring c
  if g.st != .running || g.kind != 3 || g.full then s
  else match s.rings.fifo.find? fun e => e.cplRing.val = c with
    | none => s
    | some e =>
      let s := { s with rings.fifo := s.rings.fifo.erase e }
      (s.writeEntry c (cplEntry e (g.phase g.portIdx)) (g.msiEn && e.msi)).modRing c fun g => { g with slots := g.slots - 1 }

/-- COMPLETION_WRITE. -/
def execCompletionWrite (c : RingNo) (s : State) : Host.Outcome State Fault Refusal :=
  done (if s.clocked then s.writeCpl c.val else s)

/-- Take the acknowledgement of one outstanding entry write: an entry written before it and not yet acknowledged takes
over the message-signalled writes it asked for, since those wait until the producer index covers it. -/
def ackWrite (i : BitVec 32) : List (BitVec 32 × Nat) → List (BitVec 32 × Nat)
  | a :: b :: l => if b.1 = i then (a.1, a.2 + b.2) :: l else a :: ackWrite i (b :: l)
  | l => l

/-- An acknowledged entry write: the visible index covers every entry acknowledged in order (R226). -/
def State.entryAcked (s : State) (r : Nat) (i : BitVec 32) : State :=
  match (s.ring r).writes with
  | [] => s
  | (j, n) :: l =>
    if j = i then
      (s.modRing r fun g => { g with
        writes := l
        visible := match l with
          | [] => g.portIdx
          | x :: _ => x.1
        msiWait := g.msiWait + n }).indexMoved r
    else s.modRing r fun g => { g with writes := ackWrite i g.writes }

/-- ENTRY_WRITE_RESPONSE. -/
def execEntryWriteResponse (r : RingNo) (i : BitVec 32) (err : Bool) (s : State) : Host.Outcome State Fault Refusal :=
  done (if (s.ring r.val).st == .running && (s.ring r.val).writes.any (fun w => w.1 = i) then
      (if err then s.haltRing r.val 3 i.toNat else s.entryAcked r.val i)
    else s)

/-- MSI_HOLDOFF_EXPIRY: the merged write is issued. -/
def execMsiHoldoffExpiry (r : RingNo) (s : State) : Host.Outcome State Fault Refusal :=
  done (if s.clocked && (s.ring r.val).msiHold then s.sendMsi r.val else s)

/-- MSI_WRITE_RESPONSE: an error is counted and the write is not retried. -/
def execMsiWriteResponse (_r : RingNo) (err : Bool) (s : State) : Host.Outcome State Fault Refusal :=
  done (if err then { s with rings.msiFail := s.rings.msiFail + 1 } else s)

/-! ### Ring states (R241, Table 10.11) -/

/-- The configuration code of the first check of Table 10.10 that an enable fails, in the order of the codes. -/
def State.enableFails (s : State) (r : Nat) (g : Ring) : Option Nat :=
  let owner := s.ringOwner r
  let l := s.rings.line.get g.dbLine
  let others := (s.lineRings g.dbLine).filter (· ≠ r)
  if g.kind > 4 ∨ bf g.cfg 4 5 < 6 ∨ 16 < bf g.cfg 4 5 then some 1
  else if (g.kind = 0 ∨ g.kind = 4) ∧ owner ≠ 0 then some 2
  else if others.any fun q => (s.ring q).dbSlot == g.dbSlot then some 3
  else if others.any fun q => s.ringOwner q != owner then some 4
  else if g.isSub ∧ !((s.ring g.cplRing).enabled && (s.ring g.cplRing).kind == 3 && s.ringOwner g.cplRing == owner) then some 5
  else if g.kind = 4 ∧ !(s.ringsOf 4).isEmpty then some 6
  else if g.kind = 3 ∧ ((s.ringsOf 3).map fun q => (s.ring q).share).sum + g.share > 256 then some 7
  else if lineAddr l.dbLo l.dbHi = 0 ∨ lineAddr l.shLo l.shHi = 0 then some 0xA
  else if g.kind = 3 ∧ g.share = 0 then some 0xB
  else none

/-- Started descriptors that complete into a ring: each holds a slot of it. -/
def State.slotsOwed (s : State) (c : Nat) : Nat :=
  ((List.range 64).map fun q => if (s.ring q).isSub && (s.ring q).cplRing == c then
    ((s.ring q).descs.filter fun e => e.st == .started || e.st == .running).length else 0).sum

/-- ENABLE written 1 to a disabled ring. -/
def State.enableRing (s : State) (r : Nat) (v : Reg) : State :=
  let v := v &&& 0x0FFFFFFF
  let g := { s.ring r with cfg := setBf v 0 1 0 }
  match s.enableFails r g with
  | some code => (s.modRing r fun _ => g).cfgRefuse r code
  | none =>
    let first := (s.lineRings g.dbLine).isEmpty
    let s := s.modRing r fun _ => { g with
      cfg := v, st := .running, haltCode := 0, portIdx := 0, swIdx := 0, visible := 0, shadowed := 0, fetchIdx := 0, descs := [], toCancel := []
      slots := if g.kind = 3 then s.slotsOwed r else 0
      writes := [], msiWait := 0, msiPend := 0, msiHold := false, msiLast := none }
    let s := { s with rings.cancelled := s.rings.cancelled.filter fun t => t.1.val ≠ r }
    if first then (s.modLine g.dbLine fun l => { l with pending := false }).watchRead g.dbLine else s

/-- A ring becomes DISABLED: its ENABLE reads 0. -/
def State.ringOff (s : State) (r : Nat) : State :=
  (s.modRing r fun g => { g with st := .disabled, haltCode := 0, cfg := setBf g.cfg 0 1 0 }).leaveLine (s.ring r).dbLine

/-- Fetched descriptors that have not started complete CANCELLED; where their completion ring no longer runs, their
entries are lost and counted (R219). -/
def State.cancelFetched (s : State) (r : Nat) : State :=
  ((s.ring r).descs.filter fun e => e.st == .ready || e.st == .rereading).foldl (fun a e =>
    if (a.ring (a.ring r).cplRing).st == .running then a.completeUnstarted r e.index (e.bad.getD 1)
    else { a.modRing r (fun g => { g with descs := g.descs.filter fun x => x.index ≠ e.index }) with
      rings.cplDiscarded := a.rings.cplDiscarded + 1 }) s

/-- ENABLE written 0 to an enabled ring. -/
def State.disableRing (s : State) (r : Nat) : State :=
  let g := s.ring r
  if g.isSub then
    if g.st == .draining then s
    else
      let s := s.modRing r fun g => { g with st := .draining }
      ((s.cancelFetched r).drainedRing r).leaveLine g.dbLine
  else if g.kind = 3 then
    if g.st == .running && (List.range 64).any (fun q => (s.ring q).enabled && (s.ring q).isSub && (s.ring q).cplRing == r) then
      s.cfgRefuse r 9
    else (s.discardFifo r).ringOff r
  else s.ringOff r

/-- A write of FX_RINGn_CFG (R241, R243). -/
def State.writeRingCfg (s : State) (r : Nat) (v : Reg) : State :=
  let g := s.ring r
  if g.enabled then
    if !bit v 0 && setBf v 0 1 1 &&& 0x0FFFFFFF == g.cfg then s.disableRing r
    else
      let s := s.cfgRefuse r 8
      if bit v 0 then s else s.disableRing r
  else if bit v 0 then s.enableRing r v
  else s.modRing r fun g => { g with cfg := v &&& 0x0FFFFFFF }

/-- RING_ENABLE: a write of FX_RINGn_CFG with ENABLE 1, once the rings block responds (R95). -/
def execRingEnable (r : RingNo) (v : Reg) (s : State) : Host.Outcome State Fault Refusal :=
  done (if s.start.opened then s.writeRingCfg r.val (setBf v 0 1 1) else s)

/-- RING_DISABLE: a write of FX_RINGn_CFG with ENABLE 0 and its other fields as they stand. -/
def execRingDisable (r : RingNo) (s : State) : Host.Outcome State Fault Refusal :=
  done (if s.start.opened then s.writeRingCfg r.val (setBf (s.ring r.val).cfg 0 1 0) else s)

end Sys2Proof.Machine
end

