-- ==== Sys2Proof/Machine/ResetOps.lean ====
section
/-!
DEFINITION. Losing and regaining the main island: what a pair reset and OFF clear (R65, R391), how an exit from PARK goes on
(R342 to R344), and when a paired reset is asked for (R53, R68, R69).
-/
namespace Sys2Proof.Machine

/-- Quarantined strands outlive a reset of the main island, with those under test and those of a retired braid: a start leaves
them QUARANTINED (R137, R138; DEDUCED, assumption log 64). -/
def keptStrands (t : Tbl Strand) : Tbl Strand :=
  t.filterMap fun e =>
    if e.2.st == .quarantined || e.2.st == .testing || (e.2.st == .braidRetired && e.2.prev == .quarantined) then
      some (e.1, { strand0 with st := .quarantined, code := e.2.code })
    else none

/-- The main island at its reset values: the AON island, the test logic, the die's own inputs, what belongs to the hub die and
the quarantined strands stay. -/
def State.islandReset (s : State) : State :=
  let r := State.resetAs s.straps
  let r := { r with link.strands := keptStrands s.link.strands }
  { r with
    pending := s.pending, aon := s.calReset.aon, test := s.test, agent := s.agent, out := s.out, freeCtr := s.freeCtr
    clk := { r.clk with now := s.clk.now, tsVal := s.clk.tsVal }
    start := { r.start with st := .ident } }

/-- A paired reset of this end is asked for or running (R53, R68). -/
def State.resetGoes (s : State) : Bool := !s.aon.reqN || s.start.reqSent || s.start.reqDrain

/-- rst_req_n falls, with the CAUSE that FX_RSTCAUSE shows from now on (R53, R69). -/
def State.faultReset (s : State) (cause : BitVec 4) : State := { s.withholdReset with aon.cause := cause }

/-- The block is in PARK or OFF. -/
def State.asleep (s : State) : Bool := s.start.st == .park && (s.aon.pwr == .park || s.aon.pwr == .off)

/-- The main island is asked for power on the way out of PARK or OFF; coincident events make one exit (Table 14.8). -/
def State.startExit (s : State) : State :=
  if !s.asleep || s.aon.exiting then s
  else { s.switchOff with aon.mainOn := true, aon.exiting := true, aon.parkDur := none, aon.swTimeoutRaised := false }

/-- pm_resume and DURATION release a PARK or OFF of the last budget and any PARK command (R342). -/
def State.releaseCap (s : State) : State :=
  { s with pwr.released := true, pwr.parkCmd := none }.recap

/-- A braid begins the training of an exit from PARK; a retired one stays so (Table 14.5 step 4). -/
def State.exitBraid (s : State) (b : Fin 8) : State :=
  if (s.shape 0 b).retired && (s.shape 1 b).retired then s
  else
    let s := (s.modShape 0 b fun x => { x with trained := false }).modShape 1 b fun x => { x with trained := false }
    let s := s.modTx b fun t => { t with
      ladder := if t.ladder == .retired then .retired else .retraining, farXon := 0, ackIn := [], owe := [] }
    s.beginTraining b 0

/-- The root has relocked in an exit from PARK: fibre trims take their live codes and every braid trains. -/
def State.exitTrain (s : State) : State :=
  let s := if s.cls.isFibre then
      octs.foldl (fun a b => (List.range 5).foldl (fun (c : State) p =>
        let c := c.modTrim 0 b p fun t => { t with otx := c.liveTrim 0 b p }
        c.modTrim 1 b p fun t => { t with orx := c.liveTrim 1 b p }) a) s
    else s
  octs.foldl State.exitBraid s

/-- A boundary noted while parked closes its epoch now (R325). -/
def State.closeNoted (s : State) : State :=
  match s.mtr.noted with
  | some t => { s.closeEpoch 0 t.toNat with mtr.noted := none, mtr.next := s.nextBoundary s.clk.tsc.toNat }
  | none => s

/-- One braid at the end of an exit: UP where it trained, else retrained under R185. -/
def State.exitEnd (s : State) (b : Fin 8) : State :=
  if (s.shape 0 b).retired && (s.shape 1 b).retired then s
  else if (s.training b).phase == .trained then
    if (s.shape 0 b).retired then s
    else (s.modShape 0 b fun x => { x with trained := true }).modTx b fun t => { t with ladder := .up }
  else s.startRetrain b

/-- Wait timeouts resume on the exit from PARK: they did not advance in it (R299). -/
def State.resumeWaits (s : State) : State :=
  match s.aon.parkAt with
  | some t => { s with
      aon.parkAt := none
      ht.waiters := s.ht.waiters.map fun w => { w with since := w.since + (s.now - t) } }
  | none => s

/-- Both ends have trained: credits are initialised, lines are read again, the pair target is applied (Table 14.5 step 5). A
spare pair waits in NEGOTIATE. -/
def State.exitDone (s : State) : State :=
  let s := { s with
    aon.exiting := false, pwr.wakeDrive := false
    sb.watchAt := if s.sb.watchOff then some (s.now + us 20) else none
    start.st := if s.aon.parkSpare then .negotiate else .openSt }
  let s := { s with aon.pwr := s.awakeState }.resumeWaits
  let s := octs.foldl State.exitEnd s
  if s.start.st != .openSt then s
  else
    let s := s.closeNoted
    let s := if s.noc.initDone then s.returnCredits else if s.clk.nclkUp && !s.noc.crdInit then s.startCreditInit else s
    let s := s.wakeLines
    let s := s.capAtOpen
    let t := s.pairTarget
    (s.applyTarget t.1 t.2).portStep

/-- Whether a block forwards the reference current (Table 2.16). -/
def State.forwardsIref (s : State) : Bool :=
  match s.cls with
  | .sb | .lh | .lg => true
  | .fib => !s.isOptical
  | _ => false

end Sys2Proof.Machine
end

