-- ==== Sys2Proof/Machine/Power.lean ====
section
/-!
DEFINITION. The commands of the power states (R331 to R348): budgets and ramps, the frames of the pair target, DOZE and its
wakes, the drain's limits, the exits from PARK and OFF, and the belay's expiry.
-/
namespace Sys2Proof.Machine

/-! ### PM_BUDGET and PM_RAMP (R331, Table 14.3) -/

/-- The message comes from tenant 0 of the port's own die or the hub. -/
def State.pmSource (s : State) (f : NocFlit) : Bool :=
  flitTenant f == 0 && (flitSrcDie f == s.ownDie.toNat || flitSrcDie f == 0)

/-- SEQ is after the last taken, or the sequence restarts. -/
def seqTakes (last : Option (BitVec 16)) (seq : BitVec 16) (resync : Bool) : Bool :=
  resync || match last with
    | none => true
    | some q => seqBefore q seq

/-- A discarded message. -/
def State.pmDrop (s : State) : State := { s with pwr.pmDrop := s.pwr.pmDrop + 1 }

/-- A PM_BUDGET taken at the port's endpoint. -/
def State.pmBudget (s : State) (f : NocFlit) : State :=
  let st := payBits f 16 3
  let seq := BitVec.ofNat 16 (payBits f 32 16)
  let reserved := payBits f 26 6 ≠ 0 ∨ payBits f 48 464 ≠ 0 ∨ st = 1 ∨ st > 4
  if !s.pmSource f || reserved || !seqTakes s.pwr.budSeq seq (payBits f 25 1 == 1) then s.pmDrop
  else
    ({ s with
      pwr.budget := payBits f 0 16, pwr.budState := st, pwr.budWidth := payBits f 19 6, pwr.budSeq := some seq
      pwr.released := false }.recap).portStep

/-- PM_BUDGET. -/
def execPmBudget (f : NocFlit) (s : State) : Host.Outcome State Fault Refusal :=
  done (if s.isTaken false f && flitVc f == 6 && flitType f == 0x3C then (s.untake false f).pmBudget f else s)

/-- A PM_RAMP taken at the port's endpoint. -/
def State.pmRamp (s : State) (f : NocFlit) : State :=
  let seq := BitVec.ofNat 16 (payBits f 16 16)
  let reserved := payBits f 10 6 ≠ 0 ∨ payBits f 32 480 ≠ 0 ∨ 256 < payBits f 0 9
  if !s.pmSource f || reserved || !bit s.pwr.ctl 22 || !seqTakes s.pwr.rampSeq seq (payBits f 9 1 == 1) then s.pmDrop
  else ({ s with pwr.level := payBits f 0 9, pwr.rampSeq := some seq }.recap).portStep

/-- PM_RAMP. -/
def execPmRamp (f : NocFlit) (s : State) : Host.Outcome State Fault Refusal :=
  done (if s.isTaken false f && flitVc f == 6 && flitType f == 0x3D then (s.untake false f).pmRamp f else s)

/-! ### PWR_CAP and PWR_GO (R333) -/

/-- A CONTROL frame of the power exchange is taken out of its FIFO and acted on. -/
def State.withCtl (s : State) (b : Fin 8) (op : Nat) (p : NocFlit) (work : State → State) : State :=
  if s.ctlWaits b op p then work (s.dropCtl b op p) else s

/-- NUM is after the last one taken; the first is taken whatever it is. -/
def numTakes (last : Option (BitVec 16)) (n : BitVec 16) : Bool := seqTakes last n false

/-- A received PWR_CAP. -/
def State.pwrCap (s : State) (p : NocFlit) : State :=
  let n := BitVec.ofNat 16 (bf p 9 16)
  match pwrOf (bf p 0 3) with
  | none => s.linkErr
  | some st =>
    if !numTakes s.pwr.capTaken n then s
    else ({ s with pwr.capTaken := some n, pwr.farCap := st, pwr.farWidth := bf p 3 6 }.leadTarget).portStep

/-- PWR_CAP. -/
def execPwrCap (b : Fin 8) (p : NocFlit) (s : State) : Host.Outcome State Fault Refusal :=
  done (s.withCtl b 0x30 p fun s => s.pwrCap p)

/-- A received PWR_GO: only the leader sends it. -/
def State.pwrGo (s : State) (p : NocFlit) : State :=
  let n := BitVec.ofNat 16 (bf p 9 16)
  match pwrOf (bf p 0 3) with
  | none => s.linkErr
  | some st =>
    if s.leads then s.linkErr
    else if !numTakes s.pwr.goTaken n then s
    else ({ s with pwr.goTaken := some n }.applyTarget st (bf p 3 6)).portStep

/-- PWR_GO. -/
def execPwrGo (b : Fin 8) (p : NocFlit) (s : State) : Host.Outcome State Fault Refusal :=
  done (s.withCtl b 0x31 p fun s => s.pwrGo p)

/-! ### DOZE (R335 to R338) -/

/-- DOZE_ENTER. -/
def execDozeEnter (b : Fin 8) (p : NocFlit) (s : State) : Host.Outcome State Fault Refusal :=
  done (s.withCtl b 0x32 p fun s => { s with pwr.dzGot := setBf s.pwr.dzGot b.val 1 1 }.portStep)

/-- The far end's burst is detected: receive braids take frames again, an electrical one 128 flit periods on; the end's own
burst starts. An end so woken under a target of DOZE is awake for control traffic. -/
def State.wakeBurst (s : State) : State :=
  if s.pwr.rxDoze = 0 then s
  else
    let was := s.pwr.rxDoze
    let left := Oct.ofFn fun b => if bit was b.val && !s.cls.isFibre then 128 else 0
    let s := { s with pwr.rxDoze := 0, pwr.rxLeft := left }
    let s := if s.pwr.target == .doze then { s with pwr.ctrlAwake := true } else s
    s.startBurst.portStep

/-- WAKE_BURST. -/
def execWakeBurst (s : State) : Host.Outcome State Fault Refusal := done s.wakeBurst

/-- A flit of VC 6 or VC 7 waits for the link. -/
def State.ctrlWaiting (s : State) : Bool :=
  !(s.noc.pool.get 6).isEmpty || !(s.noc.pool.get 7).isEmpty || !s.ht.linkQ.isEmpty

/-- CONTROL_WAKE. -/
def execControlWake (s : State) : Host.Outcome State Fault Refusal :=
  done (if bit s.pwr.ctl 23 && s.pwr.target == .doze && s.aon.pwr == .doze && s.ctrlWaiting then
      ({ s with pwr.ctrlAwake := true, pwr.ctrlWakes := s.pwr.ctrlWakes + 1 }.startBurst).portStep
    else s)

/-- DOZE_HOLD_EXPIRY. -/
def execDozeHoldExpiry (s : State) : Host.Outcome State Fault Refusal :=
  done (if s.pwr.ctrlAwake then { s with pwr.ctrlAwake := false }.portStep else s)

/-! ### PARK (R339 to R344) -/

/-- PARK_READY: it also announces PARK, so the loss watch stops (R70). -/
def execParkReady (b : Fin 8) (p : NocFlit) (s : State) : Host.Outcome State Fault Refusal :=
  done (s.withCtl b 0x33 p fun s =>
    { s with pwr.pkGot := setBf s.pwr.pkGot b.val 1 1, sb.watchOff := true }.portStep)

/-- A RETRAIN command runs: a drain waits for it under its own timeouts (R340). -/
def State.retrainRuns (s : State) : Bool :=
  s.rings.ring.any fun p => p.2.descs.any fun e => (e.st == .started || e.st == .running) && dOpcode e.desc == 0x01

/-- DRAIN_LIMIT passes: first it ends running descriptors; a second one abandons the park, or lets a reset that drained go
on (R340, R68). -/
def State.drainLimit (s : State) : State :=
  match s.pwr.draining with
  | .none => s
  | why =>
    let s := s.portStep
    if s.pwr.draining == .none then s
    else if s.pwr.limits = 0 then { s with pwr.limits := 1 }.endRunning.portStep
    else if (s.ackedAll && s.deliveredAll && s.grantedAll) || s.retrainRuns then s
    else if why == .park then s.abandonPark.portStep else s.resetAfterDrain

/-- DRAIN_LIMIT. -/
def execDrainLimit (s : State) : Host.Outcome State Fault Refusal := done s.drainLimit

/-- PM_RESUME: in any other state than PARK or OFF it has no effect (R44, R345). -/
def execPmResume (s : State) : Host.Outcome State Fault Refusal :=
  done (if s.asleep && !s.isOptical then s.releaseCap.startExit else s)

/-- PARK_DURATION_END. -/
def execParkDurationEnd (s : State) : Host.Outcome State Fault Refusal :=
  done (if s.asleep && s.aon.pwr == .park && s.aon.parkDur.isSome then s.releaseCap.startExit else s)

/-- SIDEBAND_WAKE: an end whose own cap is PARK or OFF stays parked and counts it (R344). -/
def execSidebandWake (s : State) : Host.Outcome State Fault Refusal :=
  done (if !s.asleep || s.aon.exiting then s
    else if s.pwr.nearCap == .park || s.pwr.nearCap == .off then { s with pwr.wakeIgnored := s.pwr.wakeIgnored + 1 }
    else s.startExit)

/-- FAR_PARKED_TIMEOUT. -/
def execFarParkedTimeout (s : State) : Host.Outcome State Fault Refusal :=
  done (if s.aon.exiting && s.aon.mainGood && s.pwr.wakeDrive then
      { (s.raise 0x59).powerDown with pwr.farParked := s.pwr.farParked + 1, pwr.wakeDrive := false }
    else s)

/-- Every braid of an exit has ended its training. -/
def State.exitOver (s : State) : Bool :=
  s.aon.exiting && s.mainUp && s.clk.pclkUp && octs.all fun b =>
    ((s.shape 0 b).retired && (s.shape 1 b).retired) || (s.training b).phase == .trained || (s.training b).phase == .failed

/-- PARK_EXIT_TRAINED. -/
def execParkExitTrained (s : State) : Host.Outcome State Fault Refusal :=
  done (if s.start.st == .park && s.exitOver then s.exitDone else s)

/-! ### Belay (R348) -/

/-- BELAY_EXPIRY: the flits of the case are flushed. -/
def execBelayExpiry (case : Nat) (s : State) : Host.Outcome State Fault Refusal :=
  done (if s.pwr.belays.any fun x => x.1 = case then
      ({ s.endBelay case with pwr.flushes := s.pwr.flushes ++ [(case, 0, 0)] }).flushStep.portStep
    else s)

end Sys2Proof.Machine
end

