-- ==== Sys2Proof/Machine/Strands.lean ====
section
/-!
DEFINITION. The commands of the strand-function exchange (R125 to R129, R133 to R138): what each end does with a received
frame, with the end of an alignment or a lock, and with the end of a re-admission test. A frame command names the receive
braid whose FIFO holds the frame, and the frame's payload.
-/
namespace Sys2Proof.Machine

/-- BRAID of a strand-function or calibration payload. -/
def strandBraid (p : NocFlit) : Fin 8 := oct (bf p 4 3)
/-- TOKEN, ABORT_CODE, SWITCH_SEQ and ROLE (Table 6.4). -/
def strandToken (p : NocFlit) : Nat := bf p 8 8
def strandCode (p : NocFlit) : Nat := bf p 62 4
def strandSwitch (p : NocFlit) : BitVec 16 := BitVec.ofNat 16 (bf p 46 16)
def strandRole (p : NocFlit) : Nat := bf p 264 1

/-- OP and DISPOSITION are not reserved. -/
def strandOk (p : NocFlit) : Bool := 1 ≤ bf p 0 4 && bf p 0 4 ≤ 6 && bf p 40 2 != 3

/-- A received frame of the exchange at work: the strand queue of the braid it changed goes on after it. -/
def State.strandWork (s : State) (b : Fin 8) (opcode : Nat) (p : NocFlit) (work : State → State) : State :=
  s.withCtl b opcode p fun s =>
    if strandOk p then (((work s).runStrands (strandBraid p)).calNext (strandBraid p)).portStep else s.linkErr

/-! ### The transmitting end -/

/-- A REQUEST is queued by rank, or refused (R126 step 1, R135); a braid that is out of use refuses with 0x4. -/
def State.strandRequest (s : State) (p : NocFlit) : State :=
  let b := strandBraid p
  let o := { opOf p with requested := true, token := 0, map := [], clock := 0x3F }
  if (s.shape 0 b).retired || !(s.shape 0 b).trained then s.refuseReq b o 4 else s.queueOp b o

/-- STRAND_REQUEST. -/
def execStrandRequest (b : Fin 8) (p : NocFlit) (s : State) : Host.Outcome State Fault Refusal :=
  done (s.strandWork b 0x20 p fun s => s.strandRequest p)

/-- The transmitting end's operation of a braid, where TOKEN names it. -/
def State.opNamed (s : State) (dir : Nat) (b : Fin 8) (token : Nat) : Option StrandOp :=
  match (s.shape dir b).op with
  | some o => if o.token = token && token ≠ 0 then some o else none
  | none => none

/-- READY: the transmitting end commits (R126 step 4). -/
def State.strandReady (s : State) (p : NocFlit) : State :=
  let b := strandBraid p
  match s.opNamed 0 b (strandToken p) with
  | some o =>
    if o.ready || o.op = 3 then s.linkErr
    else
      let o := { o with ready := true }
      (s.modShape 0 b fun x => { x with op := some o }).sendCtl b 0x23 (opPayload o b 0 0 0)
  | none => s.linkErr

/-- STRAND_READY. -/
def execStrandReady (b : Fin 8) (p : NocFlit) (s : State) : Host.Outcome State Fault Refusal :=
  done (s.strandWork b 0x22 p fun s => s.strandReady p)

/-- READY_TIMEOUT. -/
def execReadyTimeout (b : Fin 8) (s : State) : Host.Outcome State Fault Refusal :=
  done (match (s.shape 0 b).op with
    | some o => if o.ready || o.op = 3 then s else ((s.abortTx b 1 true).runStrands b).portStep
    | none => s)

/-- An operation whose SWITCH_SEQ has gone out is taken back: the receiving end never switched. A width operation has moved
every bit, so the braid retrains (R131). -/
def State.unswitch (s : State) (b : Fin 8) (o : StrandOp) : State :=
  let sent := match o.switchSeq with
    | some q => seqBefore q (s.link.tx.get b).next
    | none => false
  if !sent then s
  else if o.op = 5 then
    (s.modStrand 0 b o.dest fun x => { x with st := x.prev }).modShape 0 b fun x => { x with clock := o.frm }
  else if o.spliceType then
    (s.modStrand 0 b o.dest fun x => { x with st := x.prev, logical := none }).modShape 0 b fun x => { x with map := x.map.set o.logical o.frm }
  else s.startRetrain b

/-- An ABORT of the receiving end: after a failed alignment TO is quarantined here too, and a splice retries once with the
next strand of the pool (R129). -/
def State.abortFromRx (s : State) (b : Fin 8) (o : StrandOp) (code : Nat) : State :=
  let retry := code == 2 && o.op == 1 && !o.retried
  let s := if retry then s.modShape 0 b fun x => { x with op := some { o with desc := none } } else s
  let s := (s.abortTx b code false).unswitch b o
  let s := if code = 2 && o.spliceType then s.quarantine 0 b o.dest 7 else s
  if retry then
    s.beginOp b { o with dest := 0x3F, token := 0, retried := true, ready := false, switchSeq := none, commitSeq := none, map := [] }
      fun a => (a.retireDir 0 b).checkDown
  else s

/-! ### The receiving end -/

/-- The oldest outstanding REQUEST of a braid that satisfies a test, and the state without it. -/
def State.takeRequest (s : State) (b : Fin 8) (ok : StrandOp → Bool) : Option StrandOp × State :=
  let q := (s.shape 1 b).queue
  match q.find? ok with
  | some r => (some r, s.modShape 1 b fun x => { x with queue := x.queue.erase r })
  | none => (none, s)

/-- What a REQUEST hands on to the operation that carries it out. -/
def StrandOp.serves (o : StrandOp) (r : Option StrandOp) : StrandOp :=
  match r with
  | some r => { o with desc := r.desc, cal := r.cal, dropped := r.dropped, retried := r.retried }
  | none => o

/-- The map the receiving end expects of an operation (R126 step 4). -/
def State.expectMap (s : State) (b : Fin 8) (o : StrandOp) : List Nat :=
  let sh := s.shape 1 b
  match o.op with
  | 1 | 2 => sh.map.set o.logical o.dest
  | 5 => sh.map
  | 3 | 4 => laneMap s.cls ((s.usable 1 b).filter fun q => q ≠ o.frm) o.width
  | _ => o.map

/-- The clock it expects. -/
def State.expectClock (s : State) (b : Fin 8) (o : StrandOp) : Nat :=
  if o.op = 5 then o.dest else if o.op = 6 ∧ o.clock ≠ 0x3F then o.clock else (s.shape 1 b).clock

/-- TO and FROM stand as the operation needs (Table 6.2, R134). -/
def State.prepareOk (s : State) (b : Fin 8) (o : StrandOp) : Bool :=
  let dest := (s.strand 1 b o.dest).st
  let free := dest == .standby || dest == .idle
  match o.op with
  | 1 => free && (s.strand 1 b o.frm).st == .active && (s.strand 1 b o.frm).logical == some o.logical
  | 2 => (free || dest == .stoodAside) && (s.strand 1 b o.frm).logical == some o.logical
  | 5 => dest == .standby && o.frm == (s.shape 1 b).clock
  | 4 => true
  | 6 => o.clock == (s.shape 1 b).clock || (s.strand 1 b o.clock).st == .standby
  | _ => false

/-- The receiving end ends an operation before it has touched a strand. -/
def State.rejectOp (s : State) (b : Fin 8) (o : StrandOp) (code : Nat) : State :=
  let s := s.modShape 1 b fun x => { x with lastOp := o.op, lastToken := o.token, aborts := x.aborts + 1 }
  let s := if o.spliceType then s.modStrand 1 b o.dest fun x => { x with abort := BitVec.ofNat 4 code } else s
  let s := s.sendCtl (s.replyBraid b) 0x24 (opPayload { o with map := [], requested := false } b 0 code 1)
  ((if o.dropped then s else s.opDone o 3 0 code)).calAborted b o code

/-- A return by UNSPLICE that this end has not asked for ends the calibration it covers with status 0x1 (R136). -/
def State.abandonCal (s : State) (b : Fin 8) (o : StrandOp) : State :=
  match s.cal.run.get b with
  | some r => if o.op = 2 && !o.requested && r.strand = o.dest then (s.restoreTrims b r).finishCal b r 1 meas0 else s
  | none => s

/-- PREPARE starts aligning or locking (R126 steps 2 and 3). -/
def State.strandPrepare (s : State) (b : Fin 8) (p : NocFlit) : State :=
  let o := opOf p
  if strandBraid p ≠ b || o.op = 3 || o.token = 0 || (s.shape 1 b).op.isSome then s.linkErr
  else
    let r := if o.requested then s.takeRequest b fun q => q.reason == o.reason else (none, s)
    let s := r.2
    let o := o.serves r.1
    let o := { o with map := s.expectMap b o, clock := s.expectClock b o }
    if o.dropped then s.rejectOp b o 6
    else if !s.prepareOk b o then s.rejectOp b o 4
    else
      let s := s.abandonCal b o
      let s := if o.spliceType then s.mirrorTo 1 b o.dest else s
      s.modShape 1 b fun x => { x with op := some o, lastOp := o.op, lastToken := o.token }

/-- STRAND_PREPARE. -/
def execStrandPrepare (b : Fin 8) (p : NocFlit) (s : State) : Host.Outcome State Fault Refusal :=
  done (s.strandWork b 0x21 p fun s => s.strandPrepare b p)

/-- READY goes to the transmitting end. -/
def State.sendReady (s : State) (b : Fin 8) (o : StrandOp) : State :=
  (s.modShape 1 b fun x => { x with op := some { o with ready := true } }).sendCtl (s.replyBraid b) 0x22
    (opPayload { o with map := [], requested := false } b 0 0 1)

/-- The setting an alignment passed with, from the tracked arrival: the one of R122, or the two tries beside it. -/
def State.alignSetting (s : State) (b : Fin 8) (arrival : Int) (k : Fin 3) : Int :=
  let unit : Int := if s.cls.isFibre then 1 else 64
  ((s.shape 1 b).target : Int) - arrival + (match k with | 0 => 0 | 1 => unit | 2 => -unit)

/-- Alignment failed: ABORT 0x2, TO is quarantined with a strand-fault event; a splice asked for by this end stays asked for
while the transmitting end retries once (R129). -/
def State.alignFail (s : State) (b : Fin 8) (o : StrandOp) : State :=
  let retry := o.op == 1 && !o.retried
  let s := if retry then s.modShape 1 b fun x => { x with op := some { o with desc := none } } else s
  let s := (s.abortRx b 2 true).quarantine 1 b o.dest 7
  let s := s.raise 0x18 (code := 7) (arg0 := (s.strand 1 b o.dest).st.code) (braid := b.val) (dir := 1) (strand := o.dest)
  if !retry then s.calAborted b o 2
  else if o.requested then
    s.modShape 1 b fun x => { x with queue := { op0 with
      op := o.op, logical := o.logical, frm := o.frm, disp := o.disp, reason := o.reason, desc := o.desc, cal := o.cal
      retried := true } :: x.queue }
  else s

/-- ALIGNMENT_COMPLETE: the arrival of TO as tracked, and which setting compared clean, if any. -/
def State.alignDone (s : State) (b : Fin 8) (arrival : Int) (pass : Option (Fin 3)) : State :=
  match (s.shape 1 b).op with
  | none => s
  | some o =>
    if o.ready || o.switchSeq.isSome || !o.spliceType then s
    else
      let s := s.modStrand 1 b o.dest fun x => { x with arrival := arrival }
      let d0 := s.alignSetting b arrival 0
      let inRange := fun d : Int => decide (0 ≤ d) && decide (d ≤ s.cls.deskewMax)
      match pass with
      | none => s.alignFail b o
      | some k =>
        if o.op = 5 then s.sendReady b o
        else
          let d := s.alignSetting b arrival k
          if inRange d0 && inRange d then (s.modStrand 1 b o.dest fun x => { x with deskew := d }).sendReady b o
          else s.alignFail b o

def execAlignmentComplete (b : Fin 8) (arrival : Int) (pass : Option (Fin 3)) (s : State) : Host.Outcome State Fault Refusal :=
  done (((s.alignDone b arrival pass).calNext b).portStep)

/-- STANDIN_LOCK_COMPLETE. -/
def execStandinLockComplete (b : Fin 8) (s : State) : Host.Outcome State Fault Refusal :=
  done (match (s.shape 1 b).op with
    | some o => if o.ready || o.switchSeq.isSome || o.spliceType || o.op = 3 then s else s.sendReady b o
    | none => s)

/-- Entries of a list are all different. -/
def distinctEntries : List Nat → Bool
  | [] => true
  | a :: l => !l.contains a && distinctEntries l

/-- The COMMIT's MAP and CLOCK are what this end expects. -/
def State.commitOk (s : State) (b : Fin 8) (o : StrandOp) (p : NocFlit) : Bool :=
  let m := mapField p (bf p 34 6)
  m == o.map && bf p 258 6 == clockField o.clock
    && (o.op != 6 || (m.all (s.usable 1 b).contains && distinctEntries m))

/-- A committed operation waits for its SWITCH_SEQ; where that flit has been accepted before the COMMIT is worked on, the
switch is made now. -/
def State.armSwitch (s : State) (b : Fin 8) (o : StrandOp) (q : BitVec 16) : State :=
  let o := { o with switchSeq := some q }
  let s := s.modShape 1 b fun x => { x with op := some o, lastOp := o.op, lastToken := o.token }
  if seqBefore q (s.link.rx.get b).expected then ((s.switchRx b o).opDone o 0 (opResult o) 0).calSwitched b o else s

/-- COMMIT: checked against the map expected (R126 step 4). A REEF begins with it. -/
def State.strandCommit (s : State) (b : Fin 8) (p : NocFlit) : State :=
  let q := strandSwitch p
  if strandBraid p ≠ b || strandToken p = 0 then s.linkErr
  else if bf p 0 4 = 3 then
    (if (s.shape 1 b).op.isSome then s.linkErr
     else
      let o := opOf p
      let r := if o.requested then s.takeRequest b fun x => x.reason == o.reason || (o.reason == 5 && x.op == 1) else (none, s)
      let o := o.serves r.1
      let o := { o with map := r.2.expectMap b o, clock := r.2.expectClock b o }
      if r.2.commitOk b o p then r.2.armSwitch b o q else r.2.rejectOp b o 3)
  else match s.opNamed 1 b (strandToken p) with
    | some o =>
      if !o.ready || o.switchSeq.isSome then s.linkErr
      else if s.commitOk b o p then s.armSwitch b o q
      else (s.abortRx b 3 true).calAborted b o 3
    | none => s.linkErr

/-- STRAND_COMMIT. -/
def execStrandCommit (b : Fin 8) (p : NocFlit) (s : State) : Host.Outcome State Fault Refusal :=
  done (s.strandWork b 0x23 p fun s => s.strandCommit b p)

/-- An ABORT with TOKEN 0x00 refuses the oldest REQUEST its fields match (R126 step 1). -/
def State.requestRefused (s : State) (p : NocFlit) : State :=
  let b := strandBraid p
  let o := opOf p
  let r := s.takeRequest b fun q => q.op == o.op && q.logical == o.logical && q.frm == o.frm && q.reason == o.reason
  match r.1 with
  | some q => (if q.dropped then r.2 else r.2.opDone q 2 0 (strandCode p)).calAborted b q (strandCode p)
  | none => r.2

/-- An ABORT (R125, R129): ROLE 1 ends this end's own operation, ROLE 0 the one it was preparing. -/
def State.strandAbort (s : State) (p : NocFlit) : State :=
  let b := strandBraid p
  let code := strandCode p
  if strandToken p = 0 then
    (if strandRole p = 0 && bit p 7 then s.requestRefused p else s.linkErr)
  else if strandRole p = 1 then
    match s.opNamed 0 b (strandToken p) with
    | some o => s.abortFromRx b o code
    | none => s.linkErr
  else match s.opNamed 1 b (strandToken p) with
    | some o => (s.abortRx b code false).calAborted b o code
    | none => s.linkErr

/-- STRAND_ABORT. -/
def execStrandAbort (b : Fin 8) (p : NocFlit) (s : State) : Host.Outcome State Fault Refusal :=
  done (s.strandWork b 0x24 p fun s => s.strandAbort p)

/-! ### Re-admission (R138 steps 2 and 3) -/

/-- A PRBS31 check is over: a strand that passed is STANDBY and its record of KIND 3 closes at its receive end. -/
def State.admitDone (s : State) (dir : Nat) (b : Fin 8) (p : Nat) (pass : Bool) (m : Meas) : State :=
  if (s.strand dir b p).st != .testing then s
  else
    let s := if pass then
        (s.modStrand dir b p fun x => { x with st := .standby, logical := none }).raise 0x19 (braid := b.val) (dir := dir) (strand := p)
      else s.modStrand dir b p fun x => { x with st := .quarantined, logical := none }
    let s := if dir = 1 then s.closeQual b p 3 m (b2n !pass) none else s
    s.settleAdmits

/-- Bits of the PRBS31 check: 2^ADMIT_EXP, values below 31 acting as 31 (Table 6.8). -/
def State.admitBits (s : State) : Nat := 2 ^ max 31 (bf s.link.splAct 18 6)

/-- ADMIT_PRBS_COMPLETE: what the receiving end of the strand found over the bits of the check, at either end of it; the strand
passes with lock held and no errors. -/
def execAdmitPrbsComplete (rx : Bool) (b : Fin 8) (p : Nat) (seen : PrbsSeen) (m : Meas) (s : State) :
    Host.Outcome State Fault Refusal :=
  done (if seen.bits < s.admitBits then s else s.admitDone (b2n rx) b p (seen.lock && m.errors == 0) m)

end Sys2Proof.Machine
end

