-- ==== Sys2Proof/Machine/Calib.lean ====
section
/-!
DEFINITION. The commands of calibration, trims, strand-quality records and temperature (R45, R130, R144 to R162).
-/
namespace Sys2Proof.Machine

/-! ### Payload fields (Table 7.3) -/

def calToken (p : NocFlit) : Nat := bf p 8 8
def calStrand (p : NocFlit) : Nat := bf p 16 6
def calStepOf (p : NocFlit) : Nat := bf p 22 4
def calPattern (p : NocFlit) : Nat := bf p 26 3
def calStatus (p : NocFlit) : Nat := bf p 29 4

/-- Steps the transmit end runs (R147). -/
def PortClass.txStep (c : PortClass) (k : Nat) : Bool := if c.isFibre then k == 1 || k == 2 else k == 3

/-- A received calibration frame at work. -/
def State.calWork (s : State) (b : Fin 8) (opcode : Nat) (p : NocFlit) (work : State → State) : State :=
  s.withCtl b opcode p fun s => ((work s).calNext (strandBraid p)).portStep

/-! ### The transmit end (R146, R148) -/

/-- TX_CODES of the trims a transmit end has set. -/
def serveCodes (c : PortClass) (v : CalServe) : Nat := if c.isFibre then bf v.newO 0 22 else bf v.new.tx 0 11

/-- Answer CAL_STEP_DONE on the transmit braid. -/
def State.stepDone (s : State) (b : Fin 8) (v : CalServe) (step : Nat) : State :=
  let s := { s with cal.serve := s.cal.serve.put b (some { v with step := 0 }) }
  s.sendCtl b 0x29 (calPayload b.val v.token v.strand step v.pattern 0 (serveCodes s.cls v))

/-- Host values held for the strand replace the step (R162). -/
def State.heldServe (s : State) (b : Fin 8) (v : CalServe) : CalServe :=
  let t := applyPending (s.trim 0 b v.strand)
  { v with new := { v.new with tx := t.tx }, newO := t.otx }

/-- CAL_STEP on a transmit braid: the strand drives PATTERN; a transmit-end step runs, any other is answered at once. -/
def State.calStep (s : State) (p : NocFlit) : State :=
  let b := strandBraid p
  let q := calStrand p
  let k := calStepOf p
  let mine := match s.cal.serve.get b with
    | some v => v.strand == q
    | none => false
  let free := (s.cal.serve.get b).isNone
    && ((s.strand 0 b q).st == .standby || (s.strand 0 b q).st == .idle || (s.strand 0 b q).st == .stoodAside)
  if !(s.cls.calSteps.contains k) || calPattern p > 4 || q ≥ s.cls.nstrands || !(mine || free) then s.linkErr
  else
    let v := match mine, s.cal.serve.get b with
      | true, some v => v
      | _, _ => s.serve0 b q (calToken p)
    let s := s.modStrand 0 b q fun x => { x with st := .stoodAside, logical := none }
    let v := { v with
      pattern := calPattern p
      temp1 := if k = 1 then s.cal.temp.toNat else v.temp1
      temp6 := if k = 6 then s.cal.temp.toNat else v.temp6 }
    if !s.cls.txStep k then s.stepDone b v k
    else if (s.trim 0 b q).pending then s.stepDone b (s.heldServe b v) k
    else { s with cal.serve := s.cal.serve.put b (some { v with step := k }) }

/-- CAL_STEP. -/
def execCalStep (b : Fin 8) (p : NocFlit) (s : State) : Host.Outcome State Fault Refusal :=
  done (s.calWork b 0x28 p fun s => s.calStep p)

/-- A transmit-end step finishes with codes laid out as FX_TRIM_TX or FX_TRIM_OPT_TX: DRV_LEVEL and TERM_TX, the heater, or
the bias. -/
def State.txStepDone (s : State) (b : Fin 8) (codes : Reg) : State :=
  match s.cal.serve.get b with
  | none => s
  | some v =>
    if v.step = 0 then s
    else
      let v' := if !s.cls.isFibre then { v with new := { v.new with tx := codes &&& txMask s.cls } }
        else if v.step = 1 then { v with newO := setBf v.newO 0 12 (bf codes 0 12) }
        else { v with newO := setBf v.newO 12 10 (bf codes 12 10) }
      s.stepDone b v' v.step

/-- TRANSMIT_CAL_STEP_COMPLETE. -/
def execTransmitCalStepComplete (b : Fin 8) (codes : Reg) (s : State) : Host.Outcome State Fault Refusal :=
  done (s.txStepDone b codes)

/-- CAL_END: final trims are applied in one step, or those of before the calibration restored; a strand that no splice
covered becomes STANDBY. -/
def State.calEnd (s : State) (p : NocFlit) : State :=
  let b := strandBraid p
  let status := calStatus p
  match s.cal.serve.get b with
  | none => s
  | some v =>
    if v.strand ≠ calStrand p then s
    else
      let s := s.modTrim 0 b v.strand fun t => { t with last := BitVec.ofNat 4 status, doneAt := some s.now }
      let s := if status = 0 then
          let s := s.modTrim 0 b v.strand fun t => applyPending { t with tx := v.new.tx, otx := v.newO }
          (s.settleGoal 0 b v.strand).retain 0 b v.strand
        else s.restoreServe b v
      let v := { v with ended := some status }
      if v.token = 0 || (!s.cls.isFibre && v.strand ≥ 34) then
        ((s.modStrand 0 b v.strand fun x => { x with st := .standby, logical := none }).settleSpares 0 b |>.runStrands b).serveDone b v
      else { s with cal.serve := s.cal.serve.put b (some v) }

/-- CAL_END. -/
def execCalEnd (b : Fin 8) (p : NocFlit) (s : State) : Host.Outcome State Fault Refusal :=
  done (s.calWork b 0x2A p fun s => (s.calEnd p).runStrands (strandBraid p))

/-! ### The receive end (R146 to R148) -/

/-- The step after one. -/
def PortClass.nextStep (c : PortClass) (k : Nat) : Option Nat := c.calSteps.find? fun x => k < x

/-- Go on after a step: the next CAL_STEP, or the end. A range move sets TIA_RANGE before step 5 (R159). -/
def State.afterStep (s : State) (b : Fin 8) (r : CalRun) (m : Meas) : State :=
  match s.cls.nextStep r.step with
  | some k =>
    -- the strand stands aside, so its range may change before the step that needs it
    let s := match s.cls.isFibre && k == 5, r.range with
      | true, some g => (s.modTrim 1 b r.strand fun t => { t with orx := setBf t.orx 20 2 g }).modRun b fun r => { r with
          newO := setBf r.newO 20 2 g }
      | _, _ => s
    s.sendCalStep b r k
  | none => s.endSteps b 0 m

/-- What a receive-end step found is kept until the end of the steps loads it (R148); steps 6 and 7 find its arrival and its
figures. -/
def State.stepFound (s : State) (b : Fin 8) (r : CalRun) (f : Found) : State :=
  let set := fun (lo len : Nat) => s.modRun b fun r => { r with new := { r.new with rx := setBf r.new.rx lo len (bf f.rx lo len) } }
  let opt := fun (lo len : Nat) => s.modRun b fun r => { r with newO := setBf r.newO lo len (bf f.orx lo len) }
  let arrive := s.modRun b fun r => { r with arrival := some f.arrival }
  if s.cls.isFibre then
    match r.step with
    | 3 => opt 0 12
    | 4 => opt 12 8
    | 5 => opt 22 6
    | 6 => arrive
    | _ => s
  else
    match r.step with
    | 1 => set 0 7
    | 2 => set 7 5
    | 4 => set 13 4
    | 5 => s.modRun b fun r => { r with new := { r.new with dfe := f.dfe &&& dfeMask s.cls } }
    | 6 => arrive
    | _ => s

/-- CAL_STEP_COMPLETE: the receive end's part of the present step is over, the transmit end having answered; ln_iref, in
0.1 µA, is compared with the internal reference (R47). -/
def State.calStepOver (s : State) (b : Fin 8) (f : Found) (iref : Nat) : State :=
  match s.cal.run.get b with
  | none => s
  | some r =>
    if r.phase ≠ .steps || !r.stepDone || s.cls.txStep r.step then s
    else
      let s := if (r.step = 1 || r.step = 2) && (iref < 450 || 550 < iref) then s.raise 0x26 (arg0 := iref) else s
      (((s.stepFound b r f).afterStep b r f.meas).calNext b).portStep

def execCalStepComplete (b : Fin 8) (f : Found) (iref : Nat) (s : State) : Host.Outcome State Fault Refusal :=
  done (s.calStepOver b f iref)

/-- CAL_STEP_DONE: the codes are noted; after a transmit-end step the receive end goes straight on. -/
def State.calStepDone (s : State) (p : NocFlit) : State :=
  let b := strandBraid p
  match s.cal.run.get b with
  | none => s
  | some r =>
    if r.phase ≠ .steps || r.strand ≠ calStrand p || r.step ≠ calStepOf p || r.stepDone then s
    else
      let s := s.modRun b fun r => { r with stepDone := true, txCodes := bf p 33 22 }
      if s.cls.txStep r.step then s.afterStep b r meas0 else s

/-- CAL_STEP_DONE. -/
def execCalStepDone (b : Fin 8) (p : NocFlit) (s : State) : Host.Outcome State Fault Refusal :=
  done (s.calWork b 0x29 p fun s => s.calStepDone p)

/-- CAL_STEP_DONE_TIMEOUT. -/
def execCalStepDoneTimeout (b : Fin 8) (s : State) : Host.Outcome State Fault Refusal :=
  done (match s.cal.run.get b with
    | some r => if r.phase = .steps && !r.stepDone then ((s.endSteps b 3 meas0).calNext b).portStep else s
    | none => s)

/-- CAL_SWEEP_TIMER: every receive braid's strands in order; a pass that overruns makes the next start at its end (R151). -/
def State.sweepDue (s : State) : State :=
  if !bit s.cal.ctl 0 || s.start.st != .openSt then s
  else
    let pass := List.range s.cls.nstrands
    let s := { s with cal.sweep := Oct.ofFn fun b =>
      let l := s.cal.sweep.get b
      if (s.shape 1 b).retired then [] else if l.length ≤ s.cls.nstrands then l ++ pass else l }
    s.calAll

def execCalSweepTimer (s : State) : Host.Outcome State Fault Refusal := done s.sweepDue.portStep

/-! ### Strand-quality records (R130, R154, R155) -/

/-- The error figure of a period is over its threshold: errors out of units of 2^8, and EST for electrical strands. -/
def overThreshold (c : PortClass) (ctl : Reg) (errs units est : Nat) : Bool :=
  let e := if c.isFibre then bf ctl 12 6 else bf ctl 6 6
  decide (units * 256 < errs * 10 ^ e) || (!c.isFibre && est != 0xFF && decide (est < 8 * e))

/-- Consecutive records that make a trend. -/
def trendWindows (ctl : Reg) : Nat := max 1 (bf ctl 2 4)

/-- What a trend causes (R130): a splice, a clock swap, a retrain, or the quarantine of a standby clock; with AUTO_SPLICE
clear only the event. -/
def State.trend (s : State) (b : Fin 8) (p est n : Nat) : State :=
  let st := (s.strand 1 b p).st
  let clock := !s.cls.isFibre && p ≥ 34
  if !bit s.link.splAct 0 then s.raise 0x1B (arg0 := est) (arg1 := n) (braid := b.val) (dir := 1) (strand := p)
  else if !clock then
    s.requestFar b { op0 with op := 1, logical := (s.strand 1 b p).logical.getD 0x3F, frm := p, reason := 1, disp := 2 }
  else if st != .active then
    (s.quarantine 1 b p 0xD).raise 0x18 (code := 0xD) (arg0 := 5) (braid := b.val) (dir := 1) (strand := p)
  else if (s.strand 1 b (otherClock p)).st == .standby then
    s.requestFar b { op0 with op := 5, frm := p, dest := otherClock p, reason := 6, disp := 2 }
  else s.startRetrain b

/-- A strand R130 watches: ACTIVE ones, and both clocks. -/
def State.watched (s : State) (b : Fin 8) (p : Nat) : Bool :=
  let st := (s.strand 1 b p).st
  st == .active || (!s.cls.isFibre && p ≥ 34 && st == .standby)

/-- Judge a period's figure: the run of records over threshold, and what it causes once it is long enough. -/
def State.judge (s : State) (b : Fin 8) (p errs units est : Nat) : State :=
  let n := (s.trim 1 b p).overs + 1
  if !s.watched b p || !overThreshold s.cls s.link.splAct errs units est then s.modTrim 1 b p fun t => { t with overs := 0 }
  else if n < trendWindows s.link.splAct then s.modTrim 1 b p fun t => { t with overs := n }
  else (s.modTrim 1 b p fun t => { t with overs := 0 }).trend b p est n

/-- A periodic record closes: the counts of its own period are judged, then it waits for a token with the counts that ran on;
the record of the period before, if it still waits, is skipped. -/
def State.closePeriodic (s : State) (b : Fin 8) (p : Nat) (m : Meas) : State :=
  let t := s.trim 1 b p
  let errs := if !s.cls.isFibre && p ≥ 34 then m.errors else t.perErrs
  let unc := t.perCrc
  let key := strandKey 1 b p
  let e := t.accErrs + errs
  let u := t.accUnits + m.units
  let c := t.accUncorr + unc
  let body := s.qualBody b p 0 m.est e u c 0 m.eyeW m.eyeH
  let late := s.cal.periodic.any fun (q : QualWait) => q.key = key
  let s := if late then { s with cal.skipped := s.cal.skipped + 1 } else s
  let s := { s with cal.periodic := (s.cal.periodic.filter fun (q : QualWait) => q.key ≠ key) ++ [(⟨key, 0, body, none⟩ : QualWait)] }
  let s := s.modTrim 1 b p fun t => { t with
    accErrs := e, accUnits := u, accUncorr := c, perErrs := 0, perCrc := 0
    eye := pack 32 [(0, 16, m.eyeW), (16, 16, m.eyeH)], err := pack 32 [(0, 8, m.est), (8, 24, satN 24 e)] }
  State.postWaiting 400 (s.judge b p errs m.units m.est)

/-- QUALITY_RECORD_CLOSE: what the monitor and the counters measured over the period of one receive strand. -/
def execQualityRecordClose (b : Fin 8) (p : Nat) (m : Meas) (s : State) : Host.Outcome State Fault Refusal :=
  done (if s.asleep || !s.mainUp || (s.shape 1 b).retired || !(s.shape 1 b).trained || p ≥ s.cls.nstrands then s
    else ({ s with link.splAct := s.link.splCtl }.closePeriodic b p m).portStep)

/-- QUALITY_RECORD_POST. -/
def execQualityRecordPost (s : State) : Host.Outcome State Fault Refusal := done (State.postWaiting 400 s)

/-- EYE_SCAN_POINT_SET_COMPLETE: eight points of a scan close a record of KIND 2. -/
def State.eyePoints (s : State) (b : Fin 8) (p : Nat) (m : Meas) : State :=
  match s.cal.scans.find? fun j => !j.prbs && j.braid = b && j.strand = p && j.left ≠ 0 with
  | none => s
  | some j =>
    let left := j.left - 8
    let s := { s with cal.scans := s.cal.scans.map fun x => if x = j then { x with left := left } else x }
    s.closeQual b p 2 m 0 (some (j.ring, j.index))

def execEyeScanPointSetComplete (b : Fin 8) (p : Nat) (m : Meas) (s : State) : Host.Outcome State Fault Refusal :=
  done (s.eyePoints b p m)

/-! ### Temperature (R45, R157 to R159) -/

/-- Every wavelength of both directions. -/
def waves : List (Nat × Fin 8 × Nat) :=
  [0, 1].flatMap fun d => octs.flatMap fun b => (List.range 5).map fun p => (d, b, p)

/-- A wavelength tracks: it is ACTIVE or MIRROR (R144, R158). -/
def State.tracked (s : State) (w : Nat × Fin 8 × Nat) : Bool :=
  let st := (s.strand w.1 w.2.1 w.2.2).st
  st == .active || st == .mirror

/-- A wavelength is whipped: its ring heater holds the last calibrated setting (R86). -/
def State.whipped (s : State) (w : Nat × Fin 8 × Nat) : Bool :=
  let st := (s.strand w.1 w.2.1 w.2.2).st
  st == .quarantined || st == .braidRetired

/-- The live codes at a new temperature value; wavelengths that carry nothing take theirs at once (R158). -/
def State.retrack (s : State) : State :=
  waves.foldl (fun a w =>
    let v := a.liveTrim w.1 w.2.1 w.2.2
    let v := if a.whipped w then setBf v 0 12 (bf (getOpt w.1 (a.trim w.1 w.2.1 w.2.2)) 0 12) else v
    a.modTrim w.1 w.2.1 w.2.2 fun t => { (if a.tracked w then t else setOpt w.1 v t) with goal := some v }) s

/-- The nearest point follows the temperature (R159). -/
def nearestAt (cur : Nat) (t : Int) : Nat := nextNearest (nextNearest (nextNearest cur t) t) t

/-- What a fibre port does with a new value: the working set as written takes effect, then the range limit, the nearest point, the
live codes, range moves. -/
def State.fibreTemp (s : State) : State :=
  let s := { s with cal.tsetAct := s.cal.tset }
  let c := s.cal.temp.toNat
  let out := if c < 376 then 1 else if 636 < c then 2 else 0
  let s := if out ≠ 0 && out ≠ s.cal.outOf then s.raise 0x21 (code := out - 1) (arg0 := c) else s
  let near := nearestAt s.cal.nearest s.tempHeld
  let s := { s with cal.outOf := out, cal.nearest := near }
  (if bit s.cal.ctl 16 then s.retrack else s).askMoves

/-- A new value of the sensor: 0x3FF is a sensor fault and the last valid value is held. -/
def State.newTemp (s : State) (v : BitVec 10) : State :=
  if !s.clk.refUp then s
  else
  -- the sampled value is acknowledged by a toggle (R45)
  let s := { s with cal.tempAck := !s.cal.tempAck }
  if v = 0x3FF then
    (if s.cal.fault then s else { s with cal.fault := true }.raise 0x25 (code := 1) (arg0 := s.cal.temp.toNat))
  else
    let s := { s with cal.temp := v, cal.tempValid := true, cal.fault := false, cal.stale := false, cal.tempAt := s.now }
    if s.cls.isFibre then s.fibreTemp else s

/-- TEMP_VALUE. -/
def execTempValue (v : BitVec 10) (s : State) : Host.Outcome State Fault Refusal := done (s.newTemp v).portStep

/-- STALE_TEMP. -/
def execStaleTemp (s : State) : Host.Outcome State Fault Refusal :=
  done (if !s.clk.refUp || s.cal.stale then s
    else { s with cal.stale := true }.raise 0x25 (code := 0) (arg0 := s.cal.temp.toNat))

/-- One code toward another. -/
def towards (cur goal : Nat) : Nat := if cur < goal then cur + 1 else if goal < cur then cur - 1 else cur

/-- Move the interpolated trims of one tracked wavelength one code. -/
def State.trackOne (s : State) (w : Nat × Fin 8 × Nat) : State :=
  match s.tracked w, (s.trim w.1 w.2.1 w.2.2).goal with
  | false, _ | _, none => s
  | true, some goal =>
    let f := interpFields w.1
    let cur := getOpt w.1 (s.trim w.1 w.2.1 w.2.2)
    let step := fun (r : Reg) (g : Nat × Nat) => setBf r g.1 g.2 (towards (bf cur g.1 g.2) (bf goal g.1 g.2))
    s.modTrim w.1 w.2.1 w.2.2 (setOpt w.1 (step (step cur f.1) f.2))

/-- TRIM_TRACK_TICK: each active fibre trim moves one code toward its live code while TRACK is set. -/
def execTrimTrackTick (s : State) : Host.Outcome State Fault Refusal :=
  done (if s.cls.isFibre && bit s.cal.ctl 16 && s.mainUp then waves.foldl State.trackOne s else s)

/-! ### Software writes of trims (R144, R162) -/

/-- A strand index (FX_STRAND_IDX). -/
def idxStrand (v : Reg) : Nat := bf v 0 6
def idxBraid (v : Reg) : Fin 8 := oct (bf v 6 3)
def idxDir (v : Reg) : Nat := bf v 9 1

/-- Which trim register an offset is: direction, and its bits in the class. -/
def trimReg (c : PortClass) (off : Nat) : Nat × Reg :=
  match off with
  | 0x2008 => (1, rxMask c)
  | 0x200C => (1, dfeMask c)
  | 0x2010 => (0, txMask c)
  | 0x2014 => (0, otxMask c)
  | _ => (1, orxMask c)

/-- Put a value into one of the five trims, or hold it. -/
def setTrim (off : Nat) (v : Reg) (held : Bool) (t : Trim) : Trim :=
  match off, held with
  | 0x2008, false => { t with rx := v }
  | 0x2008, true => { t with pRx := some v }
  | 0x200C, false => { t with dfe := v }
  | 0x200C, true => { t with pDfe := some v }
  | 0x2010, false => { t with tx := v }
  | 0x2010, true => { t with pTx := some v }
  | 0x2014, false => { t with otx := v }
  | 0x2014, true => { t with pOtx := some v }
  | _, false => { t with orx := v }
  | _, true => { t with pOrx := some v }

/-- A write of a trim of the indexed strand: discarded under a running calibration, held while the strand is ACTIVE, MIRROR or
TESTING, else applied at once and retained; so too on a retired braid, which R162 does not name (DESIGN CHOICE, assumption log 70). -/
def State.writeTrim (s : State) (off : Nat) (v : Reg) : State :=
  let b := idxBraid s.link.strandIdx
  let p := idxStrand s.link.strandIdx
  let dir := idxDir s.link.strandIdx
  let k := trimReg s.cls off
  if k.1 ≠ dir || k.2 = 0 || p ≥ s.cls.nstrands then s
  else if s.underCal dir b p then s.modTrim dir b p fun t => { t with discarded := t.discarded + 1 }
  else
    let st := (s.strand dir b p).st
    let held := st == .active || st == .mirror || st == .testing
    let s := s.modTrim dir b p (setTrim off (v &&& k.2) held)
    if held then s else s.retain dir b p

/-- TRIM_WRITE: a write of FX_TRIM_RX, FX_TRIM_DFE or FX_TRIM_TX, or of a fibre trim register. -/
def execTrimWrite (a : Access) (s : State) : Host.Outcome State Fault Refusal :=
  done (if [0x2008, 0x200C, 0x2010, 0x2014, 0x2018].contains a.off.toNat then
      s.regWrite a fun s => s.writeTrim a.off.toNat a.data
    else s)

end Sys2Proof.Machine
end

