-- ==== Sys2Proof/Machine/Clocks.lean ====
section
/-!
DEFINITION. The commands of clocks, resets and the die's own signals (R44 to R47, R53, R54, R60 to R65, R96): power-on and
pair resets, the power switch, root lock, the clock monitors, the timestamp and the temperature.
-/
namespace Sys2Proof.Machine

/-! ### Resets (R64, R72, R96) -/

/-- POWER_ON_RESET: everything resets, the AON island too, and the hub's agent begins the package's first start since
power-on with nothing assigned (R13, R112). What lies outside the block stays: its inputs, the hub's serial memory, and the
model's own record. -/
def execPowerOnReset (s : State) : Host.Outcome State Fault Refusal :=
  let r := State.resetAs s.straps
  done { r with
    pending := s.pending, agent := s.agent.restart, out := s.out, freeCtr := s.freeCtr, test := s.test
    clk := { r.clk with now := s.clk.now, tsVal := s.clk.tsVal } }

/-- POWER_ON_RELEASE, with clk_pref present: the AON island runs and asks for the main island's power (R44, R51). -/
def execPowerOnRelease (s : State) : Host.Outcome State Fault Refusal :=
  done (if s.aon.porN then s
    else { s with aon.porN := true, aon.sbClk := true, aon.irefFwd := s.forwardsIref, aon.mainOn := true })

/-- The cause a pair reset records (Table 3.9). -/
def State.resetCause (s : State) : BitVec 4 := if s.aon.reqN then 5 else s.aon.reqCause.getD 5

/-- rst_pair_n is sampled low. -/
def State.pairAssert (s : State) : State :=
  if !s.aon.porN || !s.aon.pairN then s
  else
    let s := s.switchOff
    let fromReset := s.start.st == .reset || (s.start.st == .park && !s.aon.mainGood)
    -- the power state survives (R65)
    let aon := { s.aon with
      pairN := false, reqN := true, reqCause := none, cause := s.resetCause, count := s.aon.count + 1
      exiting := false, parkDur := none, parkSpare := false }
    let r := s.islandReset
    let t := s.test
    { r with
      -- the register-access crossing closes: an access in flight is abandoned and reads refused (R63)
      test := if t.job.isSome then { t with job := none, resOp := 2, resData := 0 } else t
      aon := aon, mtr := { r.mtr with restart := true }
      start := { r.start with st := if fromReset then .reset else .ident } }

/-- PAIR_RESET_ASSERT. -/
def execPairResetAssert (s : State) : Host.Outcome State Fault Refusal := done s.pairAssert

/-- The start goes on from RESET to IDENT once the main island is powered and out of reset: the block shows ACTIVE from
there (Table 14.1). After a pair reset of a powered port the power state stands as it was (R65) until OPEN judges it. -/
def State.toIdent (s : State) : State :=
  if s.aon.mainGood && s.aon.pairN then
    let s := if s.start.st == .reset then { s with start.st := .ident, aon.pwr := .active } else s
    { s with clk.refUp := true }.tryIdent
  else s

/-- rst_pair_n is released: the port is fresh; domains leave reset as their clocks run (R64, R67). A port whose main island
is off is powered. -/
def State.pairRelease (s : State) : State :=
  if !s.aon.porN || s.aon.pairN then s
  else { s.switchOff with aon.pairN := true, start.fresh := true, aon.mainOn := true }.toIdent

/-- PAIR_RESET_RELEASE. -/
def execPairResetRelease (s : State) : Host.Outcome State Fault Refusal := done s.pairRelease

/-! ### The power switch (R44) -/

/-- pm_main_good rises. A start from OFF begins again at IDENT with everything but the AON island lost (R345); an exit from
PARK restores the retained state and wakes its far end (Table 14.5 step 2). -/
def State.mainPower (s : State) : State :=
  if !s.aon.mainOn || s.aon.mainGood then s
  else
    let s := { s with aon.mainGood := true, aon.swTimeoutRaised := false }
    if s.start.st == .park && s.aon.pwr == .off then
      let s := { s with aon.pwr := .active, aon.exiting := false, aon.parkSpare := false }.islandReset
      { s with start.fresh := true }.toIdent
    else if s.start.st == .park then { s with clk.refUp := true, pwr.wakeDrive := true }
    else s.toIdent

/-- MAIN_POWER_GOOD. -/
def execMainPowerGood (s : State) : Host.Outcome State Fault Refusal := done s.mainPower

/-- POWER_SWITCH_TIMEOUT: the event is raised once until a try succeeds; a port leaving PARK stays in PARK. -/
def State.switchTimeout (s : State) : State :=
  if !s.aon.mainOn || s.aon.mainGood then s
  else
    let first := !s.aon.swTimeoutRaised
    let s := { s with aon.mainOn := false, aon.swTimeoutRaised := true }
    let s := if s.aon.pwr == .park && s.start.st == .park then { s with aon.exiting := false } else s
    if first then s.raise 0x0D else s

def execPowerSwitchTimeout (s : State) : Host.Outcome State Fault Refusal := done s.switchTimeout

/-- POWER_SWITCH_RETRY: a port in RESET or starting from OFF tries again. -/
def execPowerSwitchRetry (s : State) : Host.Outcome State Fault Refusal :=
  done (if s.aon.swTimeoutRaised && !s.aon.mainOn && s.aon.porN
      && (s.start.st == .reset || (s.aon.pwr == .off && s.aon.exiting)) then
      { s with aon.mainOn := true }
    else s)

/-- PM_PWR_REFRESH (R330); an optical end has no power-manager interface (Table 2.1). -/
def execPmPwrRefresh (s : State) : Host.Outcome State Fault Refusal :=
  done (if s.isOptical then s else { s with aon.pmPwr := BitVec.ofNat 12 s.powerNow })

/-! ### Root lock (R53) -/

/-- The root locks: its domains leave reset, the clamp on the main island's outputs ends where it was on, and TSC is loaded
from ts_val (R44, R54, R64). -/
def State.rootLocks (s : State) : State :=
  if !s.aon.mainGood || !s.aon.pairN || s.clk.rootLock then s
  else
    let s := { s with aon.isoN := true, clk.rootLock := true, clk.pclkUp := true, clk.tsc := s.clk.tsVal }
    if s.start.st == .park then (if s.aon.exiting then s.exitTrain else s) else s.tryIdent

/-- ROOT_LOCK. -/
def execRootLock (s : State) : Host.Outcome State Fault Refusal := done s.rootLocks

/-- Lock is lost: domains stop, credits are withheld, and a paired reset is asked for, even by a fresh port. -/
def State.rootLost (s : State) : State :=
  if !s.clk.rootLock || s.start.st == .park then s
  else
    let s := { s with clk.rootLock := false, clk.pclkUp := false }
    let s := (s.faultReset 4).raise 0x08 (code := 1) (arg0 := s.clkstat)
    if s.resetGoes then s else s.sendReset 4 false

/-- ROOT_LOCK_LOST. -/
def execRootLockLost (s : State) : Host.Outcome State Fault Refusal := done s.rootLost

/-! ### Clock monitors (R60 to R62) -/

/-- NCLK is present again, or for the first time: its domain leaves reset and the credit handshake begins (R32, R64). -/
def State.nclkBack (s : State) : State :=
  if !s.clk.nclkUp then { s with clk.nclkUp := true, clk.nclkGone := false, noc.whNclk := false }.startCreditInit
  else if s.clk.nclkGone then
    ({ s with clk.nclkGone := false, noc.whNclk := false }.returnCredits.egressStep).portStep
  else s

/-- One window of the NCLK monitor. -/
def State.nclkWindow (s : State) (count : Nat) (locked : Bool) : State :=
  if !s.clk.refUp then s
  else if 1440 ≤ count && count ≤ 1760 then
    let s := { s with clk.nclkOk := true, clk.nclkAsync := !locked }
    let s :=
      if !locked && !s.clk.asyncRaised then { s with clk.asyncRaised := true }.raise 0x08 (code := 2) (arg0 := s.clkstat) else s
    s.nclkBack
  else
    let s := { s with clk.nclkOk := false, clk.nclkAsync := false, noc.whNclk := true }
    if s.clk.nclkGone then s else { s with clk.nclkGone := true }.raise 0x08 (code := 3) (arg0 := s.clkstat)

/-- NCLK_MONITOR_WINDOW: cycles counted in 400 RCLK cycles, and whether NCLK is locked to PCLK. -/
def execNclkMonitorWindow (count : Nat) (locked : Bool) (s : State) : Host.Outcome State Fault Refusal :=
  if s.isOptical then done s else done (s.nclkWindow count locked)

/-- The offset of greatest magnitude. Of two equal in magnitude with opposite sign the first in the order given stands: the
spec does not say which is the worst (DESIGN CHOICE, assumption log 58). -/
def worstOffset (l : List Int) : Int := l.foldl (fun m x => if m.natAbs < x.natAbs then x else m) 0

/-- A receive clock stays locked to PCLK within the tolerance of R60: over a window of 2^20 PCLK cycles the crossing moves
by no more than one entry (Table 3.8, assumption log 58). -/
def lockedTo (x : Int) : Bool := decide (x.natAbs * 2 ^ 20 ≤ 10 ^ 7)

/-- One REF_OFFSET window: the receive clocks that run, each with its offset in 0.1 ppm. -/
def State.refWindow (s : State) (l : List (Fin 8 × Int)) : State :=
  let w := worstOffset (l.map Prod.snd)
  let s := { s with
    clk.rxwOk := BitVec.ofNat 8 (maskOf ((l.filter fun x => lockedTo x.2).map fun x => x.1.val))
    clk.rxwUp := s.clk.rxwUp ||| BitVec.ofNat 8 (maskOf (l.map fun x => x.1.val))
    clk.refOffset := if s.cls.isFibre then BitVec.ofNat 8 (ofInt 8 (max (-127) (min 127 w))) else 0 }
  if s.cls.isFibre && 5 < w.natAbs then s.raise 0x0A (arg0 := ofInt 32 w) else s

/-- REF_OFFSET_WINDOW. -/
def execRefOffsetWindow (l : List (Fin 8 × Int)) (s : State) : Host.Outcome State Fault Refusal :=
  done (if s.clk.pclkUp then s.refWindow l else s)

/-- CROSSING_SLIP (R60). -/
def execCrossingSlip (which : Slip) (s : State) : Host.Outcome State Fault Refusal :=
  done (if !s.clk.pclkUp then s
    else match which with
      | .tx b => (s.raise 0x09 (code := 1) (arg0 := b.val) (braid := b.val)).startRetrain b
      | .rx b => (s.raise 0x09 (code := 2) (arg0 := b.val) (braid := b.val) (dir := 1)).startRetrain b
      | .noc =>
        let s := s.raise 0x09 (code := 3)
        if s.start.st == .openSt then s.startPortRetrain else s)

/-! ### The timestamp (R46, R54, R325) -/

/-- A timestamp step is logged; traffic goes on. -/
def State.tsStep (s : State) (old new : BitVec 64) : State :=
  let back := decide (new.toNat < old.toNat)
  { s with
    clk.tsc := if s.clk.pclkUp then new else s.clk.tsc, clk.tsVal := new, clk.tsOld := old, clk.tsNew := new, clk.tsEpoch := s.aon.epoch
    clk.steps := s.clk.steps + 1, clk.back := if back then s.clk.back + 1 else s.clk.back }.raise 0x51
      (code := b2n back) (arg0 := s.aon.epoch.toNat) (arg2 := old.toNat % 2 ^ 48 + new.toNat % 2 ^ 48 * 2 ^ 48)

/-- TSC_CHECK: the counter against a sample of ts_val. -/
def execTscCheck (v : BitVec 64) (s : State) : Host.Outcome State Fault Refusal :=
  done (if s.isOptical then s
    else if !s.clk.pclkUp || v = s.clk.tsc then { s with clk.tsVal := v } else s.tsStep s.clk.tsc v)

/-- TIMESTAMP_STEP: the next sample of ts_val is not two counts on. Every step is logged, in PARK and OFF and before root lock
too, once power-on reset is over and clk_pref runs the AON island. -/
def execTimestampStep (new : BitVec 64) (s : State) : Host.Outcome State Fault Refusal :=
  done (if s.isOptical then s
    else if new = s.clk.tsVal + 2 || !s.aon.porN then { s with clk.tsVal := new }
    else s.tsStep s.clk.tsVal new)

end Sys2Proof.Machine
end

