-- ==== Sys2Proof/Machine/Commands.lean ====
section
/-!
DEFINITION. The commands that descriptors of command rings carry (R230 to R232, Tables 10.4 to 10.6). Each names the ring and the
index of its descriptor, which the dispatcher has started or may start.
-/
namespace Sys2Proof.Machine

/-! ### Link commands (R230, R242) -/

/-- A link command waits: a port retrain runs and has not failed. -/
def State.linkWaits (s : State) : Bool := s.start.opened && s.link.retraining && s.start.st != .openSt && !s.start.failed

/-- A command on the link: it waits for a port retrain, and a port that is not OPEN or is FAILED does not allow it. -/
def State.linkCmd (s : State) (r : RingNo) (i : BitVec 32) (op : Nat) (work : Desc → State → State) : State :=
  if s.linkWaits then s
  else s.withDesc r i op fun d s =>
    if s.start.st != .openSt || s.start.failed then s.complete r.val i 0x0D else (work d s).portStep

/-- The braid a descriptor names retrains: its command waits. -/
def State.braidWaits (s : State) (r : RingNo) (i : BitVec 32) : Bool :=
  match s.desc r.val i with
  | some e => (s.link.tx.get (dBraid e.desc)).ladder == .retraining
  | none => false

/-- A command on one braid. -/
def State.braidCmd (s : State) (r : RingNo) (i : BitVec 32) (op : Nat) (work : Desc → State → State) : State :=
  if s.braidWaits r i then s else s.linkCmd r i op work

/-! ### NOP and RETRAIN -/

/-- NOP. -/
def execNop (r : RingNo) (i : BitVec 32) (s : State) : Host.Outcome State Fault Refusal :=
  done (s.withDesc r i 0x00 fun _ s => s.complete r.val i 0)

/-- A braid has a quarantined strand in either direction. -/
def State.hasQuarantined (s : State) (b : Fin 8) : Bool :=
  !(s.strandsIn 0 b .quarantined).isEmpty || !(s.strandsIn 1 b .quarantined).isEmpty

/-- Re-admission begins on a braid: its quarantined strands are tested (R138 step 1). -/
def State.admitBraid (s : State) (b : Fin 8) : State := (s.beginTesting b).sendTrain 1 b.val 2 []

/-- RETRAIN of one braid or of the port, with ADMIT or plain. -/
def State.cmdRetrain (s : State) (r : RingNo) (i : BitVec 32) (d : Desc) : State :=
  let b := dBraid d
  let named := bit d 80
  if dAll d then
    let l := octs.filter fun b => s.inService b && s.hasQuarantined b
    if named && !l.isEmpty then
      l.foldl State.admitBraid { s with link.admits := s.link.admits ++ [(r, i, none)] }
    else { s with link.retrainCmds := s.link.retrainCmds ++ [(r, i, none)] }.startPortRetrain
  else if named && s.hasQuarantined b then
    ({ s with link.admits := s.link.admits ++ [(r, i, some b)] }).admitBraid b
  else { s with link.retrainCmds := s.link.retrainCmds ++ [(r, i, some b)] }.startRetrain b true

/-- RETRAIN. -/
def execRetrain (r : RingNo) (i : BitVec 32) (s : State) : Host.Outcome State Fault Refusal :=
  done (s.braidCmd r i 0x01 fun d s => s.cmdRetrain r i d)

/-! ### Strand-function commands (R134, R231) -/

/-- A strand-function command: queued at the transmitting end, sent as a REQUEST from the receiving end. A braid that is not
trained or is retired does not allow it. -/
def State.cmdStrand (s : State) (r : RingNo) (i : BitVec 32) (d : Desc) (o : StrandOp) : State :=
  let b := dBraid d
  let dir := dDir d
  let o := { o with desc := some (r, i), reason := 0 }
  if !(s.shape dir b).trained || (s.shape dir b).retired then s.complete r.val i 0x0D
  else if dir = 0 then (s.queueOp b o).runStrands b
  else if o.op = 4 ∧ s.cls.widths.contains o.width ∧ o.width > (s.shape 1 b).width
      ∧ min o.width (s.widest 1 b) ≤ (s.shape 1 b).width then s.complete r.val i 0 (s.shape 1 b).width
  else s.requestFar b { o with logical := if o.op = 1 then (s.strand 1 b o.frm).logical.getD 0x3F else 0x3F }

/-- REEF. -/
def execReef (r : RingNo) (i : BitVec 32) (s : State) : Host.Outcome State Fault Refusal :=
  done (s.braidCmd r i 0x02 fun d s => s.cmdStrand r i d { op0 with op := 3, width := bf d 80 6 })

/-- UNREEF. -/
def execUnreef (r : RingNo) (i : BitVec 32) (s : State) : Host.Outcome State Fault Refusal :=
  done (s.braidCmd r i 0x03 fun d s => s.cmdStrand r i d { op0 with op := 4, width := bf d 80 6 })

/-- SPLICE. -/
def execSplice (r : RingNo) (i : BitVec 32) (s : State) : Host.Outcome State Fault Refusal :=
  done (s.braidCmd r i 0x04 fun d s =>
    s.cmdStrand r i d { op0 with op := 1, frm := dStrand d, dest := bf d 80 6, disp := bf d 86 2 })

/-- UNSPLICE: the cover strand becomes STANDBY. -/
def execUnsplice (r : RingNo) (i : BitVec 32) (s : State) : Host.Outcome State Fault Refusal :=
  done (s.braidCmd r i 0x05 fun d s => s.cmdStrand r i d { op0 with op := 2, dest := dStrand d })

/-! ### Calibration, eye scans and PRBS tests -/

/-- CALIBRATE: every strand named is asked for; the command completes when each has a STATUS. -/
def State.cmdCalibrate (s : State) (r : RingNo) (i : BitVec 32) (d : Desc) : State :=
  let every := fun b : Fin 8 => (List.range s.cls.nstrands).map fun p => (b.val, p)
  let l := if dAll d then octs.flatMap every else if bit d 80 then every (dBraid d) else [((dBraid d).val, dStrand d)]
  let s := { s with cal.jobs := s.cal.jobs ++ [(⟨r, i, l, 0, 0, !dAll d && !bit d 80⟩ : CalJob)] }
  (l.foldl (fun a q => a.askCal (oct q.1) q.2 (some (r, i))) s).calAll

/-- CALIBRATE. -/
def execCalibrate (r : RingNo) (i : BitVec 32) (s : State) : Host.Outcome State Fault Refusal :=
  done (s.linkCmd r i 0x06 fun d s => s.cmdCalibrate r i d)

/-- EYE_SCAN: H_POINTS × V_POINTS points, 0 meaning 64; not on a whipped strand. -/
def State.cmdEyeScan (s : State) (r : RingNo) (i : BitVec 32) (d : Desc) : State :=
  let n := fun v => if v = 0 then 64 else v
  let st := (s.strand 1 (dBraid d) (dStrand d)).st
  if !(s.shape 1 (dBraid d)).trained || st == .quarantined || st == .braidRetired then s.complete r.val i 0x0D
  else { s with cal.scans := s.cal.scans ++ [(⟨r, i, dBraid d, dStrand d, n (bf d 80 6) * n (bf d 86 6), 0, false⟩ : ScanJob)] }

/-- EYE_SCAN. -/
def execEyeScan (r : RingNo) (i : BitVec 32) (s : State) : Host.Outcome State Fault Refusal :=
  done (s.braidCmd r i 0x07 fun d s => s.cmdEyeScan r i d)

/-- PRBS_TEST: only on a STANDBY strand. -/
def State.cmdPrbs (s : State) (r : RingNo) (i : BitVec 32) (d : Desc) : State :=
  if (s.strand 1 (dBraid d) (dStrand d)).st != .standby then s.complete r.val i 0x0D
  else { s with cal.scans := s.cal.scans ++ [(⟨r, i, dBraid d, dStrand d, bf d 80 6, 0, true⟩ : ScanJob)] }

/-- PRBS_TEST. -/
def execPrbsTest (r : RingNo) (i : BitVec 32) (s : State) : Host.Outcome State Fault Refusal :=
  done (s.braidCmd r i 0x08 fun d s => s.cmdPrbs r i d)

/-- PRBS_TEST_DONE: the bits are counted. -/
def execPrbsTestDone (r : RingNo) (i : BitVec 32) (errors : Nat) (s : State) : Host.Outcome State Fault Refusal :=
  done (match s.cal.scans.find? fun j => j.prbs && j.ring == r && j.index == i with
    | some j => { s with cal.scans := s.cal.scans.erase j }.complete r.val i 0 errors (2 ^ (j.left - 16))
    | none => s)

/-! ### BIGHT -/

/-- BIGHT: FX_BIGHT_CTL as software would write it, with RUN 1; its strand selection stays. -/
def State.cmdBight (s : State) (r : RingNo) (i : BitVec 32) (d : Desc) : State :=
  if s.bight.active then s.complete r.val i 2 0 1
  else
    let v := setBf (setBf s.bight.ctl 0 12 (bf d 80 12)) 12 1 1
    let s := s.writeBight v []
    if s.bight.active then { s with bight.cmd := some (r, i) }
    else if s.bight.refused then s.complete r.val i 2 0 1
    else s.complete r.val i 0

/-- BIGHT. -/
def execBight (r : RingNo) (i : BitVec 32) (s : State) : Host.Outcome State Fault Refusal :=
  done (s.linkCmd r i 0x09 fun d s => s.cmdBight r i d)

/-- BIGHT_DURATION_END: RUN is cleared, with the checkers' last counts, and the command completes. -/
def execBightDurationEnd (counts : List (Fin 8 × Nat × Nat × Nat)) (s : State) : Host.Outcome State Fault Refusal :=
  done (if s.bight.cmd.isSome then (s.writeBight (setBf s.bight.ctl 12 1 0) counts).portStep else s)

/-! ### PARK, RESUME and DIGEST -/

/-- PARK caps the port at PARK; a second one finds the port already headed there. -/
def execPark (r : RingNo) (i : BitVec 32) (s : State) : Host.Outcome State Fault Refusal :=
  done (s.linkCmd r i 0x0A fun d s =>
    if s.pwr.parkCmd.isSome then s.complete r.val i 0x0D
    else { s with pwr.parkCmd := some (r, i, bf d 80 32) }.recap)

/-- RESUME ends a draining park, or takes a port in DOZE to ACTIVE and completes when DOZE is left; RESULT is the state entered.
Where there is nothing to resume, RESULT is 1 (R231) and DETAIL too (Table 10.5). -/
def State.cmdResume (s : State) (r : RingNo) (i : BitVec 32) : State :=
  if s.pwr.draining == .park || s.pwr.parkCmd.isSome then
    let s := s.endPark
    s.complete r.val i 0 s.aon.pwr.code
  else if s.aon.pwr == .doze then
    ({ s with pwr.resumeCmds := s.pwr.resumeCmds ++ [(r, i)] }.setCap (.active, s.cls.wmax)).portStep
  else s.complete r.val i 0 1 1

/-- RESUME. -/
def execResume (r : RingNo) (i : BitVec 32) (s : State) : Host.Outcome State Fault Refusal :=
  done (s.withDesc r i 0x0B fun _ s => s.cmdResume r i)

/-- DIGEST. -/
def execDigest (r : RingNo) (i : BitVec 32) (s : State) : Host.Outcome State Fault Refusal :=
  done (s.withDesc r i 0x0C fun _ s =>
    s.complete r.val i 0 (s.ownDigest + s.lash.cfgFar.toNat * 2 ^ 32) s.lash.mismatch.toNat)

/-! ### CANCEL (R232) -/

/-- Index `i` lies beyond the producer index `p` taken. -/
def beyond (i p : BitVec 32) : Bool := (i - p).toNat < 2 ^ 31

/-- A descriptor of a ring at an index is posted and not yet fetched. -/
def Ring.unfetched (g : Ring) (i : BitVec 32) : Bool := (i - g.fetchIdx).toNat < (g.swIdx - g.fetchIdx).toNat

/-- Uncompleted indices of a ring, oldest first. -/
def Ring.uncompleted (g : Ring) : List (BitVec 32) :=
  g.descs.map (·.index) ++ (List.range (g.swIdx - g.fetchIdx).toNat).map fun k => g.fetchIdx + BitVec.ofNat 32 k

/-- A target runs and no CANCEL ends it: a RETRAIN, or a strand operation that has committed. -/
def State.runsOn (s : State) (t : RingNo × BitVec 32) : Option Nat :=
  match s.desc t.1.val t.2 with
  | some e =>
    if e.st != .started && e.st != .running then none
    else if dOpcode e.desc = 0x01 && (s.link.retrainCmds ++ s.link.admits).any (fun c => (c.1, c.2.1) = t) then some 3
    else if 2 ≤ dOpcode e.desc && dOpcode e.desc ≤ 5 then
      match s.opOfCmd (dDir e.desc) (dBraid e.desc) t with
      | some o => if o.switchSeq.isSome then some 0 else none
      | none => none
    else none
  | none => none

/-- End one target: one that has not started never starts. -/
def State.cancelOne (s : State) (t : RingNo × BitVec 32) : State :=
  let r := t.1.val
  match s.desc r t.2 with
  | none => s.modRing r fun g => { g with toCancel := if g.toCancel.contains t.2 then g.toCancel else g.toCancel ++ [t.2] }
  | some e =>
    match e.st with
    | .fetching | .rereading => s.modDesc r t.2 fun e => { e with marked := true }
    | .ready => (s.modDesc r t.2 fun e => { e with marked := true }).completeUnstarted r t.2 1
    | .started | .running => (s.cancelRunning t e.desc).2

/-- End the targets of a CANCEL: it completes right after the last of them. -/
def State.cancelAll (s : State) (r : RingNo) (i : BitVec 32) (targets : List (RingNo × BitVec 32)) : State :=
  let kept := targets.filter fun t => s.runsOn t = some 3
  let wait := targets.filter fun t => s.runsOn t ≠ some 3
  let go := targets.filter fun t => (s.runsOn t).isNone
  let detail := if kept.isEmpty then 0 else 3
  let s := { s with
    rings.cancelled := s.rings.cancelled ++ go
    rings.cancels := s.rings.cancels ++ [(⟨r, i, wait, go.length, detail⟩ : CancelJob)] }
  let s := go.foldl State.cancelOne s
  State.settleCancels s.rings.cancels.length s

/-- CANCEL names nothing it can end: status 0x0E and the code of Table 10.6. -/
def State.cancelNone (s : State) (r : RingNo) (i : BitVec 32) (detail : Nat) : State := s.complete r.val i 0x0E 0 detail

/-- CANCEL of one index. -/
def State.cancelIndex (s : State) (r : RingNo) (i : BitVec 32) (q : RingNo) (x : BitVec 32) : State :=
  let g := s.ring q.val
  if beyond x g.swIdx then s.cancelNone r i 4
  else if s.rings.cancelled.contains (q, x) then s.cancelNone r i 2
  else if (q = r && x = i) || !(g.uncompleted.contains x) then s.cancelNone r i 1
  else s.cancelAll r i [(q, x)]

/-- CANCEL of every uncompleted descriptor through an index. -/
def State.cancelThrough (s : State) (r : RingNo) (i : BitVec 32) (q : RingNo) (x : BitVec 32) : State :=
  let g := s.ring q.val
  let all := g.uncompleted.filter fun y => !(q = r && y = i)
  let named := all.filter fun y => beyond x g.swIdx || !(beyond y (x + 1))
  let l := named.filter fun y => !s.rings.cancelled.contains (q, y)
  if l.isEmpty then s.cancelNone r i (if !named.isEmpty then 2 else if beyond x g.swIdx || all.isEmpty then 4 else 1)
  else s.cancelAll r i (l.map fun y => (q, y))

/-- CANCEL: a job ring's may name only rings of its OWNER. -/
def State.cmdCancel (s : State) (r : RingNo) (i : BitVec 32) (d : Desc) : State :=
  let q : RingNo := Fin.ofNat 64 (bf d 80 6)
  let x := BitVec.ofNat 32 (bf d 96 32)
  if (s.ring r.val).kind ≠ 0 && s.ringOwner q.val != s.ringOwner r.val then s.complete r.val i 0x07
  else if !((s.ring q.val).enabled && (s.ring q.val).isSub) then s.cancelNone r i 4
  else if bit d 86 then s.cancelThrough r i q x else s.cancelIndex r i q x

/-- CANCEL. -/
def execCancel (r : RingNo) (i : BitVec 32) (s : State) : Host.Outcome State Fault Refusal :=
  done ((s.withDesc r i 0x0D fun d s => s.cmdCancel r i d).portStep)

/-! ### FENCE_DIE and UNFENCE_DIE -/

/-- DIE_ID is the one assigned at the port's site at this start, or a revoked one of the site (R231). -/
def State.siteDie (s : State) (id : BitVec 8) : Bool :=
  let x := s.site (7 * s.tile + s.index)
  (x.dieId == id && (x.state == 1 || x.state == 4 || x.state == 5))
    || s.agent.revokedUids.any fun u => some u.1 == x.uid && u.2 == id

/-- Stage a change of the die fence: the lashing that includes it completes the command. -/
def State.cmdFence (s : State) (r : RingNo) (i : BitVec 32) (d : Desc) (fence : Bool) : State :=
  let id : BitVec 8 := BitVec.ofNat 8 (bf d 80 8)
  if !s.siteDie id then s.complete r.val i 0x06
  else
    let s := s.lashTouched.fenceDone 0x0C s.lash.outcome.toNat
    let s := s.stageValue 0x83C (pack 32 [(0, 1, b2n fence), (8, 8, id.toNat)])
    { s with lash.fenceCmds := s.lash.fenceCmds ++ [(r, i)] }

/-- FENCE_DIE. -/
def execFenceDie (r : RingNo) (i : BitVec 32) (s : State) : Host.Outcome State Fault Refusal :=
  done (s.withDesc r i 0x0E fun d s => s.cmdFence r i d true)

/-- UNFENCE_DIE. -/
def execUnfenceDie (r : RingNo) (i : BitVec 32) (s : State) : Host.Outcome State Fault Refusal :=
  done (s.withDesc r i 0x0F fun d s => s.cmdFence r i d false)

end Sys2Proof.Machine
end

