-- ==== Sys2Proof/Machine/Reduce.lean ====
section
/-!
DEFINITION. The commands of in-flight reduction (R244 to R274).
-/
namespace Sys2Proof.Machine

/-- Free job slots (R257). -/
def State.freeJobs (s : State) : List Nat := (List.range 32).filter fun k => (s.redJob k).isNone

/-- A new job of a REDUCE descriptor. -/
def newJob (r : RingNo) (i : BitVec 32) (owner : BitVec 8) (d : Desc) (now : Time) : RedJob where
  ring := r
  index := i
  owner := owner
  desc := d
  cancelling := false
  idleAt := now
  idleClosed := false
  chunks := []
  doneIdx := []
  straggled := 0
  poisonedOut := 0
  flags := 0
  missing := none
  outFault := false
  spillFault := false
  scratchFull := false
  strag := false
  pois := false
  seen := 0
  spillUsed := []
  spillDead := []

/-- Start the job of a REDUCE (R255 to R257), applying the contributions held for it in order of arrival (R263). -/
def State.startJob (s : State) (r : RingNo) (i : BitVec 32) (d : Desc) : State :=
  let owner := s.ringOwner r.val
  if (s.red.jobs.any fun p => p.2.owner == owner && rdJob p.2.desc == rdJob d) then s.complete r.val i 0x20
  else
    let p := s.pick 0 s.freeJobs
    let s := { p.2 with red.jobs := tput p.2.red.jobs p.1 (newJob r i owner d s.now) }
    let held := s.red.hold.filter fun h => flitTenant h.head == owner.toNat && hdJob h.head == rdJob d
    held.foldl (fun a h => a.applyHeld p.1 h) s

/-- REDUCE (R255): ready only while a job slot is free (R257). -/
def execReduce (r : RingNo) (i : BitVec 32) (s : State) : Host.Outcome State Fault Refusal :=
  if s.freeJobs.isEmpty then done s else done (s.withDesc r i 0x20 fun d s => s.startJob r i d)

/-- JOB_STATUS (R258). -/
def execJobStatus (r : RingNo) (i : BitVec 32) (s : State) : Host.Outcome State Fault Refusal :=
  done (s.withDesc r i 0x21 fun d s =>
    match s.red.jobs.find? fun p => p.2.owner == s.ringOwner r.val && rdJob p.2.desc == rdJob d with
    | some (_, j) => s.complete r.val i 0 (jobResult j) (jobDetail j (jobState j))
    | none => s.complete r.val i 0x25)

/-- The flits offered to the engine on one side, oldest first. -/
def State.redOffered (s : State) (rx : Bool) : List NocFlit :=
  (s.noc.taken.filter fun x => x.1 == rx && flitVc x.2 == 4).map Prod.snd

/-- A flit is the next one the engine takes: the oldest of its side, in its side's turn where both sides offer flits (R246). -/
def State.redTurn (s : State) (rx : Bool) (f : NocFlit) : Bool :=
  (s.redOffered rx).head? == some f && ((s.redOffered !rx).isEmpty || s.red.turnRx == rx)

/-- The engine takes a flit: the arbiter turns to the other side (R214, R246). -/
def State.redTaken (s : State) (rx : Bool) (f : NocFlit) : State := { s.untake rx f with red.turnRx := !rx }

/-- CONTRIB_HEAD (R249, R259): a taken head. -/
def execContribHead (rx : Bool) (f : NocFlit) (s : State) : Host.Outcome State Fault Refusal :=
  if s.hasRed then
    done (if s.redTurn rx f && flitType f == 0x38 then (s.redTaken rx f).takeHead rx f else s)
  else done s

/-- CONTRIB_DATA (R249): a taken data flit; one with no open entry for its flow is discarded. -/
def execContribData (rx : Bool) (f : NocFlit) (s : State) : Host.Outcome State Fault Refusal :=
  if s.hasRed then
    done (if s.redTurn rx f && flitType f == 0x39 then
      let s := s.redTaken rx f
      match s.streamOf rx (flowKey f) with
      | some t => s.takeData t f
      | none => s
    else s)
  else done s

/-- CHUNK_TIMER (R262). -/
def execChunkTimer (slot chunk : Nat) (s : State) : Host.Outcome State Fault Refusal :=
  if s.hasRed then done (s.timerClose slot chunk) else done s

/-- JOB_IDLE_TIMER (R262): a contribution accepted in the same PCLK restarts the timer, and nothing closes (R273). -/
def execJobIdleTimer (slot : Nat) (s : State) : Host.Outcome State Fault Refusal :=
  if s.hasRed then
    done (match s.redJob slot with
      | some j => if j.idleAt = s.now ∧ ¬ j.chunks.isEmpty ∨ j.cancelling then s else s.closeJob slot false
      | none => s)
  else done s

/-- PREHOLD_EXPIRY (R263): a held contribution ages out as UNKNOWN. -/
def execPreholdExpiry (num : Nat) (s : State) : Host.Outcome State Fault Refusal :=
  if s.hasRed then
    done (match s.red.hold.find? fun h => h.num = num with
      | some h =>
        ({ s with
          red.hold := s.red.hold.erase h
          red.streams := s.red.streams.filter fun t => t.dest != StreamTo.prehold num }).redDiscard none 1
          (hdJob h.head) (hdChunk h.head) (hdRank h.head)
      | none => s)
  else done s

/-- A spill or refill of a chunk failed: it closes poisoned with free values, and its spill granules are not used again
by the job (R266, assumption log 22). -/
def State.spillFailed (s : State) (slot idx : Nat) : State :=
  let s := s.modJob slot fun j => { j with
    spillFault := true
    spillDead := match j.chunk idx with
      | some c => j.spillDead ++ c.spill
      | none => j.spillDead
    spillUsed := match j.chunk idx with
      | some c => j.spillUsed.filter fun g => !c.spill.contains g
      | none => j.spillUsed }
  s.modChunk slot idx fun c => { c with
    poisoned := true, closeAfter := true, spill := [], acc := c.acc.map fun _ => none, held := [] }

/-- Close a chunk whose refill has arrived or failed. -/
def State.closeRefilled (s : State) (slot idx : Nat) : State :=
  match s.redJob slot with
  | none => s
  | some j =>
    match j.chunk idx with
    | none => s
    | some c =>
      let p := State.combineAll c.held.length s slot j.desc { c with st := .opened }
      ((p.2.loseStreams slot (· == idx)).modChunk slot idx fun _ => p.1).closeChunk slot j p.1

/-- SPILL_WRITE_RESPONSE (R265, R266). -/
def execSpillWriteResponse (slot chunk : Nat) (err : Bool) (s : State) : Host.Outcome State Fault Refusal :=
  if s.hasRed then
    done (match (s.redJob slot).bind fun j => j.chunk chunk with
      | some c =>
        -- an error of a spill write fails the chunk even where its refill has begun
        if c.st = .refilling ∧ err then s.spillFailed slot chunk
        else if c.st ≠ .spilled ∨ c.wait = 0 then s
        else
          let s := s.modChunk slot chunk fun c => { c with wait := c.wait - 1 }
          if err then (s.spillFailed slot chunk).closeRefilled slot chunk else s
      | none => s)
  else done s

/-- The refill of a chunk has arrived: its spill granules are free, and what was held meanwhile is combined. -/
def State.refilled (s : State) (slot idx : Nat) : State :=
  match s.redJob slot with
  | none => s
  | some j =>
    match j.chunk idx with
    | none => s
    | some c =>
      let s := s.modJob slot fun j => { j with spillUsed := j.spillUsed.filter fun g => !c.spill.contains g }
      let c := { c with st := ChunkSt.opened, spill := [] }
      if c.closeAfter then (s.modChunk slot idx fun _ => c).closeRefilled slot idx
      else
        let p := if rdRank j.desc then State.advance (c.held.length + 1) s slot j.desc c
          else State.combineAll c.held.length s slot j.desc c
        p.2.putChunk slot p.1

/-- REFILL_RESPONSE (R265, R266). The bits it brings are those the port wrote (R265), which the chunk's record keeps. -/
def execRefillResponse (slot chunk : Nat) (err : Bool) (s : State) : Host.Outcome State Fault Refusal :=
  if s.hasRed then
    done (match (s.redJob slot).bind fun j => j.chunk chunk with
      | some c =>
        if c.st ≠ .refilling ∨ c.wait = 0 then s
        else
          let s := s.modChunk slot chunk fun c => { c with wait := c.wait - 1 }
          let s := if err then s.spillFailed slot chunk else s
          if c.wait = 1 then s.refilled slot chunk else s
      | none => s)
  else done s

/-- CHUNK_OUTPUT (R267, R269): an ABSENT chunk the idle timer closed is +0 in every element (Table 11.7). -/
def execChunkOutput (slot chunk : Nat) (s : State) : Host.Outcome State Fault Refusal :=
  if s.hasRed then
    done (match s.redJob slot with
      | none => s
      | some j =>
        let absent := (j.chunk chunk).isNone && j.idleClosed && !j.cancelling && (rdPos j.desc chunk).isSome && !j.doneIdx.contains chunk
        let s := if absent then
            s.closeWith slot j { chunk0 chunk 0 s.now with poisoned := true, byTimer := true } (List.replicate (rdElems j.desc) 0)
          else s
        s.outputChunk slot chunk)
  else done s

/-- RESULT_WRITE_RESPONSE (R270). -/
def execResultWriteResponse (slot chunk : Nat) (err : Bool) (s : State) : Host.Outcome State Fault Refusal :=
  if s.hasRed then
    done (match (s.redJob slot).bind fun j => j.chunk chunk with
      | some c =>
        if c.acks = 0 then s
        else
          let s := s.modChunk slot chunk fun c => { c with acks := c.acks - 1 }
          let s := if err then s.modJob slot fun j => { j with outFault := true } else s
          s.chunkSettle slot chunk
      | none => s)
  else done s

end Sys2Proof.Machine
end

