-- ==== Sys2Proof/Machine/Sideband.lean ====
section
/-!
DEFINITION. The commands of the link sideband, the ring station and test access (R37 to R41, R48, R49, R63, R67 to R70):
heartbeats, sideband loss, paired resets, proxying and forwarding, and the two test data registers.
-/
namespace Sys2Proof.Machine

/-! ### HEARTBEAT (R40, R93) -/

/-- HEARTBEAT payload: class, generation 3, start-up state. -/
def State.heartbeat (s : State) : Nat := packNat [(0, 3, s.cls.code), (3, 3, 3), (6, 4, s.start.st.code)]

/-- HEARTBEAT_TIMER. -/
def execHeartbeatTimer (s : State) : Host.Outcome State Fault Refusal :=
  done (if s.sbRuns then s.sendLocal 0 s.heartbeat else s)

/-- A HEARTBEAT heard: a reserved state code is an error and the last valid state stays. -/
def State.takeHeartbeat (s : State) (f : SbFrame) : State :=
  let st := bf f.payload 6 4
  let s := if st ≥ 14 then s.sbErr else { s with sb.farState := BitVec.ofNat 4 st }
  let s := { s with
    sb.hbSeen := true
    sb.farClass := BitVec.ofNat 3 (bf f.payload 0 3)
    sb.farGen := BitVec.ofNat 3 (bf f.payload 3 3)
    sb.farDie := f.srcDie
    sb.farPort := f.srcPort }
  let s := s.trySideband
  if s.start.st != .discover || s.start.failed then s
  else if s.cls.farOk.contains s.sb.farClass.toNat then s.tryNegotiate else s.classFail 1

/-- HEARTBEAT. -/
def execHeartbeat (f : SbFrame) (s : State) : Host.Outcome State Fault Refusal :=
  done (if f.typ ≠ 0 || !isLocal f then s
    else
      let h := s.hear f
      if h.1 then h.2.takeHeartbeat f else h.2)

/-! ### Sideband loss (R69, R70) -/

/-- The loss watch runs: nothing stopped it, or 20 µs have passed since the port left PARK without a frame (R70). -/
def State.watches (s : State) : Bool := !s.sb.watchOff || s.sb.watchAt.any fun t => t ≤ s.now

/-- Every bight ends with the sideband (R118). -/
def State.bightLost (s : State) : State :=
  { s with
    bight.active := false, bight.ctl := setBf s.bight.ctl 12 1 0, bight.braids := 0, bight.ready := 0, bight.waiting := 0
    bight.looped := 0, bight.asked := 0, bight.serving := 0, bight.cmd := none }

/-- Strands under test go back to quarantine with the sideband, and their commands wait no more (R138). -/
def State.testsLost (s : State) : State :=
  { s with
    link.strands := s.link.strands.map fun e => if e.2.st == .testing then (e.1, { e.2 with st := .quarantined }) else e
    link.admits := [] }

/-- Loss is declared: recorded only while tst_alone is high (R49), else a reset is asked for on the pin alone. -/
def State.loseSideband (s : State) : State :=
  if s.start.fresh || !s.sbRuns || s.sb.lost || !s.watches || s.start.st == .park then s
  else
    let s := { s.testsLost with sb.lost := true, sb.up := false }.raise 0x0B (arg0 := s.aon.count.toNat)
    if s.test.alone then s
    else if !s.aon.reqN then s.bightLost
    else ((s.faultReset 3).bightLost).requestReset 3

/-- SIDEBAND_LOSS: 1,024 SBCLK cycles have passed without a valid frame. -/
def execSidebandLoss (s : State) : Host.Outcome State Fault Refusal := done s.loseSideband

/-! ### Paired resets (R67, R68) -/

/-- The CAUSE of the request this end has sent or made, 1 where it names none. -/
def State.ownReqCause (s : State) : BitVec 4 := s.aon.reqCause.getD 1

/-- A fresh port takes a RESET_PAIR (Table 3.5 rows 1 to 4). A fresh port whose root lost its lock has sent a request, which
an acknowledge answers (R53). -/
def State.resetPairFresh (s : State) (ack rel : Bool) : State :=
  if rel then
    let s := { s with start.gotRel := true }
    (if ack then s else s.announce true).trySideband
  else if !ack then s.announce false
  else if s.start.reqSent && s.aon.reqN then s.requestReset s.ownReqCause
  else s

/-- A port that is not fresh and has sent no request takes a RESET_PAIR (rows 6 and 7). -/
def State.resetPairAsked (s : State) (ack drain rel : Bool) : State :=
  if ack then s.sbErr
  else if !s.aon.reqN then s.sendResetPair s.ownReqCause.toNat true false false
  else if drain && !rel && s.drains then
    { s.withholdReset with start.reqDrain := true, aon.reqCause := some 2 }.startDrain .reset
  else ((s.withholdReset).sendResetPair 2 true false false).requestReset 2

/-- A RESET_PAIR heard: FAR_CAUSE, then Table 3.5. -/
def State.takeResetPair (s : State) (f : SbFrame) : State :=
  let s := { s with aon.farCause := BitVec.ofNat 4 (bf f.payload 0 4) }
  let ack := bit f.payload 4
  let rel := bit f.payload 6
  if s.start.fresh then s.resetPairFresh ack rel
  else if s.start.reqSent then (if s.aon.reqN then s.requestReset s.ownReqCause else s)
  else s.resetPairAsked ack (bit f.payload 5) rel

/-- RESET_PAIR. -/
def execResetPair (f : SbFrame) (s : State) : Host.Outcome State Fault Refusal :=
  done (if f.typ ≠ 4 || !isLocal f then s
    else
      let h := s.hear f
      if h.1 then h.2.takeResetPair f else h.2)

/-- RESET_PAIR_ANNOUNCE: once at release and every 10 µs until the far end is recorded as released. A guest port without
its enable sends none (Table 5.3). -/
def execResetPairAnnounce (s : State) : Host.Outcome State Fault Refusal :=
  done (if s.start.fresh && s.sbRuns && !s.start.gotRel && s.guestOn then s.announce false else s)

/-- PAIR refused: a reset already runs, the port is fresh, or it is in PARK or OFF (R68). -/
def State.pairRefused (s : State) : Bool := s.resetGoes || s.start.fresh || s.asleep

/-- A write of FX_RESET: DRAIN, then PAIR; an accepted PAIR closes the billing epoch with cause reset first (R325). -/
def State.writeReset (s : State) (v : Reg) : State :=
  let s := { s with start.drainBit := bit v 1 }
  if !bit v 0 then s
  else if s.pairRefused then { s with start.refused := s.start.refused + 1 }
  else
    let s := if s.mtr.running then s.closeEpoch 2 s.clk.tsc.toNat else s
    (s.askReset 1 s.start.drainBit).portStep

/-- PAIRED_RESET_REQUEST: a write of FX_RESET. -/
def execPairedResetRequest (a : Access) (s : State) : Host.Outcome State Fault Refusal :=
  done (if a.off.toNat = 0x20 then s.regWrite a fun s => s.writeReset a.data else s)

/-- RESET_ACK_LIMIT. -/
def execResetAckLimit (s : State) : Host.Outcome State Fault Refusal :=
  done (if s.start.reqSent && s.aon.reqN && s.aon.pairN then s.requestReset s.ownReqCause else s)

/-- RESET_REQ_TIMEOUT: the braids fall silent and rst_req_n stays low. -/
def execResetReqTimeout (s : State) : Host.Outcome State Fault Refusal :=
  done (if !s.aon.reqN && s.aon.pairN && !s.start.reqHeld then { s with start.reqHeld := true }.raise 0x0C else s)

/-! ### Proxies and forwarding (R38, R39, R41) -/

/-- A frame of a reserved TYPE is discarded and counted as a protocol error, a copy of one already counted only discarded; it
does not count as received (R38, R90). -/
def State.dropReserved (s : State) (f : SbFrame) : State :=
  if !s.sbRuns then s
  else if s.isCopy f then s.takeCopies (sbWord f)
  else { (s.takeCopies (sbWord f)).sbErr with sb.merged := s.mergeWith f }

/-- A reply for the far end: PROXY cleared, link-local, on this block's link; a fibre hub block proxies for its optical end
alone, across their six sites (R36, R91). -/
def State.proxyDown (s : State) (f : SbFrame) : State :=
  let g := { f with proxy := false, destDie := 0xFF }
  if s.fibreHub then s.sendOpt g else if f.typ = 2 then s.forwardDieId f else s.sendLink g

/-- SIDEBAND_PROXY: a frame of the far end, which has no ID yet, goes on under this block's name; the reply comes back. -/
def execSidebandProxy (f : SbFrame) (s : State) : Host.Outcome State Fault Refusal :=
  done (if isLocal f then s
    else if f.typ.toNat ≥ 8 then s.dropReserved f
    else if f.proxy && s.addressed f then
      let h := s.receive f
      if h.1 then h.2.proxyDown f else h.2
    else if f.srcDie = 0xFF && !s.isOptical then
      let h := s.hear f
      if !h.1 then h.2
      else if f.typ = 1 then h.2.beaconHeard f
      else if s.proxies then h.2.proxyUp f else h.2
    else s)

/-- The block's own head frame takes a gap on the ring, with the next SEQ of the station. -/
def State.ringGap (s : State) : State :=
  match s.sb.ringOwn with
  | [] => s
  | f :: l => { s with
      sb.ringOwn := l, sb.ringPtr := 0, sb.ringSeq := s.sb.ringSeq + 1
      out.sbRing := s.out.sbRing ++ [{ f with seq := s.sb.ringSeq }] }

/-- A frame from the ring: kept, sent on this block's link where the block is its die's way to the frame's die, or forwarded;
where the pointer stands on the own frames, one of them goes first. A reserved TYPE is counted and a link-local frame, which
belongs on a link, is not forwarded (R38). -/
def State.ringFrame (s : State) (f : SbFrame) (uplink : Bool) : State :=
  if f.typ.toNat ≥ 8 then s.sbErr
  else if isLocal f then s
  else if s.addressed f then
    (if s.sb.ringBuf.length < 8 then { s with sb.ringBuf := s.sb.ringBuf ++ [f] }
     else { s with sb.ringDiscards := s.sb.ringDiscards + 1 })
  else if uplink && s.sb.up && s.leadsTo f then s.sendLink f
  else
    let s := if s.sb.ringPtr = 1 then s.ringGap else s
    { s with out.sbRing := s.out.sbRing ++ [f], sb.ringPtr := 1 }

/-- RING_FRAME_FORWARD: a frame of the ring, or a gap; `uplink` where the block's link is the lowest-numbered live lateral one
toward the frame's die. -/
def execRingFrameForward (f : Option SbFrame) (uplink : Bool) (s : State) : Host.Outcome State Fault Refusal :=
  done (if !s.sbRuns || s.isOptical then s
    else match f with
      | some f => s.ringFrame f uplink
      | none => s.ringGap)

/-- A frame heard for somebody else, its source assigned: a hub block gives the relay's own to the controller, the rest goes
on by the routes of R39. -/
def State.sendOn (s : State) (f : SbFrame) : State :=
  if s.agentHere && f.destDie == 0 && f.destPort == 0 then
    { s with out.smReq := s.out.smReq ++ [f], agent.answers := s.agent.answers ++ smReply s.agent f }
  else s.sendRouted f

/-- SIDEBAND_FRAME_FORWARD. -/
def execSidebandFrameForward (f : SbFrame) (s : State) : Host.Outcome State Fault Refusal :=
  done (if isLocal f || f.srcDie = 0xFF || s.addressed f || s.isOptical then s
    else if f.typ.toNat ≥ 8 then s.dropReserved f
    else
      let h := s.hear f
      if h.1 then h.2.sendOn f else h.2)

/-- A frame with a good SOF and CRC that is discarded: a reserved TYPE, or a TRAIN of a reserved phase (R38, R98). -/
def State.frameReserved (s : State) (f : SbFrame) : State :=
  if f.typ.toNat ≥ 8 then s.dropReserved f
  else if f.typ = 3 && (trPhase f.payload = 0 || trPhase f.payload > 9) then
    let h := s.hear f
    if h.1 then h.2.sbErr else h.2
  else s

/-- SIDEBAND_FRAME_DISCARD: the 128 bits of a frame as received (R37). -/
def execSidebandFrameDiscard (w : SbWord) (s : State) : Host.Outcome State Fault Refusal :=
  done (if !s.sbRuns then s
    else if bf w 0 8 ≠ 0xA5 || crc16 112 w.toNat ≠ bf w 112 16 then { s.takeCopies w with sb.crcErr := s.sb.crcErr + 1 }
    else s.frameReserved (sbParse w))

/-! ### Stand-alone mode and test access (R48, R49, R63) -/

/-- TST_ALONE_CHANGE: while rst_pair_n is high a pair reset is asked for with cause 6. -/
def execTstAloneChange (v : Bool) (s : State) : Host.Outcome State Fault Refusal :=
  done (if v = s.test.alone then s
    else
      let s := { s with test.alone := v }
      if s.aon.pairN && s.aon.reqN then s.withholdReset.requestReset 6 else s)

/-- TEST_LOGIC_RESET: both test data registers return to reset; an access in flight is abandoned and reads refused. -/
def execTestLogicReset (s : State) : Host.Outcome State Fault Refusal :=
  let t := s.test
  done { s with test := { zeroTest with
    alone := t.alone, selWdr := t.selWdr, selAcc := t.selAcc, resOp := if t.job.isSome then 2 else 0 } }

/-- The two select lines at a command. -/
def State.selects (s : State) (wdr acc : Bool) : State := { s with test.selWdr := wdr, test.selAcc := acc }

/-- With both registers selected neither is connected and tst_so is low (R48). -/
def State.soLow (s : State) : State := if s.test.selWdr && s.test.selAcc then { s with test.so := false } else s

/-- Update-DR of the register-access register: OP 1 reads, OP 2 writes; ignored while an access is busy. -/
def State.tapUpdate (s : State) : State :=
  let op := bf s.test.acc 0 2
  if s.test.job.isSome || op = 0 || op = 3 then s
  else { s with test.job := some ⟨op, bf s.test.acc 2 16, BitVec.ofNat 32 (bf s.test.acc 18 32)⟩ }

/-- TAP_UPDATE. -/
def execTapUpdate (wdr acc : Bool) (s : State) : Host.Outcome State Fault Refusal :=
  let s := (s.selects wdr acc).soLow
  done (if acc && !wdr then s.tapUpdate else s)

/-- Capture-DR of the register-access register: busy, or the result of the last access. -/
def State.tapCapture (s : State) : State :=
  let t := s.test
  let op := if t.job.isSome then 1 else t.resOp
  let data := if t.job.isSome then 0 else t.resData.toNat
  { s with test.acc := pack 50 [(0, 2, op), (2, 16, bf t.acc 2 16), (18, 32, data)] }

/-- TAP_CAPTURE: `cells` are the levels at the 38 wrapped sites. -/
def execTapCapture (wdr acc : Bool) (cells : BitVec 38) (s : State) : Host.Outcome State Fault Refusal :=
  let s := (s.selects wdr acc).soLow
  done (if acc && !wdr then s.tapCapture
    else if wdr && !acc then { s with test.wdr := cells } else s)

/-- TAP_SHIFT: the selected register's lowest bit goes out on tst_so and tst_si comes in at its top; with both selected or
neither, tst_so is low. -/
def execTapShift (wdr acc si : Bool) (s : State) : Host.Outcome State Fault Refusal :=
  let s := s.selects wdr acc
  done (if acc && !wdr then
      { s with test.so := bit s.test.acc 0, test.acc := setBf (s.test.acc >>> 1) 49 1 (b2n si) }
    else if wdr && !acc then
      { s with test.so := bit s.test.wdr 0, test.wdr := setBf (s.test.wdr >>> 1) 37 1 (b2n si) }
    else { s with test.so := false })

end Sys2Proof.Machine
end

