-- ==== Sys2Proof/Machine/RegRead.lean ====
section
/-!
DEFINITION. What every register of the window reads (Tables 17.9 to 17.24 and the field tables they name), block by block, and
what a read changes (R323, R389).
-/
namespace Sys2Proof.Machine

/-- A register from its fields: lowest bit, width, value. -/
def regOf (l : List (Nat × Nat × Nat)) : Reg := BitVec.ofNat 32 (packNat l)

/-- Low and high words of a wide value. -/
def loWord {n : Nat} (v : BitVec n) : Reg := BitVec.ofNat 32 (bf v 0 32)
def hiWord {n : Nat} (v : BitVec n) : Reg := BitVec.ofNat 32 (bf v 32 32)

/-! ### Identity and status (Table 17.9) -/

/-- INSTANCE of FX_ID (R393). -/
def State.instanceNo (s : State) : Nat :=
  if s.isOptical then 178 + s.index
  else if s.cls = .sc ∧ s.start.siteValid = false then 0xFF
  else s.extent

/-- FX_ID (Table 17.3). -/
def State.idReg (s : State) : Reg :=
  regOf [(0, 4, s.cls.code), (4, 3, 3), (8, 8, s.straps.revision.toNat), (16, 8, s.instanceNo),
    (24, 3, if s.isOptical then 0 else s.cls.features)]

/-- FX_SITE (Table 1.2). -/
def State.siteReg (s : State) : Reg :=
  regOf [(0, 4, s.index), (4, 3, s.tile), (7, 1, b2n s.isOptical), (8, 8, s.ownDie.toNat), (16, 1, b2n s.start.spare),
    (17, 1, b2n (s.cls != .sc || s.start.siteValid))]

/-- Transmit or receive braids trained, as a mask. -/
def braidMask (l : List (Fin 8)) : Nat := maskOf (l.map Fin.val)

/-- The identity and status block. -/
def State.readIdent (s : State) (off : Nat) : Reg :=
  match off with
  | 0x00 => s.idReg
  | 0x04 => s.siteReg
  | 0x10 => BitVec.ofNat 32 s.clkstat
  | 0x14 => regOf [(0, 4, s.aon.cause.toNat), (4, 8, s.aon.count.toNat), (12, 4, s.aon.farCause.toNat)]
  | 0x20 => regOf [(1, 1, b2n s.start.drainBit), (16, 8, s.start.refused.toNat)]
  | 0x30 => regOf [(0, 4, s.start.st.code), (4, 1, b2n s.start.failed),
      (8, 8, if s.start.failed then s.start.failCode.toNat else 0), (16, 8, braidMask s.liveTx), (24, 8, braidMask s.liveRx)]
  | 0x38 => loWord s.straps.uid
  | 0x3C => hiWord s.straps.uid
  | 0x40 => loWord s.start.farUid
  | 0x44 => hiWord s.start.farUid
  | 0x48 => regOf [(0, 3, s.start.negGen.toNat), (3, 4, s.start.negRate.toNat), (7, 4, s.start.negFarClass.toNat),
      (11, 3, s.start.negFarMax.toNat), (14, 3, s.start.negFarMin.toNat), (17, 3, s.start.negFarFeat.toNat),
      (20, 1, b2n s.start.negValid), (21, 4, s.straps.ownRates.toNat)]
  | 0x50 => regOf [(0, 16, s.cfg.slotCode.toNat), (16, 1, b2n s.cfg.done), (17, 8, s.cfg.foreign.toNat)]
  | 0x54 => regOf [(0, 8, s.cfg.reissues.toNat), (8, 8, s.cfg.smErrors.toNat), (16, 8, s.cfg.rejected.toNat)]
  | 0x58 => regOf [(0, 8, s.glob.partialCnt.toNat), (8, 8, s.glob.unmapped.toNat), (16, 1, b2n s.allVisible),
      (17, 1, b2n s.asleep)]
  | 0x60 => s.glob.optId
  | 0x64 => s.glob.optSite
  | 0x68 => s.glob.optClk
  | _ => 0

/-! ### Global control (Table 17.10) -/

def State.readGlobal (s : State) (off : Nat) : Reg :=
  match off with
  | 0x400 => s.glob.scratch0
  | 0x404 => s.glob.scratch1
  | 0x408 => s.glob.scratch2
  | 0x40C => s.glob.scratch3
  | 0x440 => s.link.splCtl
  | _ => 0

/-! ### Lashing and locks (Table 17.11) -/

/-- STATE of FX_LSH_STAT. -/
def State.lashState (s : State) : Nat :=
  if s.lash.switching then 4 else if s.lash.linkWait then 3 else if s.lash.proposed.isSome then 2
  else if s.lash.staged.isEmpty then 0 else 1

/-- A log entry that has not been written. -/
def lockEnt0 : LockEnt := ⟨0, 0, 0, false, 0, 0, 0⟩

/-- The log entry FX_LOCK_IDX selects. -/
def State.lockEnt (s : State) : LockEnt := tget lockEnt0 s.lash.log (bf s.lash.lockIdx 0 4)

def State.readLash (s : State) (off : Nat) : Reg :=
  match off with
  | 0x800 => regOf [(0, 16, s.lash.window.toNat)]
  | 0x804 => regOf [(0, 3, s.lashState), (3, 4, s.lash.outcome.toNat), (7, 1, b2n s.lash.digestValid),
      (8, 10, s.lash.staged.length), (18, 8, s.lash.lateAbort.toNat)]
  | 0x808 => s.lash.soff
  | 0x80C => if protectedOff s.cls s.shadowOff then s.shadow s.shadowOff else 0
  | 0x810 => regOf [(0, 16, ((s.lash.staged.map Prod.fst).find? fun o => s.shadowOff ≤ o).getD 0xFFFF)]
  | 0x81C => if s.lash.digestValid then s.lash.digest else 0
  | 0x828 => s.lash.count
  | 0x82C => s.lash.link
  | 0x830 => s.lash.partyA
  | 0x834 => s.lash.partyB
  | 0x838 => if s.cls = .lg then s.prot 0x838 else 0
  | 0x83C => if s.cls = .sb then s.prot 0x83C else 0
  -- zero, its reset value, until the negotiation it covers has succeeded
  | 0x840 => if s.start.negValid then BitVec.ofNat 32 s.ownDigest else 0
  | 0x844 => s.lash.cfgFar
  | 0x848 => s.lash.mismatch
  | 0x880 => regOf [(0, 1, b2n s.lash.viol), (8, 8, s.lash.violCount.toNat), (16, 4, s.lash.head.toNat)]
  | 0x884 => s.lash.lockIdx
  | 0x888 => regOf [(0, 16, s.lockEnt.off.toNat), (16, 10, s.lockEnt.ep.toNat), (26, 4, s.lockEnt.cause.toNat),
      (30, 1, b2n s.lockEnt.valid)]
  | 0x88C => s.lockEnt.value
  | 0x890 => loWord s.lockEnt.ts
  | 0x894 => regOf [(0, 16, bf s.lockEnt.ts 32 16), (16, 8, s.lockEnt.die.toNat)]
  | _ => 0

/-! ### Braids (Tables 17.12, 17.13) -/

/-- SHAPE of one direction of a braid (Table 6.9). -/
def State.shapeReg (s : State) (dir : Nat) (b : Fin 8) : Reg :=
  let x := s.shape dir b
  let spare := ((List.range s.cls.nstrands).filter fun p =>
    (s.strand dir b p).st == .standby || (s.strand dir b p).st == .idle).length
  let op := match x.op with
    | some o => (o.op, o.token)
    | none => (x.lastOp, x.lastToken)
  regOf [(0, 6, if x.trained && !x.retired then x.width else 0), (6, 6, x.clock), (12, 6, spare), (18, 1, b2n x.retired),
    (19, 1, b2n x.op.isSome), (20, 4, op.1), (24, 8, op.2)]

/-- STROPS of one direction of a braid. -/
def stropsReg (x : Shape) : Reg :=
  regOf [(0, 8, x.switches.toNat), (8, 8, x.widths.toNat), (16, 8, x.aborts.toNat), (24, 8, x.quarantines.toNat)]

def State.readTx (s : State) (off : Nat) : Reg :=
  let b := oct (off / 0x100)
  let t := s.link.tx.get b
  match off % 0x100 with
  | 0x10 => s.shapeReg 0 b
  | 0x14 => stropsReg t.shape
  | 0x20 => regOf [(0, 16, t.next.toNat), (16, 16, t.oldest.toNat)]
  | 0x24 => regOf [(0, 16, t.resends.toNat), (16, 8, t.retrains.toNat), (24, 8, t.failed.toNat)]
  | 0x28 => regOf [(0, 14, t.loop.toNat)]
  | _ => s.prot off

def State.readRx (s : State) (off : Nat) : Reg :=
  let b := oct ((off - 0x800) / 0x100)
  let r := s.link.rx.get b
  match off % 0x100 with
  | 0x10 => s.shapeReg 1 b
  | 0x14 => stropsReg r.shape
  | 0x20 => regOf [(0, 16, r.expected.toNat), (16, 16, r.lastAck.toNat)]
  | 0x24 => regOf [(0, 16, r.crcFail.toNat), (16, 8, r.naks.toNat), (24, 8, r.dups.toNat)]
  | 0x28 => loWord r.rpTs
  | 0x2C => regOf [(0, 16, bf r.rpTs 32 16), (16, 8, r.rpRounds.toNat), (24, 3, r.rpCause.toNat)]
  | 0x30 => regOf [(0, 6, r.rxAlign.toNat), (6, 4, r.rxPhase.toNat), (10, 14, r.flight.toNat)]
  | _ => 0

/-! ### Calibration (Table 17.14) -/

/-- FX_STRAND_STATE (Table 6.10); beyond the class's strands only LOGICAL reads other than zero (Table 17.2). -/
def State.strandReg (s : State) (dir : Nat) (b : Fin 8) (p : Nat) : Reg :=
  if p < s.cls.nstrands then
    let x := s.strand dir b p
    regOf [(0, 3, x.st.code), (3, 6, x.logical.getD 0x3F), (9, 10, if dir = 1 then ofInt 10 x.deskew else 0),
      (19, 4, x.code.toNat), (23, 4, x.abort.toNat)]
  else 0x1F8

/-- FX_TRIM_RX of a receive strand: its trims, and on the clock strands CLK_PI, the interpolator that cancels the strand's
arrival, modulo 256 (R123; DEDUCED, assumption log 48). -/
def State.trimRxReg (s : State) (b : Fin 8) (p : Nat) : Reg :=
  let v := (s.trim 1 b p).rx &&& rxMask s.cls
  if !s.cls.isFibre && (p == 34 || p == 35) then setBf v 17 8 (ofInt 8 (-(s.strand 1 b p).arrival)) else v

/-- AGE: milliseconds since the strand's last calibration, saturating. -/
def State.calAge (s : State) (t : Trim) : Nat :=
  match t.doneAt with
  | some x => satN 16 ((s.now - x) / ms 1)
  | none => 0xFFFF

/-- FX_TRIM_STAT. -/
def State.trimStat (s : State) (dir : Nat) (b : Fin 8) (p : Nat) : Reg :=
  let t := s.trim dir b p
  regOf [(0, 1, b2n t.pending), (1, 1, b2n (!s.cls.isFibre && bit s.aon.retained (8 * dir + b.val))), (2, 4, t.last.toNat),
    (6, 16, s.calAge t), (22, 8, t.discarded.toNat)]

/-- The registers FX_STRAND_IDX selects. -/
def State.readStrand (s : State) (off : Nat) : Reg :=
  let b := idxBraid s.link.strandIdx
  let p := idxStrand s.link.strandIdx
  let dir := idxDir s.link.strandIdx
  if s.cls.nstrands ≤ p then (if off = 0x2004 then 0x1F8 else 0)
  else
    let t := s.trim dir b p
    match off, dir with
    | 0x2004, _ => s.strandReg dir b p
    | 0x2008, 1 => s.trimRxReg b p
    | 0x200C, 1 => t.dfe &&& dfeMask s.cls
    | 0x2010, 0 => t.tx &&& txMask s.cls
    | 0x2014, 0 => t.otx &&& otxMask s.cls
    | 0x2018, 1 => t.orx &&& orxMask s.cls
    | 0x201C, _ => s.trimStat dir b p
    | 0x2020, 1 => t.eye
    | 0x2024, 1 => t.err
    | _, _ => 0

/-- The working-set entry FX_TSET_IDX selects (Table 17.2). -/
def State.readTset (s : State) : Reg :=
  if s.cls.isFibre && bf s.cal.tsetIdx 6 3 < 5 then
    tget (if bf s.cal.tsetIdx 5 1 = 0 then 0x00200800 else 0x08180800) s.cal.tset
      (tsetKey (bf s.cal.tsetIdx 0 2) (bf s.cal.tsetIdx 5 1) (bf s.cal.tsetIdx 2 3) (bf s.cal.tsetIdx 6 3))
  else 0

def State.readCal (s : State) (off : Nat) : Reg :=
  match off with
  | 0x2000 => s.link.strandIdx
  | 0x2040 => s.cal.ctl
  | 0x2044 => regOf [(0, 8, s.cal.done.toNat), (8, 8, s.cal.abandoned.toNat), (16, 8, s.cal.noCover.toNat),
      (24, 8, s.cal.skipped.toNat)]
  | 0x2048 => if s.cls.isFibre then s.cal.tsetIdx else 0
  | 0x204C => s.readTset
  | 0x2050 => if s.cls.isFibre then regOf [(0, 2, s.cal.loaded.toNat), (2, 1, b2n s.cal.aValid), (3, 1, b2n s.cal.bValid),
      (4, 4, s.cal.captured.toNat)] else 0
  | 0x2054 => if s.cls.isFibre then s.cal.gen else 0
  | 0x2058 => regOf [(0, 10, s.cal.temp.toNat), (10, 1, b2n s.cal.stale), (11, 1, b2n s.cal.fault), (12, 2, s.cal.nearest)]
  | _ => s.readStrand off

/-! ### Link layer (Table 17.15) -/

/-- Step 7 has been reached since the pair reset, so the port holds its figure (Table 8.13). -/
def State.atTrain (s : State) : Bool := s.start.opened || 6 ≤ s.start.st.code

def State.readLink (s : State) (off : Nat) : Reg :=
  match off with
  | 0x3000 => s.link.llCtl
  | 0x3004 => regOf [(0, 8, braidMask s.liveTx), (8, 8, braidMask s.liveRx), (16, 1, b2n s.link.down),
      (17, 1, b2n s.link.retraining), (18, 8, s.link.retrains.toNat)]
  | 0x3008 => if s.atTrain then regOf [(0, 11, s.link.latency), (11, 11, s.link.rrt)] else 0
  | 0x300C => regOf [(0, 16, s.link.protoErr.toNat), (16, 8, s.link.recDropped.toNat), (24, 8, s.link.stale.toNat)]
  | _ => 0

/-! ### Flow control (Table 17.16) -/

/-- Flits of a VC's pool that hold a slot. -/
def State.poolOcc (s : State) (v : Fin 8) : Nat := s.slotsHeld v

/-- The registers FX_FC_IDX selects; zero for a VC the class does not carry (Table 17.2). -/
def State.readVc (s : State) (off : Nat) : Reg :=
  let b := oct (bf s.noc.fcIdx 0 3)
  let v := oct (bf s.noc.fcIdx 3 3)
  if !s.cls.carries v then 0
  else
    let r := s.link.rx.get b
    let pool := s.noc.pool.get v
    match off with
    | 0x400C => regOf [(0, 10, rxOcc r v), (10, 1, b2n (bit r.xon v.val)), (11, 1, b2n (bit (s.link.tx.get b).farXon v.val)),
        (12, 8, (pool.filter fun x => x.queue = some b).length), (20, 8, (r.xoffs.get v).toNat), (28, 4, (r.overruns.get v).toNat)]
    | 0x4010 => regOf [(0, 8, s.noc.inHeld.get v), (8, 8, s.noc.lostIn.get v), (16, 8, s.poolOcc v),
        (24, 8, (pool.filter fun x => x.queue.isNone).length)]
    | _ => regOf [(0, 9, s.noc.egHeld.get v), (9, 9, s.noc.lostEg.get v)]

/-- FX_FC_THR of a class. -/
def thrReg (c : PortClass) : Reg := regOf [(0, 10, c.xoffAt), (10, 10, c.xonAt), (20, 10, c.rxDepth)]

/-- FX_FLOW_BKT of the bucket FX_FLOW_IDX selects. -/
def State.bucketReg (s : State) : Reg :=
  let k := s.bucket (bf s.noc.flowIdx 0 8)
  regOf [(0, 3, k.braid.val), (3, 3, k.target.val), (6, 1, b2n k.moving), (7, 16, k.lastSeq.toNat)]

def State.readFlow (s : State) (off : Nat) : Reg :=
  match off with
  | 0x4000 => s.noc.fcCtl
  | 0x4004 => thrReg s.cls
  | 0x4008 => s.noc.fcIdx
  | 0x4018 => regOf [(0, 16, s.noc.audits.toNat), (16, 8, s.noc.mismatch.toNat), (24, 8, s.noc.abandoned.toNat)]
  | 0x401C => regOf [(0, 16, s.noc.boundary.toNat), (16, 8, s.noc.stalls.toNat), (24, 8, s.noc.mgmtDrop.toNat)]
  | 0x4020 => s.noc.flowIdx
  | 0x4024 => s.bucketReg
  | 0x4028 => regOf [(0, 8, s.noc.live.toNat), (8, 16, s.noc.moves.toNat),
      (24, 8, (s.noc.buckets.filter fun k => k.2.moving).length)]
  | _ => s.readVc off

/-! ### Rings (Table 17.17) -/

def RingState.code : RingState → Nat
  | .disabled => 0 | .running => 1 | .draining => 2 | .halted => 3

/-- FX_RINGn_STAT. -/
def ringStat (g : Ring) : Reg :=
  regOf [(0, 2, g.st.code), (2, 4, if g.st == .halted then g.haltCode.toNat else 0),
    (6, 9, if g.isSub then (g.descs.filter fun e => e.st == .started || e.st == .running).length
      else if g.kind = 3 then g.slots else 0)]

/-- A doorbell or shadow register of a line. -/
def readLine (l : Line) (off : Nat) : Reg :=
  match off % 0x10 with
  | 0 => l.dbLo
  | 4 => l.dbHi
  | 8 => l.shLo
  | _ => l.shHi

def State.readRings (s : State) (off : Nat) : Reg :=
  if off < 0x5040 then
    match off with
    | 0x5000 => s.rings.ctl
    | 0x5004 => regOf [(0, 9, s.fifoOcc), (9, 9, s.rings.fifoHigh.toNat), (18, 8, s.rings.halts.toNat),
        (26, 1, b2n s.rings.evtHalted)]
    | 0x5008 => regOf [(0, 16, s.rings.evtDropped.toNat), (16, 8, s.rings.cfgErr.toNat), (24, 8, s.rings.staleDesc.toNat)]
    | 0x500C => regOf [(0, 10, s.straps.ringEp.toNat)]
    | _ => regOf [(0, 16, s.rings.cplDiscarded.toNat), (16, 8, s.rings.msiFail.toNat)]
  else if off < 0x50C0 then readLine (s.rings.line.get (oct ((off - 0x5040) / 0x10))) off
  else if off = 0x50C0 then s.rings.msiMask
  else if off < 0x5800 then
    let g := s.ring ((off - 0x5400) / 0x10)
    match off % 0x10 with
    | 0 => g.baseLo
    | 4 => g.baseHi
    | 8 => g.cfg
    | _ => s.prot off
  else if off < 0x5C00 then
    let g := s.ring ((off - 0x5800) / 0x10)
    match off % 0x10 with
    | 0 => g.msiLo
    | 4 => g.msiHi
    | 8 => g.msiData
    | _ => ringStat g
  else
    let g := s.ring ((off - 0x5C00) / 8)
    if off % 8 = 0 then g.portIdx else g.swIdx

/-! ### Reduction (Table 17.18) -/

/-- The registers FX_RED_JIDX selects. -/
def State.readJob (s : State) (off : Nat) : Reg :=
  match s.redJob (bf s.red.jidx 0 5) with
  | none => 0
  | some j =>
    match off with
    | 0x6024 => regOf [(0, 16, rdJob j.desc), (16, 8, j.owner.toNat), (24, 2, jobState j), (26, 6, j.ring.val)]
    | 0x6028 => BitVec.ofNat 32 j.doneIdx.length
    | 0x602C => regOf [(0, 13, (j.chunks.filter fun c => c.st != .closed).length), (13, 11, jobGrans j),
        (24, 8, satN 8 j.straggled)]
    | _ => regOf [(0, 13, j.spillUsed.length)]

def State.readRed (s : State) (off : Nat) : Reg :=
  match off with
  | 0x6000 => s.red.ctl
  | 0x6004 => regOf [(0, 10, s.straps.redEp.toNat)]
  | 0x6008 => regOf [(0, 6, s.red.jobs.length), (6, 11, s.freeGrans), (17, 13, s.chunkRecords)]
  | 0x600C => s.red.contribs
  | 0x6010 => regOf [(0, 8, s.red.cDup.toNat), (8, 8, s.red.cRange.toNat), (16, 8, s.red.cFormat.toNat),
      (24, 8, s.red.cLate.toNat)]
  | 0x6014 => regOf [(0, 8, s.red.cTrunc.toNat), (8, 8, s.red.cStreams.toNat), (16, 8, s.red.cScratch.toNat),
      (24, 8, s.red.cPoison.toNat)]
  | 0x6018 => regOf [(0, 8, s.red.cUnknown.toNat), (8, 8, s.red.cBadType.toNat), (16, 8, s.red.cMirror.toNat)]
  | 0x601C => regOf [(0, 16, s.red.spills.toNat), (16, 16, s.red.refills.toNat)]
  | 0x6020 => s.red.jidx
  | _ => s.readJob off

/-! ### Hitches (Table 17.19) -/

/-- Fenced signals held at egress now (R290). -/
def State.egFenced (s : State) : Nat := (octs.map fun b => ((s.link.rx.get b).buf.filter fun x => x.fenced).length).sum

def State.readHitch (s : State) (off : Nat) : Reg :=
  match off with
  | 0x7000 => s.ht.ctl
  | 0x7004 => regOf [(0, 10, s.straps.hitchEp.toNat)]
  | 0x7008 => regOf [(0, 14, s.ht.waiters.length), (14, 14, s.ht.high.toNat), (28, 1, b2n s.sweeping)]
  | 0x700C => s.ht.sigs
  | 0x7010 => regOf [(0, 8, s.ht.blocked.toNat), (8, 8, s.ht.overflow.toNat), (16, 8, s.ht.underflow.toNat),
      (24, 8, s.ht.wrong.toNat)]
  | 0x7014 => regOf [(0, 8, s.ht.timeouts.toNat), (8, 8, s.ht.aborts.toNat), (16, 8, s.ht.wtFull.toNat),
      (24, 8, s.ht.replaced.toNat)]
  | 0x7018 => regOf [(0, 8, s.ht.poisoned.toNat), (8, 8, s.ht.badMsg.toNat), (16, 8, s.ht.farWait.toNat),
      (24, 8, s.ht.mirRej.toNat)]
  | 0x701C => regOf [(0, 16, s.ht.fencesDone.toNat), (16, 8, s.ht.fences.length), (24, 8, s.egFenced)]
  | 0x7020 => s.ht.epoch
  | 0x7024 => regOf [(0, 16, s.ht.drift.toNat), (16, 16, s.ht.coalesced.toNat)]
  | 0x7200 => s.ht.dbgIdx
  | 0x7210 => tget 0x2000 s.ht.dbg off
  | 0x7220 => s.ht.dbgWidx
  | _ => if off < 0x7200 then (if isHtOwn s.cls off then s.prot off else 0) else tget 0 s.ht.dbg off

/-! ### Tenants and firewall (Table 17.20), metering (Table 17.21) -/

def State.readTenant (s : State) (off : Nat) : Reg :=
  match off with
  | 0x8004 => regOf [(0, 16, s.ten.drops.toNat), (16, 8, s.ten.respDrop.toNat)]
  | 0x8008 => s.ten.last
  | 0x800C => s.ten.addrLo
  | 0x8010 => s.ten.addrHi
  | 0x8014 => regOf [(0, 16, s.ten.txBlock.toNat), (16, 16, s.ten.rxBlock.toNat)]
  | _ => s.prot off

/-- Flits now belayed (FX_BELAY.HELD): those every case that runs holds. -/
def State.belayed (s : State) : List NocFlit :=
  match s.pwr.belays with
  | [] => []
  | l => s.heldFlits (if l.any fun x => x.1 ≠ 4 then 1 else 4)

/-- The meter FX_MTR_IDX selects (R323). -/
def State.meterNow (s : State) : BitVec 64 :=
  let tenant := bf s.mtr.idx 0 8
  let counter := bf s.mtr.idx 8 3
  if bit s.mtr.idx 11 then meterValue s.mtr.snap s.mtr.energySnap tenant counter
  else meterValue s.mtr.live s.mtr.energy tenant counter

def State.readMeter (s : State) (off : Nat) : Reg :=
  match off with
  | 0x9000 => 0
  | 0x900C => s.aon.epoch
  | 0x9010 => loWord s.mtr.next
  | 0x9014 => hiWord s.mtr.next
  | 0x9018 => s.mtr.snapEpoch
  | 0x901C => s.mtr.idx
  | 0x9020 => loWord s.meterNow
  | 0x9024 => s.mtr.latchHi
  | 0x9028 => regOf [(0, 16, s.clk.steps.toNat), (16, 16, s.clk.back.toNat)]
  | 0x902C => loWord s.clk.tsOld
  | 0x9030 => hiWord s.clk.tsOld
  | 0x9034 => loWord s.clk.tsNew
  | 0x9038 => hiWord s.clk.tsNew
  | _ => s.prot off

/-! ### Power (Table 17.22) -/

def State.readPower (s : State) (off : Nat) : Reg :=
  match off with
  | 0xA000 => s.pwr.ctl
  | 0xA004 => regOf [(0, 3, s.aon.pwr.code), (3, 3, s.pwr.nearCap.code), (6, 6, s.pwr.nearWidth), (12, 3, s.pwr.farCap.code),
      (15, 6, s.pwr.farWidth), (21, 3, s.pwr.target.code), (24, 6, s.pwr.targetWidth), (30, 1, b2n s.pwr.ctrlAwake),
      (31, 1, b2n (s.pwr.draining != .none))]
  | 0xA008 => regOf [(0, 12, s.pwr.fullPwr), (12, 8, s.pwr.parkPwr)]
  | 0xA00C => regOf [(0, 16, s.pwr.budget), (16, 16, (s.pwr.budSeq.getD 0).toNat)]
  | 0xA010 => regOf [(0, 9, s.pwr.level), (9, 16, (s.pwr.rampSeq.getD 0).toNat)]
  | 0xA014 => regOf [(0, 8, s.pwr.dozes.toNat), (8, 8, s.pwr.parks.toNat), (16, 8, s.pwr.abandoned.toNat),
      (24, 8, s.pwr.pmDrop.toNat)]
  | 0xA018 => regOf [(0, 16, s.pwr.ctrlWakes.toNat), (16, 8, s.pwr.wakeIgnored.toNat), (24, 8, s.pwr.farParked.toNat)]
  | 0xA01C => regOf [(0, 1, b2n (!s.pwr.belays.isEmpty)), (1, 1, b2n s.pwr.sinking),
      (2, 16, s.belayed.length)]
  | 0xA020 => s.pwr.flushed
  | 0xA024 => s.pwr.responses
  | _ => 0

/-! ### Faults and events (Table 17.23), debug, test and bight (Table 17.24) -/

def State.readFault (s : State) (off : Nat) : Reg :=
  match off with
  | 0xB000 => s.flt.flags
  | 0xB004 => if s.cls = .sb then s.flt.ctl else 0
  | 0xB008 => s.flt.tidx
  | 0xB00C => tget 0 s.flt.raised (bf s.flt.tidx 0 8)
  | 0xB010 => regOf [(0, 16, (tget 0 s.flt.supp (bf s.flt.tidx 0 8)).toNat)]
  | 0xB014 => if s.cls = .sb then regOf [(0, 16, s.flt.fenceDiscards.toNat), (16, 8, s.flt.fenceBeacons.toNat)] else 0
  | 0xB018 => regOf [(0, 16, s.sb.protoErr.toNat), (16, 16, s.sb.crcErr.toNat)]
  | _ => BitVec.ofNat 32 (bf s.flt.last (8 * (off - 0xB040)) 32)

/-- The checker FX_BIGHT_CTL selects: BRAID_SEL, and STRAND but in B1, where the whole braid is one. -/
def State.bightSel (s : State) : Nat :=
  strandKey 1 (oct (bf s.bight.ctl 19 3)) (if bightMode s.bight.ctl = 2 then 0 else bf s.bight.ctl 13 6)

def State.readBight (s : State) (off : Nat) : Reg :=
  match off with
  | 0xC000 => s.bight.ctl
  | 0xC004 => regOf [(0, 1, b2n s.bight.active), (1, 8, s.bightLock), (9, 1, b2n s.bight.refused)]
  | 0xC008 => BitVec.ofNat 32 (satN 32 (tget 0 s.bight.errs s.bightSel))
  | 0xC00C => BitVec.ofNat 32 (satN 32 (tget 0 s.bight.bits s.bightSel / 65536))
  | 0xC010 => regOf [(0, 16, satN 16 (tget 0 s.bight.losses s.bightSel))]
  | _ => 0

/-! ### The window -/

/-- What the register at an offset reads. -/
def State.regValue (s : State) (off : Nat) : Reg :=
  if off < 0x400 then s.readIdent off
  else if off < 0x800 then s.readGlobal off
  else if off < 0x1000 then s.readLash off
  else if off < 0x1800 then s.readTx off
  else if off < 0x2000 then s.readRx off
  else if off < 0x3000 then s.readCal off
  else if off < 0x4000 then s.readLink off
  else if off < 0x5000 then s.readFlow off
  else if off < 0x6000 then s.readRings off
  else if off < 0x7000 then s.readRed off
  else if off < 0x8000 then s.readHitch off
  else if off < 0x9000 then s.readTenant off
  else if off < 0xA000 then s.readMeter off
  else if off < 0xB000 then s.readPower off
  else if off < 0xC000 then s.readFault off
  else s.readBight off

/-- What a read changes: an RC field restarts from the quantity it tracks (R389), and a meter's high half is latched (R323). -/
def State.readEffect (s : State) (off : Nat) : State :=
  if off = 0x5004 then { s with rings.fifoHigh := BitVec.ofNat 9 s.fifoOcc }
  else if off = 0x7008 then { s with ht.high := BitVec.ofNat 14 s.ht.waiters.length }
  else if off = 0x9020 then { s with mtr.latchHi := hiWord s.meterNow }
  else s

/-- A read of the window (R382). -/
def State.regRead (s : State) (a : Access) : State :=
  match s.gate a false with
  | .take => (s.readEffect a.off.toNat).accDone (s.regValue a.off.toNat)
  | g => s.gateRead g

end Sys2Proof.Machine
end

