-- ==== Sys2Proof/Machine/RegWrite.lean ====
section
/-!
DEFINITION. What a write of each register of the window does once the window takes it (R382 to R392), block by block: the value
kept within its field's width, or the behaviour the register has. While the port is parked a write acts on the retained
state at once (assumption log 49).
-/
namespace Sys2Proof.Machine

/-! ### Registers whose value is only kept (R388) -/

/-- The bits a write of the register keeps. -/
def keepMask (v : Reg) (bits : Nat) : Reg := BitVec.ofNat 32 (bf v 0 bits)

/-- A write of 1 clears a flag (R352). -/
def w1c (flags v : Reg) : Reg := flags &&& ~~~v

/-- Global control. -/
def State.writeGlobal (s : State) (off : Nat) (v : Reg) : State :=
  match off with
  | 0x400 => { s with glob.scratch0 := v }
  | 0x404 => { s with glob.scratch1 := v }
  | 0x408 => { s with glob.scratch2 := v }
  | 0x40C => { s with glob.scratch3 := v }
  | 0x440 => { s with link.splCtl := keepMask v 24 }
  | _ => s

/-- Lashing and locks. -/
def State.writeLash (s : State) (a : Access) : State :=
  let v := a.data
  match a.off.toNat with
  | 0x808 => { s with lash.soff := keepMask v 16 }
  | 0x80C => s.lashStage a
  | 0x814 => s.lashUnstage a
  | 0x818 => s.lashPropose a
  | 0x820 => (s.lashCommit a).portStep
  | 0x824 => s.lashAbort a
  | 0x830 => s.partyWrite a
  | 0x834 => s.partyWrite a
  | 0x880 => if bit v 0 then { s with lash.viol := false } else s
  | 0x884 => { s with lash.lockIdx := keepMask v 4 }
  | _ => s

/-- A write of a working-set entry: it takes effect at the next temperature value (Table 7.11). -/
def State.writeTset (s : State) (v : Reg) : State :=
  let i := s.cal.tsetIdx
  let dir := bf i 5 1
  if s.cls.isFibre && bf i 6 3 < 5 then
    let w := if dir = 0 then v &&& otxMask s.cls else v &&& orxMask s.cls
    { s with cal.tset := tput s.cal.tset (tsetKey (bf i 0 2) dir (bf i 2 3) (bf i 6 3)) w }
  else s

/-- Calibration. -/
def State.writeCal (s : State) (off : Nat) (v : Reg) : State :=
  match off with
  | 0x2000 => { s with link.strandIdx := keepMask v 10 }
  | 0x2008 => s.writeTrim 0x2008 v
  | 0x200C => s.writeTrim 0x200C v
  | 0x2010 => s.writeTrim 0x2010 v
  | 0x2014 => s.writeTrim 0x2014 v
  | 0x2018 => s.writeTrim 0x2018 v
  | 0x2040 => { s with cal.ctl := keepMask v 18 }
  | 0x2048 => if s.cls.isFibre then { s with cal.tsetIdx := keepMask v 9 } else s
  | 0x204C => s.writeTset v
  | _ => s

/-- A write of FX_LL_CTL: MIN_BRAIDS takes effect at once (R187). -/
def State.writeLlCtl (s : State) (v : Reg) : State := { s with link.llCtl := keepMask v 5 }.checkDown

/-- Flow control. -/
def State.writeFlow (s : State) (off : Nat) (v : Reg) : State :=
  match off with
  | 0x4000 => { s with noc.fcCtl := keepMask v 16 }
  | 0x4008 => { s with noc.fcIdx := keepMask v 6 }
  | 0x4020 => { s with noc.flowIdx := keepMask v 8 }
  | _ => s

/-! ### Rings (R243) -/

/-- A doorbell or shadow address: ignored and counted while an enabled ring uses the line. -/
def State.writeLine (s : State) (k : Fin 8) (off : Nat) (v : Reg) : State :=
  match s.lineRings k with
  | r :: _ => s.cfgRefuse r 8
  | [] => s.modLine k fun l =>
    match off % 0x10 with
    | 0 => { l with dbLo := v &&& 0xFFFFFFC0 }
    | 4 => { l with dbHi := keepMask v 20 }
    | 8 => { l with shLo := v &&& 0xFFFFFFC0 }
    | _ => { l with shHi := keepMask v 20 }

/-- A configuration field of a ring: ignored and counted while the ring is enabled. -/
def State.writeRingField (s : State) (r : Nat) (f : Ring → Ring) : State :=
  if (s.ring r).enabled then s.cfgRefuse r 8 else s.modRing r f

/-- The rings block. -/
def State.writeRings (s : State) (off : Nat) (v : Reg) : State :=
  if off = 0x5000 then { s with rings.ctl := keepMask v 18 }
  else if off < 0x5040 then s
  else if off < 0x50C0 then s.writeLine (oct ((off - 0x5040) / 0x10)) off v
  else if off = 0x50C0 then { s with rings.msiMask := v }
  else if off < 0x5800 then
    let r := (off - 0x5400) / 0x10
    match off % 0x10 with
    | 0 => s.writeRingField r fun g => { g with baseLo := v &&& 0xFFFFF000 }
    | 4 => s.writeRingField r fun g => { g with baseHi := keepMask v 20 }
    | 8 => s.writeRingCfg r v
    | _ => s
  else if off < 0x5C00 then
    let r := (off - 0x5800) / 0x10
    match off % 0x10 with
    | 0 => s.writeRingField r fun g => { g with msiLo := v &&& 0xFFFFFFFC }
    | 4 => s.writeRingField r fun g => { g with msiHi := v }
    | 8 => s.writeRingField r fun g => { g with msiData := v }
    | _ => s
  else s

/-! ### Engines, meters, power, faults, bight -/

/-- Reduction. -/
def State.writeRed (s : State) (off : Nat) (v : Reg) : State :=
  match off with
  | 0x6000 => { s with red.ctl := keepMask v 24 }
  | 0x6020 => { s with red.jidx := keepMask v 5 }
  | _ => s

/-- Hitches: a write of an index copies into the debug latches (R300). -/
def State.writeHitch (s : State) (off : Nat) (v : Reg) : State :=
  match off with
  | 0x7000 => { s with ht.ctl := keepMask v 17 }
  | 0x7200 => s.copyHitch v
  | 0x7220 => s.copyWaiter v
  | _ => s

/-- CLOSE of FX_MTR_CTL closes the open epoch at once (R325). -/
def State.writeClose (s : State) (v : Reg) : State :=
  if bit v 0 && s.mtr.running then s.closeEpoch 1 s.clk.tsc.toNat else s

/-- Metering. -/
def State.writeMeter (s : State) (off : Nat) (v : Reg) : State :=
  match off with
  | 0x9000 => s.writeClose v
  | 0x901C => { s with mtr.idx := keepMask v 12 }
  | _ => s

/-- Faults and events. -/
def State.writeFault (s : State) (off : Nat) (v : Reg) : State :=
  match off with
  | 0xB000 => { s with flt.flags := w1c s.flt.flags v }
  | 0xB004 => if s.cls = .sb then { s with flt.ctl := keepMask v 8 } else s
  | 0xB008 => { s with flt.tidx := keepMask v 8 }
  | _ => s

/-- Debug, test and bight. A run that this write ends leaves what its checkers have not reported open. -/
def State.writeDebug (s : State) (off : Nat) (v : Reg) : State :=
  match off with
  | 0xC000 => s.writeBight v []
  | 0xC004 => if bit v 9 then { s with bight.refused := false } else s
  | _ => s

/-! ### The window -/

/-- A write the window takes, to a register that is not protected. -/
def State.writePlain (s : State) (a : Access) : State :=
  let off := a.off.toNat
  let v := a.data
  if off = 0x20 then s.writeReset v
  else if off < 0x400 then s
  else if off < 0x800 then s.writeGlobal off v
  else if off < 0x1000 then s.writeLash a
  else if off < 0x2000 then s
  else if off < 0x3000 then s.writeCal off v
  else if off = 0x3000 then s.writeLlCtl v
  else if off < 0x4000 then s
  else if off < 0x5000 then s.writeFlow off v
  else if off < 0x6000 then s.writeRings off v
  else if off < 0x7000 then s.writeRed off v
  else if off < 0x8000 then s.writeHitch off v
  else if off < 0x9000 then s
  else if off < 0xA000 then s.writeMeter off v
  else if off = 0xA000 then { s with pwr.ctl := keepMask v 30 }
  else if off < 0xB000 then s
  else if off < 0xC000 then s.writeFault off v
  else s.writeDebug off v

/-- A write the window takes: a direct write of a protected register is a lock violation (R319, Table 13.6). -/
def State.writeReg (s : State) (a : Access) : State :=
  if protectedOff s.cls a.off.toNat then s.refuseWrite a 2 else s.writePlain a

/-- A write of the window (R382). -/
def State.regStore (s : State) (a : Access) : State := s.regWrite a fun s => s.writeReg a

end Sys2Proof.Machine
end

