-- ==== Sys2Proof/Machine/Serial.lean ====
section
/-!
DEFINITION. The commands of the serial memory relay and its replies (R42, R370 to R372), at the port that reads its records and
at the hub-end port that relays.
-/
namespace Sys2Proof.Machine

/-- A reply for this port: link-local where its base end or guest port proxied the request, else addressed to it. -/
def State.myReply (s : State) (f : SbFrame) : Bool := isLocal f || (s.addressed f && !f.proxy)

/-- A reply frame at work. -/
def State.takeReply (s : State) (f : SbFrame) (typ : BitVec 4) (work : State → State) : State :=
  if f.typ ≠ typ || !s.myReply f then s
  else
    let h := s.receive f
    if h.1 then work h.2 else h.2

/-- The outstanding read of a TAG. -/
def State.readOf (s : State) (tag : Nat) : Option SmRead := s.cfg.reads.find? fun r => r.tag.toNat = tag

/-- SM_DATA: placed by TAG and INDEX; a complete read goes on to the choice of slots (R372). -/
def State.smData (s : State) (f : SbFrame) : State :=
  match s.readOf (bf f.payload 60 4) with
  | none => s.sbErr
  | some r =>
    let i := bf f.payload 48 12
    if readFrames r.len ≤ i || (tfind r.got i).isSome then s.sbErr
    else
      let r' := { r with got := tput r.got i (BitVec.ofNat 48 (bf f.payload 0 48)) }
      let s := { s with cfg.reads := s.cfg.reads.map fun x => if x = r then r' else x }
      if r'.got.length = readFrames r.len then s.readDone r' (some (readBytes r')) else s

/-- SM_DATA. -/
def execSmData (f : SbFrame) (s : State) : Host.Outcome State Fault Refusal :=
  done (s.takeReply f 6 fun s => s.smData f)

/-- SM_ERROR (Table 16.7): the slot is unreadable, or the read waits for its reissue. -/
def State.smError (s : State) (f : SbFrame) : State :=
  let code := bf f.payload 4 4
  let s := { s with cfg.smErrors := s.cfg.smErrors + 1 }
  if code = 0 || code > 5 then s.sbErr
  else match s.readOf (bf f.payload 0 4) with
    | none => s.sbErr
    | some r =>
      if code = 3 then
        { s with cfg.reads := s.cfg.reads.map fun x => if x = r then { r with waiting := true, got := [] } else x }
      else s.readDone r none

/-- SM_ERROR. -/
def execSmError (f : SbFrame) (s : State) : Host.Outcome State Fault Refusal :=
  done (s.takeReply f 7 fun s => s.smError f)

/-- SM_READ_TIMEOUT: a new TAG, three times at most. -/
def State.smTimeout (s : State) (tag : Nat) : State :=
  match s.readOf tag with
  | none => s
  | some r =>
    if r.waiting then s
    else if r.reissues ≥ 3 then s.readDone r none
    else
      let s := { s with cfg.reissues := s.cfg.reissues + 1 }
      let p := s.pick 0 s.freeTags
      let r' := { r with tag := BitVec.ofNat 4 p.1, got := [], reissues := r.reissues + 1 }
      { p.2 with cfg.reads := p.2.cfg.reads.map fun x => if x = r then r' else x }.sendSmRead p.1 r.addr r.len

def execSmReadTimeout (tag : BitVec 4) (s : State) : Host.Outcome State Fault Refusal := done (s.smTimeout tag.toNat)

/-- SM_QUEUE_FULL_REISSUE: the read of the TAG goes out again; it does not count toward the limit. -/
def execSmQueueFullReissue (tag : BitVec 4) (s : State) : Host.Outcome State Fault Refusal :=
  done (match s.readOf tag.toNat with
    | some r =>
      if r.waiting then
        { s with cfg.reads := s.cfg.reads.map fun x => if x = r then { r with waiting := false } else x }.sendSmRead tag.toNat r.addr r.len
      else s
    | none => s)

/-- A reply of the controller goes to this port, or on by the routes of R39. -/
def State.relayReply (s : State) (f : SbFrame) : State :=
  if s.addressed f then { s with sb.relay := s.sb.relay ++ [f] } else s.sendRouted f

/-- SM_RELAY_FRAME: a reply from the controller, taken while the relay queue has room, or a request heard on the link for the
controller (R42, R39). Only a hub-end port has the interface. -/
def execSmRelayFrame (reply : Bool) (f : SbFrame) (s : State) : Host.Outcome State Fault Refusal :=
  if !s.agentHere then done s
  else done (if reply then (if s.sbRuns && s.sb.relay.length < 4 then s.relayReply f else s)
    else if f.destDie ≠ 0 || f.destPort ≠ 0 then s
    else
      let h := s.hear f
      if !h.1 then h.2
      else if f.srcDie = 0xFF then (if s.proxies then h.2.proxyUp f else h.2)
      else h.2.sendOn f)

end Sys2Proof.Machine
end

