-- ==== Sys2Proof/Machine/Registers.lean ====
section
/-!
DEFINITION. The commands of the register window (R382 to R392), of the meters (R321 to R325), of faults and dead dies (R352 to
R358), of the serial memory's slots (R378) and of the optical end's reports (R396).
-/
namespace Sys2Proof.Machine

/-! ### The window -/

/-- REGISTER_WRITE: any write of the window. -/
def execRegisterWrite (a : Access) (s : State) : Host.Outcome State Fault Refusal := done (s.regStore a)

/-- RC_READ: any read of the window; the RC fields restart from what they track (R389). -/
def execRcRead (a : Access) (s : State) : Host.Outcome State Fault Refusal := done (s.regRead a)

/-- FLAG_CLEAR: a write of one of the three registers with W1C flags. -/
def execFlagClear (a : Access) (s : State) : Host.Outcome State Fault Refusal :=
  done (if a.off = 0x880 ∨ a.off = 0xB000 ∨ a.off = 0xC004 then s.regStore a else s)

/-- MIN_BRAIDS_WRITE: a write of FX_LL_CTL. -/
def execMinBraidsWrite (a : Access) (s : State) : Host.Outcome State Fault Refusal :=
  done (if a.off = 0x3000 then s.regWrite a fun s => s.writeLlCtl a.data else s)

/-- The access of the register-access register: it names no die and no endpoint, and always carries a whole word (R384). -/
def TapJob.access (j : TapJob) : Access := ⟨0xFF, 0x3FF, BitVec.ofNat 16 j.off, j.data, 0xF, true⟩

/-- An access through the register-access register completes: a misaligned offset is refused (R48). -/
def State.tapDone (s : State) (j : TapJob) : State :=
  let s := { s with test.job := none }
  if j.off % 4 ≠ 0 then { s with test.resOp := 2, test.resData := 0 }
  else
    let s := if j.op = 1 then s.regRead j.access else s.regStore j.access
    { s with
      test.resOp := if s.glob.refusedAcc then 2 else 0
      test.resData := if j.op = 1 then s.glob.readData else 0 }

/-- TAP_ACCESS_COMPLETE. -/
def execTapAccessComplete (s : State) : Host.Outcome State Fault Refusal :=
  done (match s.test.job with
    | some j => s.tapDone j
    | none => s)

/-! ### Meters (R323 to R325) -/

/-- The timestamp is at or past NEXT: the epoch closes. While parked AON notes the latest boundary passed (assumption log 50). -/
def State.epochDue (s : State) : State :=
  if !s.mtr.running then s
  else if s.asleep then
    if s.mtr.next.toNat ≤ s.clk.tsVal.toNat then
      { s with mtr.noted := some (BitVec.ofNat 64 (s.clk.tsVal.toNat / s.epochLen * s.epochLen)) }
    else s
  else if s.mtr.next.toNat ≤ s.clk.tsc.toNat then s.closeEpoch 0 s.clk.tsc.toNat
  else s

/-- EPOCH_CLOSE. -/
def execEpochClose (s : State) : Host.Outcome State Fault Refusal := done s.epochDue

/-- EPOCH_CLOSE_COMMAND: a write of FX_MTR_CTL. -/
def execEpochCloseCommand (a : Access) (s : State) : Host.Outcome State Fault Refusal :=
  done (if a.off = 0x9000 then s.regWrite a fun s => s.writeClose a.data else s)

/-- METER_READ: a read of FX_MTR_DATA_LO. -/
def execMeterRead (a : Access) (s : State) : Host.Outcome State Fault Refusal :=
  done (if a.off = 0x9020 then s.regRead a else s)

/-! ### Dead dies (R358) -/

/-- Put a read into rising order of sites. -/
def insertRead (r : SiteRead) : List SiteRead → List SiteRead
  | [] => [r]
  | x :: l => if r.site < x.site then r :: x :: l else x :: insertRead r l

/-- A base end sees the agent's read of itself: where it is declared dead, its own DIE_DEAD event names the replacement
(assumption log 44). -/
def State.ownPoll (s : State) (repl : DieId) : State :=
  let r := s.ownRead
  if (s.site r.site).state ≠ 1 then s
  else
    let s := s.noteRead r
    let c := s.deadCause r
    if c = 0 then s
    else
      let x := s.site r.site
      let s := { s with agent.revokedUids := s.agent.revokedUids ++ [(x.uid.getD 0, x.dieId)] }
      (s.modSite r.site fun y => { y with state := 5, fenceCount := r.count, fenceSeen := false, unfenced := false }).raise 0x60
        (code := c) (arg0 := x.dieId.toNat) (arg1 := repl.toNat)

/-- DEAD_DIE_POLL: the agent's reads of the base ends; at a base end its own is what the agent reads there. -/
def execDeadDiePoll (reads : List SiteRead) (repl : DieId) (s : State) : Host.Outcome State Fault Refusal :=
  done (if s.agentHere then (reads.foldl (fun l r => insertRead r l) []).foldl State.pollSite s
    else if s.cls == .sb then s.ownPoll repl
    else s)

/-! ### Serial memory slots (R378) -/

/-- A slot write begins once the one before is programmed; it is checked then, and refused whole or begun. -/
def takeSlot (g0 : Agent) (addr : Nat) (data : List (BitVec 8)) : Agent :=
  let g := finishSlot g0
  if slotWriteOk g addr data then beginSlot g addr data else g

/-- SM_SLOT_WRITE. -/
def execSmSlotWrite (addr : Nat) (data : List (BitVec 8)) (s : State) : Host.Outcome State Fault Refusal :=
  if !s.agentHere then done s else done { s with agent := takeSlot s.agent addr data }

/-! ### The optical end's copies (R396) -/

/-- OPTICAL_REPORT: FX_ID, FX_SITE and FX_CLKSTAT of the optical end. -/
def execOpticalReport (id site clk : Reg) (s : State) : Host.Outcome State Fault Refusal :=
  if !s.cls.isFibre || s.isOptical then done s
  else done (if s.asleep || !s.sbRuns then s else { s with glob.optId := id, glob.optSite := site, glob.optClk := clk })

end Sys2Proof.Machine
end

