-- ==== Sys2Proof/Machine/Tick.lean ====
section
/-!
DEFINITION. One PCLK with no command (assumption log 1): time and the timestamp advance, and work that waits for nothing but its
turn goes on.
-/
namespace Sys2Proof.Machine

/-- The TSC advances one count in two PCLK once its domain runs (R46, R54). -/
def State.tscTick (s : State) : State :=
  if s.clk.pclkUp && s.clk.now % 2 == 0 then { s with clk.tsc := s.clk.tsc + 1 } else s

/-- A fibre hub block commands its optical end: the modulator of each wavelength that has gone on or off, and the trims of each
that have changed (R35, R86, R91, R143). -/
def State.commandOptical (s : State) : State :=
  if !s.fibreHub then s
  else octs.foldl (fun (a : State) b => (List.range 5).foldl (fun (c : State) w =>
    let on := c.drive b w != .off
    let c := if bit c.sb.optMod (5 * b.val + w) = on then c
      else { c with sb.optMod := setBf c.sb.optMod (5 * b.val + w) 1 (b2n on), out.optCmds := c.out.optCmds ++ [.modulator b w on] }
    [0, 1].foldl (fun (d : State) dir =>
      let v := getOpt dir (d.trim dir b w)
      if tfind d.sb.optTrim (strandKey dir b w) = some v then d
      else { d with sb.optTrim := tput d.sb.optTrim (strandKey dir b w) v, out.optCmds := d.out.optCmds ++ [.trims dir b w v] }) c)
    a) s

/-- The engines of a port in service take their next turn: left-over signals and owed mirror updates, egress, calibrations that
wait, drains, flushes and lashings. -/
def State.engineTick (s : State) : State :=
  if !s.start.opened || !s.clocked then s
  else
    let s := if s.hasHitch then (s.signalCycle []).htFeed else s
    s.calAll.egressStep.portStep

/-- One PCLK with no command. -/
def State.tick (s : State) : State :=
  let s := { s with clk.now := s.clk.now + 1 }.tscTick.switchTick
  let s := if s.asleep || !s.clocked then s.engineTick else s.epochDue.engineTick
  let s := if s.clocked && s.sb.up then s.commandOptical else s
  ({ s with agent := finishSlot s.agent }).flushEvents

end Sys2Proof.Machine
end

