-- ==== Sys2Proof/Machine/Dispatch.lean ====
section
/-!
DEFINITION. One arm per command: each calls its meaning.
-/
namespace Sys2Proof.Machine

/-- The effect of a command on everything but the queue. -/
def exec (i : Instr) (s : State) : Host.Outcome State Fault Refusal :=
  match i with
  | .powerOnReset => Sys2Proof.Machine.execPowerOnReset s
  | .powerOnRelease => Sys2Proof.Machine.execPowerOnRelease s
  | .pairResetAssert => Sys2Proof.Machine.execPairResetAssert s
  | .pairResetRelease => Sys2Proof.Machine.execPairResetRelease s
  | .mainPowerGood => Sys2Proof.Machine.execMainPowerGood s
  | .powerSwitchTimeout => Sys2Proof.Machine.execPowerSwitchTimeout s
  | .powerSwitchRetry => Sys2Proof.Machine.execPowerSwitchRetry s
  | .pmResume => Sys2Proof.Machine.execPmResume s
  | .pmPwrRefresh => Sys2Proof.Machine.execPmPwrRefresh s
  | .rootLock => Sys2Proof.Machine.execRootLock s
  | .rootLockLost => Sys2Proof.Machine.execRootLockLost s
  | .nclkMonitorWindow count locked => Sys2Proof.Machine.execNclkMonitorWindow count locked s
  | .refOffsetWindow l => Sys2Proof.Machine.execRefOffsetWindow l s
  | .tscCheck v => Sys2Proof.Machine.execTscCheck v s
  | .timestampStep new => Sys2Proof.Machine.execTimestampStep new s
  | .crossingSlip which => Sys2Proof.Machine.execCrossingSlip which s
  | .tempValue v => Sys2Proof.Machine.execTempValue v s
  | .staleTemp => Sys2Proof.Machine.execStaleTemp s
  | .heartbeatTimer => Sys2Proof.Machine.execHeartbeatTimer s
  | .heartbeat f => Sys2Proof.Machine.execHeartbeat f s
  | .sidebandLoss => Sys2Proof.Machine.execSidebandLoss s
  | .resetPair f => Sys2Proof.Machine.execResetPair f s
  | .resetPairAnnounce => Sys2Proof.Machine.execResetPairAnnounce s
  | .pairedResetRequest a => Sys2Proof.Machine.execPairedResetRequest a s
  | .resetAckLimit => Sys2Proof.Machine.execResetAckLimit s
  | .resetReqTimeout => Sys2Proof.Machine.execResetReqTimeout s
  | .sidebandProxy f => Sys2Proof.Machine.execSidebandProxy f s
  | .ringFrameForward f uplink => Sys2Proof.Machine.execRingFrameForward f uplink s
  | .tstAloneChange v => Sys2Proof.Machine.execTstAloneChange v s
  | .testLogicReset => Sys2Proof.Machine.execTestLogicReset s
  | .tapUpdate wdr acc => Sys2Proof.Machine.execTapUpdate wdr acc s
  | .tapCapture wdr acc cells => Sys2Proof.Machine.execTapCapture wdr acc cells s
  | .tapAccessComplete => Sys2Proof.Machine.execTapAccessComplete s
  | .nocIngressFlit f assigned => Sys2Proof.Machine.execNocIngressFlit f assigned s
  | .nocEgressCredit v n => Sys2Proof.Machine.execNocEgressCredit v n s
  | .creditInitAck => Sys2Proof.Machine.execCreditInitAck s
  | .creditInitTimeout => Sys2Proof.Machine.execCreditInitTimeout s
  | .creditInitRetry => Sys2Proof.Machine.execCreditInitRetry s
  | .creditAuditStart => Sys2Proof.Machine.execCreditAuditStart s
  | .creditAuditAnswer cnt => Sys2Proof.Machine.execCreditAuditAnswer cnt s
  | .creditAuditAbandon => Sys2Proof.Machine.execCreditAuditAbandon s
  | .smRelayFrame reply f => Sys2Proof.Machine.execSmRelayFrame reply f s
  | .smData f => Sys2Proof.Machine.execSmData f s
  | .smError f => Sys2Proof.Machine.execSmError f s
  | .smReadTimeout tag => Sys2Proof.Machine.execSmReadTimeout tag s
  | .smQueueFullReissue tag => Sys2Proof.Machine.execSmQueueFullReissue tag s
  | .startStepTimeout => Sys2Proof.Machine.execStartStepTimeout s
  | .sidebandNotUp => Sys2Proof.Machine.execSidebandNotUp s
  | .detectGo f => Sys2Proof.Machine.execDetectGo f s
  | .detectObservationEnd b rx tx => Sys2Proof.Machine.execDetectObservationEnd b rx tx s
  | .detectResult f => Sys2Proof.Machine.execDetectResult f s
  | .mapAgree f => Sys2Proof.Machine.execMapAgree f s
  | .trainGo f => Sys2Proof.Machine.execTrainGo f s
  | .trainLinkFrame b rx frac => Sys2Proof.Machine.execTrainLinkFrame b rx frac s
  | .braidLockAchieved b cross seen => Sys2Proof.Machine.execBraidLockAchieved b cross seen s
  | .measureTimer b frac => Sys2Proof.Machine.execMeasureTimer b frac s
  | .trainAttemptTimeout b noClock => Sys2Proof.Machine.execTrainAttemptTimeout b noClock s
  | .trainDone f => Sys2Proof.Machine.execTrainDone f s
  | .firstCalibrationComplete results iref => Sys2Proof.Machine.execFirstCalibrationComplete results iref s
  | .calDone f => Sys2Proof.Machine.execCalDone f s
  | .beaconTimer => Sys2Proof.Machine.execBeaconTimer s
  | .beacon f => Sys2Proof.Machine.execBeacon f s
  | .discoveryWindowExpiry => Sys2Proof.Machine.execDiscoveryWindowExpiry s
  | .dieId f => Sys2Proof.Machine.execDieId f s
  | .dieIdRevocation f => Sys2Proof.Machine.execDieIdRevocation f s
  | .negotiate f => Sys2Proof.Machine.execNegotiate f s
  | .spareDieIdTimeout => Sys2Proof.Machine.execSpareDieIdTimeout s
  | .bightRun a counts => Sys2Proof.Machine.execBightRun a counts s
  | .bightReq f => Sys2Proof.Machine.execBightReq f s
  | .bightAck f => Sys2Proof.Machine.execBightAck f s
  | .strandRequest b p => Sys2Proof.Machine.execStrandRequest b p s
  | .strandPrepare b p => Sys2Proof.Machine.execStrandPrepare b p s
  | .alignmentComplete b arrival pass => Sys2Proof.Machine.execAlignmentComplete b arrival pass s
  | .standinLockComplete b => Sys2Proof.Machine.execStandinLockComplete b s
  | .strandReady b p => Sys2Proof.Machine.execStrandReady b p s
  | .strandCommit b p => Sys2Proof.Machine.execStrandCommit b p s
  | .strandAbort b p => Sys2Proof.Machine.execStrandAbort b p s
  | .readyTimeout b => Sys2Proof.Machine.execReadyTimeout b s
  | .admitPrbsComplete rx b p seen m => Sys2Proof.Machine.execAdmitPrbsComplete rx b p seen m s
  | .qualityRecordClose b p m => Sys2Proof.Machine.execQualityRecordClose b p m s
  | .qualityRecordPost => Sys2Proof.Machine.execQualityRecordPost s
  | .calSweepTimer => Sys2Proof.Machine.execCalSweepTimer s
  | .calStep b p => Sys2Proof.Machine.execCalStep b p s
  | .calStepComplete b f iref => Sys2Proof.Machine.execCalStepComplete b f iref s
  | .calStepDone b p => Sys2Proof.Machine.execCalStepDone b p s
  | .calStepDoneTimeout b => Sys2Proof.Machine.execCalStepDoneTimeout b s
  | .calEnd b p => Sys2Proof.Machine.execCalEnd b p s
  | .trimTrackTick => Sys2Proof.Machine.execTrimTrackTick s
  | .trimWrite a => Sys2Proof.Machine.execTrimWrite a s
  | .eyeScanPointSetComplete b p m => Sys2Proof.Machine.execEyeScanPointSetComplete b p m s
  | .linkFrameReceive b pads words => Sys2Proof.Machine.execLinkFrameReceive b pads words s
  | .ackApply b => Sys2Proof.Machine.execAckApply b s
  | .nakRepeat b => Sys2Proof.Machine.execNakRepeat b s
  | .ackTimerExpiry b => Sys2Proof.Machine.execAckTimerExpiry b s
  | .replayTimeout b => Sys2Proof.Machine.execReplayTimeout b s
  | .flitRelease b => Sys2Proof.Machine.execFlitRelease b s
  | .idleDue b => Sys2Proof.Machine.execIdleDue b s
  | .transmitFlitPeriod b frac => Sys2Proof.Machine.execTransmitFlitPeriod b frac s
  | .braidRetrainComplete b => Sys2Proof.Machine.execBraidRetrainComplete b s
  | .braidRetrainTimeout b => Sys2Proof.Machine.execBraidRetrainTimeout b s
  | .braidFinal b p => Sys2Proof.Machine.execBraidFinal b p s
  | .braidFinalTimeout b => Sys2Proof.Machine.execBraidFinalTimeout b s
  | .portRetrainEnd => Sys2Proof.Machine.execPortRetrainEnd s
  | .minBraidsWrite a => Sys2Proof.Machine.execMinBraidsWrite a s
  | .vcStall b v egress => Sys2Proof.Machine.execVcStall b v egress s
  | .bucketQuiescent k => Sys2Proof.Machine.execBucketQuiescent k s
  | .doorbellNotification k => Sys2Proof.Machine.execDoorbellNotification k s
  | .watchReadResponse k data err => Sys2Proof.Machine.execWatchReadResponse k data err s
  | .watchReadRetry k => Sys2Proof.Machine.execWatchReadRetry k s
  | .doorbellPoll => Sys2Proof.Machine.execDoorbellPoll s
  | .descriptorFetchResponse r x data err => Sys2Proof.Machine.execDescriptorFetchResponse r x data err s
  | .descriptorReread r x => Sys2Proof.Machine.execDescriptorReread r x s
  | .descriptorDispatch => Sys2Proof.Machine.execDescriptorDispatch s
  | .shadowWriteDue k => Sys2Proof.Machine.execShadowWriteDue k s
  | .shadowWriteResponse k err => Sys2Proof.Machine.execShadowWriteResponse k err s
  | .completionWrite c => Sys2Proof.Machine.execCompletionWrite c s
  | .entryWriteResponse r x err => Sys2Proof.Machine.execEntryWriteResponse r x err s
  | .msiHoldoffExpiry r => Sys2Proof.Machine.execMsiHoldoffExpiry r s
  | .ringEnable r v => Sys2Proof.Machine.execRingEnable r v s
  | .ringDisable r => Sys2Proof.Machine.execRingDisable r s
  | .nop r x => Sys2Proof.Machine.execNop r x s
  | .retrain r x => Sys2Proof.Machine.execRetrain r x s
  | .reef r x => Sys2Proof.Machine.execReef r x s
  | .unreef r x => Sys2Proof.Machine.execUnreef r x s
  | .splice r x => Sys2Proof.Machine.execSplice r x s
  | .unsplice r x => Sys2Proof.Machine.execUnsplice r x s
  | .calibrate r x => Sys2Proof.Machine.execCalibrate r x s
  | .eyeScan r x => Sys2Proof.Machine.execEyeScan r x s
  | .prbsTest r x => Sys2Proof.Machine.execPrbsTest r x s
  | .prbsTestDone r x errors => Sys2Proof.Machine.execPrbsTestDone r x errors s
  | .bight r x => Sys2Proof.Machine.execBight r x s
  | .bightDurationEnd counts => Sys2Proof.Machine.execBightDurationEnd counts s
  | .park r x => Sys2Proof.Machine.execPark r x s
  | .resume r x => Sys2Proof.Machine.execResume r x s
  | .digest r x => Sys2Proof.Machine.execDigest r x s
  | .cancel r x => Sys2Proof.Machine.execCancel r x s
  | .fenceDie r x => Sys2Proof.Machine.execFenceDie r x s
  | .unfenceDie r x => Sys2Proof.Machine.execUnfenceDie r x s
  | .reduce r x => Sys2Proof.Machine.execReduce r x s
  | .jobStatus r x => Sys2Proof.Machine.execJobStatus r x s
  | .contribHead rx f => Sys2Proof.Machine.execContribHead rx f s
  | .contribData rx f => Sys2Proof.Machine.execContribData rx f s
  | .chunkTimer slot chunk => Sys2Proof.Machine.execChunkTimer slot chunk s
  | .jobIdleTimer slot => Sys2Proof.Machine.execJobIdleTimer slot s
  | .preholdExpiry num => Sys2Proof.Machine.execPreholdExpiry num s
  | .spillWriteResponse slot chunk err => Sys2Proof.Machine.execSpillWriteResponse slot chunk err s
  | .refillResponse slot chunk err => Sys2Proof.Machine.execRefillResponse slot chunk err s
  | .chunkOutput slot chunk => Sys2Proof.Machine.execChunkOutput slot chunk s
  | .resultWriteResponse slot chunk err => Sys2Proof.Machine.execResultWriteResponse slot chunk err s
  | .hitchSignal l => Sys2Proof.Machine.execHitchSignal l s
  | .hitchWait rx f => Sys2Proof.Machine.execHitchWait rx f s
  | .hitchWake rx f => Sys2Proof.Machine.execHitchWake rx f s
  | .hitchUpdate rx f => Sys2Proof.Machine.execHitchUpdate rx f s
  | .hitchRead f => Sys2Proof.Machine.execHitchRead f s
  | .waiterTimeout entry => Sys2Proof.Machine.execWaiterTimeout entry s
  | .realignEpoch => Sys2Proof.Machine.execRealignEpoch s
  | .fenceRelease bucket => Sys2Proof.Machine.execFenceRelease bucket s
  | .egressFenceRelease b => Sys2Proof.Machine.execEgressFenceRelease b s
  | .htConfig r x => Sys2Proof.Machine.execHtConfig r x s
  | .htReset r x => Sys2Proof.Machine.execHtReset r x s
  | .htAbort r x => Sys2Proof.Machine.execHtAbort r x s
  | .htAbortThread r x => Sys2Proof.Machine.execHtAbortThread r x s
  | .htRead r x => Sys2Proof.Machine.execHtRead r x s
  | .htSignal r x => Sys2Proof.Machine.execHtSignal r x s
  | .htWait r x => Sys2Proof.Machine.execHtWait r x s
  | .hitchDebugCopy v => Sys2Proof.Machine.execHitchDebugCopy v s
  | .waiterDebugCopy v => Sys2Proof.Machine.execWaiterDebugCopy v s
  | .lashStage a => Sys2Proof.Machine.execLashStage a s
  | .lashUnstage a => Sys2Proof.Machine.execLashUnstage a s
  | .lashPropose a => Sys2Proof.Machine.execLashPropose a s
  | .lashDigestReady => Sys2Proof.Machine.execLashDigestReady s
  | .lashCommit a => Sys2Proof.Machine.execLashCommit a s
  | .lashAbort a => Sys2Proof.Machine.execLashAbort a s
  | .lashWindowExpiry => Sys2Proof.Machine.execLashWindowExpiry s
  | .lashOffer b p => Sys2Proof.Machine.execLashOffer b p s
  | .lashSwitch b p => Sys2Proof.Machine.execLashSwitch b p s
  | .lashWithdraw b p => Sys2Proof.Machine.execLashWithdraw b p s
  | .leaderLinkTimeout => Sys2Proof.Machine.execLeaderLinkTimeout s
  | .followerLinkTimeout => Sys2Proof.Machine.execFollowerLinkTimeout s
  | .partyWrite a => Sys2Proof.Machine.execPartyWrite a s
  | .epochClose => Sys2Proof.Machine.execEpochClose s
  | .epochCloseCommand a => Sys2Proof.Machine.execEpochCloseCommand a s
  | .meterRead a => Sys2Proof.Machine.execMeterRead a s
  | .pmBudget f => Sys2Proof.Machine.execPmBudget f s
  | .pmRamp f => Sys2Proof.Machine.execPmRamp f s
  | .pwrCap b p => Sys2Proof.Machine.execPwrCap b p s
  | .pwrGo b p => Sys2Proof.Machine.execPwrGo b p s
  | .dozeEnter b p => Sys2Proof.Machine.execDozeEnter b p s
  | .wakeBurst => Sys2Proof.Machine.execWakeBurst s
  | .controlWake => Sys2Proof.Machine.execControlWake s
  | .dozeHoldExpiry => Sys2Proof.Machine.execDozeHoldExpiry s
  | .parkReady b p => Sys2Proof.Machine.execParkReady b p s
  | .drainLimit => Sys2Proof.Machine.execDrainLimit s
  | .parkDurationEnd => Sys2Proof.Machine.execParkDurationEnd s
  | .sidebandWake => Sys2Proof.Machine.execSidebandWake s
  | .farParkedTimeout => Sys2Proof.Machine.execFarParkedTimeout s
  | .parkExitTrained => Sys2Proof.Machine.execParkExitTrained s
  | .belayExpiry case => Sys2Proof.Machine.execBelayExpiry case s
  | .flagClear a => Sys2Proof.Machine.execFlagClear a s
  | .deadDiePoll reads repl => Sys2Proof.Machine.execDeadDiePoll reads repl s
  | .smSlotWrite addr data => Sys2Proof.Machine.execSmSlotWrite addr data s
  | .opticalReport id site clk => Sys2Proof.Machine.execOpticalReport id site clk s
  | .rcRead a => Sys2Proof.Machine.execRcRead a s
  | .registerWrite a => Sys2Proof.Machine.execRegisterWrite a s
  | .codewordLockLoss b => Sys2Proof.Machine.execCodewordLockLoss b s
  | .trainFrameRepeat => Sys2Proof.Machine.execTrainFrameRepeat s
  | .sidebandFrameDiscard w => Sys2Proof.Machine.execSidebandFrameDiscard w s
  | .sidebandFrameForward f => Sys2Proof.Machine.execSidebandFrameForward f s
  | .tapShift wdr acc si => Sys2Proof.Machine.execTapShift wdr acc si s
  | .checkerLock b seen => Sys2Proof.Machine.execCheckerLock b seen s
  | .checkerLockLoss b p run window => Sys2Proof.Machine.execCheckerLockLoss b p run window s
  | .msiWriteResponse r err => Sys2Proof.Machine.execMsiWriteResponse r err s
  | .transmitCalStepComplete b codes => Sys2Proof.Machine.execTransmitCalStepComplete b codes s

end Sys2Proof.Machine
end

