-- ==== Sys2Proof/Safety.lean ====
section
/-!
DEFINITION. What a run keeps between commands, and when a command completes, in the words the claims use.
-/
namespace Sys2Proof

open Sys2Proof.Machine

/-- No event waits to be posted: every event a command raised was counted, and posted, suppressed or dropped, before the
command ended (R353, R355). -/
abbrev Machine.State.quiet (s : State) : Prop := s.flt.queue = []

/-- The hub's serial memory is in its canonical form. -/
abbrev Machine.State.memOk (s : State) : Prop := memWf s.agent.mem = true

/-- A step of the core answers a next state. -/
def Steps (s t : State) : Prop := Sys2Proof.core.step s = .next t

/-- The command answers a next state, and that state is as `P` says. -/
def Completes (c : Instr) (s : State) (P : State → Prop) : Prop := ∃ t, exec c s = .next t ∧ P t

/-- The power machine and the flush of the port have nothing under way: no entry into DOZE or PARK, no drain, no flush, no RESUME
that waits, and no braid retired or back since the last cap (R332, R335, R339, R348). -/
def Machine.State.powerIdle (s : State) : Bool :=
  s.pwr.target != .doze && s.aon.pwr != .doze && s.pwr.dzSent == 0 && s.pwr.dozing == 0 && s.pwr.dzGot == 0
    && s.pwr.draining == .none && s.pwr.flushes.isEmpty && !s.pwr.sinking && s.pwr.resumeCmds.isEmpty
    && (s.start.st != .openSt || s.retiredMask == s.pwr.capBraids)

/-- The port has nothing under way of itself: the power machine is idle and no lashing switches (R317). -/
def Machine.State.still (s : State) : Bool := s.powerIdle && !s.lash.switching

/-- A TRAIN frame of a phase that the port takes: link-local, heard, of the present step, new, and the step has not
failed (R97, R98). -/
abbrev Machine.State.takesTrain (s : State) (f : SbFrame) (phase : Nat) : Prop :=
  f.typ = 3 ∧ trPhase f.payload = phase ∧ isLocal f = true ∧ (s.hear f).1 = true
    ∧ tfind s.start.taken (trKey phase (trBraid f.payload).val) ≠ some f.payload ∧ s.phaseHere phase = true
    ∧ s.start.failed = false

/-- One more event of a TYPE is counted, and the flag of its class stands (R352, R353). -/
abbrev Machine.State.counted (s t : State) (typ : Nat) : Prop :=
  tget 0 t.flt.raised typ = tget 0 s.flt.raised typ + 1 ∧ bit t.flt.flags (typ / 8) = true

/-- A descriptor of an opcode that the dispatcher has started waits at an index of a ring (R229). -/
abbrev Machine.State.started (s : State) (r : RingNo) (i : BitVec 32) (op : Nat) (d : Desc) : Prop :=
  (s.desc r.val i).map (fun e => (e.st, e.desc)) = some (.started, d) ∧ dOpcode d = op

/-- The completion ring of a ring runs, and no CANCEL waits for its targets (R232, R235). -/
abbrev Machine.State.cplReady (s : State) (r : RingNo) : Prop :=
  s.rings.cancels = [] ∧ (s.ring (s.ring r.val).cplRing).st = .running ∧ (s.ring (s.ring r.val).cplRing).kind = 3

/-- The completion entry of a descriptor is the one entry that has entered the completion FIFO (R233, R235). -/
abbrev Machine.State.entered (s t : State) (r : RingNo) (i : BitVec 32) (d : Desc) (status result detail : Nat) : Prop :=
  t.rings.fifo = s.rings.fifo ++ [⟨Fin.ofNat 64 r.val, Fin.ofNat 64 (s.ring r.val).cplRing, status, dOpcode d, i,
    BitVec.ofNat 32 (dUser d), BitVec.ofNat 64 result, BitVec.ofNat 32 detail, BitVec.ofNat 48 (s.ts 48), dInterrupt d⟩]

/-- The port is OPEN and in service, and has nothing under way of itself: a command on the link runs at once (R230, R242). -/
abbrev Machine.State.linkReady (s : State) : Prop := s.start.st = .openSt ∧ s.start.failed = false ∧ s.still = true

/-- Nothing waits to start on a braid: no request is queued at the transmitting end and no calibration at the receiving
end (R135, R145). -/
abbrev Machine.State.braidIdle (s : State) (b : Fin 8) : Prop :=
  (s.shape 0 b).queue = [] ∧ s.cal.want.get b = [] ∧ s.cal.sweep.get b = []

/-- A CONTROL frame of an opcode waits in the FIFO of a braid, for a port with nothing under way of itself (R173). -/
abbrev Machine.State.holds (s : State) (b : Fin 8) (op : Nat) (p : NocFlit) : Prop :=
  s.ctlWaits b op p = true ∧ s.still = true

/-! ### Commands that move one part of the block

The frame claims are made of these groups. -/

/-- Commands of the clocks, the timestamps, the power switch, the resets' limits and the test data registers. -/
def Instr.ofClocks : Instr → Bool
  | .powerOnRelease | .powerSwitchTimeout | .powerSwitchRetry | .pmPwrRefresh | .resetAckLimit | .resetReqTimeout
  | .refOffsetWindow _ | .tscCheck _ | .timestampStep _ | .epochClose | .sidebandLoss | .sidebandNotUp
  | .tstAloneChange _ | .testLogicReset | .tapUpdate _ _ | .tapCapture _ _ _ | .tapShift _ _ _
  | .smSlotWrite _ _ | .opticalReport _ _ _ => true
  | _ => false

/-- Commands of in-flight reduction. -/
def Instr.ofReduction : Instr → Bool
  | .reduce _ _ | .jobStatus _ _ | .contribHead _ _ | .contribData _ _ | .chunkTimer _ _ | .jobIdleTimer _
  | .preholdExpiry _ | .spillWriteResponse _ _ _ | .refillResponse _ _ _ | .chunkOutput _ _
  | .resultWriteResponse _ _ _ => true
  | _ => false

/-- Commands of the hitch engine, without the fence of a receive braid, which stands in the link. -/
def Instr.ofHitches : Instr → Bool
  | .hitchSignal _ | .hitchWait _ _ | .hitchWake _ _ | .hitchUpdate _ _ | .hitchRead _ | .waiterTimeout _ | .realignEpoch
  | .htConfig _ _ | .htReset _ _ | .htAbort _ _ | .htAbortThread _ _ | .htRead _ _ | .htSignal _ _ | .htWait _ _
  | .hitchDebugCopy _ | .waiterDebugCopy _ => true
  | _ => false

/-- Commands of the rings and their memory accesses, and of the credit audits. -/
def Instr.ofRings : Instr → Bool
  | .doorbellNotification _ | .watchReadResponse _ _ _ | .watchReadRetry _ | .doorbellPoll
  | .descriptorFetchResponse _ _ _ _ | .descriptorReread _ _ | .descriptorDispatch | .shadowWriteDue _
  | .shadowWriteResponse _ _ | .completionWrite _ | .entryWriteResponse _ _ _ | .msiHoldoffExpiry _
  | .msiWriteResponse _ _ | .ringEnable _ _ | .nop _ _ | .digest _ _ | .creditInitTimeout | .creditInitRetry
  | .creditAuditStart | .creditAuditAnswer _ | .creditAuditAbandon => true
  | _ => false

/-- Timers of the link and the records of its strands, which send nothing and change no width. -/
def Instr.ofTimers : Instr → Bool
  | .standinLockComplete _ | .nakRepeat _ | .ackTimerExpiry _ | .idleDue _ | .vcStall _ _ _ | .staleTemp
  | .qualityRecordPost | .eyeScanPointSetComplete _ _ _ | .prbsTestDone _ _ _ | .transmitCalStepComplete _ _ => true
  | _ => false

/-- Commands of start-up from strand detect to the first calibration. -/
def Instr.ofTraining : Instr → Bool
  | .detectGo _ | .detectObservationEnd _ _ _ | .detectResult _ | .mapAgree _ | .trainGo _ | .trainLinkFrame _ _ _
  | .braidLockAchieved _ _ _ | .measureTimer _ _ | .trainAttemptTimeout _ _ | .trainDone _
  | .firstCalibrationComplete _ _ => true
  | _ => false

/-- Commands by which the sideband sends, forwards and discards frames. -/
def Instr.ofSideband : Instr → Bool
  | .heartbeatTimer | .beaconTimer | .trainFrameRepeat | .resetPairAnnounce | .ringFrameForward _ _
  | .sidebandFrameDiscard _ => true
  | _ => false

/-- The digest and the timeouts of a lashing. -/
def Instr.ofLashTimers : Instr → Bool
  | .lashDigestReady | .lashWindowExpiry | .leaderLinkTimeout | .followerLinkTimeout => true
  | _ => false

/-- Commands that may reach the registers for software and the answer of the register window: its accesses, an optical
report, and the resets of the main island. -/
def Instr.ofWindow : Instr → Bool
  | .pairedResetRequest _ | .trimWrite _ | .minBraidsWrite _ | .lashStage _ | .lashUnstage _ | .lashPropose _ | .lashCommit _
  | .lashAbort _ | .partyWrite _ | .epochCloseCommand _ | .meterRead _ | .flagClear _ | .rcRead _ | .registerWrite _
  | .bightRun _ _ | .tapAccessComplete | .opticalReport _ _ _ | .powerOnReset | .pairResetAssert | .mainPowerGood => true
  | _ => false

/-- Commands that may reach the test data registers: the pins of test access, an access through it, and the resets of the
main island. -/
def Instr.ofTestAccess : Instr → Bool
  | .powerOnReset | .pairResetAssert | .mainPowerGood | .tstAloneChange _ | .testLogicReset | .tapUpdate _ _
  | .tapCapture _ _ _ | .tapShift _ _ _ | .tapAccessComplete => true
  | _ => false

end Sys2Proof
end

