-- ==== Sys2Proof/Certificates/Slice0/Obligations.lean ====
section
/-! DEFINITION. The statements for the provers: what each command of a port block does (completion, with the values the rules
of the spec give), what it leaves alone (frames), and what every step keeps (invariants). -/

open Sys2Proof Sys2Proof.Machine

/-! ### Power-on, the power switch and paired resets (R44, R53, R67 to R72, R96) -/

/-- POWER_ON_RESET, its release and the power switch (R44, R96, R330). After a power-on reset the start-up and power states, the
strand, power, calibration, credit, ring, reduction, hitch, event and bight control registers stand at their reset values, the
agent begins a start with nothing assigned (the model's reading, assumption log 59), and straps, waiting commands and test
registers stay. POWER_ON_RELEASE asks for the main island's power; when it is good the main island leaves reset: a port in RESET goes
to IDENT in ACTIVE, a port that leaves PARK drives its wake. A switch that does not answer is taken back and counted once, and
tried again in RESET. PM_PWR_REFRESH drives the power of the present state, and nothing in an optical end, which has no pm_
interface. -/
def Obligations.PowerOnCompletes : Prop :=
(∀ s : State, Completes .powerOnReset s fun t =>
    t.aon.porN = false ∧ t.aon.pairN = false ∧ t.aon.reqN = true ∧ t.aon.pwr = .off ∧ t.start.st = .reset
      ∧ t.link = resetLink s.cls ∧ t.link.splCtl = 0x00905313 ∧ t.pwr = resetPower s.cls ∧ t.pwr.ctl = 0x05CC8032
      ∧ t.cal.ctl = 0x00034015 ∧ t.noc.fcCtl = 0x215 ∧ t.rings.ctl = 0x000193E8 ∧ t.red.ctl = 0x000A0064
      ∧ t.ht.ctl = 0x00010064 ∧ t.flt.ctl = 5 ∧ t.bight.ctl = 8 ∧ t.straps = s.straps ∧ t.pending = s.pending
      ∧ t.agent = s.agent.restart ∧ t.test = s.test)
  ∧ (∀ s : State, s.aon.porN = false → Completes .powerOnRelease s fun t =>
    t.aon.porN = true ∧ t.aon.sbClk = true ∧ t.aon.mainOn = true ∧ t.link = s.link ∧ t.start = s.start)
  ∧ (∀ s : State, s.aon.mainOn = true ∧ s.aon.mainGood = false ∧ s.aon.pairN = true ∧ s.start.st = .reset
      ∧ s.clk.rootLock = false → Completes .mainPowerGood s fun t =>
      t.aon.mainGood = true ∧ t.aon.isoN = s.aon.isoN ∧ t.aon.pwr = .active ∧ t.start.st = .ident ∧ t.clk.refUp = true ∧ t.link = s.link)
  ∧ (∀ s : State, s.aon.mainOn = true ∧ s.aon.mainGood = false ∧ s.start.st = .park ∧ s.aon.pwr = .park →
    Completes .mainPowerGood s fun t =>
      t.aon.mainGood = true ∧ t.clk.refUp = true ∧ t.pwr.wakeDrive = true ∧ t.start = s.start ∧ t.link = s.link)
  ∧ (∀ s : State, s.quiet ∧ s.aon.mainOn = true ∧ s.aon.mainGood = false ∧ s.aon.swTimeoutRaised = false →
    Completes .powerSwitchTimeout s fun t =>
      t.aon.mainOn = false ∧ t.aon.swTimeoutRaised = true ∧ s.counted t 0x0D ∧ t.link = s.link ∧ t.start = s.start)
  ∧ (∀ s : State, s.aon.swTimeoutRaised = true ∧ s.aon.mainOn = false ∧ s.aon.porN = true ∧ s.start.st = .reset →
    Completes .powerSwitchRetry s fun t => t.aon = { s.aon with mainOn := true } ∧ t.start = s.start ∧ t.link = s.link)
  ∧ (∀ s : State, s.quiet ∧ s.isOptical = false → Completes .pmPwrRefresh s fun t =>
    t = { s with aon.pmPwr := BitVec.ofNat 12 s.powerNow })
  ∧ (∀ s : State, s.quiet ∧ s.isOptical = true → Completes .pmPwrRefresh s fun t => t = s)

/-- A paired reset (R64, R65, R67, R68, R72, R96). PAIR_RESET_ASSERT counts, records the cause of the request this end made or 5,
and puts the link, the engines, the lashing and the registers at their reset values; a quarantined strand stays quarantined (the
model's reading, assumption log 64), as do the epoch, the power state, the agent and the straps. PAIR_RESET_RELEASE makes the port
fresh. A fresh port announces itself released until it has heard the far end released, and answers a request; a port that is not
fresh answers a request with an acknowledge, withholds credits and pulls rst_req_n with cause 2, after a drain where the request
asks for one; a port that has requested pulls the pin at the acknowledge or at its limit; FX_RESET PAIR sends the request with
cause 1, and a pin held without an answer is reported once. -/
def Obligations.PairResetCompletes : Prop :=
(∀ s : State, s.aon.porN = true ∧ s.aon.pairN = true → Completes .pairResetAssert s fun t =>
    t.aon.pairN = false ∧ t.aon.reqN = true ∧ t.aon.count = s.aon.count + 1
      ∧ t.aon.cause = (if s.aon.reqN then 5 else s.aon.reqCause.getD 5)
      ∧ t.link = { resetLink s.cls with strands := keptStrands s.link.strands } ∧ t.noc = (State.resetAs s.straps).noc
      ∧ t.rings = (State.resetAs s.straps).rings ∧ t.red = (State.resetAs s.straps).red ∧ t.ht = (State.resetAs s.straps).ht
      ∧ t.ten = (State.resetAs s.straps).ten ∧ t.lash = (State.resetAs s.straps).lash ∧ t.pwr = resetPower s.cls
      ∧ t.bight = (State.resetAs s.straps).bight ∧ t.glob = (State.resetAs s.straps).glob
      ∧ t.aon.epoch = s.aon.epoch ∧ t.aon.pwr = s.aon.pwr ∧ t.agent = s.agent ∧ t.straps = s.straps ∧ t.pending = s.pending)
  ∧ (∀ s : State, s.aon.porN = true ∧ s.aon.pairN = false ∧ s.clk.rootLock = false → Completes .pairResetRelease s fun t =>
    t.aon.pairN = true ∧ t.aon.mainOn = true ∧ t.start.fresh = true ∧ t.link = s.link ∧ t.aon.cause = s.aon.cause)
  ∧ (∀ s : State, s.start.reqSent = true ∧ s.aon.reqN = true ∧ s.aon.pairN = true → Completes .resetAckLimit s fun t =>
    t.aon.reqN = false ∧ t.aon.reqCause = some (s.aon.reqCause.getD 1) ∧ t.link = s.link)
  ∧ (∀ s : State, s.quiet ∧ s.aon.reqN = false ∧ s.aon.pairN = true ∧ s.start.reqHeld = false →
    Completes .resetReqTimeout s fun t => t.start.reqHeld = true ∧ t.aon = s.aon ∧ s.counted t 0x0C)
  ∧ (∀ s : State, s.start.fresh = true ∧ s.sbRuns = true ∧ s.start.gotRel = false ∧ s.guestOn = true →
    Completes .resetPairAnnounce s fun t =>
      t.start.sentRel = true ∧ t.out.sbLink = s.out.sbLink ++
        [{ s.localFrame 4 (resetPairPayload s.aon.cause.toNat false false true s.aon.count.toNat) with seq := s.sb.txSeq }])
  ∧ (∀ (s : State) (f : SbFrame), f.typ = 4 ∧ isLocal f = true ∧ (s.hear f).1 = true ∧ s.start.fresh = true
      ∧ bit f.payload 6 = true ∧ s.start.st = .sideband ∧ s.cls = .sc ∧ s.sb.hbSeen = false → Completes (.resetPair f) s fun t =>
    t.start.gotRel = true ∧ t.start.st = .sideband ∧ t.aon.farCause = BitVec.ofNat 4 (bf f.payload 0 4) ∧ t.aon.reqN = s.aon.reqN)
  ∧ (∀ (s : State) (f : SbFrame), f.typ = 4 ∧ isLocal f = true ∧ (s.hear f).1 = true ∧ s.start.fresh = false
      ∧ s.start.reqSent = false ∧ s.aon.reqN = true ∧ bit f.payload 4 = false ∧ bit f.payload 5 = false →
    Completes (.resetPair f) s fun t =>
      t.aon.reqN = false ∧ t.aon.reqCause = some 2 ∧ t.noc.whReset = true
        ∧ t.aon.farCause = BitVec.ofNat 4 (bf f.payload 0 4) ∧ t.out.sbLink = s.out.sbLink ++
          [{ s.localFrame 4 (resetPairPayload 2 true false false s.aon.count.toNat) with seq := s.sb.txSeq }])
  ∧ (∀ (s : State) (a : Access), a.off = 0x20 ∧ s.gate a true = .take ∧ a.data = 1 ∧ s.pairRefused = false
      ∧ s.still = true ∧ s.mtr.running = false →
    Completes (.pairedResetRequest a) s fun t =>
      t.start.reqSent = true ∧ t.aon.reqCause = some 1 ∧ t.noc.whReset = true ∧ t.glob.refusedAcc = false)
  ∧ (∀ (s : State) (f : SbFrame), f.typ = 4 ∧ isLocal f = true ∧ (s.hear f).1 = true ∧ s.start.fresh = true
      ∧ bit f.payload 6 = false ∧ bit f.payload 4 = false → Completes (.resetPair f) s fun t =>
    t.start.sentRel = true ∧ t.aon.reqN = s.aon.reqN ∧ t.aon.farCause = BitVec.ofNat 4 (bf f.payload 0 4)
      ∧ t.out.sbLink = s.out.sbLink ++
        [{ s.localFrame 4 (resetPairPayload s.aon.cause.toNat false false true s.aon.count.toNat) with seq := s.sb.txSeq }])
  ∧ (∀ (s : State) (f : SbFrame), f.typ = 4 ∧ isLocal f = true ∧ (s.hear f).1 = true ∧ s.start.fresh = false
      ∧ s.start.reqSent = true ∧ s.aon.reqN = true → Completes (.resetPair f) s fun t =>
    t.aon.reqN = false ∧ t.aon.reqCause = some (s.aon.reqCause.getD 1) ∧ t.aon.farCause = BitVec.ofNat 4 (bf f.payload 0 4)
      ∧ t.out.sbLink = s.out.sbLink)
  ∧ (∀ (s : State) (f : SbFrame), f.typ = 4 ∧ isLocal f = true ∧ (s.hear f).1 = true ∧ s.start.fresh = false
      ∧ s.start.reqSent = false ∧ s.aon.reqN = true ∧ bit f.payload 4 = false ∧ bit f.payload 5 = true
      ∧ bit f.payload 6 = false ∧ s.drains = true → Completes (.resetPair f) s fun t =>
    t.start.reqDrain = true ∧ t.aon.reqCause = some 2 ∧ t.noc.whReset = true ∧ t.aon.reqN = true
      ∧ t.aon.farCause = BitVec.ofNat 4 (bf f.payload 0 4))

/-- Root lock, loss of lock, the clock monitors and the timestamp (R46, R53, R54, R60 to R62). Root lock starts PCLK, loads TSC
from ts_val and takes an identified port to SIDEBAND; its loss stops PCLK, withholds credits, records cause 4 and raises event
0x08. A window of 1,440 to 1,760 NCLK cycles shows NCLK present and locked, one outside stops its credits and raises 0x08. A
window of the receive clocks sets RXW_OK for those within the tolerance and REF_OFFSET on fibre (tolerance and the sign of equal
offsets: assumption log 58). A slip raises 0x09 and retrains its braid, or the port at the NoC. A sample of ts_val that is not
what the counter or the last sample leads to is a step, logged with old and new value and raised as 0x51; an optical end has no
ts_val and does nothing. -/
def Obligations.ClocksComplete : Prop :=
(∀ s : State, s.mainUp = true ∧ s.aon.pairN = true ∧ s.clk.rootLock = false ∧ s.start.st = .ident
      ∧ s.guestOn = true ∧ s.start.sentRel = false → Completes .rootLock s fun t =>
    t.clk.rootLock = true ∧ t.clk.pclkUp = true ∧ t.clk.tsc = s.clk.tsVal ∧ t.aon.isoN = true ∧ t.start.st = .sideband
      ∧ t.link = s.link)
  ∧ (∀ s : State, s.quiet ∧ s.clk.rootLock = true ∧ s.start.st ≠ .park → Completes .rootLockLost s fun t =>
    t.clk.rootLock = false ∧ t.clk.pclkUp = false ∧ t.noc.whReset = true ∧ t.aon.cause = 4 ∧ s.counted t 0x08
      ∧ t.link.rx = s.link.rx)
  ∧ (∀ (s : State) (n : Nat), s.isOptical = false ∧ s.clk.refUp = true ∧ 1440 ≤ n ∧ n ≤ 1760
      ∧ s.clk.nclkUp = true ∧ s.clk.nclkGone = false → Completes (.nclkMonitorWindow n true) s fun t =>
    t.clk = { s.clk with nclkOk := true, nclkAsync := false } ∧ t.noc.whNclk = s.noc.whNclk ∧ t.link = s.link)
  ∧ (∀ (s : State) (n : Nat) (k : Bool), s.quiet ∧ s.isOptical = false ∧ s.clk.refUp = true ∧ (n < 1440 ∨ 1760 < n)
      ∧ s.clk.nclkGone = false → Completes (.nclkMonitorWindow n k) s fun t =>
    t.clk = { s.clk with nclkOk := false, nclkAsync := false, nclkGone := true } ∧ t.noc.whNclk = true ∧ s.counted t 0x08)
  ∧ (∀ (s : State) (l : List (Fin 8 × Int)), s.clk.pclkUp = true → Completes (.refOffsetWindow l) s fun t =>
    t.clk.rxwOk = BitVec.ofNat 8 (maskOf ((l.filter fun x => lockedTo x.2).map fun x => x.1.val))
      ∧ t.clk.rxwUp = s.clk.rxwUp ||| BitVec.ofNat 8 (maskOf (l.map fun x => x.1.val))
      ∧ t.clk.refOffset = (if s.cls.isFibre then
          BitVec.ofNat 8 (ofInt 8 (max (-127) (min 127 (worstOffset (l.map Prod.snd))))) else 0) ∧ t.link = s.link)
  ∧ (∀ s : State, s.quiet ∧ s.clk.pclkUp = true ∧ s.start.st ≠ .openSt → Completes (.crossingSlip .noc) s fun t =>
    s.counted t 0x09 ∧ t.link = s.link ∧ t.start = s.start)
  ∧ (∀ (s : State) (v : BitVec 64), s.quiet ∧ s.isOptical = false ∧ (s.clk.pclkUp = false ∨ v = s.clk.tsc) →
    Completes (.tscCheck v) s fun t => t = { s with clk.tsVal := v })
  ∧ (∀ (s : State) (v : BitVec 64), s.quiet ∧ s.isOptical = false ∧ s.clk.pclkUp = true ∧ v ≠ s.clk.tsc →
    Completes (.tscCheck v) s fun t => t.clk.tsc = v ∧ t.clk.tsVal = v ∧ t.clk.tsOld = s.clk.tsc ∧ t.clk.tsNew = v ∧ t.clk.steps = s.clk.steps + 1
      ∧ t.clk.back = (if v.toNat < s.clk.tsc.toNat then s.clk.back + 1 else s.clk.back) ∧ s.counted t 0x51)
  ∧ (∀ (s : State) (v : BitVec 64), s.quiet ∧ s.isOptical = false ∧ s.aon.porN = true ∧ v ≠ s.clk.tsVal + 2 →
    Completes (.timestampStep v) s fun t =>
      t.clk.tsc = (if s.clk.pclkUp then v else s.clk.tsc) ∧ t.clk.tsVal = v ∧ t.clk.tsOld = s.clk.tsVal ∧ t.clk.tsNew = v ∧ t.clk.steps = s.clk.steps + 1
        ∧ t.clk.back = (if v.toNat < s.clk.tsVal.toNat then s.clk.back + 1 else s.clk.back) ∧ s.counted t 0x51)
  ∧ (∀ (s : State) (v : BitVec 64), s.quiet ∧ s.isOptical = false ∧ v = s.clk.tsVal + 2 →
    Completes (.timestampStep v) s fun t => t = { s with clk.tsVal := v })
  ∧ (∀ (s : State) (v : BitVec 64), s.quiet ∧ s.isOptical = true → Completes (.tscCheck v) s fun t => t = s)
  ∧ (∀ (s : State) (v : BitVec 64), s.quiet ∧ s.isOptical = true → Completes (.timestampStep v) s fun t => t = s)
  ∧ (∀ (s : State) (n : Nat) (k : Bool), s.quiet ∧ s.isOptical = true → Completes (.nclkMonitorWindow n k) s fun t => t = s)
  ∧ (∀ (s : State) (b : Fin 8), s.clk.pclkUp = true ∧ s.start.st = .openSt ∧ s.link.retraining = false
      ∧ (s.link.tx.get b).retrainAt = none ∧ (s.link.tx.get b).ladder = .up ∧ (s.shape 0 b).retired = false →
    Completes (.crossingSlip (.tx b)) s fun t =>
    (t.link.tx.get b).ladder = .retraining ∧ (t.shape 1 b).trained = false ∧ (t.shape 0 b).trained = false)
  ∧ (∀ (s : State) (b : Fin 8), s.clk.pclkUp = true ∧ s.start.st = .openSt ∧ s.link.retraining = false
      ∧ (s.link.tx.get b).retrainAt = none ∧ (s.link.tx.get b).ladder = .up ∧ (s.shape 0 b).retired = false →
    Completes (.crossingSlip (.rx b)) s fun t =>
    (t.link.tx.get b).ladder = .retraining ∧ (t.shape 1 b).trained = false ∧ (t.shape 0 b).trained = false)
  ∧ (∀ s : State, s.clk.pclkUp = true ∧ s.start.st = .openSt ∧ s.link.retraining = false →
    Completes (.crossingSlip .noc) s fun t => t.link.retraining = true ∧ t.start.st = .detect ∧ t.noc.whRetrain = true)

/-! ### The sideband, the ring station and the relay (R37 to R42, R49, R69) -/

/-- Heartbeats, sideband loss and the frames of the link and the ring (R37 to R41, R69, R98). A heartbeat tells class,
generation 3 and start-up state, and one heard is FAR_CLASS, FAR_GEN, FAR_STATE, FAR_DIE_ID and FAR_PORT; loss is latched, ends
every bight and asks for a pair reset with cause 3. A frame of a far end without an ID goes on under this block's name, and a
reply to it on the link with PROXY cleared; a frame for another block goes on by R39: onto the link of a compute end or of a lateral
port that leads to its die, else onto the ring. A ring frame for this block enters a buffer of eight, one more is counted and
lost; another goes on, and the block's own frames take the gaps with the station's SEQ (assumption log 57). A frame with a bad
SOF or CRC is counted, and TRAIN frames due are repeated. -/
def Obligations.SidebandCompletes : Prop :=
(∀ s : State, s.quiet ∧ s.sbRuns = true → Completes .heartbeatTimer s fun t =>
    t = s.sendLink (s.localFrame 0 (packNat [(0, 3, s.cls.code), (3, 3, 3), (6, 4, s.start.st.code)]))
      ∧ t.sb.txSeq = s.sb.txSeq + 1
      ∧ t.out.sbLink = s.out.sbLink ++
        [{ s.localFrame 0 (packNat [(0, 3, s.cls.code), (3, 3, 3), (6, 4, s.start.st.code)]) with seq := s.sb.txSeq }])
  ∧ (∀ (s : State) (f : SbFrame), f.typ = 0 ∧ isLocal f = true ∧ (s.hear f).1 = true ∧ bf f.payload 6 4 < 14
      ∧ s.start.st = .openSt → Completes (.heartbeat f) s fun t =>
    t.sb.hbSeen = true ∧ t.sb.farState = BitVec.ofNat 4 (bf f.payload 6 4)
      ∧ t.sb.farClass = BitVec.ofNat 3 (bf f.payload 0 3) ∧ t.sb.farGen = BitVec.ofNat 3 (bf f.payload 3 3)
      ∧ t.sb.farDie = f.srcDie ∧ t.sb.farPort = f.srcPort ∧ t.link = s.link ∧ t.start = s.start)
  ∧ (∀ s : State, s.quiet ∧ s.start.fresh = false ∧ s.sbRuns = true ∧ s.sb.lost = false ∧ s.sb.watchOff = false
      ∧ s.start.st ≠ .park ∧ s.test.alone = false ∧ s.aon.reqN = true → Completes .sidebandLoss s fun t =>
    t.sb.lost = true ∧ t.sb.up = false ∧ t.aon.reqN = false ∧ t.aon.reqCause = some 3 ∧ t.aon.cause = 3
      ∧ t.noc.whReset = true ∧ t.bight.active = false ∧ s.counted t 0x0B ∧ t.link.tx = s.link.tx ∧ t.link.rx = s.link.rx)
  ∧ (∀ (s : State) (f : SbFrame), isLocal f = false ∧ f.proxy = true ∧ s.addressed f = true ∧ (s.receive f).1 = true
      ∧ f.typ ≠ 2 → Completes (.sidebandProxy f) s fun t =>
    t.out.sbLink = s.out.sbLink ++ [{ f with proxy := false, destDie := 0xFF, seq := s.sb.txSeq }] ∧ t.start = s.start)
  ∧ (∀ (s : State) (f : SbFrame), isLocal f = false ∧ f.proxy = false ∧ f.srcDie = 0xFF ∧ s.isOptical = false ∧ f.typ = 5
      ∧ (s.hear f).1 = true ∧ s.guestOn = true ∧ s.agentHere = false ∧ s.cls ≠ .sc ∧ s.leadsTo f = false →
    Completes (.sidebandProxy f) s fun t =>
      t.sb.ringOwn = s.sb.ringOwn ++ [{ f with srcDie := s.sbDie, srcPort := s.portCode, proxy := true }]
        ∧ t.start = s.start)
  ∧ (∀ (s : State) (f : SbFrame) (u : Bool), s.quiet ∧ s.sbRuns = true ∧ s.isOptical = false ∧ s.addressed f = true →
    Completes (.ringFrameForward (some f) u) s fun t =>
      t = if s.sb.ringBuf.length < 8 then { s with sb.ringBuf := s.sb.ringBuf ++ [f] }
        else { s with sb.ringDiscards := s.sb.ringDiscards + 1 })
  ∧ (∀ (s : State) (f : SbFrame), s.quiet ∧ s.sbRuns = true ∧ s.isOptical = false ∧ s.addressed f = false ∧ s.sb.ringPtr = 0 →
    Completes (.ringFrameForward (some f) false) s fun t =>
      t = { s with out.sbRing := s.out.sbRing ++ [f], sb.ringPtr := 1 })
  ∧ (∀ (s : State) (f : SbFrame) (l : List SbFrame) (u : Bool), s.quiet ∧ s.sbRuns = true ∧ s.isOptical = false
      ∧ s.sb.ringOwn = f :: l → Completes (.ringFrameForward none u) s fun t =>
    t = { s with
      sb.ringOwn := l, sb.ringPtr := 0, sb.ringSeq := s.sb.ringSeq + 1
      out.sbRing := s.out.sbRing ++ [{ f with seq := s.sb.ringSeq }] })
  ∧ (∀ (s : State) (f : SbFrame), isLocal f = false ∧ f.srcDie ≠ 0xFF ∧ s.addressed f = false ∧ s.isOptical = false
      ∧ f.typ.toNat < 8 ∧ (s.hear f).1 = true ∧ s.agentHere = false ∧ s.cls ≠ .sc ∧ s.leadsTo f = false →
    Completes (.sidebandFrameForward f) s fun t => t.sb.ringOwn = s.sb.ringOwn ++ [f] ∧ t.start = s.start)
  ∧ (∀ (s : State) (w : SbWord), s.quiet ∧ s.sbRuns = true ∧ (bf w 0 8 ≠ 0xA5 ∨ crc16 112 w.toNat ≠ bf w 112 16) →
    Completes (.sidebandFrameDiscard w) s fun t => t = { s with sb.crcErr := s.sb.crcErr + 1 })
  ∧ (∀ (s : State) (k : Nat) (f : SbFrame), s.start.failed = false ∧ s.sbRuns = true ∧ s.start.repeats = [(k, f)] →
    Completes .trainFrameRepeat s fun t =>
      t.out.sbLink = s.out.sbLink ++ [{ f with seq := s.sb.txSeq }] ∧ t.sb.txSeq = s.sb.txSeq + 1 ∧ t.start = s.start)
  ∧ (∀ (s : State) (f : SbFrame), isLocal f = false ∧ f.srcDie ≠ 0xFF ∧ s.addressed f = false ∧ s.isOptical = false
      ∧ f.typ.toNat < 8 ∧ (s.hear f).1 = true ∧ s.agentHere = false
      ∧ (s.cls = .sc ∨ (s.leadsTo f = true ∧ s.index = 0)) → Completes (.sidebandFrameForward f) s fun t =>
    t.out.sbLink = s.out.sbLink ++ [{ f with seq := s.sb.txSeq }] ∧ t.sb.ringOwn = s.sb.ringOwn ∧ t.start = s.start)
  ∧ (∀ (s : State) (f : SbFrame), s.agentHere = true ∧ isLocal f = false ∧ f.srcDie ≠ 0xFF ∧ f.destDie = 0 ∧ f.destPort = 0
      ∧ s.addressed f = false ∧ f.typ.toNat < 8 ∧ (s.hear f).1 = true → Completes (.sidebandFrameForward f) s fun t =>
    t.out.smReq = s.out.smReq ++ [f] ∧ t.agent.answers = s.agent.answers ++ smReply s.agent f)
  ∧ (∀ (s : State) (f : SbFrame), isLocal f = false ∧ f.srcDie ≠ 0xFF ∧ s.addressed f = false ∧ s.isOptical = false
      ∧ 8 ≤ f.typ.toNat ∧ s.sbRuns = true ∧ s.isCopy f = false → Completes (.sidebandFrameForward f) s fun t =>
    t.sb.protoErr = s.sb.protoErr + 1 ∧ t.sb.ringOwn = s.sb.ringOwn ∧ t.out.sbLink = s.out.sbLink)

/-- Stand-alone mode and the two test data registers (R48, R49, R63). A change of tst_alone while rst_pair_n is high asks for a
pair reset with cause 6. A reset of the test logic clears both registers and abandons an access. An update of the access
register with OP 1 or 2 starts an access, which a busy port ignores; a capture takes the wrapped sites, or the busy code, or the
result; a shift sends the lowest bit of the selected register and takes tst_si at its top; with both selected tst_so is low. An
access completes with its register's value, or as refused where its address is misaligned. -/
def Obligations.TestAccessCompletes : Prop :=
(∀ (s : State) (v : Bool), s.quiet ∧ v ≠ s.test.alone ∧ s.aon.pairN = true ∧ s.aon.reqN = true →
    Completes (.tstAloneChange v) s fun t =>
      t = { s with test.alone := v, noc.whReset := true, aon.reqN := false, aon.reqCause := some 6 })
  ∧ (∀ s : State, s.quiet → Completes .testLogicReset s fun t =>
    t = { s with test := t.test } ∧ t.test.wdr = 0 ∧ t.test.acc = 0 ∧ t.test.job = none ∧ t.test.alone = s.test.alone)
  ∧ (∀ s : State, s.quiet ∧ s.test.job = none ∧ (bf s.test.acc 0 2 = 1 ∨ bf s.test.acc 0 2 = 2) →
    Completes (.tapUpdate false true) s fun t =>
      t = { s with test := t.test }
        ∧ t.test.job = some ⟨bf s.test.acc 0 2, bf s.test.acc 2 16, BitVec.ofNat 32 (bf s.test.acc 18 32)⟩)
  ∧ (∀ (s : State) (c : BitVec 38), s.quiet → Completes (.tapCapture true false c) s fun t =>
    t = { s with test := t.test } ∧ t.test.wdr = c ∧ t.test.acc = s.test.acc)
  ∧ (∀ (s : State) (c : BitVec 38), s.quiet ∧ s.test.job.isSome = true → Completes (.tapCapture false true c) s fun t =>
    t = { s with test := t.test } ∧ bf t.test.acc 0 2 = 1 ∧ bf t.test.acc 18 32 = 0
      ∧ bf t.test.acc 2 16 = bf s.test.acc 2 16)
  ∧ (∀ (s : State) (b : Bool), s.quiet → Completes (.tapShift true false b) s fun t =>
    t = { s with test := t.test } ∧ t.test.so = bit s.test.wdr 0 ∧ t.test.acc = s.test.acc
      ∧ t.test.wdr = setBf (s.test.wdr >>> 1) 37 1 (b2n b))
  ∧ (∀ (s : State) (b : Bool), s.quiet → Completes (.tapShift false true b) s fun t =>
    t = { s with test := t.test } ∧ t.test.so = bit s.test.acc 0 ∧ t.test.wdr = s.test.wdr
      ∧ t.test.acc = setBf (s.test.acc >>> 1) 49 1 (b2n b))
  ∧ (∀ (s : State) (j : TapJob), s.test.job = some j ∧ j.off % 4 ≠ 0 → Completes .tapAccessComplete s fun t =>
    t.test.job = none ∧ t.test.resOp = 2 ∧ t.test.resData = 0 ∧ t.glob = s.glob)
  ∧ (∀ (s : State) (j : TapJob), s.quiet ∧ s.test.job = some j ∧ j.op = 1 ∧ j.off = 0 ∧ s.gate j.access false = .take →
    Completes .tapAccessComplete s fun t =>
      t.test.job = none ∧ t.test.resOp = 0 ∧ t.test.resData = s.regValue 0 ∧ t.link = s.link)
  ∧ (∀ s : State, s.quiet ∧ s.test.job.isSome = true → Completes (.tapUpdate false true) s fun t =>
    t = { s with test := { s.test with selWdr := false, selAcc := true } })
  ∧ (∀ (s : State) (c : BitVec 38), s.quiet ∧ s.test.job = none → Completes (.tapCapture false true c) s fun t =>
    t = { s with test := t.test } ∧ bf t.test.acc 0 2 = s.test.resOp % 4 ∧ bf t.test.acc 18 32 = s.test.resData.toNat
      ∧ bf t.test.acc 2 16 = bf s.test.acc 2 16)
  ∧ (∀ (s : State) (b : Bool), s.quiet → Completes (.tapShift true true b) s fun t =>
    t = { s with test := { s.test with selWdr := true, selAcc := true, so := false } })

/-- The serial memory relay and the replies of its controller (R42, R364, R370 to R372). A hub block's relay takes an answer for
a port while it holds fewer than four, and passes a request on to the controller, which answers it; a block of another kind holds
no relay. A reply that fills a read only in part is placed by its INDEX; an error 3 holds the read for its reissue; a timed-out
read goes out again. A slot write in order erases the slot and is under way, one that is not is ignored. A report of an optical
end is held by its hub block. -/
def Obligations.RelayCompletes : Prop :=
(∀ (s : State) (f : SbFrame), s.quiet ∧ s.agentHere = true ∧ s.sbRuns = true ∧ s.sb.relay.length < 4 ∧ s.addressed f = true →
    Completes (.smRelayFrame true f) s fun t => t = { s with sb.relay := s.sb.relay ++ [f] })
  ∧ (∀ (s : State) (f : SbFrame), s.agentHere = true ∧ f.destDie = 0 ∧ f.destPort = 0 ∧ f.srcDie ≠ 0xFF ∧ (s.hear f).1 = true →
    Completes (.smRelayFrame false f) s fun t =>
      t.out.smReq = s.out.smReq ++ [f] ∧ t.agent.answers = s.agent.answers ++ smReply s.agent f)
  ∧ (∀ (s : State) (b : Bool) (f : SbFrame), s.quiet ∧ s.agentHere = false → Completes (.smRelayFrame b f) s fun t => t = s)
  ∧ (∀ (s : State) (f : SbFrame) (r : SmRead), f.typ = 6 ∧ s.myReply f = true ∧ (s.receive f).1 = true
      ∧ s.cfg.reads = [r] ∧ r.tag.toNat = bf f.payload 60 4 ∧ r.got = [] ∧ bf f.payload 48 12 < readFrames r.len
      ∧ 1 < readFrames r.len → Completes (.smData f) s fun t =>
    t.cfg.reads = [{ r with got := [(bf f.payload 48 12, BitVec.ofNat 48 (bf f.payload 0 48))] }] ∧ t.start = s.start)
  ∧ (∀ (s : State) (f : SbFrame) (r : SmRead), f.typ = 7 ∧ s.myReply f = true ∧ (s.receive f).1 = true
      ∧ s.cfg.reads = [r] ∧ r.tag.toNat = bf f.payload 0 4 ∧ bf f.payload 4 4 = 3 → Completes (.smError f) s fun t =>
    t.cfg.reads = [{ r with waiting := true, got := [] }] ∧ t.cfg.smErrors = s.cfg.smErrors + 1 ∧ t.start = s.start)
  ∧ (∀ (s : State) (r : SmRead), s.cfg.reads = [r] ∧ r.waiting = false ∧ r.reissues < 3 →
    Completes (.smReadTimeout r.tag) s fun t =>
      t.cfg.reissues = s.cfg.reissues + 1 ∧ t.start = s.start
        ∧ t.cfg.reads.map (fun x => (x.addr, x.len, x.got, x.reissues)) = [(r.addr, r.len, [], r.reissues + 1)])
  ∧ (∀ (s : State) (r : SmRead), s.cfg.reads = [r] ∧ r.waiting = true → Completes (.smQueueFullReissue r.tag) s fun t =>
    t.cfg.reads = [{ r with waiting := false }] ∧ t.cfg.reissues = s.cfg.reissues ∧ t.start = s.start)
  ∧ (∀ (s : State) (a : Nat) (d : List (BitVec 8)), s.quiet ∧ s.agentHere = true ∧ s.agent.busy = none
      ∧ slotWriteOk s.agent a d = true → Completes (.smSlotWrite a d) s fun t =>
    t = { s with agent.mem := memErase s.agent.mem a, agent.busy := some (a, d) })
  ∧ (∀ (s : State) (a : Nat) (d : List (BitVec 8)), s.quiet ∧ s.agentHere = true ∧ s.agent.busy = none
      ∧ slotWriteOk s.agent a d = false → Completes (.smSlotWrite a d) s fun t => t = s)
  ∧ (∀ (s : State) (a : Nat) (d : List (BitVec 8)), s.quiet ∧ s.agentHere = false →
    Completes (.smSlotWrite a d) s fun t => t = s)
  ∧ (∀ (s : State) (i k c : Reg), s.quiet ∧ s.cls = .fib ∧ s.isOptical = false ∧ s.asleep = false ∧ s.sbRuns = true →
    Completes (.opticalReport i k c) s fun t => t = { s with glob.optId := i, glob.optSite := k, glob.optClk := c })
  ∧ (∀ (s : State) (i k c : Reg), s.quiet ∧ (s.cls ≠ .fib ∨ s.isOptical = true) →
    Completes (.opticalReport i k c) s fun t => t = s)

/-! ### The register window, the meters and dead dies (R319, R323 to R325, R352, R358, R382 to R389) -/

/-- Reads and writes of the window (R382 to R385, R388, R389, R352), each for one register: a register that answers is read as it
stands, a read of FX_RING_STAT restarts its high-water mark from the present occupancy, a kept value takes effect at once, a write
of 1 clears a flag, and MIN_BRAIDS is taken within 1 to 8; an access with no register is counted and reads zero, a blocked read is
refused, a write without all four byte enables is refused and counted, and a direct write of a protected register is refused and
noted as a violation. -/
def Obligations.WindowCompletes : Prop :=
(∀ (s : State) (a : Access), s.quiet ∧ s.gate a false = .take ∧ a.off.toNat = 0x5004 → Completes (.rcRead a) s fun t =>
    t = { s with
      rings.fifoHigh := BitVec.ofNat 9 s.fifoOcc, glob.readData := s.regValue 0x5004, glob.refusedAcc := false })
  ∧ (∀ (s : State) (a : Access), s.quiet ∧ s.gate a false = .take ∧ a.off.toNat = 0x10 → Completes (.rcRead a) s fun t =>
    t = { s with glob.readData := s.regValue 0x10, glob.refusedAcc := false })
  ∧ (∀ (s : State) (a : Access), s.quiet ∧ s.gate a false = .unmapped → Completes (.rcRead a) s fun t =>
    t = { s with glob.unmapped := s.glob.unmapped + 1, glob.readData := 0, glob.refusedAcc := false })
  ∧ (∀ (s : State) (a : Access), s.quiet ∧ s.gate a false = .blocked → Completes (.rcRead a) s fun t =>
    t = { s with glob.readData := 0, glob.refusedAcc := true })
  ∧ (∀ (s : State) (a : Access), s.quiet ∧ s.gate a true = .take ∧ a.off.toNat = 0x400 → Completes (.registerWrite a) s fun t =>
    t = { s with glob.scratch0 := a.data, glob.readData := 0, glob.refusedAcc := false })
  ∧ (∀ (s : State) (a : Access), s.quiet ∧ s.gate a true = .partialWrite → Completes (.registerWrite a) s fun t =>
    t = { s with glob.partialCnt := s.glob.partialCnt + 1, glob.readData := 0, glob.refusedAcc := true })
  ∧ (∀ (s : State) (a : Access), s.gate a true = .take ∧ protectedOff s.cls a.off.toNat = true →
    Completes (.registerWrite a) s fun t =>
      t.glob.refusedAcc = true ∧ t.lash.viol = true ∧ t.lash.prot = s.lash.prot ∧ t.lash.staged = s.lash.staged)
  ∧ (∀ (s : State) (a : Access), s.quiet ∧ s.gate a true = .take ∧ a.off = 0xB000 → Completes (.flagClear a) s fun t =>
    t = { s with flt.flags := s.flt.flags &&& ~~~a.data, glob.readData := 0, glob.refusedAcc := false })
  ∧ (∀ (s : State) (a : Access), s.quiet ∧ s.gate a true = .take ∧ a.off = 0x3000
      ∧ max 1 (min (bf a.data 0 4) 8) ≤ s.surviving 0 ∧ max 1 (min (bf a.data 0 4) 8) ≤ s.surviving 1 →
    Completes (.minBraidsWrite a) s fun t =>
      t = { s with link.llCtl := BitVec.ofNat 32 (bf a.data 0 5), glob.readData := 0, glob.refusedAcc := false })

/-- Meters and epochs (R323 to R325): an epoch that closes at its boundary or by a command puts the counters into the snapshot
bank and its number into SNAP, the epoch number and NEXT advance, and event 0x50 is raised; a read of FX_MTR_DATA_LO gives the low
half of the selected meter and latches the high half. -/
def Obligations.MetersComplete : Prop :=
(∀ s : State, s.quiet ∧ s.mtr.running = true ∧ s.asleep = false ∧ s.mtr.next.toNat ≤ s.clk.tsc.toNat →
    Completes .epochClose s fun t =>
      t.mtr.snap = s.mtr.live ∧ t.mtr.energySnap = s.mtr.energy ∧ t.mtr.snapEpoch = s.aon.epoch
        ∧ t.aon = { s.aon with epoch := s.aon.epoch + 1 } ∧ t.mtr.live = s.mtr.live
        ∧ t.mtr.next = s.nextBoundary s.clk.tsc.toNat ∧ s.counted t 0x50 ∧ t.link = s.link)
  ∧ (∀ (s : State) (a : Access), s.quiet ∧ s.gate a true = .take ∧ a.off = 0x9000 ∧ a.data = 1 ∧ s.mtr.running = true →
    Completes (.epochCloseCommand a) s fun t =>
      t.mtr.snap = s.mtr.live ∧ t.mtr.energySnap = s.mtr.energy ∧ t.mtr.snapEpoch = s.aon.epoch
        ∧ t.aon = { s.aon with epoch := s.aon.epoch + 1 } ∧ t.mtr.live = s.mtr.live
        ∧ t.mtr.next = s.nextBoundary s.clk.tsc.toNat ∧ s.counted t 0x50 ∧ t.link = s.link)
  ∧ (∀ (s : State) (a : Access), s.quiet ∧ s.gate a false = .take ∧ a.off = 0x9020 → Completes (.meterRead a) s fun t =>
    t = { s with
      mtr.latchHi := BitVec.ofNat 32 (bf s.meterNow 32 32), glob.readData := BitVec.ofNat 32 (bf s.meterNow 0 32)
      glob.refusedAcc := false })

/-! ### Rings (R219 to R241) -/

/-- Doorbell lines (R224, R225): a notification, a retry and the poll issue the watch read of the line, a line in the middle of
a read notes the notification, and a response applies the index in the slot of the line's one ring. -/
def Obligations.DoorbellsComplete : Prop :=
(∀ (s : State) (k : Fin 8), s.quiet ∧ s.start.st ≠ .park ∧ (s.rings.line.get k).st = .watching →
    Completes (.doorbellNotification k) s fun t =>
      (t.rings.line.get k).st = .reading ∧ t.link = s.link ∧ t.rings.ring = s.rings.ring
        ∧ t.noc.qRing = s.noc.qRing ++ [⟨.mem ⟨.watchRead, 0, s.lineOwner k,
          BitVec.ofNat 52 (lineAddr (s.rings.line.get k).dbLo (s.rings.line.get k).dbHi), 64, 0, false, k.val, 0⟩, 0, s.now, none⟩])
  ∧ (∀ (s : State) (k : Fin 8), s.quiet ∧ s.start.st ≠ .park ∧ (s.rings.line.get k).st = .reading →
    Completes (.doorbellNotification k) s fun t =>
      (t.rings.line.get k).pending = true ∧ (t.rings.line.get k).st = .reading ∧ t.noc = s.noc ∧ t.rings.ring = s.rings.ring)
  ∧ (∀ (s : State) (k : Fin 8), s.quiet ∧ s.clocked = true ∧ (s.rings.line.get k).st = .retrying →
    Completes (.watchReadRetry k) s fun t =>
    (t.rings.line.get k).st = .reading ∧ t.rings.ring = s.rings.ring
      ∧ t.noc.qRing = s.noc.qRing ++ [⟨.mem ⟨.watchRead, 0, s.lineOwner k,
        BitVec.ofNat 52 (lineAddr (s.rings.line.get k).dbLo (s.rings.line.get k).dbHi), 64, 0, false, k.val, 0⟩, 0, s.now, none⟩])
  ∧ (∀ (s : State) (k : Fin 8), s.quiet ∧ s.clocked = true ∧ s.start.st ≠ .park ∧ bf s.rings.ctl 0 10 ≠ 0
      ∧ (octs.filter fun j => (s.rings.line.get j).st == .watching) = [k] → Completes .doorbellPoll s fun t =>
    (t.rings.line.get k).st = .reading ∧ t.rings.ring = s.rings.ring ∧ t.noc.qRing.length = s.noc.qRing.length + 1)
  ∧ (∀ (s : State) (k : Fin 8) (r : Nat) (d : BitVec 512) (v : BitVec 32), s.quiet ∧ (s.rings.line.get k).st = .reading
      ∧ (s.rings.line.get k).pending = false ∧ s.lineRings k = [r] ∧ (s.ring r).st = .running ∧ (s.ring r).isSub = true
      ∧ v = BitVec.ofNat 32 (bf d (64 * (s.ring r).dbSlot) 32) ∧ (v - (s.ring r).portIdx).toNat ≤ (s.ring r).size
      ∧ (v - (s.ring r).swIdx).toNat < 2 ^ 31 → Completes (.watchReadResponse k d false) s fun t =>
    (t.ring r).swIdx = v ∧ (t.rings.line.get k).st = .watching ∧ (t.rings.line.get k).fails = 0 ∧ t.link = s.link)

/-- Descriptors (R228, R229, R234): a fetched descriptor that passes its checks waits to start, a re-read goes out, and the
dispatcher starts the one descriptor of the one ring that may start, with a completion slot held for it. -/
def Obligations.DescriptorsComplete : Prop :=
(∀ (s : State) (r : RingNo) (i : BitVec 32) (d : Desc) (e : RingDesc), s.quiet ∧ s.desc r.val i = some e ∧ e.st = .fetching
      ∧ e.marked = false ∧ (s.ring r.val).st = .running ∧ dSeq d = i.toNat % 65536 ∧ s.descCheck r.val d = none →
    Completes (.descriptorFetchResponse r i d false) s fun t =>
      t.desc r.val i = some { e with st := .ready, desc := d } ∧ t.rings.fifo = s.rings.fifo ∧ t.link = s.link)
  ∧ (∀ (s : State) (r : RingNo) (i : BitVec 32) (e : RingDesc), s.quiet ∧ s.clocked = true ∧ s.desc r.val i = some e ∧ e.st = .rereading
      ∧ (s.ring r.val).st = .running → Completes (.descriptorReread r i) s fun t =>
    t.desc r.val i = some { e with st := .fetching } ∧ t.link = s.link
      ∧ t.noc.qRing = s.noc.qRing ++ [⟨.mem ⟨.descFetch, 0, s.ringOwner r.val,
        BitVec.ofNat 52 ((s.ring r.val).entryAddr i), 64, 0, false, r.val, i.toNat⟩, 0, s.now, none⟩])
  ∧ (∀ (s : State) (r : Nat) (e : RingDesc), s.quiet ∧ s.clocked = true ∧ s.ringsOf 0 = [r] ∧ s.ringsOf 1 = [] ∧ s.ringsOf 2 = []
      ∧ (s.ring r).descs = [e] ∧ s.startable r e = true ∧ s.targetReady e.desc = true →
    Completes .descriptorDispatch s fun t =>
      t.desc r e.index = some { e with st := .started } ∧ t.rings.fifo = s.rings.fifo ∧ t.link = s.link
        ∧ (t.ring (s.ring r).cplRing).slots = (s.ring (s.ring r).cplRing).slots + 1)

/-- Shadow lines, completion entries and message-signalled writes (R226, R233 to R235, R240): a dirty line is written, the oldest
entry of the completion FIFO is written to its ring and its slot freed, a written entry becomes visible, an interrupt held off is
written when its holdoff ends, and a failed interrupt write is counted. -/
def Obligations.CompletionsComplete : Prop :=
(∀ (s : State) (k : Fin 8), s.quiet ∧ s.clocked = true ∧ (s.rings.line.get k).dirtyAt.isSome = true →
    Completes (.shadowWriteDue k) s fun t =>
    (t.rings.line.get k).dirtyAt = none
      ∧ (t.rings.line.get k).shWait = (s.rings.line.get k).shWait + 1 ∧ t.link = s.link
      ∧ t.noc.qRing = s.noc.qRing ++ [⟨.mem ⟨.shadowWrite, 0, s.lineOwner k,
        BitVec.ofNat 52 (lineAddr (s.rings.line.get k).shLo (s.rings.line.get k).shHi), 64, s.shadowData k, false, k.val, 0⟩,
        0, s.now, none⟩])
  ∧ (∀ (s : State) (k : Fin 8), s.quiet ∧ 1 < (s.rings.line.get k).shWait → Completes (.shadowWriteResponse k false) s fun t =>
    (t.rings.line.get k).shWait = (s.rings.line.get k).shWait - 1 ∧ t.rings.ring = s.rings.ring ∧ t.noc = s.noc)
  ∧ (∀ (s : State) (c : RingNo) (e : CplEntry) (l : List CplEntry), s.quiet ∧ s.clocked = true ∧ (s.ring c.val).st = .running
      ∧ (s.ring c.val).kind = 3 ∧ (s.ring c.val).full = false ∧ s.rings.fifo = e :: l ∧ e.cplRing = c →
    Completes (.completionWrite c) s fun t =>
      t.rings.fifo = l ∧ (t.ring c.val).portIdx = (s.ring c.val).portIdx + 1
        ∧ (t.ring c.val).slots = (s.ring c.val).slots - 1
        ∧ t.noc.qRing = s.noc.qRing ++ [⟨.mem ⟨.entryWrite, 0, s.ringOwner c.val,
          BitVec.ofNat 52 ((s.ring c.val).entryAddr (s.ring c.val).portIdx), 32,
          cplEntry e ((s.ring c.val).phase (s.ring c.val).portIdx), false, c.val, (s.ring c.val).portIdx.toNat⟩, 0, s.now, none⟩])
  ∧ (∀ (s : State) (r : RingNo) (i : BitVec 32) (n : Nat), s.quiet ∧ (s.ring r.val).st = .running
      ∧ (s.ring r.val).writes = [(i, n)] → Completes (.entryWriteResponse r i false) s fun t =>
    (t.ring r.val).writes = [] ∧ (t.ring r.val).visible = (s.ring r.val).portIdx
      ∧ (t.ring r.val).portIdx = (s.ring r.val).portIdx ∧ t.link = s.link)
  ∧ (∀ (s : State) (r : RingNo), s.quiet ∧ s.clocked = true ∧ (s.ring r.val).msiHold = true →
    Completes (.msiHoldoffExpiry r) s fun t =>
    (t.ring r.val).msiHold = false ∧ (t.ring r.val).msiLast = some s.now
      ∧ t.noc.qRing = s.noc.qRing ++ [⟨.mem ⟨.msiWrite, 5, s.ringOwner r.val,
        BitVec.ofNat 52 (bf (s.ring r.val).msiHi 0 20 * 2 ^ 32 + bf (s.ring r.val).msiLo 2 30 * 4), 4,
        (s.ring r.val).msiData.toNat, false, r.val, 0⟩, 5, s.now, none⟩])
  ∧ (∀ (s : State) (r : RingNo), s.quiet → Completes (.msiWriteResponse r true) s fun t =>
    t = { s with rings.msiFail := s.rings.msiFail + 1 })
  ∧ (∀ (s : State) (r : RingNo), s.quiet → Completes (.msiWriteResponse r false) s fun t => t = s)

/-- The states of a ring (R241): an enable that passes every check of Table 10.10 starts a disabled ring with its indices at
zero and no descriptor; a disable of a running submission ring with nothing fetched takes it to DISABLED at once. -/
def Obligations.RingStatesComplete : Prop :=
(∀ (s : State) (r : RingNo) (v : Reg), s.quiet ∧ s.start.opened = true ∧ (s.ring r.val).st = .disabled
      ∧ s.enableFails r.val { s.ring r.val with cfg := setBf (setBf v 0 1 1 &&& 0x0FFFFFFF) 0 1 0 } = none →
    Completes (.ringEnable r v) s fun t =>
      (t.ring r.val).st = .running ∧ (t.ring r.val).cfg = setBf v 0 1 1 &&& 0x0FFFFFFF ∧ (t.ring r.val).portIdx = 0
        ∧ (t.ring r.val).swIdx = 0 ∧ (t.ring r.val).descs = [] ∧ (t.ring r.val).baseLo = (s.ring r.val).baseLo
        ∧ t.rings.cfgErr = s.rings.cfgErr ∧ t.link = s.link)
  ∧ (∀ (s : State) (r : RingNo), s.start.opened = true ∧ (s.ring r.val).st = .running
      ∧ (s.ring r.val).isSub = true ∧ (s.ring r.val).descs = [] → Completes (.ringDisable r) s fun t =>
    (t.ring r.val).st = .disabled ∧ bit (t.ring r.val).cfg 0 = false ∧ t.link = s.link)

/-! ### Descriptors (R230 to R232, R134, R138, R145) -/

/-- The strand-function commands (R134, R138, R231). RETRAIN of a braid makes it retrain and waits for it; with ADMIT, on a braid
that has quarantined strands, it waits for their re-admission test first. REEF, UNREEF, SPLICE and UNSPLICE of a receive direction
keep the operation as requested and send its REQUEST to the far end (R125); of a transmit direction they queue it behind the
operation in progress. None of them completes yet. -/
def Obligations.StrandDescriptorsComplete : Prop :=
(∀ (s : State) (r : RingNo) (i : BitVec 32) (d : Desc), s.started r i 0x01 d ∧ s.linkReady ∧ dAll d = false
      ∧ bit d 80 = true ∧ s.hasQuarantined (dBraid d) = true ∧ (s.link.tx.get (dBraid d)).ladder = .up →
    Completes (.retrain r i) s fun t =>
      t.link.admits = s.link.admits ++ [(r, i, some (dBraid d))] ∧ t.link.retrainCmds = s.link.retrainCmds
        ∧ t.rings.fifo = s.rings.fifo)
  ∧ (∀ (s : State) (r : RingNo) (i : BitVec 32) (d : Desc), s.started r i 0x02 d ∧ s.linkReady ∧ dDir d = 1
      ∧ (s.link.tx.get (dBraid d)).ladder ≠ .retraining ∧ (s.shape 1 (dBraid d)).trained = true
      ∧ (s.shape 1 (dBraid d)).retired = false → Completes (.reef r i) s fun t =>
    (t.shape 1 (dBraid d)).queue = (s.shape 1 (dBraid d)).queue ++
      [{ op0 with op := 3, width := bf d 80 6, desc := some (r, i) }] ∧ t.rings.fifo = s.rings.fifo
      ∧ (t.link.tx.get (s.replyBraid (dBraid d))).ctl = (s.link.tx.get (s.replyBraid (dBraid d))).ctl ++
        [(0x20, mkStrand 3 (dBraid d).val 0 0 0x3F 0x3F 0x3F (bf d 80 6) 0 0 0 0 []
          (clockField (s.shape 1 (dBraid d)).clock) 1)])
  ∧ (∀ (s : State) (r : RingNo) (i : BitVec 32) (d : Desc), s.started r i 0x03 d ∧ s.linkReady ∧ dDir d = 1
      ∧ (s.link.tx.get (dBraid d)).ladder ≠ .retraining ∧ (s.shape 1 (dBraid d)).trained = true
      ∧ (s.shape 1 (dBraid d)).retired = false ∧ (s.shape 1 (dBraid d)).width < s.widest 1 (dBraid d)
      ∧ (s.shape 1 (dBraid d)).width < bf d 80 6 → Completes (.unreef r i) s fun t =>
    (t.shape 1 (dBraid d)).queue = (s.shape 1 (dBraid d)).queue ++
      [{ op0 with op := 4, width := bf d 80 6, desc := some (r, i) }] ∧ t.rings.fifo = s.rings.fifo
      ∧ (t.link.tx.get (s.replyBraid (dBraid d))).ctl = (s.link.tx.get (s.replyBraid (dBraid d))).ctl ++
        [(0x20, mkStrand 4 (dBraid d).val 0 0 0x3F 0x3F 0x3F (bf d 80 6) 0 0 0 0 []
          (clockField (s.shape 1 (dBraid d)).clock) 1)])
  ∧ (∀ (s : State) (r : RingNo) (i : BitVec 32) (d : Desc), s.started r i 0x04 d ∧ s.linkReady ∧ dDir d = 1
      ∧ (s.link.tx.get (dBraid d)).ladder ≠ .retraining ∧ (s.shape 1 (dBraid d)).trained = true
      ∧ (s.shape 1 (dBraid d)).retired = false → Completes (.splice r i) s fun t =>
    (t.shape 1 (dBraid d)).queue = (s.shape 1 (dBraid d)).queue ++
      [{ op0 with
        op := 1, frm := dStrand d, dest := bf d 80 6, disp := bf d 86 2, desc := some (r, i)
        logical := (s.strand 1 (dBraid d) (dStrand d)).logical.getD 0x3F }] ∧ t.rings.fifo = s.rings.fifo
      ∧ (t.link.tx.get (s.replyBraid (dBraid d))).ctl = (s.link.tx.get (s.replyBraid (dBraid d))).ctl ++
        [(0x20, mkStrand 1 (dBraid d).val 0 0 ((s.strand 1 (dBraid d) (dStrand d)).logical.getD 0x3F) (dStrand d) (bf d 80 6) (s.shape 1 (dBraid d)).width (bf d 86 2) 0 0 0 []
          (clockField (s.shape 1 (dBraid d)).clock) 1)])
  ∧ (∀ (s : State) (r : RingNo) (i : BitVec 32) (d : Desc), s.started r i 0x05 d ∧ s.linkReady ∧ dDir d = 1
      ∧ (s.link.tx.get (dBraid d)).ladder ≠ .retraining ∧ (s.shape 1 (dBraid d)).trained = true
      ∧ (s.shape 1 (dBraid d)).retired = false → Completes (.unsplice r i) s fun t =>
    (t.shape 1 (dBraid d)).queue = (s.shape 1 (dBraid d)).queue ++
      [{ op0 with op := 2, dest := dStrand d, desc := some (r, i) }] ∧ t.rings.fifo = s.rings.fifo
      ∧ (t.link.tx.get (s.replyBraid (dBraid d))).ctl = (s.link.tx.get (s.replyBraid (dBraid d))).ctl ++
        [(0x20, mkStrand 2 (dBraid d).val 0 0 0x3F 0x3F (dStrand d) (s.shape 1 (dBraid d)).width 0 0 0 0 []
          (clockField (s.shape 1 (dBraid d)).clock) 1)])
  ∧ (∀ (s : State) (r : RingNo) (i : BitVec 32) (d : Desc), s.started r i 0x02 d ∧ s.linkReady ∧ dDir d = 0
      ∧ (s.link.tx.get (dBraid d)).ladder ≠ .retraining ∧ (s.shape 0 (dBraid d)).trained = true
      ∧ (s.shape 0 (dBraid d)).retired = false ∧ (s.shape 0 (dBraid d)).queue = [] ∧ (s.shape 0 (dBraid d)).op.isSome = true →
    Completes (.reef r i) s fun t =>
      (t.shape 0 (dBraid d)).queue = [{ op0 with
        op := 3, width := bf d 80 6, desc := some (r, i), arrAt := s.now, first := s.link.reqPtr == 0 }]
        ∧ (t.shape 0 (dBraid d)).op = (s.shape 0 (dBraid d)).op ∧ t.rings.fifo = s.rings.fifo)
  ∧ (∀ (s : State) (r : RingNo) (i : BitVec 32) (d : Desc), s.started r i 0x03 d ∧ s.linkReady ∧ dDir d = 0
      ∧ (s.link.tx.get (dBraid d)).ladder ≠ .retraining ∧ (s.shape 0 (dBraid d)).trained = true
      ∧ (s.shape 0 (dBraid d)).retired = false ∧ (s.shape 0 (dBraid d)).queue = [] ∧ (s.shape 0 (dBraid d)).op.isSome = true →
    Completes (.unreef r i) s fun t =>
      (t.shape 0 (dBraid d)).queue = [{ op0 with
        op := 4, width := bf d 80 6, desc := some (r, i), arrAt := s.now, first := s.link.reqPtr == 0 }]
        ∧ (t.shape 0 (dBraid d)).op = (s.shape 0 (dBraid d)).op ∧ t.rings.fifo = s.rings.fifo)
  ∧ (∀ (s : State) (r : RingNo) (i : BitVec 32) (d : Desc), s.started r i 0x04 d ∧ s.linkReady ∧ dDir d = 0
      ∧ (s.link.tx.get (dBraid d)).ladder ≠ .retraining ∧ (s.shape 0 (dBraid d)).trained = true
      ∧ (s.shape 0 (dBraid d)).retired = false ∧ (s.shape 0 (dBraid d)).queue = [] ∧ (s.shape 0 (dBraid d)).op.isSome = true →
    Completes (.splice r i) s fun t =>
      (t.shape 0 (dBraid d)).queue = [{ op0 with
        op := 1, frm := dStrand d, dest := bf d 80 6, disp := bf d 86 2, desc := some (r, i), arrAt := s.now, first := s.link.reqPtr == 0 }]
        ∧ (t.shape 0 (dBraid d)).op = (s.shape 0 (dBraid d)).op ∧ t.rings.fifo = s.rings.fifo)
  ∧ (∀ (s : State) (r : RingNo) (i : BitVec 32) (d : Desc), s.started r i 0x05 d ∧ s.linkReady ∧ dDir d = 0
      ∧ (s.link.tx.get (dBraid d)).ladder ≠ .retraining ∧ (s.shape 0 (dBraid d)).trained = true
      ∧ (s.shape 0 (dBraid d)).retired = false ∧ (s.shape 0 (dBraid d)).queue = [] ∧ (s.shape 0 (dBraid d)).op.isSome = true →
    Completes (.unsplice r i) s fun t =>
      (t.shape 0 (dBraid d)).queue = [{ op0 with
        op := 2, dest := dStrand d, desc := some (r, i), arrAt := s.now, first := s.link.reqPtr == 0 }]
        ∧ (t.shape 0 (dBraid d)).op = (s.shape 0 (dBraid d)).op ∧ t.rings.fifo = s.rings.fifo)
  ∧ (∀ (s : State) (r : RingNo) (i : BitVec 32) (d : Desc), s.started r i 0x01 d ∧ s.linkReady ∧ dAll d = false
      ∧ bit d 80 = false ∧ (s.link.tx.get (dBraid d)).ladder = .up ∧ (s.shape 0 (dBraid d)).retired = false
      ∧ s.link.retraining = false ∧ s.leads = false → Completes (.retrain r i) s fun t =>
    t.link.retrainCmds = s.link.retrainCmds ++ [(r, i, some (dBraid d))] ∧ (t.link.tx.get (dBraid d)).ladder = .retraining
      ∧ (t.shape 0 (dBraid d)).trained = false ∧ (t.shape 1 (dBraid d)).trained = false ∧ t.rings.fifo = s.rings.fifo)

/-- NOP, DIGEST and PRBS_TEST_DONE complete with their result (R230, R231, Table 10.5): DIGEST gives both configuration digests and
the mismatch count, a PRBS test its errors and bits. CALIBRATE of one strand whose braid calibrates another waits its turn (R145,
R150), EYE_SCAN and PRBS_TEST begin their work (R153, R231), PARK at an end that does not lead caps it at PARK, and so asks the
leader (R332), and RESUME of a port that is not in DOZE, parks not and drains not completes at once. -/
def Obligations.WorkDescriptorsComplete : Prop :=
  (∀ (s : State) (r : RingNo) (i : BitVec 32) (d : Desc), s.started r i 0x00 d ∧ s.cplReady r →
    Completes (.nop r i) s fun t => s.entered t r i d 0 0 0 ∧ t.link = s.link)
  ∧ (∀ (s : State) (r : RingNo) (i : BitVec 32) (d : Desc), s.started r i 0x0C d ∧ s.cplReady r →
    Completes (.digest r i) s fun t =>
      s.entered t r i d 0 (s.ownDigest + s.lash.cfgFar.toNat * 2 ^ 32) s.lash.mismatch.toNat ∧ t.lash = s.lash)
  ∧ (∀ (s : State) (r : RingNo) (i : BitVec 32) (e : RingDesc) (j : ScanJob) (n : Nat), s.desc r.val i = some e
      ∧ s.cplReady r ∧ s.cal.scans = [j] ∧ j.prbs = true ∧ j.ring = r ∧ j.index = i →
    Completes (.prbsTestDone r i n) s fun t =>
      s.entered t r i e.desc 0 n (2 ^ (j.left - 16)) ∧ t.cal.scans = [] ∧ t.link = s.link)
  ∧ (∀ (s : State) (r : RingNo) (i : BitVec 32) (d : Desc), s.started r i 0x06 d ∧ s.linkReady ∧ dAll d = false
      ∧ bit d 80 = false ∧ (∃ q, s.cal.run.get (dBraid d) = some q ∧ q.strand ≠ dStrand d)
      ∧ (s.cal.want.get (dBraid d)).contains (dStrand d) = false ∧ s.aon.pwr = .active
      ∧ calibratable (s.strand 1 (dBraid d) (dStrand d)).st = true → Completes (.calibrate r i) s fun t =>
    (t.cal.want.get (dBraid d)).contains (dStrand d) = true ∧ t.rings.fifo = s.rings.fifo
      ∧ t.cal.jobs = s.cal.jobs ++ [⟨r, i, [((dBraid d).val, dStrand d)], 0, 0, true⟩])
  ∧ (∀ (s : State) (r : RingNo) (i : BitVec 32) (d : Desc), s.started r i 0x07 d ∧ s.linkReady
      ∧ (s.link.tx.get (dBraid d)).ladder ≠ .retraining ∧ (s.shape 1 (dBraid d)).trained = true
      ∧ (s.strand 1 (dBraid d) (dStrand d)).st = .active ∧ bf d 80 6 = 0 ∧ bf d 86 6 = 2 →
    Completes (.eyeScan r i) s fun t =>
      t.cal.scans = s.cal.scans ++ [⟨r, i, dBraid d, dStrand d, 128, 0, false⟩] ∧ t.rings.fifo = s.rings.fifo)
  ∧ (∀ (s : State) (r : RingNo) (i : BitVec 32) (d : Desc), s.started r i 0x08 d ∧ s.linkReady
      ∧ (s.link.tx.get (dBraid d)).ladder ≠ .retraining ∧ (s.strand 1 (dBraid d) (dStrand d)).st = .standby →
    Completes (.prbsTest r i) s fun t =>
      t.cal.scans = s.cal.scans ++ [⟨r, i, dBraid d, dStrand d, bf d 80 6, 0, true⟩] ∧ t.rings.fifo = s.rings.fifo)
  ∧ (∀ (s : State) (r : RingNo) (i : BitVec 32) (d : Desc), s.started r i 0x0A d ∧ s.linkReady ∧ s.leads = false
      ∧ s.pwr.parkCmd = none → Completes (.park r i) s fun t =>
    t.pwr.parkCmd = some (r, i, bf d 80 32) ∧ t.pwr.nearCap = .park ∧ t.pwr.target = s.pwr.target
      ∧ t.rings.fifo = s.rings.fifo)
  ∧ (∀ (s : State) (r : RingNo) (i : BitVec 32) (d : Desc), s.started r i 0x0B d ∧ s.cplReady r ∧ s.pwr.draining = .none
      ∧ s.pwr.parkCmd = none ∧ s.aon.pwr ≠ .doze → Completes (.resume r i) s fun t =>
    s.entered t r i d 0 1 1 ∧ t.pwr = s.pwr ∧ t.aon = s.aon)

/-- CANCEL of a descriptor not yet fetched marks it and waits for it (R232); a RESUME ends a drain toward PARK (R231, R340);
FENCE_DIE and UNFENCE_DIE of a die at the sites of a stack base stage their change of FX_LSH_FENCE and wait for the lashing
(R231). -/
def Obligations.ControlDescriptorsComplete : Prop :=
(∀ (s : State) (r q : RingNo) (i x : BitVec 32) (d : Desc), s.started r i 0x0D d ∧ s.still = true ∧ s.rings.cancels = []
      ∧ (s.ring r.val).kind = 0 ∧ q ≠ r ∧ q = Fin.ofNat 64 (bf d 80 6) ∧ x = BitVec.ofNat 32 (bf d 96 32)
      ∧ bit d 86 = false ∧ (s.ring q.val).enabled = true ∧ (s.ring q.val).isSub = true
      ∧ beyond x (s.ring q.val).swIdx = false ∧ s.rings.cancelled.contains (q, x) = false ∧ s.desc q.val x = none
      ∧ (s.ring q.val).uncompleted.contains x = true → Completes (.cancel r i) s fun t =>
    (t.ring q.val).toCancel.contains x = true ∧ t.rings.cancelled = s.rings.cancelled ++ [(q, x)]
      ∧ t.rings.cancels = [⟨r, i, [(q, x)], 1, 0⟩] ∧ t.rings.fifo = s.rings.fifo)
  ∧ (∀ (s : State) (r : RingNo) (i : BitVec 32) (d : Desc), s.started r i 0x0E d ∧ s.cls = .sb
      ∧ s.siteDie (BitVec.ofNat 8 (bf d 80 8)) = true ∧ s.lash.proposed = none ∧ s.lash.fenceCmds = [] →
    Completes (.fenceDie r i) s fun t =>
      tfind t.lash.staged 0x83C = some (pack 32 [(0, 1, 1), (8, 8, bf d 80 8)]) ∧ t.lash.fenceCmds = [(r, i)]
        ∧ t.lash.prot = s.lash.prot ∧ t.rings.fifo = s.rings.fifo)
  ∧ (∀ (s : State) (r : RingNo) (i : BitVec 32) (d : Desc), s.started r i 0x0F d ∧ s.cls = .sb
      ∧ s.siteDie (BitVec.ofNat 8 (bf d 80 8)) = true ∧ s.lash.proposed = none ∧ s.lash.fenceCmds = [] →
    Completes (.unfenceDie r i) s fun t =>
      tfind t.lash.staged 0x83C = some (pack 32 [(0, 1, 0), (8, 8, bf d 80 8)]) ∧ t.lash.fenceCmds = [(r, i)]
        ∧ t.lash.prot = s.lash.prot ∧ t.rings.fifo = s.rings.fifo)
  ∧ (∀ (s : State) (r : RingNo) (i : BitVec 32) (d : Desc), s.started r i 0x0B d ∧ s.leads = false
      ∧ s.pwr.draining = .park ∧ s.pwr.parkCmd = none ∧ { s with pwr.draining := .none }.still = true →
    Completes (.resume r i) s fun t =>
      t.pwr.draining = .none ∧ t.pwr.released = true ∧ t.noc.whDrain = false ∧ t.pwr.nearCap ≠ .park ∧ t.pwr.nearCap ≠ .off)

/-! ### Bight modes (R116 to R118) -/

/-- The bight commands (R116 to R118, R231): a B0 run takes its braids with its counters cleared, a request takes a braid out
of the flow, an acknowledge makes a waiting braid turn back, a checker locks after 64 clean bits and loses its lock at 64
errors in its window with what it counted, a BIGHT command begins a B1 run, and the end of a run that waits for its braids no
longer completes the command with its errors. -/
def Obligations.BightCompletes : Prop :=
(∀ (s : State) (a : Access) (l : List (Fin 8 × Nat × Nat × Nat)), s.gate a true = .take ∧ a.off = 0xC000
      ∧ a.data &&& 0x3FFFFF = a.data ∧ bit a.data 12 = true ∧ s.bight.active = false ∧ bf a.data 0 2 = 1
      ∧ s.bightBad a.data = false ∧ s.bight.asked = 0 → Completes (.bightRun a l) s fun t =>
    t.bight.active = true ∧ t.bight.braids = BitVec.ofNat 8 (bf a.data 4 8) ∧ t.bight.errs = [] ∧ t.bight.bits = []
      ∧ t.bight.losses = [] ∧ t.bight.ctl = a.data ∧ t.link = s.link)
  ∧ (∀ (s : State) (f : SbFrame), f.typ = 3 ∧ trPhase f.payload = 8 ∧ isLocal f = true ∧ (s.hear f).1 = true
      ∧ s.phaseHere 8 = true ∧ s.start.failed = false ∧ bit f.payload 11 = true ∧ s.start.opened = true
      ∧ bit (s.bight.serving ||| s.bight.asked) (trBraid f.payload).val = false
      ∧ bit s.bight.waiting (trBraid f.payload).val = false ∧ s.oneWidth (trBraid f.payload) = true
      ∧ s.tooFew (BitVec.ofNat 8 (2 ^ (trBraid f.payload).val)) = false → Completes (.bightReq f) s fun t =>
    t.noc.bightOut = s.noc.bightOut ||| BitVec.ofNat 8 (2 ^ (trBraid f.payload).val) ∧ t.bight.ctl = s.bight.ctl)
  ∧ (∀ (s : State) (f : SbFrame), f.typ = 3 ∧ trPhase f.payload = 9 ∧ isLocal f = true ∧ (s.hear f).1 = true
      ∧ s.phaseHere 9 = true ∧ s.start.failed = false ∧ bit f.payload 11 = true ∧ bit f.payload 12 = false
      ∧ bit s.bight.waiting (trBraid f.payload).val = true → Completes (.bightAck f) s fun t =>
    t.bight.waiting = setBf s.bight.waiting (trBraid f.payload).val 1 0
      ∧ t.bight.looped = setBf s.bight.looped (trBraid f.payload).val 1 1 ∧ t.link = s.link)
  ∧ (∀ (s : State) (b : Fin 8) (p : Nat) (x : BitVec 64), s.quiet ∧ s.checks b p = true
      ∧ s.bight.locked.contains (strandKey 1 b p) = false ∧ onPattern s.bightTaps 64 x.toNat = true →
    Completes (.checkerLock b ⟨p, x⟩) s fun t =>
      t = { s with bight := t.bight } ∧ t.bight.locked = s.bight.locked ++ [strandKey 1 b p] ∧ t.bight.errs = s.bight.errs)
  ∧ (∀ (s : State) (b : Fin 8) (p e n : Nat) (x : BitVec 256), s.quiet ∧ s.bight.locked.contains (strandKey 1 b p) = true
      ∧ 64 ≤ s.windowErrors (strandKey 1 b p) n x → Completes (.checkerLockLoss b p ⟨e, n⟩ x) s fun t =>
    t = { s with bight := t.bight } ∧ t.bight.locked = s.bight.locked.erase (strandKey 1 b p)
      ∧ tget 0 t.bight.errs (strandKey 1 b p) =
        min (2 ^ 32 - 1) (tget 0 s.bight.errs (strandKey 1 b p) + (e + s.windowErrors (strandKey 1 b p) n x))
      ∧ tget 0 t.bight.losses (strandKey 1 b p) = min 0xFFFF (tget 0 s.bight.losses (strandKey 1 b p) + 1))
  ∧ (∀ (s : State) (r : RingNo) (i : BitVec 32) (d : Desc) (v : Reg), s.started r i 0x09 d ∧ s.linkReady
      ∧ s.bight.active = false ∧ v = setBf (setBf s.bight.ctl 0 12 (bf d 80 12)) 12 1 1 ∧ v &&& 0x3FFFFF = v
      ∧ bf v 0 2 = 2 ∧ s.bightBad v = false → Completes (.bight r i) s fun t =>
    t.bight.active = true ∧ t.bight.cmd = some (r, i) ∧ t.bight.braids = BitVec.ofNat 8 (bf v 4 8)
      ∧ t.noc.bightOut = s.noc.bightOut ||| BitVec.ofNat 8 (bf v 4 8) ∧ t.rings.fifo = s.rings.fifo)
  ∧ (∀ (s : State) (r : RingNo) (i : BitVec 32) (e : RingDesc), s.desc r.val i = some e ∧ s.cplReady r ∧ s.still = true
      ∧ s.bight.active = true ∧ s.bight.cmd = some (r, i) ∧ bf s.bight.ctl 0 2 = 1 ∧ s.bight.locked = [] →
    Completes (.bightDurationEnd []) s fun t =>
      t.bight.active = false ∧ t.bight.cmd = none ∧ bit t.bight.ctl 12 = false
        ∧ s.entered t r i e.desc 0 s.bightErrors s.bightLock)

/-! ### Lashing (R308 to R319) -/

/-- Staging, proposals, commit, abort and the window (R309 to R315): a value staged by party A changes no live register and an
unstage empties the shadow set, a proposal waits for its digest, which covers the staged set and opens the window, a commit of
that digest by party B, no same endpoint, makes one staged value of the table live and advances the lashing count, an abort or
the window's end leaves the values staged, and party A's register is set once, over test access. -/
def Obligations.LashingCompletes : Prop :=
(∀ (s : State) (a : Access), s.quiet ∧ s.gate a true = .take ∧ a.off = 0x80C ∧ s.isA a = true
      ∧ protectedOff s.cls s.shadowOff = true ∧ s.shadowOff ≠ 0x83C ∧ s.lash.proposed = none →
    Completes (.lashStage a) s fun t =>
      t = { s with
        lash.staged := tput s.lash.staged s.shadowOff (shadowValue s.shadowOff a.data)
        glob.readData := 0, glob.refusedAcc := false })
  ∧ (∀ (s : State) (a : Access), s.quiet ∧ s.gate a true = .take ∧ a.off = 0x814 ∧ s.isA a = true ∧ bit a.data 16 = true
      ∧ s.lash.proposed = none ∧ s.lash.fenceCmds = [] → Completes (.lashUnstage a) s fun t =>
    t = { s with lash.staged := [], glob.readData := 0, glob.refusedAcc := false })
  ∧ (∀ (s : State) (a : Access), s.quiet ∧ s.gate a true = .take ∧ a.off = 0x818 ∧ s.isA a = true ∧ s.lash.proposed = none
      ∧ s.proposalBad = false → Completes (.lashPropose a) s fun t =>
    t = { s with
      lash.proposed := some (a.data, a.srcDie, a.srcEp), lash.digestValid := false
      glob.readData := 0, glob.refusedAcc := false })
  ∧ (∀ (s : State) (n : Reg) (d : BitVec 8) (e : BitVec 10), s.quiet ∧ s.lash.proposed = some (n, d, e)
      ∧ s.lash.digestValid = false ∧ s.proposalBad = false → Completes .lashDigestReady s fun t =>
    t = { s with lash.digest := BitVec.ofNat 32 (s.lashDigest n), lash.digestValid := true, lash.windowAt := s.now })
  ∧ (∀ (s : State) (a : Access) (n : Reg) (d : BitVec 8) (e : BitVec 10) (k : Nat) (v : Reg), s.gate a true = .take
      ∧ a.off = 0x820 ∧ s.isB a = true ∧ s.lash.proposed = some (n, d, e) ∧ (d ≠ a.srcDie ∨ e ≠ a.srcEp)
      ∧ s.lash.digestValid = true ∧ a.data = s.lash.digest ∧ k < 512 ∧ s.lash.staged = [(0x8800 + 4 * k, v)]
      ∧ s.lash.fenceCmds = [] ∧ s.start.st = .openSt ∧ s.still = true → Completes (.lashCommit a) s fun t =>
    t.prot (0x8800 + 4 * k) = v ∧ t.lash.staged = [] ∧ t.lash.count = s.lash.count + 1 ∧ t.lash.outcome = 0
      ∧ t.lash.proposed = none ∧ (∀ o, o ≠ 0x8800 + 4 * k → t.prot o = s.prot o) ∧ t.link = s.link)
  ∧ (∀ (s : State) (a : Access), s.gate a true = .take ∧ a.off = 0x824 ∧ s.isA a = true ∧ bit a.data 0 = true
      ∧ s.lash.proposed.isSome = true ∧ s.lash.fenceCmds = [] → Completes (.lashAbort a) s fun t =>
    t.lash.outcome = 1 ∧ t.lash.proposed = none ∧ t.lash.staged = s.lash.staged ∧ t.lash.prot = s.lash.prot)
  ∧ (∀ s : State, s.lash.proposed.isSome = true ∧ s.lash.digestValid = true ∧ s.lash.fenceCmds = [] →
    Completes .lashWindowExpiry s fun t =>
      t.lash.outcome = 3 ∧ t.lash.proposed = none ∧ t.lash.staged = s.lash.staged ∧ t.lash.prot = s.lash.prot)
  ∧ (∀ (s : State) (a : Access), s.quiet ∧ s.gate a true = .take ∧ a.off = 0x830 ∧ a.tap = true ∧ bit s.lash.partySet 0 = false →
    Completes (.partyWrite a) s fun t =>
      t.lash.partyA = a.data &&& 0x8003FFFF ∧ bit t.lash.partySet 0 = true ∧ t.lash.partyB = s.lash.partyB
        ∧ t.lash.staged = s.lash.staged)

/-- The lashing of both ends of a link (R316 to R318): a far offer is held, a far switch ends the old table on its braid, a
withdrawal ends the wait with outcome 8 or 9, and the timeouts end it with outcome 7, at the leader with a LASH_WITHDRAW and at
the follower with event 0x4A, values staying staged. -/
def Obligations.LinkLashingCompletes : Prop :=
(∀ (s : State) (b : Fin 8) (p : NocFlit), s.ctlWaits b 0x40 p = true ∧ s.lash.linkWait = false ∧ s.still = true →
    Completes (.lashOffer b p) s fun t =>
      t.lash.offer = some (BitVec.ofNat 32 (bf p 0 32), BitVec.ofNat 32 (bf p 32 32), s.now)
        ∧ t.lash.prot = s.lash.prot ∧ t.lash.staged = s.lash.staged)
  ∧ (∀ (s : State) (b : Fin 8) (p : NocFlit), s.ctlWaits b 0x41 p = true ∧ s.lash.switching = true ∧ s.lash.linkWait = false
      ∧ s.powerIdle = true
      ∧ octs.all (fun c => (s.shape 0 c).retired || !bit s.lash.swSent c.val || bit s.lash.swAcked c.val) = false →
    Completes (.lashSwitch b p) s fun t =>
      t.lash.swGot = setBf s.lash.swGot b.val 1 1 ∧ t.lash.oldOn = setBf s.lash.oldOn b.val 1 0
        ∧ t.lash.switching = true ∧ t.lash.link = s.lash.link ∧ t.lash.prot = s.lash.prot)
  ∧ (∀ (s : State) (b : Fin 8) (p : NocFlit), s.ctlWaits b 0x42 p = true ∧ s.lash.linkWait = true ∧ s.leads = false
      ∧ s.lash.fenceCmds = [] → Completes (.lashWithdraw b p) s fun t =>
    t.lash.outcome = (if bf p 83 4 = 8 then 8 else 9) ∧ t.lash.linkWait = false ∧ t.lash.offer = none
      ∧ t.lash.staged = s.lash.staged ∧ t.lash.prot = s.lash.prot)
  ∧ (∀ s : State, s.leads = true ∧ s.lash.linkWait = true ∧ s.lash.fenceCmds = [] → Completes .leaderLinkTimeout s fun t =>
    t.lash.outcome = 7 ∧ t.lash.linkWait = false ∧ t.lash.staged = s.lash.staged ∧ t.lash.prot = s.lash.prot
      ∧ (t.link.tx.get s.lowTx).ctl = (s.link.tx.get s.lowTx).ctl ++
        [(0x42, mkLash (s.linkDigestOf s.lash.commit) (s.lash.link + 1).toNat 0 0 7)])
  ∧ (∀ s : State, s.quiet ∧ s.leads = false ∧ s.lash.linkWait = true ∧ s.lash.fenceCmds = [] →
    Completes .followerLinkTimeout s fun t =>
      t.lash.outcome = 7 ∧ t.lash.linkWait = false ∧ t.lash.staged = s.lash.staged ∧ t.lash.prot = s.lash.prot
        ∧ s.counted t 0x4A)

/-! ### The strand-function exchange and re-admission (R125 to R129, R138) -/

/-- The transmitting end (R126, R129): a REQUEST is queued behind the operation in progress, a READY makes an operation other
than a REEF send its COMMIT, and a missing READY aborts the operation with code 0x1. -/
def Obligations.StrandTransmitCompletes : Prop :=
(∀ (s : State) (b : Fin 8) (p : NocFlit), s.holds b 0x20 p ∧ strandOk p = true ∧ s.braidIdle (strandBraid p)
      ∧ (s.shape 0 (strandBraid p)).retired = false ∧ (s.shape 0 (strandBraid p)).trained = true
      ∧ (s.shape 0 (strandBraid p)).op.isSome = true → Completes (.strandRequest b p) s fun t =>
    (t.shape 0 (strandBraid p)).queue = [{ opOf p with
        requested := true, token := 0, map := [], clock := 0x3F, arr := 0, arrAt := s.now, first := s.link.reqPtr == 1 }]
      ∧ (t.shape 0 (strandBraid p)).op = (s.shape 0 (strandBraid p)).op)
  ∧ (∀ (s : State) (b : Fin 8) (p : NocFlit) (o : StrandOp), s.holds b 0x22 p ∧ strandOk p = true ∧ s.braidIdle (strandBraid p)
      ∧ (s.shape 0 (strandBraid p)).op = some o ∧ o.token = strandToken p ∧ strandToken p ≠ 0 ∧ o.ready = false ∧ o.op ≠ 3 →
    Completes (.strandReady b p) s fun t =>
      (t.shape 0 (strandBraid p)).op = some { o with ready := true }
        ∧ (t.link.tx.get (strandBraid p)).ctl = (s.link.tx.get (strandBraid p)).ctl ++
          [(0x23, opPayload { o with ready := true } (strandBraid p) 0 0 0)])
  ∧ (∀ (s : State) (b : Fin 8) (o : StrandOp), s.still = true ∧ s.braidIdle b ∧ (s.shape 0 b).op = some o ∧ o.ready = false
      ∧ o.op ≠ 3 ∧ o.desc = none → Completes (.readyTimeout b) s fun t =>
    (t.shape 0 b).op = none ∧ (t.shape 0 b).lastToken = o.token ∧ (t.shape 0 b).aborts = (s.shape 0 b).aborts + 1
      ∧ (t.link.tx.get b).ctl = (s.link.tx.get b).ctl ++ [(0x24, opPayload { o with map := [] } b 0 1 0)])

/-- The receiving end (R126 to R129, R138): a PREPARE in order becomes the operation in progress with the map this end expects,
the end of an alignment within the deskew range and a lock on a stand-in make it READY, a COMMIT in order arms the switch, an
ABORT ends the operation with the map as it was; a re-admission test of the full length that sees no error makes the strand
STANDBY. -/
def Obligations.StrandReceiveCompletes : Prop :=
(∀ (s : State) (b : Fin 8) (p : NocFlit) (o : StrandOp), s.holds b 0x21 p ∧ strandOk p = true ∧ s.braidIdle b
      ∧ strandBraid p = b ∧ o = { opOf p with map := s.expectMap b (opOf p), clock := s.expectClock b (opOf p) }
      ∧ o.op ≠ 3 ∧ o.token ≠ 0 ∧ o.requested = false ∧ (s.shape 1 b).op = none ∧ s.cal.run.get b = none
      ∧ s.prepareOk b o = true → Completes (.strandPrepare b p) s fun t =>
    (t.shape 1 b).op = some o ∧ (t.shape 1 b).lastToken = o.token ∧ (t.shape 1 b).lastOp = o.op)
  ∧ (∀ (s : State) (b : Fin 8) (a : Int) (o : StrandOp), s.still = true ∧ s.braidIdle b ∧ (s.shape 1 b).op = some o
      ∧ o.ready = false ∧ o.switchSeq = none ∧ o.op = 1 ∧ 0 ≤ ((s.shape 1 b).target : Int) - a
      ∧ ((s.shape 1 b).target : Int) - a ≤ s.cls.deskewMax → Completes (.alignmentComplete b a (some 0)) s fun t =>
    (t.shape 1 b).op = some { o with ready := true } ∧ (t.strand 1 b o.dest).arrival = a
      ∧ (t.strand 1 b o.dest).deskew = ((s.shape 1 b).target : Int) - a)
  ∧ (∀ (s : State) (b : Fin 8) (o : StrandOp), (s.shape 1 b).op = some o ∧ o.ready = false ∧ o.switchSeq = none
      ∧ (o.op = 4 ∨ o.op = 6) → Completes (.standinLockComplete b) s fun t =>
    (t.shape 1 b).op = some { o with ready := true }
      ∧ (t.link.tx.get (s.replyBraid b)).ctl = (s.link.tx.get (s.replyBraid b)).ctl ++
        [(0x22, opPayload { o with map := [] } b 0 0 1)])
  ∧ (∀ (s : State) (b : Fin 8) (p : NocFlit) (o : StrandOp), s.holds b 0x23 p ∧ strandOk p = true ∧ s.braidIdle b
      ∧ strandBraid p = b ∧ strandToken p ≠ 0 ∧ bf p 0 4 ≠ 3 ∧ (s.shape 1 b).op = some o ∧ o.token = strandToken p
      ∧ o.ready = true ∧ o.switchSeq = none ∧ s.commitOk b o p = true
      ∧ seqBefore (strandSwitch p) (s.link.rx.get b).expected = false → Completes (.strandCommit b p) s fun t =>
    (t.shape 1 b).op = some { o with switchSeq := some (strandSwitch p) } ∧ (t.shape 1 b).map = (s.shape 1 b).map)
  ∧ (∀ (s : State) (b : Fin 8) (p : NocFlit) (o : StrandOp), s.holds b 0x24 p ∧ strandOk p = true ∧ s.braidIdle (strandBraid p)
      ∧ strandToken p ≠ 0 ∧ strandRole p = 0 ∧ (s.shape 1 (strandBraid p)).op = some o ∧ o.token = strandToken p
      ∧ o.desc = none ∧ o.cal = false → Completes (.strandAbort b p) s fun t =>
    (t.shape 1 (strandBraid p)).op = none ∧ (t.shape 1 (strandBraid p)).lastToken = o.token
      ∧ (t.shape 1 (strandBraid p)).aborts = (s.shape 1 (strandBraid p)).aborts + 1
      ∧ (t.shape 1 (strandBraid p)).map = (s.shape 1 (strandBraid p)).map)
  ∧ (∀ (s : State) (b : Fin 8) (p n : Nat) (m : Meas), s.quiet ∧ (s.strand 0 b p).st = .testing ∧ s.link.admits = []
      ∧ s.admitBits ≤ n ∧ m.errors = 0 → Completes (.admitPrbsComplete false b p ⟨true, n⟩ m) s fun t =>
      (t.strand 0 b p).st = .standby ∧ (t.strand 0 b p).logical = none ∧ s.counted t 0x19 ∧ t.link.tx = s.link.tx)

/-! ### Calibration, trims and quality records (R144 to R162) -/

/-- The transmit end of a calibration (R146, R148): CAL_STEP of a receive-end step stands a STANDBY strand aside and is
answered, a finished transmit-end step is answered with its codes, which are not loaded yet, and CAL_END with a status other
than 0 restores the trims. -/
def Obligations.CalTransmitCompletes : Prop :=
(∀ (s : State) (b : Fin 8) (p : NocFlit), s.holds b 0x28 p ∧ s.braidIdle (strandBraid p)
      ∧ s.cal.serve.get (strandBraid p) = none ∧ (s.strand 0 (strandBraid p) (calStrand p)).st = .standby
      ∧ s.cls.calSteps.contains (calStepOf p) = true ∧ s.cls.txStep (calStepOf p) = false ∧ calPattern p ≤ 4
      ∧ calStrand p < s.cls.nstrands → Completes (.calStep b p) s fun t =>
    (t.strand 0 (strandBraid p) (calStrand p)).st = .stoodAside
      ∧ (t.link.tx.get (strandBraid p)).ctl.length = (s.link.tx.get (strandBraid p)).ctl.length + 1
      ∧ (t.cal.serve.get (strandBraid p)).isSome = true)
  ∧ (∀ (s : State) (b : Fin 8) (c : Reg) (v : CalServe), s.quiet ∧ s.cls = .sc ∧ s.cal.serve.get b = some v ∧ v.step ≠ 0 →
    Completes (.transmitCalStepComplete b c) s fun t =>
      t.cal.serve.get b = some { v with new := { v.new with tx := c &&& 0x3F }, step := 0 }
        ∧ (t.link.tx.get b).ctl = (s.link.tx.get b).ctl ++
          [(0x29, calPayload b.val v.token v.strand v.step v.pattern 0 (bf (c &&& 0x3F) 0 11))])
  ∧ (∀ (s : State) (b : Fin 8) (p : NocFlit) (v : CalServe), s.holds b 0x2A p ∧ s.braidIdle (strandBraid p)
      ∧ s.cal.serve.get (strandBraid p) = some v ∧ v.strand = calStrand p ∧ calStatus p ≠ 0 ∧ v.token ≠ 0 ∧ v.strand < 34 →
    Completes (.calEnd b p) s fun t =>
      (t.trim 0 (strandBraid p) v.strand).tx = v.old.tx ∧ (t.trim 0 (strandBraid p) v.strand).otx = v.oldO
        ∧ (t.trim 0 (strandBraid p) v.strand).last = BitVec.ofNat 4 (calStatus p))

/-- The receive end of a calibration (R146 to R149, R151): what a step found is kept until the steps end and the next step is
asked for, an answer is noted with its codes, a missing one ends the steps with status 3 and gives the covering strand back,
and the sweep timer queues every strand of a braid. -/
def Obligations.CalReceiveCompletes : Prop :=
(∀ (s : State) (b : Fin 8) (f : Found) (r : CalRun), s.still = true ∧ s.braidIdle b ∧ s.cls = .sc
      ∧ s.cal.run.get b = some r ∧ r.phase = .steps ∧ r.stepDone = true ∧ r.step = 1 →
    Completes (.calStepComplete b f 500) s fun t =>
      (t.cal.run.get b).map (fun q => (q.step, q.stepDone, q.strand, bf q.new.rx 0 7)) = some (3, false, r.strand, bf f.rx 0 7)
        ∧ t.trim 1 b r.strand = s.trim 1 b r.strand)
  ∧ (∀ (s : State) (b : Fin 8) (p : NocFlit) (r : CalRun), s.holds b 0x29 p ∧ s.braidIdle (strandBraid p)
      ∧ s.cal.run.get (strandBraid p) = some r ∧ r.phase = .steps ∧ r.strand = calStrand p ∧ r.step = calStepOf p
      ∧ r.stepDone = false ∧ s.cls.txStep r.step = false → Completes (.calStepDone b p) s fun t =>
    t.cal.run.get (strandBraid p) = some { r with stepDone := true, txCodes := bf p 33 22 })
  ∧ (∀ (s : State) (b : Fin 8) (r : CalRun), s.still = true ∧ s.braidIdle b ∧ s.cal.run.get b = some r ∧ r.phase = .steps
      ∧ r.stepDone = false ∧ r.cover = .splice → Completes (.calStepDoneTimeout b) s fun t =>
    t.cal.run.get b = some { r with phase := .back, status := 3 }
      ∧ (t.shape 1 b).queue = (s.shape 1 b).queue ++
        [{ op0 with op := 2, frm := 0x3F, dest := r.strand, reason := 2, disp := 0, cal := true }])
  ∧ (∀ (s : State) (b : Fin 8), s.still = true ∧ bit s.cal.ctl 0 = true ∧ s.start.st = .openSt
      ∧ (∀ c, (s.cal.run.get c).isSome = true) ∧ (s.shape 1 b).retired = false ∧ s.cal.sweep.get b = [] →
    Completes .calSweepTimer s fun t =>
      t.cal.sweep.get b = List.range s.cls.nstrands ∧ t.cal.run = s.cal.run ∧ t.link = s.link)

/-- Trims, quality records and the temperature (R45, R154, R155, R158, R162). A transmit trim written to a STANDBY strand is
applied, to an ACTIVE one it is held. An active fibre trim moves one code toward the codes of the last temperature at a tick. A
closed record under the threshold shows in FX_EYE, puts FX_SPL_CTL in effect and clears the run of records over it, a posted
one leaves the queue, and eight points of an eye scan are counted down. A valid temperature is held and acknowledged, at a
fibre port with the working set as written, a sensor fault holds the last value and raises 0x25, and so does a stale one, once.
-/
def Obligations.TrimsComplete : Prop :=
(∀ (s : State) (a : Access), s.gate a true = .take ∧ a.off = 0x2010 ∧ s.cls = .sc ∧ idxDir s.link.strandIdx = 0
      ∧ idxStrand s.link.strandIdx < 36 ∧ s.underCal 0 (idxBraid s.link.strandIdx) (idxStrand s.link.strandIdx) = false
      ∧ (s.strand 0 (idxBraid s.link.strandIdx) (idxStrand s.link.strandIdx)).st = .standby →
    Completes (.trimWrite a) s fun t =>
      (t.trim 0 (idxBraid s.link.strandIdx) (idxStrand s.link.strandIdx)).tx = a.data &&& 0x3F ∧ t.link = s.link)
  ∧ (∀ (s : State) (a : Access), s.gate a true = .take ∧ a.off = 0x2010 ∧ s.cls = .sc ∧ idxDir s.link.strandIdx = 0
      ∧ idxStrand s.link.strandIdx < 36 ∧ s.underCal 0 (idxBraid s.link.strandIdx) (idxStrand s.link.strandIdx) = false
      ∧ (s.strand 0 (idxBraid s.link.strandIdx) (idxStrand s.link.strandIdx)).st = .active →
    Completes (.trimWrite a) s fun t =>
      (t.trim 0 (idxBraid s.link.strandIdx) (idxStrand s.link.strandIdx)).pTx = some (a.data &&& 0x3F)
        ∧ (t.trim 0 (idxBraid s.link.strandIdx) (idxStrand s.link.strandIdx)).tx =
          (s.trim 0 (idxBraid s.link.strandIdx) (idxStrand s.link.strandIdx)).tx ∧ t.link = s.link)
  ∧ (∀ (s : State) (b : Fin 8) (p : Nat) (g : Reg), s.quiet ∧ s.cls = .fib ∧ bit s.cal.ctl 16 = true ∧ s.mainUp = true
      ∧ waves.filter s.tracked = [(0, b, p)] ∧ (s.trim 0 b p).goal = some g → Completes .trimTrackTick s fun t =>
    bf (t.trim 0 b p).otx 0 12 = towards (bf (s.trim 0 b p).otx 0 12) (bf g 0 12)
      ∧ bf (t.trim 0 b p).otx 12 10 = towards (bf (s.trim 0 b p).otx 12 10) (bf g 12 10)
      ∧ t.link = s.link)
  ∧ (∀ (s : State) (b : Fin 8) (p : Nat) (m : Meas), s.still = true ∧ s.asleep = false ∧ s.mainUp = true
      ∧ (s.shape 1 b).retired = false ∧ (s.shape 1 b).trained = true ∧ p < s.cls.nstrands
      ∧ overThreshold s.cls s.link.splCtl
        (if s.cls.isFibre || p ≥ 34 then m.errors else (s.trim 1 b p).perErrs) m.units m.est = false →
    Completes (.qualityRecordClose b p m) s fun t =>
      (t.trim 1 b p).eye = pack 32 [(0, 16, m.eyeW), (16, 16, m.eyeH)] ∧ (t.trim 1 b p).overs = 0
        ∧ (t.trim 1 b p).perErrs = 0 ∧ t.link = { s.link with splAct := s.link.splCtl })
  ∧ (∀ (s : State) (q : QualWait), s.quiet ∧ s.cal.waiting = [q] ∧ q.scan = none ∧ s.cal.periodic = [] ∧ s.qualToken.1 = true →
    Completes .qualityRecordPost s fun t => t.cal.waiting = [] ∧ s.counted t 0x01 ∧ t.link = s.link)
  ∧ (∀ (s : State) (m : Meas) (j : ScanJob), s.cal.scans = [j] ∧ j.prbs = false ∧ 8 < j.left ∧ s.cal.waiting = [] →
    Completes (.eyeScanPointSetComplete j.braid j.strand m) s fun t =>
      t.cal.scans.map (fun x => x.left) = [j.left - 8]
        ∧ (t.trim 1 j.braid j.strand).eye = pack 32 [(0, 16, m.eyeW), (16, 16, m.eyeH)])
  ∧ (∀ (s : State) (v : BitVec 10), s.quiet ∧ s.still = true ∧ s.clk.refUp = true ∧ v ≠ 0x3FF ∧ s.cls ≠ .fib →
    Completes (.tempValue v) s fun t =>
      t = { s with
        cal.temp := v, cal.tempValid := true, cal.fault := false, cal.stale := false, cal.tempAt := s.now
        cal.tempAck := !s.cal.tempAck })
  ∧ (∀ s : State, s.quiet ∧ s.clk.refUp = true ∧ s.cal.stale = false → Completes .staleTemp s fun t =>
    t.cal = { s.cal with stale := true } ∧ s.counted t 0x25 ∧ t.link = s.link)
  ∧ (∀ s : State, s.quiet ∧ s.still = true ∧ s.clk.refUp = true ∧ s.cal.fault = false → Completes (.tempValue 0x3FF) s fun t =>
    t.cal = { s.cal with fault := true, tempAck := !s.cal.tempAck } ∧ s.counted t 0x25 ∧ t.link = s.link)
  ∧ (∀ (s : State) (v : BitVec 10), s.still = true ∧ s.clk.refUp = true ∧ 376 ≤ v.toNat ∧ v.toNat ≤ 636 ∧ s.cls = .fib
      ∧ bit s.cal.ctl 16 = false ∧ s.start.st ≠ .openSt → Completes (.tempValue v) s fun t =>
    t.cal = { s.cal with
      temp := v, tempValid := true, fault := false, stale := false, tempAt := s.now, tempAck := !s.cal.tempAck
      tsetAct := s.cal.tset, outOf := 0, nearest := nearestAt s.cal.nearest v.toNat } ∧ t.link = s.link)

/-! ### The link layer (R164 to R187, R203, R210) -/

/-- A frame received on a trained braid (R165, R173, R174): one that fails its CRC is counted and starts NAK_WAIT with EXPECTED
as it was; the frame EXPECTED names, in good order and with room, is accepted and EXPECTED advances, its header's
acknowledgement and XON going to the transmit braid of the same number. -/
def Obligations.FrameReceiveCompletes : Prop :=
(∀ (s : State) (b : Fin 8) (rx : LineRx) (bits f : LinkFlit), s.clocked = true ∧ s.domainUp (.rxw b) = true
      ∧ (s.shape 1 b).trained = true ∧ (s.shape 1 b).retired = false ∧ s.bighted b = false ∧ bit s.pwr.rxDoze b.val = false
      ∧ s.pwr.rxLeft.get b = 0 ∧ (s.takeLine b rx).1 = some bits ∧ (s.takeLine b rx).2.1 = none
      ∧ f = BitVec.ofNat 1280 (bits.toNat ^^^ (scrRun 1280 (s.link.rx.get b).scr.toNat).1) ∧ linkCrcOk f = false
      ∧ (s.link.rx.get b).nakWait = false ∧ s.still = true → Completes (.linkFrameReceive b rx.pads rx.words) s fun t =>
    (t.link.rx.get b).expected = (s.link.rx.get b).expected ∧ (t.link.rx.get b).nakWait = true
      ∧ (t.link.rx.get b).due = .nak ∧ (t.link.rx.get b).crcFail = (s.link.rx.get b).crcFail + 1
      ∧ (t.link.rx.get b).scr = BitVec.ofNat 31 (scrRun 1280 (s.link.rx.get b).scr.toNat).2)
  ∧ (∀ (s : State) (b : Fin 8) (rx : LineRx) (bits f : LinkFlit), s.clocked = true ∧ s.domainUp (.rxw b) = true
      ∧ (s.shape 1 b).trained = true ∧ (s.shape 1 b).retired = false ∧ s.bighted b = false ∧ bit s.pwr.rxDoze b.val = false
      ∧ s.pwr.rxLeft.get b = 0 ∧ (s.takeLine b rx).1 = some bits ∧ (s.takeLine b rx).2.1 = none
      ∧ f = BitVec.ofNat 1280 (bits.toNat ^^^ (scrRun 1280 (s.link.rx.get b).scr.toNat).1) ∧ linkCrcOk f = true
      ∧ (hdrOf f).ftype = 1 ∧ (hdrOf f).ackKind ≠ 3 ∧ (hdrOf f).seq = (s.link.rx.get b).expected
      ∧ s.overrunVc b (legalSlots s.cls (hdrOf f) f).1 = none ∧ (s.shape 1 b).op = none ∧ s.still = true →
    Completes (.linkFrameReceive b rx.pads rx.words) s fun t =>
      (t.link.rx.get b).expected = (s.link.rx.get b).expected + 1 ∧ (t.link.rx.get b).nakWait = false
        ∧ (t.link.tx.get b).ackIn = (s.link.tx.get b).ackIn ++ [((hdrOf f).ackKind, (hdrOf f).ackSeq,
          (hdrOf f).xon &&& BitVec.ofNat 8 (maskOf (s.cls.vcs.map Fin.val)))])

/-- Acknowledgement and replay (R168, R176 to R179): an ACK inside the window frees what it covers, NAK_WAIT's repeat makes a
NAK due and the acknowledgement timer an ACK, a timeout replays from OLDEST, and an IDLE becomes due. -/
def Obligations.AcksComplete : Prop :=
(∀ (s : State) (b : Fin 8) (k : BitVec 16) (x : BitVec 8), s.clocked = true ∧ (s.link.tx.get b).ackIn = [(1, k, x)]
      ∧ ackWhere (s.link.tx.get b) k = .inside ∧ (s.shape 0 b).op = none ∧ s.braidIdle b ∧ s.link.retrainCmds = []
      ∧ s.still = true → Completes (.ackApply b) s fun t =>
    (t.link.tx.get b).held = (s.link.tx.get b).held.filter (fun h => seqBefore k h.seq) ∧ (t.link.tx.get b).oldest = k + 1
      ∧ (t.link.tx.get b).ackIn = [] ∧ (t.link.tx.get b).farXon = x ∧ (t.link.tx.get b).next = (s.link.tx.get b).next)
  ∧ (∀ (s : State) (b : Fin 8), s.quiet ∧ (s.link.rx.get b).nakWait = true ∧ (s.shape 1 b).trained = true
      ∧ (s.link.tx.get b).ladder = .up → Completes (.nakRepeat b) s fun t =>
    t = s.modRx b fun r => { r with due := .nak })
  ∧ (∀ (s : State) (b : Fin 8), s.quiet ∧ (s.link.rx.get b).timer = true ∧ (s.link.rx.get b).due = .none
      ∧ (s.link.tx.get b).ladder = .up → Completes (.ackTimerExpiry b) s fun t =>
    t = s.modRx b fun r => { r with due := .ack })
  ∧ (∀ (s : State) (b : Fin 8), s.quiet ∧ (s.link.tx.get b).ladder = .up ∧ (s.link.tx.get b).held ≠ []
      ∧ (∀ h ∈ (s.link.tx.get b).held, h.resends < 4) →
    Completes (.replayTimeout b) s fun t =>
      (t.link.tx.get b).replay = some (s.link.tx.get b).oldest ∧ (t.link.tx.get b).held = (s.link.tx.get b).held
        ∧ t.link.rx = s.link.rx ∧ t.noc = s.noc)
  ∧ (∀ (s : State) (b : Fin 8), s.quiet ∧ (s.link.tx.get b).ladder = .up → Completes (.idleDue b) s fun t =>
    t = s.modTx b fun t => { t with idleDue := true })

/-- Release, sending and stalls (R181, R185, R203, R210, R335): a released flit becomes eligible, a dozing braid only steps its
scrambler, a braid that has trained and waits for its retrain to end sends an IDLE where nothing is held again, an egress and a
transmit stall are counted once, and a quiescent bucket stands on its target. -/
def Obligations.SendCompletes : Prop :=
(∀ (s : State) (b : Fin 8) (x : RxFlit), s.clocked = true ∧ (s.link.rx.get b).buf = [x] ∧ x.eligible = false ∧ x.fenced = false
      ∧ s.engineTake true x.flit = none ∧ s.egressOpen = false ∧ s.noc.redSent = [] ∧ s.still = true →
    Completes (.flitRelease b) s fun t => (t.link.rx.get b).buf = [{ x with eligible := true }])
  ∧ (∀ (s : State) (b : Fin 8) (c : BitVec 4), s.quiet ∧ s.clocked = true ∧ (s.link.tx.get b).shape.retired = false
      ∧ s.start.reqHeld = false ∧ s.bighted b = false ∧ (s.link.tx.get b).training.phase.running = false
      ∧ s.pwr.burstLeft.get b = 0 ∧ bit s.pwr.dozing b.val = true → Completes (.transmitFlitPeriod b c) s fun t =>
    (t.link.tx.get b).scr = BitVec.ofNat 31 (scrRun 1280 (s.link.tx.get b).scr.toNat).2
      ∧ (t.link.tx.get b).flits = (s.link.tx.get b).flits + 1 ∧ t.out.link = s.out.link ∧ t.link.rx = s.link.rx)
  ∧ (∀ (s : State) (b : Fin 8) (c : BitVec 4), s.quiet ∧ s.clocked = true ∧ (s.link.tx.get b).shape.retired = false
      ∧ s.start.reqHeld = false ∧ s.bighted b = false ∧ (s.link.tx.get b).training.phase = .trained
      ∧ s.pwr.burstLeft.get b = 0 ∧ bit s.pwr.dozing b.val = false ∧ (s.link.tx.get b).ladder = .retraining
      ∧ (s.link.tx.get b).replay = none ∧ s.ctlReady b = false →
    Completes (.transmitFlitPeriod b c) s fun t =>
      t.out.link.length = s.out.link.length + 1 ∧ (t.link.tx.get b).flits = (s.link.tx.get b).flits + 1
        ∧ (t.link.tx.get b).idleDue = false ∧ (t.link.tx.get b).next = (s.link.tx.get b).next)
  ∧ (∀ (s : State) (b v : Fin 8), s.quiet
      ∧ (s.link.rx.get b).buf.any (fun x => x.eligible && flitVc x.flit == v) = true ∧ s.noc.egHeld.get v = 0
      ∧ bit s.noc.egStalled v.val = false → Completes (.vcStall b v true) s fun t =>
    t.noc.stalls = s.noc.stalls + 1 ∧ t.noc.egStalled = setBf s.noc.egStalled v.val 1 1 ∧ s.counted t 0x30 ∧ t.link = s.link)
  ∧ (∀ (s : State) (i : BitVec 8), (s.bucket i.toNat).moving = true ∧ s.inService (s.bucket i.toNat).braid = true
      ∧ s.quiescent i.toNat = true ∧ s.still = true → Completes (.bucketQuiescent i) s fun t =>
    (t.bucket i.toNat).braid = (s.bucket i.toNat).target ∧ (t.bucket i.toNat).moving = false
      ∧ t.noc.moves = s.noc.moves + 1 ∧ t.link = s.link)
  ∧ (∀ (s : State) (b v : Fin 8), s.quiet ∧ (s.srcTurn b v).isSome = true ∧ bit (s.link.tx.get b).farXon v.val = false
      ∧ bit (s.link.tx.get b).stalled v.val = false → Completes (.vcStall b v false) s fun t =>
    t.noc.stalls = s.noc.stalls + 1 ∧ s.counted t 0x30 ∧ t.link.rx = s.link.rx
      ∧ (t.link.tx.get b) = { s.link.tx.get b with stalled := setBf (s.link.tx.get b).stalled v.val 1 1 })

/-- The degradation ladder (R88, R185 to R187): sixteen uncorrectable codewords in a row make a fibre braid retrain, a retrain
that times out counts as failed and is tried again, the far end's last accepted number ends a retired braid's wait and moves
its buckets, a missing one retrains the port, and a port retrain of a port that failed ends with code 4. A braid whose
directions have trained returns to UP, and a port on which every braid trained returns to OPEN; the premises leave out what the
rest of the port starts of itself once it is back: a width or a calibration that waits, a cap of the leading end. -/
def Obligations.LadderCompletes : Prop :=
  (∀ (s : State) (b : Fin 8), s.cls = .fib ∧ (s.shape 1 b).trained = true ∧ s.bighted b = false ∧ s.start.st = .openSt
      ∧ (s.link.rx.get b).uncorr ≥ 16
      ∧ s.link.retraining = false ∧ (s.link.tx.get b).ladder = .up ∧ (s.link.tx.get b).retrainAt = none
      ∧ (s.shape 0 b).retired = false → Completes (.codewordLockLoss b) s fun t =>
    (t.link.tx.get b).ladder = .retraining ∧ (t.shape 1 b).trained = false ∧ (t.shape 0 b).trained = false)
  ∧ (∀ (s : State) (b : Fin 8), s.start.st = .openSt ∧ s.link.retraining = false ∧ (s.link.tx.get b).ladder = .retraining
      ∧ s.dirOk 0 b = false ∧ s.dirOk 1 b = false ∧ (s.shape 0 b).retired = false ∧ (s.shape 1 b).retired = false
      ∧ (s.link.tx.get b).lastFail = none ∧ (s.link.rx.get b).lastFail = none →
    Completes (.braidRetrainTimeout b) s fun t =>
      (t.link.tx.get b).failed = (s.link.tx.get b).failed + 1 ∧ (t.link.tx.get b).ladder = .retraining)
  ∧ (∀ (s : State) (b : Fin 8) (p : NocFlit), s.holds b 0x01 p ∧ (s.link.tx.get (oct (bf p 0 3))).ladder = .retired
      ∧ (s.link.tx.get (oct (bf p 0 3))).finalGot = false ∧ (s.link.tx.get (oct (bf p 0 3))).held = []
      ∧ (s.link.tx.get (oct (bf p 0 3))).ctl = [] → Completes (.braidFinal b p) s fun t =>
    (t.link.tx.get (oct (bf p 0 3))).finalGot = true
      ∧ ∀ i, i < 256 → (s.bucket i).braid = oct (bf p 0 3) ∧ (s.bucket i).moving = true →
        (t.bucket i).braid = (s.bucket i).target ∧ (t.bucket i).moving = false)
  ∧ (∀ (s : State) (b : Fin 8), s.start.st = .openSt ∧ (s.link.tx.get b).ladder = .retired
      ∧ (s.link.tx.get b).finalGot = false ∧ (∃ i, i < 256 ∧ (s.bucket i).braid = b) ∧ s.link.retraining = false →
    Completes (.braidFinalTimeout b) s fun t =>
      t.link.retraining = true ∧ t.start.st = .detect ∧ t.noc.whRetrain = true ∧ t.link.retrains = s.link.retrains + 1)
  ∧ (∀ s : State, s.link.retraining = true ∧ s.start.failed = true ∧ s.link.retrainCmds = [] →
    Completes .portRetrainEnd s fun t => t.link.retraining = false ∧ t.start.failCode = 4 ∧ t.start.st = s.start.st)
  ∧ (∀ (s : State) (b : Fin 8), s.retrainsOpen b = true ∧ s.dirOk 0 b = true ∧ s.dirOk 1 b = true
      ∧ (s.shape 0 b).retired = false ∧ (s.shape 1 b).retired = false ∧ s.link.retrainCmds = [] ∧ s.leads = false
      ∧ s.still = true ∧ s.braidIdle b ∧ s.headedWidth b =
        min (if s.pwr.targetWidth = 0 then s.cls.wmax else s.pwr.targetWidth) (s.widest 0 b)
      ∧ s.minBraids ≤ s.surviving 0 ∧ s.minBraids ≤ s.surviving 1 → Completes (.braidRetrainComplete b) s fun t =>
    (t.link.tx.get b).ladder = .up ∧ (t.shape 0 b).trained = true ∧ t.start.st = .openSt ∧ t.link.retraining = false)
  ∧ (∀ s : State, s.test.alone = false ∧ s.link.retraining = true ∧ s.start.failed = false ∧ s.start.st = .calibrate
      ∧ s.start.calSent = true
      ∧ s.start.calGot = true ∧ s.link.retrainCmds = [] ∧ s.leads = false ∧ s.still = true
      ∧ (∀ b, s.dirOk 0 b = true ∧ s.dirOk 1 b = true ∧ (s.shape 0 b).retired = false ∧ (s.shape 1 b).retired = false
        ∧ s.braidIdle b ∧ s.headedWidth b =
          min (if s.pwr.targetWidth = 0 then s.cls.wmax else s.pwr.targetWidth) (s.widest 0 b)) →
    Completes .portRetrainEnd s fun t =>
      t.start.st = .openSt ∧ t.link.retraining = false ∧ t.link.down = false ∧ t.noc.crdInit = true
        ∧ ∀ b, (t.link.tx.get b).ladder = .up)

/-! ### The NoC interface (R27 to R33, R198, R204 to R206) -/

/-- Ingress, egress credits and the credit handshake (R30 to R32, R198): a carried flit to an assigned die that no engine of the
port takes joins the pool of its VC and spends a credit; one that breaks the rules of the boundary is counted; credits and
the handshake set the counts, and its timeout is raised once. -/
def Obligations.CreditsComplete : Prop :=
(∀ (s : State) (f : NocFlit) (a : Bool), s.isOptical = false ∧ s.noc.returned = true ∧ s.cls.carries (flitVc f) = true
      ∧ 0 < s.noc.inHeld.get (flitVc f) ∧ s.dieOk (flitDstDie f) a = true ∧ s.engineTake false f = none ∧ isFenced f = false
      ∧ s.still = true → Completes (.nocIngressFlit f a) s fun t =>
    t.noc.inHeld = s.noc.inHeld.upd (flitVc f) (· - 1) ∧ t.noc.order = s.noc.order + 1 ∧ t.link = s.link
      ∧ (t.noc.pool.get (flitVc f)).map (fun x => x.flit) = (s.noc.pool.get (flitVc f)).map (fun x => x.flit) ++ [f])
  ∧ (∀ (s : State) (f : NocFlit) (a : Bool), s.isOptical = false ∧ (s.noc.returned = false ∨ s.cls.carries (flitVc f) = false) →
    Completes (.nocIngressFlit f a) s fun t => t.noc.boundary = s.noc.boundary + 1 ∧ t.noc.pool = s.noc.pool ∧ t.link = s.link)
  ∧ (∀ (s : State) (v : Fin 8) (n : BitVec 5), s.isOptical = false ∧ s.noc.initDone = true ∧ n ≠ 0
      ∧ s.noc.egHeld.get v + n.toNat ≤ 511 ∧ s.still = true ∧ s.noc.redSent = [] ∧ s.noc.qRing = [] ∧ s.noc.qRed = []
      ∧ s.noc.qHitch = [] ∧ s.noc.qErr = [] ∧ (∀ b, (s.link.rx.get b).buf = []) →
    Completes (.nocEgressCredit v n) s fun t => t.noc.egHeld.get v = s.noc.egHeld.get v + n.toNat)
  ∧ (∀ s : State, s.isOptical = false ∧ s.noc.crdInit = true ∧ s.still = true → Completes .creditInitAck s fun t =>
    t.noc.crdInit = false ∧ t.noc.initDone = true ∧ t.noc.timeoutRaised = false
      ∧ t.noc.egHeld = Oct.all 0 ∧ t.noc.lostIn = Oct.all 0 ∧ t.noc.lostEg = Oct.all 0)
  ∧ (∀ s : State, s.quiet ∧ s.isOptical = false ∧ s.noc.crdInit = true ∧ s.noc.timeoutRaised = false →
    Completes .creditInitTimeout s fun t => t.noc = { s.noc with timeoutRaised := true, qRing := t.noc.qRing } ∧ s.counted t 0x0E)
  ∧ (∀ s : State, s.quiet ∧ s.isOptical = false ∧ s.noc.crdInit = true ∧ s.noc.timeoutRaised = true →
    Completes .creditInitRetry s fun t =>
      t = { s with noc.crdInit := true, noc.initDone := false, noc.returned := false, noc.audit := none })

/-- Credit audits (R33, R205, R206): an audit snapshots the count of its turn; an equal answer only counts, a lower one on the
ingress side takes the lost credits out of the count, adds them to LOST_IN and raises 0x31; an abandoned audit is counted. An
optical end has no NoC interface (R25), and a command of that interface changes nothing there. -/
def Obligations.AuditsComplete : Prop :=
(∀ (s : State) (v : Fin 8) (d : Bool), s.quiet ∧ s.isOptical = false ∧ s.test.alone = false ∧ bit s.noc.fcCtl 0 = true
      ∧ s.start.opened = true
      ∧ s.noc.initDone = true ∧ s.noc.crdInit = false ∧ s.noc.audit = none ∧ s.cls.auditTurn s.noc.nextAudit = (v, d) →
    Completes .creditAuditStart s fun t =>
      t = { s with
        noc.audit := some (v, d, if d then s.noc.egHeld.get v else s.noc.inHeld.get v)
        noc.nextAudit := (s.noc.nextAudit + 1) % (2 * s.cls.vcs.length) })
  ∧ (∀ (s : State) (v : Fin 8) (d : Bool) (n : BitVec 9), s.quiet ∧ s.isOptical = false ∧ s.noc.audit = some (v, d, n.toNat) →
    Completes (.creditAuditAnswer n) s fun t => t = { s with noc.audit := none, noc.audits := s.noc.audits + 1 })
  ∧ (∀ (s : State) (v : Fin 8) (n : BitVec 9) (k : Nat), s.quiet ∧ s.isOptical = false ∧ s.noc.audit = some (v, false, k)
      ∧ n.toNat < k ∧ s.noc.lostIn.get v + (k - n.toNat) < 128 → Completes (.creditAuditAnswer n) s fun t =>
    t.noc.inHeld.get v = s.noc.inHeld.get v - (k - n.toNat) ∧ t.noc.lostIn.get v = s.noc.lostIn.get v + (k - n.toNat)
      ∧ t.noc.mismatch = s.noc.mismatch + 1 ∧ t.noc.audit = none ∧ s.counted t 0x31)
  ∧ (∀ s : State, s.quiet ∧ s.isOptical = false ∧ s.noc.audit.isSome = true → Completes .creditAuditAbandon s fun t =>
    t = { s with noc.audit := none, noc.abandoned := s.noc.abandoned + 1 })
  ∧ (∀ s : State, s.quiet ∧ s.isOptical = true → Completes .creditInitAck s fun t => t = s)
  ∧ (∀ s : State, s.quiet ∧ s.isOptical = true → Completes .creditInitTimeout s fun t => t = s)
  ∧ (∀ s : State, s.quiet ∧ s.isOptical = true → Completes .creditInitRetry s fun t => t = s)
  ∧ (∀ s : State, s.quiet ∧ s.isOptical = true → Completes .creditAuditStart s fun t => t = s)
  ∧ (∀ s : State, s.quiet ∧ s.isOptical = true → Completes .creditAuditAbandon s fun t => t = s)
  ∧ (∀ (s : State) (n : BitVec 9), s.quiet ∧ s.isOptical = true → Completes (.creditAuditAnswer n) s fun t => t = s)
  ∧ (∀ (s : State) (v : Fin 8) (n : BitVec 5), s.quiet ∧ s.isOptical = true → Completes (.nocEgressCredit v n) s fun t => t = s)
  ∧ (∀ (s : State) (f : NocFlit) (a : Bool), s.quiet ∧ s.isOptical = true → Completes (.nocIngressFlit f a) s fun t => t = s)

/-! ### Start-up (R93 to R115) -/

/-- Timeouts of start-up (R15, R70, R97): a step that reaches its timeout fails with the FAIL_CODE of Table 5.4 and raises
START_FAILURE, and a sideband that does not come up is reported once. A training attempt that times out in ALIGN outside step 7
fails with REASON 4 and answers TRAIN_DONE (R107, Table 5.5). A parked spare that hears no DIE_ID parks again, its clamp on and
its switch off one AON cycle later (R44). -/
def Obligations.StartTimeoutsComplete : Prop :=
(∀ s : State, s.quiet ∧ s.start.failed = false ∧ s.start.st = .calibrate → Completes .startStepTimeout s fun t =>
    t.start.failed = true ∧ t.start.failCode = 5 ∧ t.start.st = .calibrate ∧ t.start.repeats = []
      ∧ s.counted t 0x10 ∧ t.link.rx = s.link.rx)
  ∧ (∀ s : State, s.quiet ∧ s.start.failed = false ∧ s.start.st = .detect ∧ s.test.alone = false
      ∧ (∃ b : Fin 8, (s.start.txb.get b).resultGot = false) → Completes .startStepTimeout s fun t =>
    t.start.failed = true ∧ t.start.failCode = 2 ∧ t.start.st = .detect ∧ t.start.patterns = 0 ∧ s.counted t 0x10)
  ∧ (∀ s : State, s.quiet ∧ s.start.failed = false ∧ s.start.st = .negotiate ∧ s.aon.parkSpare = false →
    Completes .startStepTimeout s fun t =>
      t.start.failed = true ∧ t.start.failCode = 0xB ∧ t.start.st = .negotiate ∧ s.counted t 0x10 ∧ t.aon = s.aon)
  ∧ (∀ s : State, s.quiet ∧ s.start.st = .sideband ∧ s.start.notUpRaised = false → Completes .sidebandNotUp s fun t =>
    t.start = { s.start with notUpRaised := true } ∧ s.counted t 0x0F ∧ t.sb = s.sb)
  ∧ (∀ (s : State) (b : Fin 8) (k : Bool), (s.training b).phase = .align ∧ s.start.st ≠ .train ∧ s.aon.exiting = false
      ∧ s.start.failed = false →
    Completes (.trainAttemptTimeout b k) s fun t =>
      (t.training b).phase = .failed ∧ (t.training b).reason = 4 ∧ (t.start.rxb.get b).ok = false
        ∧ t.out.sbLink = s.out.sbLink ++ [{ s.localFrame 3 (trainPay 5 b.val (s.training b).attempt
            [(11, 1, 0), (12, 4, 4)]) with seq := s.sb.txSeq }])
  ∧ (∀ s : State, s.start.st = .negotiate ∧ s.aon.parkSpare = true ∧ s.start.spare = true →
    Completes .spareDieIdTimeout s fun t =>
      t.start.st = .park ∧ t.aon.pwr = .park ∧ t.aon.isoN = false ∧ t.aon.downAt = some (s.now + 64) ∧ t.aon.parkSpare = true
        ∧ t.pwr.parks = s.pwr.parks + 1 ∧ t.start.dieId = s.start.dieId)

/-- Strand detect and its maps (R98 to R106): DETECT_GO of both ends starts the patterns, the far end's of a second attempt
starts them for its braid, the end of the observation reports the braids observed, on fibre the first four first, DETECT_RESULT
is noted with its mask, MAP_AGREE is compared with the receive end's own map, and a map that differs is detected once more. -/
def Obligations.DetectCompletes : Prop :=
(∀ (s : State) (f : SbFrame), s.takesTrain f 1 ∧ s.start.st = .detect ∧ trAttempt f.payload = 0 →
    Completes (.detectGo f) s fun t =>
      t.start.patterns = (if s.start.goSent then (if s.cls.isFibre then 0x0F else 0xFF) else s.start.patterns)
        ∧ t.start.st = .detect ∧ tfind t.start.taken (trKey 1 (trBraid f.payload).val) = some f.payload)
  ∧ (∀ (s : State) (f : SbFrame), s.takesTrain f 1 ∧ s.start.st = .splice ∧ trAttempt f.payload = 1
      ∧ (s.start.rxb.get (trBraid f.payload)).attempt = 1 → Completes (.detectGo f) s fun t =>
    tfind t.start.taken (trKey 1 (trBraid f.payload).val) = some f.payload ∧ t.start.st = .splice
      ∧ bit t.start.patterns (trBraid f.payload).val = true ∧ (t.start.txb.get (trBraid f.payload)).observed = false)
  ∧ (∀ (s : State) (rx : List (Fin 8 × Nat × RxObs)) (tx : List (Fin 8 × Nat × TxObs)),
      s.start.st = .detect ∧ s.start.failed = false ∧ s.start.patterns ≠ 0 →
    Completes (.detectObservationEnd none rx tx) s fun t =>
      (∀ b : Fin 8, bit s.start.patterns b.val = true →
          (t.start.rxb.get b).resultSent = true ∧ (t.start.txb.get b).observed = true)
        ∧ (s.start.patterns = 0x0F → t.start.patterns = 0xF0) ∧ t.start.opened = s.start.opened)
  ∧ (∀ (s : State) (f : SbFrame), s.takesTrain f 2 ∧ s.start.st = .detect ∧ trAttempt f.payload = 0 →
    Completes (.detectResult f) s fun t =>
      (t.start.txb.get (trBraid f.payload)).resultGot = true
        ∧ (t.start.txb.get (trBraid f.payload)).far = BitVec.ofNat 36 (resultMask s.cls f.payload))
  ∧ (∀ (s : State) (f : SbFrame), s.takesTrain f 3 ∧ s.start.st = .splice ∧ s.start.opened = false
      ∧ s.ownMapCrc (trBraid f.payload) = bf f.payload 11 32 → Completes (.mapAgree f) s fun t =>
    (t.start.rxb.get (trBraid f.payload)).mapGot = true ∧ (t.start.rxb.get (trBraid f.payload)).mapOk = true)
  ∧ (∀ (s : State) (f : SbFrame), s.takesTrain f 3 ∧ s.start.st = .splice
      ∧ (s.start.rxb.get (trBraid f.payload)).attempt = 0
      ∧ s.ownMapCrc (trBraid f.payload) ≠ bf f.payload 11 32 → Completes (.mapAgree f) s fun t =>
    (t.start.rxb.get (trBraid f.payload)).attempt = 1 ∧ t.start.st = .splice
      ∧ (t.start.rxb.get (trBraid f.payload)).resultSent = false)

/-- Training (R64, R107, R122, R188 to R192): TRAIN_GO of both ends puts the agreed braids into LOCK, lock releases the receive
clock, sets the deskew target and goes on to ALIGN, a good frame counts and the sixteenth in a row goes on to MEASURE, a bad
frame starts the count again, a MEASURE frame's launch is noted, and TRAIN_DONE with OK trains the transmit direction. -/
def Obligations.TrainingCompletes : Prop :=
(∀ (s : State) (f : SbFrame), s.takesTrain f 4 ∧ s.start.st = .train ∧ s.start.trainGoGot = false
      ∧ s.start.trainGoSent = true → Completes (.trainGo f) s fun t =>
    t.start.trainGoGot = true ∧ ∀ b : Fin 8, bit s.start.trainMaskSent b.val = true →
      (t.training b).phase = .lock ∧ (t.training b).attempt = 0)
  ∧ (∀ (s : State) (b : Fin 8) (x : BitVec 8) (l : List (Nat × Int)) (w : List (List (Nat × Nat))) (d : Int),
      (s.training b).phase = .lock ∧ s.start.failed = false ∧ s.clocked = true
      ∧ (s.fibreHub = true → s.wordsLock b w = true) ∧ deskewTarget s.cls ((l.filter fun y => (s.usable 1 b).contains y.1).map Prod.snd) = some d →
    Completes (.braidLockAchieved b x ⟨l, w⟩) s fun t =>
      (t.training b).phase = .align ∧ bit t.clk.rxwUp b.val = true ∧ (t.training b).good = 0 ∧ (t.training b).cross = x.toNat
        ∧ (t.shape 1 b).target = d.toNat ∧ t.start = s.start)
  ∧ (∀ (s : State) (b : Fin 8) (rx : LineRx) (f : LinkFlit) (k : BitVec 4), (s.training b).phase = .align
      ∧ s.start.failed = false ∧ s.domainUp (.rxw b) = true ∧ (s.trainLine b rx).1 = some f ∧ linkCrcOk f = true
      ∧ bf f 0 4 = 6 ∧ bf f 4 4 = 0 ∧ bf f 8 3 = b.val ∧ (s.training b).good < 15
      ∧ (∀ c : Fin 8, (s.training c).phase ≠ .depth ∧ (s.training c).phase ≠ .done) →
    Completes (.trainLinkFrame b rx k) s fun t =>
      (t.training b).good = (s.training b).good + 1 ∧ (t.training b).phase = .align ∧ t.start = s.start)
  ∧ (∀ (s : State) (b : Fin 8) (rx : LineRx) (f : LinkFlit) (k : BitVec 4), (s.training b).phase = .align
      ∧ s.start.failed = false ∧ s.domainUp (.rxw b) = true ∧ (s.trainLine b rx).1 = some f ∧ linkCrcOk f = true
      ∧ bf f 0 4 = 6 ∧ bf f 4 4 = 0 ∧ bf f 8 3 = b.val ∧ (s.training b).good = 15 ∧ (s.shape 0 b).retired = false
      ∧ s.aon.exiting = false ∧ (∀ c : Fin 8, (s.training c).phase ≠ .depth ∧ (s.training c).phase ≠ .done) →
    Completes (.trainLinkFrame b rx k) s fun t => (t.training b).phase = .measure ∧ t.start = s.start)
  ∧ (∀ (s : State) (b : Fin 8) (rx : LineRx) (f : LinkFlit) (k : BitVec 4), (s.training b).phase = .align
      ∧ s.start.failed = false ∧ s.domainUp (.rxw b) = true ∧ (s.trainLine b rx).1 = some f ∧ linkCrcOk f = false →
    Completes (.trainLinkFrame b rx k) s fun t =>
      (t.training b).good = 0 ∧ (t.training b).phase = .align ∧ t.start = s.start)
  ∧ (∀ (s : State) (b : Fin 8) (k : BitVec 4), (s.training b).phase = .measure ∧ s.start.failed = false →
    Completes (.measureTimer b k) s fun t => (t.training b).phase = .measure ∧ (t.training b).tcount = (s.training b).tcount + 1
      ∧ tfind (t.training b).launches (s.training b).tcount.toNat = some (s.now * 16 + k.toNat) ∧ t.start = s.start)
  ∧ (∀ (s : State) (f : SbFrame), s.takesTrain f 5 ∧ bit f.payload 11 = true → Completes (.trainDone f) s fun t =>
    (t.start.txb.get (trBraid f.payload)).doneGot = true ∧ (t.start.txb.get (trBraid f.payload)).ok = true
      ∧ (t.shape 0 (trBraid f.payload)).trained = true)

/-- The first calibration and what follows (R108, R109, R113): CAL_DONE is sent once and taken once, a BEACON tells the block's
unique ID in DISCOVER, and NEGOTIATE of a far end of generation 3 and the trained rate gives the generation, the rate and the
far end's class and features, and enters LASH; one of an older generation fails the start with code 7. -/
def Obligations.LateStepsComplete : Prop :=
(∀ (s : State) (iref : Nat), s.start.st = .calibrate ∧ s.start.failed = false ∧ s.start.calSent = false
      ∧ s.start.calGot = false → Completes (.firstCalibrationComplete [] iref) s fun t =>
    t.start.calSent = true ∧ t.start.st = .calibrate ∧ t.cal = s.cal
      ∧ t.out.sbLink = s.out.sbLink ++ [{ s.localFrame 3 (trainPay 6 0 0 [(11, 1, 1)]) with seq := s.sb.txSeq }])
  ∧ (∀ (s : State) (f : SbFrame), s.takesTrain f 6 ∧ bit f.payload 11 = true ∧ s.start.st = .calibrate
      ∧ s.start.calSent = false → Completes (.calDone f) s fun t =>
    t.start.calGot = true ∧ t.start.st = .calibrate ∧ t.link = s.link)
  ∧ (∀ s : State, s.start.st = .discover ∧ s.start.failed = false → Completes .beaconTimer s fun t =>
    ∃ f : SbFrame, t.out.sbLink = s.out.sbLink ++ [f] ∧ f.typ = 1 ∧ f.payload = s.straps.uid ∧ f.proxy = false
      ∧ f.seq = s.sb.txSeq ∧ (s.cls = .sc → f.destDie = 0 ∧ f.destPort = 0x9F ∧ f.srcDie = 0xFF))
  ∧ (∀ (s : State) (f : SbFrame), s.takesTrain f 7 ∧ s.start.st = .negotiate ∧ s.aon.parkSpare = false
      ∧ s.start.spare = false ∧ 3 ≤ bf f.payload 11 3 ∧ bf f.payload 14 3 ≤ 3
      ∧ topRate ((BitVec.ofNat 4 (bf f.payload 21 4)) &&& s.straps.ownRates).toNat = s.trainedRate →
    Completes (.negotiate f) s fun t =>
      t.start.negGen = 3 ∧ t.start.negRate = BitVec.ofNat 4 s.trainedRate
        ∧ t.start.negFarClass = BitVec.ofNat 4 (bf f.payload 17 4) ∧ t.start.negFarFeat = BitVec.ofNat 3 (bf f.payload 25 3)
        ∧ t.start.negValid = true ∧ t.start.st = .lash)
  ∧ (∀ (s : State) (f : SbFrame), s.quiet ∧ s.takesTrain f 7 ∧ s.start.st = .negotiate ∧ s.start.negValid = false
      ∧ bf f.payload 11 3 < 3 → Completes (.negotiate f) s fun t =>
    t.start.failed = true ∧ t.start.failCode = 7 ∧ t.start.negValid = false ∧ s.counted t 0x12 ∧ s.counted t 0x10)

/-- Discovery (R15, R39, R109 to R112, R358, R359): a beacon of the far end is noted, the hub's agent records the beacon of a
site, the window's end closes discovery, a compute die takes its ID or its refusal, and a base end that takes a revocation
enters FENCED. An active site whose pair failed after it had been OPEN is declared dead, its ID revoked and DIE_DEAD raised at
its base end (assumption log 44 for what a base end sees); before discovery closes, a failed pair is a failed site. -/
def Obligations.DiscoveryCompletes : Prop :=
  (∀ (s : State) (f : SbFrame), f.typ = 1 ∧ s.agentHere = false ∧ (s.hear f).1 = true ∧ isLocal f = true
      ∧ s.cls.isFibre = false → Completes (.beacon f) s fun t =>
    t.start.farUid = f.payload ∧ t.start.beaconGot = true ∧ t.agent = s.agent)
  ∧ (∀ (s : State) (f : SbFrame) (n : Nat), f.typ = 1 ∧ s.agentHere = true ∧ f.proxy = true ∧ f.destDie = 0
      ∧ f.destPort = 0x9F ∧ siteOfFrame f = some n ∧ s.agent.closed = false ∧ s.agent.revokedUids = []
      ∧ (∀ m : Nat, m < 58 → m ≠ n → (s.site m).uid ≠ some f.payload)
      ∧ (∃ m : Nat, m < 56 ∧ m ≠ n ∧ (s.site m).uid = none ∧ (s.site m).state ≠ 3) →
    Completes (.beacon f) s fun t =>
      (t.site n).uid = some f.payload ∧ t.agent.closed = false ∧ t.start = s.start ∧ t.sb = s.sb)
  ∧ (∀ s : State, s.agentHere = true ∧ s.agent.closed = false → Completes .discoveryWindowExpiry s fun t =>
    t.agent.closed = true ∧ t.start = s.start ∧ t.link = s.link)
  ∧ (∀ (s : State) (f : SbFrame), f.typ = 2 ∧ isLocal f = true ∧ (s.receive f).1 = true ∧ s.cls = .sc
      ∧ bf f.payload 16 48 = s.straps.uid.toNat % 2 ^ 48 ∧ bit f.payload 9 = false → Completes (.dieId f) s fun t =>
    t.start.dieId = BitVec.ofNat 8 (bf f.payload 0 8) ∧ t.start.spare = bit f.payload 8 ∧ t.start.dieIdGot = true)
  ∧ (∀ (s : State) (f : SbFrame), s.start.failed = false ∧ f.typ = 2 ∧ isLocal f = true ∧ (s.receive f).1 = true ∧ s.cls = .sc
      ∧ bf f.payload 16 48 = s.straps.uid.toNat % 2 ^ 48 ∧ bit f.payload 9 = true → Completes (.dieId f) s fun t =>
    t.start.failed = true ∧ t.start.failCode = 9)
  ∧ (∀ (s : State) (f : SbFrame), f.typ = 2 ∧ f.proxy = false ∧ isLocal f = false ∧ s.addressed f = true
      ∧ s.sb.ringBuf.contains f = true ∧ s.cls = .sb ∧ bf f.payload 16 48 = s.start.farUid.toNat % 2 ^ 48
      ∧ bit f.payload 9 = true ∧ bit f.payload 8 = false → Completes (.dieIdRevocation f) s fun t =>
    t.start.st = .fenced ∧ (t.site (7 * s.tile + s.index)).state = 4
      ∧ tfind t.lash.prot 0x083C = some (pack 32 [(0, 1, 1), (8, 8, bf f.payload 0 8)])
      ∧ t.agent.revokedUids.any (fun x => x.1 == s.start.farUid) = true)
  ∧ (∀ (s : State) (d : DieId), s.quiet ∧ s.cls = .sb ∧ s.isOptical = false ∧ (s.site (7 * s.tile + s.index)).state = 1
      ∧ (s.site (7 * s.tile + s.index)).opened = true ∧ s.start.failed = true → Completes (.deadDiePoll [] d) s fun t =>
    (t.site (7 * s.tile + s.index)).state = 5 ∧ s.counted t 0x60 ∧ t.link = s.link
      ∧ t.agent.revokedUids = s.agent.revokedUids ++
        [((s.site (7 * s.tile + s.index)).uid.getD 0, (s.site (7 * s.tile + s.index)).dieId)])
  ∧ (∀ (s : State) (r : SiteRead) (d : DieId), s.agentHere = true ∧ s.agent.closed = false ∧ r.failed = true →
    Completes (.deadDiePoll [r] d) s fun t => (t.site r.site).state = 3 ∧ t.link = s.link)

/-! ### Power (R331 to R348) -/

/-- Budgets, ramps and the exchange of caps (R331 to R333), at the end that does not lead: a PM_BUDGET or PM_RAMP of tenant 0
from the port's own die or the hub is taken and sets the cap of R332, a reserved STATE is counted in PM_DROP and changes
nothing, a PWR_CAP gives the far end's cap, and a PWR_GO gives the pair target. -/
def Obligations.CapsComplete : Prop :=
(∀ (s : State) (f : NocFlit), s.isTaken false f = true ∧ flitVc f = 6 ∧ flitType f = 0x3C ∧ s.pmSource f = true
      ∧ payBits f 26 6 = 0 ∧ payBits f 48 464 = 0 ∧ payBits f 16 3 ≠ 1 ∧ payBits f 16 3 ≤ 4 ∧ payBits f 25 1 = 1
      ∧ s.still = true ∧ s.leads = false → Completes (.pmBudget f) s fun t =>
    t.pwr.budget = payBits f 0 16 ∧ t.pwr.budState = payBits f 16 3 ∧ t.pwr.budWidth = payBits f 19 6
      ∧ t.pwr.budSeq = some (BitVec.ofNat 16 (payBits f 32 16)) ∧ t.pwr.released = false
      ∧ (t.pwr.nearCap, t.pwr.nearWidth) = { s with
          pwr.budget := payBits f 0 16, pwr.budState := payBits f 16 3, pwr.budWidth := payBits f 19 6
          pwr.released := false }.ownCap
      ∧ t.pwr.target = s.pwr.target ∧ t.noc.taken = s.noc.taken.erase (false, f) ∧ t.pwr.pmDrop = s.pwr.pmDrop)
  ∧ (∀ (s : State) (f : NocFlit), s.isTaken false f = true ∧ flitVc f = 6 ∧ flitType f = 0x3C ∧ payBits f 16 3 = 1 →
    Completes (.pmBudget f) s fun t =>
      t.pwr = { s.pwr with pmDrop := s.pwr.pmDrop + 1 } ∧ t.noc.taken = s.noc.taken.erase (false, f) ∧ t.link = s.link)
  ∧ (∀ (s : State) (f : NocFlit), s.isTaken false f = true ∧ flitVc f = 6 ∧ flitType f = 0x3D ∧ s.pmSource f = true
      ∧ payBits f 10 6 = 0 ∧ payBits f 32 480 = 0 ∧ payBits f 0 9 ≤ 256 ∧ payBits f 9 1 = 1 ∧ bit s.pwr.ctl 22 = true
      ∧ s.still = true ∧ s.leads = false → Completes (.pmRamp f) s fun t =>
    t.pwr.level = payBits f 0 9 ∧ t.pwr.rampSeq = some (BitVec.ofNat 16 (payBits f 16 16))
      ∧ (t.pwr.nearCap, t.pwr.nearWidth) = { s with pwr.level := payBits f 0 9 }.ownCap
      ∧ t.pwr.target = s.pwr.target ∧ t.pwr.pmDrop = s.pwr.pmDrop)
  ∧ (∀ (s : State) (b : Fin 8) (p : NocFlit) (st : PwrState), s.holds b 0x30 p ∧ pwrOf (bf p 0 3) = some st
      ∧ s.pwr.capTaken = none ∧ s.leads = false → Completes (.pwrCap b p) s fun t =>
    t.pwr = { s.pwr with
      capTaken := some (BitVec.ofNat 16 (bf p 9 16)), farCap := st, farWidth := bf p 3 6 })
  ∧ (∀ (s : State) (b : Fin 8) (p : NocFlit) (st : PwrState), s.holds b 0x31 p ∧ pwrOf (bf p 0 3) = some st
      ∧ s.pwr.goTaken = none ∧ s.leads = false ∧ s.pwr.target = st ∧ s.pwr.targetWidth = bf p 3 6 →
    Completes (.pwrGo b p) s fun t => t.pwr = { s.pwr with goTaken := some (BitVec.ofNat 16 (bf p 9 16)) })
  ∧ (∀ (s : State) (b : Fin 8) (p : NocFlit), s.holds b 0x31 p ∧ pwrOf (bf p 0 3) = some .park
      ∧ s.pwr.goTaken = none ∧ s.leads = false ∧ s.pwr.target = .active → Completes (.pwrGo b p) s fun t =>
    t.pwr.target = .park ∧ t.pwr.goTaken = some (BitVec.ofNat 16 (bf p 9 16)))

/-- DOZE and its wakes (R335 to R338): DOZE_ENTER is noted, a burst wakes the receive braids, electrical ones 128 flit periods
on, a waiting control flit wakes a dozing end, and the hold's end lets it doze again. -/
def Obligations.DozeCompletes : Prop :=
(∀ (s : State) (b c : Fin 8) (p : NocFlit), s.ctlWaits b 0x32 p = true ∧ s.pwr.target = .doze ∧ s.aon.pwr = .active
      ∧ s.pwr.draining = .none ∧ s.pwr.flushes = [] ∧ s.pwr.sinking = false ∧ s.lash.switching = false
      ∧ (s.shape 0 c).retired = false ∧ bit s.pwr.dozing c.val = false ∧ bit s.pwr.dzAcked c.val = false →
    Completes (.dozeEnter b p) s fun t =>
      t.pwr.dzGot = setBf s.pwr.dzGot b.val 1 1 ∧ t.aon.pwr = .active ∧ t.pwr.dozes = s.pwr.dozes)
  ∧ (∀ s : State, s.quiet ∧ s.still = true ∧ s.pwr.rxDoze ≠ 0 → Completes .wakeBurst s fun t =>
    t = { s with
      pwr.rxDoze := 0
      pwr.rxLeft := Oct.ofFn fun b => if bit s.pwr.rxDoze b.val && !s.cls.isFibre then 128 else 0 })
  ∧ (∀ s : State, bit s.pwr.ctl 23 = true ∧ s.pwr.target = .doze ∧ s.aon.pwr = .doze ∧ s.ctrlWaiting = true
      ∧ s.pwr.draining = .none ∧ s.pwr.dozing ≠ 0 → Completes .controlWake s fun t =>
    t.pwr.ctrlWakes = s.pwr.ctrlWakes + 1 ∧ t.pwr.ctrlAwake = true ∧ t.aon.pwr ≠ .doze)
  ∧ (∀ s : State, s.pwr.ctrlAwake = true ∧ s.still = true ∧ s.quiet → Completes .dozeHoldExpiry s fun t =>
    t = { s with pwr.ctrlAwake := false })

/-- PARK and the end of a belay (R44, R339 to R344, R348): PARK_READY is noted and stops the sideband's loss watch, the first
DRAIN_LIMIT is noted and the second abandons the park, the events that end a park ask for the main island's power, pm_resume
does nothing outside PARK and OFF and at an optical end, an end that may not wake counts the wake, a far end that stays parked
parks this one again, and a spare's exit ends in NEGOTIATE with the loss watch resuming 20 microseconds later. BELAY_EXPIRY of
a case other than 4 ends its belay and flushes the flits held, here those of the hitch engine's link queue, with FLUSH once
nothing of the case is left. -/
def Obligations.ParkCompletes : Prop :=
  (∀ (s : State) (b : Fin 8) (p : NocFlit), s.holds b 0x33 p → Completes (.parkReady b p) s fun t =>
    t.pwr = { s.pwr with pkGot := setBf s.pwr.pkGot b.val 1 1 } ∧ t.sb = { s.sb with watchOff := true })
  ∧ (∀ s : State, s.quiet ∧ s.pwr.draining = .park ∧ s.pwr.limits = 0 ∧ s.runningDescs = []
      ∧ { s with pwr.draining := .none }.still = true ∧ s.aon.pwr = .active ∧ s.pwr.pkSent = 0 ∧ s.grantedAll = false →
    Completes .drainLimit s fun t => t = { s with pwr.limits := 1 })
  ∧ (∀ s : State, s.pwr.draining = .park ∧ s.pwr.limits = 1 ∧ s.leads = false ∧ s.pwr.target = .park
      ∧ { s with pwr.draining := .none }.still = true ∧ s.aon.pwr = .active ∧ s.pwr.pkSent = 0 ∧ s.grantedAll = false
      ∧ s.pwr.nearCap = .park → Completes .drainLimit s fun t =>
    t.pwr.abandoned = s.pwr.abandoned + 1 ∧ t.pwr.draining = .none ∧ t.pwr.nearCap = .doze ∧ t.noc.whDrain = false
      ∧ t.pwr.parkCmd = none)
  ∧ (∀ s : State, s.asleep = true ∧ s.aon.exiting = false ∧ s.isOptical = false → Completes .pmResume s fun t =>
    t.aon.mainOn = true ∧ t.aon.exiting = true ∧ t.aon.parkDur = none ∧ t.aon.downAt = none ∧ t.aon.pwr = s.aon.pwr
      ∧ t.pwr.released = true ∧ t.pwr.parkCmd = none ∧ t.start = s.start ∧ t.link = s.link)
  ∧ (∀ s : State, s.asleep = true ∧ s.aon.exiting = false ∧ s.aon.pwr = .park ∧ s.aon.parkDur.isSome = true →
    Completes .parkDurationEnd s fun t =>
      t.aon.mainOn = true ∧ t.aon.exiting = true ∧ t.aon.parkDur = none ∧ t.aon.downAt = none ∧ t.aon.pwr = .park
        ∧ t.pwr.released = true ∧ t.pwr.parkCmd = none ∧ t.start = s.start)
  ∧ (∀ s : State, s.quiet ∧ s.asleep = true ∧ s.aon.exiting = false ∧ s.pwr.nearCap ≠ .park ∧ s.pwr.nearCap ≠ .off →
    Completes .sidebandWake s fun t =>
      t = { s.switchOff with aon.mainOn := true, aon.exiting := true, aon.parkDur := none, aon.swTimeoutRaised := false })
  ∧ (∀ s : State, s.quiet ∧ s.asleep = true ∧ s.aon.exiting = false ∧ s.pwr.nearCap = .park →
    Completes .sidebandWake s fun t => t = { s with pwr.wakeIgnored := s.pwr.wakeIgnored + 1 })
  ∧ (∀ s : State, s.quiet ∧ s.aon.exiting = true ∧ s.mainUp = true ∧ s.pwr.wakeDrive = true →
    Completes .farParkedTimeout s fun t =>
      t.pwr.farParked = s.pwr.farParked + 1 ∧ t.pwr.wakeDrive = false ∧ t.aon.exiting = false ∧ t.aon.isoN = false
        ∧ t.aon.downAt = some (s.now + 64) ∧ t.start.st = .park ∧ s.counted t 0x59)
  ∧ (∀ s : State, s.start.st = .park ∧ s.exitOver = true ∧ s.aon.parkSpare = true →
    Completes .parkExitTrained s fun t =>
      t.aon.exiting = false ∧ t.sb.watchOff = s.sb.watchOff ∧ t.pwr.wakeDrive = false ∧ t.start.st = .negotiate
        ∧ t.sb.watchAt = if s.sb.watchOff then some (s.now + us 20) else none)
  ∧ (∀ (s : State) (case : Nat) (l : List NocFlit), s.quiet ∧ s.still = true ∧ s.pwr.flushes = []
      ∧ (∃ x ∈ s.pwr.belays, x.1 = case) ∧ case ≠ 4 ∧ (∀ v : Fin 8, s.noc.pool.get v = []) ∧ s.ten.linkQ = []
      ∧ s.red.linkQ = [] ∧ s.ht.linkQ = l ∧ l.all (fun f => flitVc f != 0) = true ∧ s.start.failed = false ∧ s.start.st ≠ .fenced →
    Completes (.belayExpiry case) s fun t =>
      t.pwr.belays = s.pwr.belays.filter (fun x => x.1 ≠ case) ∧ t.pwr.flushes = [] ∧ t.ht.linkQ = []
        ∧ t.pwr.flushed = s.pwr.flushed + BitVec.ofNat 32 l.length ∧ t.noc.qErr = s.noc.qErr ∧ s.counted t 0x5B)
  ∧ (∀ s : State, s.quiet ∧ (s.asleep = false ∨ s.isOptical = true) → Completes .pmResume s fun t => t = s)

/-! ### In-flight reduction (R244 to R273) -/

/-- REDUCE (R255 to R258): a REDUCE of a new job takes a free slot and completes later, one of a running job of its tenant is
refused with 0x20. -/
def Obligations.JobsComplete : Prop :=
  (∀ (s : State) (r : RingNo) (i : BitVec 32) (d : Desc), s.started r i 0x20 d ∧ s.freeJobs ≠ [] ∧ s.red.hold = []
      ∧ (∀ p ∈ s.red.jobs, ¬ (p.2.owner = s.ringOwner r.val ∧ rdJob p.2.desc = rdJob d)) →
    Completes (.reduce r i) s fun t =>
      (∃ k ∈ s.freeJobs, t.redJob k = some (newJob r i (s.ringOwner r.val) d s.now)) ∧ t.rings.fifo = s.rings.fifo)
  ∧ (∀ (s : State) (r : RingNo) (i : BitVec 32) (d : Desc), s.started r i 0x20 d ∧ s.freeJobs ≠ [] ∧ s.cplReady r
      ∧ (∃ p ∈ s.red.jobs, p.2.owner = s.ringOwner r.val ∧ rdJob p.2.desc = rdJob d) →
    Completes (.reduce r i) s fun t => s.entered t r i d 0x20 0 0 ∧ t.red = s.red)

/-- Contributions (R249, R259 to R263): a head with no job is held, a head of a running job opens its chunk and its stream, the
first data flit is combined as it arrives, data of a held head joins it, and a held contribution ages out as unknown. -/
def Obligations.ContributionsComplete : Prop :=
(∀ (s : State) (rx : Bool) (f : NocFlit), s.hasRed = true ∧ s.redTurn rx f = true ∧ flitType f = 0x38
      ∧ s.red.streams = [] ∧ s.red.jobs = [] ∧ bf s.red.ctl 16 8 ≠ 0 ∧ s.holdGrans + imgGrans (hdFlits f) ≤ 64
      ∧ imgGrans (hdFlits f) ≤ s.freeGrans ∧ 1 ≤ hdFlits f → Completes (.contribHead rx f) s fun t =>
    t.red.hold = s.red.hold ++ [⟨s.red.nextHold, s.now, rx, f, [], false⟩]
      ∧ t.red.streams = [⟨rx, flowKey f, .prehold s.red.nextHold, 0, hdFlits f, flitPoison f, false, []⟩]
      ∧ t.red.contribs = s.red.contribs ∧ t.noc.taken = s.noc.taken.erase (rx, f))
  ∧ (∀ (s : State) (rx : Bool) (f : NocFlit) (k : Nat) (j : RedJob), s.hasRed = true ∧ s.redTurn rx f = true
      ∧ flitType f = 0x38 ∧ flitPoison f = false ∧ s.red.streams = [] ∧ s.red.jobs = [(k, j)] ∧ j.owner.toNat = flitTenant f
      ∧ rdJob j.desc = hdJob f ∧ j.cancelling = false ∧ j.chunks = [] ∧ j.doneIdx = [] ∧ j.idleClosed = false
      ∧ rdRank j.desc = false ∧ rdMirror j.desc = false
      ∧ hdRank f < rdRanks j.desc ∧ (rdPos j.desc (hdChunk f)).isSome = true ∧ hdFormat f = rdIn j.desc
      ∧ hdLog2 f = rdLog2 j.desc ∧ hdFlits f = imageFlits (rdIn j.desc) (rdElems j.desc)
      ∧ accGrans j.desc + mapGrans j.desc ≤ s.freeGrans → Completes (.contribHead rx f) s fun t =>
    (∃ j1 c, t.red.jobs = [(k, j1)] ∧ j1.chunks = [c] ∧ j1.idleAt = s.now ∧ c.idx = hdChunk f ∧ c.st = .opened
        ∧ c.ranks = [hdRank f] ∧ c.acc = List.replicate (rdElems j.desc) none ∧ c.held = [] ∧ c.poisoned = false)
      ∧ t.red.contribs = s.red.contribs + 1
      ∧ t.red.streams = [⟨rx, flowKey f, .chunk k (hdChunk f) (hdRank f), 0, hdFlits f, false, false, []⟩])
  ∧ (∀ (s : State) (rx : Bool) (f : NocFlit) (n : Nat) (h : PreHeld) (q : Nat), s.hasRed = true ∧ s.redTurn rx f = true
      ∧ flitType f = 0x39 ∧ s.red.streams = [⟨rx, flowKey f, .prehold n, flitTag f, q, false, false, []⟩]
      ∧ s.red.hold = [h] ∧ h.num = n ∧ h.ended = false ∧ flitTag f + 1 < q → Completes (.contribData rx f) s fun t =>
    t.red.hold = [{ h with data := h.data ++ [f] }] ∧ t.red.jobs = s.red.jobs)
  ∧ (∀ (s : State) (rx : Bool) (f : NocFlit) (k idx rank q : Nat) (j : RedJob) (c : Chunk), s.hasRed = true
      ∧ s.redTurn rx f = true ∧ flitType f = 0x39 ∧ flitPoison f = false ∧ flitTag f = 0 ∧ 1 < q
      ∧ s.red.streams = [⟨rx, flowKey f, .chunk k idx rank, 0, q, false, false, []⟩]
      ∧ s.red.jobs = [(k, j)] ∧ j.chunks = [c] ∧ c.idx = idx ∧ c.st = .opened ∧ c.held = [] →
    Completes (.contribData rx f) s fun t =>
      ∃ j1 c1, t.red.jobs = [(k, j1)] ∧ j1.chunks = [c1] ∧ c1.st = .opened
        ∧ c1.acc = (combineRange j.desc (flitPay f) 0 (elemsOfFlit (rdIn j.desc) (rdElems j.desc) 0).2 c.acc).1
        ∧ c1.ranks = c.ranks ∧ j1.desc = j.desc)
  ∧ (∀ (s : State) (h : PreHeld), s.hasRed = true ∧ s.red.hold = [h] → Completes (.preholdExpiry h.num) s fun t =>
    t.red.hold = [] ∧ t.red.cUnknown = s.red.cUnknown + 1 ∧ t.red.jobs = s.red.jobs)

/-- Closing and outputs (R262, R265 to R270): a timer closes a chunk poisoned, the idle timer closes a job, spill and refill
acknowledgements are counted down and the last refill opens the chunk again, a closed chunk writes its image, and the last
acknowledgement makes it done. -/
def Obligations.ChunksComplete : Prop :=
(∀ (s : State) (k : Nat) (j : RedJob) (c : Chunk), s.hasRed = true ∧ s.red.jobs = [(k, j)] ∧ j.chunks = [c]
      ∧ c.st = .opened ∧ c.held = [] → Completes (.chunkTimer k c.idx) s fun t =>
    ∃ j1 c1, t.red.jobs = [(k, j1)] ∧ j1.chunks = [c1] ∧ c1.idx = c.idx ∧ c1.st = .closed ∧ c1.poisoned = true
      ∧ c1.byTimer = true ∧ j1.straggled = j.straggled + 1 ∧ j1.strag = true
      ∧ j1.missing = some (j.missing.getD (lowestMissing c.ranks (rdRanks j.desc))))
  ∧ (∀ (s : State) (k : Nat) (j : RedJob), s.hasRed = true ∧ s.red.jobs = [(k, j)] ∧ j.chunks = [] ∧ j.cancelling = false
      ∧ j.idleClosed = false ∧ j.doneIdx.length < rdChunks j.desc → Completes (.jobIdleTimer k) s fun t =>
    ∃ j1, t.red.jobs = [(k, j1)] ∧ j1.idleClosed = true ∧ j1.straggled = j.straggled + (rdChunks j.desc - j.doneIdx.length)
      ∧ j1.strag = true ∧ j1.chunks = [])
  ∧ (∀ (s : State) (k : Nat) (j : RedJob) (c : Chunk), s.quiet ∧ s.hasRed = true ∧ s.red.jobs = [(k, j)]
      ∧ j.chunks = [c] ∧ c.st = .spilled ∧ 1 ≤ c.wait → Completes (.spillWriteResponse k c.idx false) s fun t =>
    t = { s with red.jobs := [(k, { j with chunks := [{ c with wait := c.wait - 1 }] })] })
  ∧ (∀ (s : State) (k : Nat) (j : RedJob) (c : Chunk), s.quiet ∧ s.hasRed = true ∧ s.red.jobs = [(k, j)]
      ∧ j.chunks = [c] ∧ c.st = .refilling ∧ 2 ≤ c.wait → Completes (.refillResponse k c.idx false) s fun t =>
    t = { s with red.jobs := [(k, { j with chunks := [{ c with wait := c.wait - 1 }] })] })
  ∧ (∀ (s : State) (k : Nat) (j : RedJob) (c : Chunk), s.hasRed = true ∧ s.red.jobs = [(k, j)]
      ∧ j.chunks = [c] ∧ c.st = .refilling ∧ c.wait = 1 ∧ c.closeAfter = false ∧ c.held = []
      ∧ c.ranks.length < rdRanks j.desc → Completes (.refillResponse k c.idx false) s fun t =>
    ∃ j1 c1, t.red.jobs = [(k, j1)] ∧ j1.chunks = [c1] ∧ c1.st = .opened ∧ c1.spill = [] ∧ c1.acc = c.acc
      ∧ j1.spillUsed = j.spillUsed.filter fun g => !c.spill.contains g)
  ∧ (∀ (s : State) (k : Nat) (j : RedJob) (c : Chunk), s.hasRed = true ∧ s.red.jobs = [(k, j)] ∧ j.chunks = [c]
      ∧ c.st = .closed ∧ c.memLeft ≠ [] ∧ c.fwdLeft = [] → Completes (.chunkOutput k c.idx) s fun t =>
    (∃ j1 c1, t.red.jobs = [(k, j1)] ∧ j1.chunks = [c1] ∧ c1.begun = true ∧ c1.acks = c.acks + c.memLeft.length
        ∧ c1.memLeft = [])
      ∧ t.noc.qRed = s.noc.qRed ++ c.memLeft.map fun p => ⟨.mem ⟨.resultWrite, 0, j.owner, BitVec.ofNat 52 p.1, 64,
          p.2.toNat, c.poisoned, k, c.idx⟩, 0, s.now, none⟩)
  ∧ (∀ (s : State) (k : Nat) (j : RedJob) (c : Chunk), s.quiet ∧ s.hasRed = true ∧ s.red.jobs = [(k, j)]
      ∧ j.chunks = [c] ∧ c.st = .closed ∧ 2 ≤ c.acks → Completes (.resultWriteResponse k c.idx false) s fun t =>
    t = { s with red.jobs := [(k, { j with chunks := [{ c with acks := c.acks - 1 }] })] })
  ∧ (∀ (s : State) (k : Nat) (j : RedJob) (c : Chunk), s.quiet ∧ s.hasRed = true ∧ s.red.jobs = [(k, j)]
      ∧ j.chunks = [c] ∧ c.st = .closed ∧ c.acks = 1 ∧ c.begun = true ∧ c.memLeft = [] ∧ c.fwdLeft = [] ∧ c.fwdDone = true
      ∧ j.cancelling = false ∧ j.doneIdx.length + 1 < rdChunks j.desc → Completes (.resultWriteResponse k c.idx false) s fun t =>
    ∃ j1, t.red.jobs = [(k, j1)] ∧ j1.chunks = [] ∧ j1.doneIdx = j.doneIdx ++ [c.idx]
      ∧ j1.poisonedOut = (if c.poisoned then j.poisonedOut + 1 else j.poisonedOut))

/-! ### Hitches (R275 to R300) -/

/-- Messages of the hitch engine (R280 to R285, R291 to R294): a signal of a counter gives its combined value, an arrival short
of the target counts at a barrier, a wait that is not met enters the waiter table, a wake drives the bus of a compute end, an
update of the named home is copied, and a read is answered. -/
def Obligations.HitchMessagesComplete : Prop :=
(∀ (s : State) (rx : Bool) (f : NocFlit), s.hasHitch = true ∧ s.isTaken rx f = true ∧ flitType f = 0x30
      ∧ flitPoison f = false ∧ htFar f = false ∧ htIdx f < s.cls.hitches ∧ htOp f ≠ 3
      ∧ flitTenant f = s.hitchOwner (htIdx f) ∧ s.ht.intake = [] ∧ (s.hitch (htIdx f)).role ≠ 2
      ∧ (s.hitch (htIdx f)).barrier = false → Completes (.hitchSignal [(rx, f)]) s fun t =>
    (t.hitch (htIdx f)).value
        = BitVec.ofNat 32 (combineCounter (s.hitch (htIdx f)).value.toNat [sigOf f rx]).1
      ∧ (t.hitch (htIdx f)).gen = (s.hitch (htIdx f)).gen ∧ t.noc.taken = s.noc.taken.erase (rx, f))
  ∧ (∀ (s : State) (rx : Bool) (f : NocFlit), s.hasHitch = true ∧ s.isTaken rx f = true ∧ flitType f = 0x30
      ∧ flitPoison f = false ∧ htFar f = false ∧ htIdx f < s.cls.hitches ∧ htOp f = 2
      ∧ flitTenant f = s.hitchOwner (htIdx f) ∧ s.ht.intake = [] ∧ (s.hitch (htIdx f)).role ≠ 2
      ∧ (s.hitch (htIdx f)).barrier = true
      ∧ (s.hitch (htIdx f)).value.toNat + 1 < (s.hitch (htIdx f)).target.toNat → Completes (.hitchSignal [(rx, f)]) s fun t =>
    (t.hitch (htIdx f)).value = (s.hitch (htIdx f)).value + 1 ∧ (t.hitch (htIdx f)).gen = (s.hitch (htIdx f)).gen)
  ∧ (∀ (s : State) (rx : Bool) (f : NocFlit), s.hasHitch = true ∧ s.isTaken rx f = true ∧ flitType f = 0x31
      ∧ flitPoison f = false ∧ htFar f = false ∧ htIdx f < s.cls.hitches ∧ htOp f ≠ 3
      ∧ flitTenant f = s.hitchOwner (htIdx f) ∧ s.ht.waiters = [] ∧ s.ht.owed = []
      ∧ meets (s.hitch (htIdx f)) (htOp f) (BitVec.ofNat 32 (htOperand f)) = false → Completes (.hitchWait rx f) s fun t =>
    ∃ e, e < 8192 ∧ t.ht.waiters = [⟨e, htIdx f, flitSrcDie f, htCore f, htThread f, htOp f, BitVec.ofNat 32 (htOperand f),
      htTimeout f, s.now, none⟩] ∧ t.ht.hitches = s.ht.hitches ∧ t.out.wakes = s.out.wakes)
  ∧ (∀ (s : State) (rx : Bool) (f : NocFlit), s.cls = .sc ∧ s.isTaken rx f = true ∧ flitType f = 0x32
      ∧ flitPoison f = false ∧ payBits f 0 5 = 1 ∧ payBits f 8 10 ≤ 575 ∧ s.test.alone = false →
    Completes (.hitchWake rx f) s fun t =>
      t.out.wakes = s.out.wakes ++ [(payBits f 8 10, payBits f 18 6, payBits f 24 2)] ∧ t.ht = s.ht)
  ∧ (∀ (s : State) (rx : Bool) (f : NocFlit), s.hasHitch = true ∧ s.isTaken rx f = true ∧ flitType f = 0x33
      ∧ flitPoison f = false ∧ htIdx f < s.cls.hitches ∧ s.fromHome rx f = true → Completes (.hitchUpdate rx f) s fun t =>
    (t.hitch (htIdx f)).value = BitVec.ofNat 32 (payBits f 16 32)
      ∧ (t.hitch (htIdx f)).gen = (payBits f 12 1 == 1) ∧ (t.hitch (htIdx f)).role = 2)
  ∧ (∀ (s : State) (f : NocFlit), s.hasHitch = true ∧ s.isTaken false f = true ∧ flitType f = 0x34
      ∧ (s.noc.qHitch.filter fun e => e.vc = 1).length < 16 ∧ htIdx f < s.cls.hitches
      ∧ flitTenant f = s.hitchOwner (htIdx f) → Completes (.hitchRead f) s fun t =>
    t.noc.qHitch = s.noc.qHitch ++ [⟨.flit (mkFlit 1 (flitTenant f) s.ownDie.toNat s.straps.hitchEp.toNat (flitSrcDie f)
        (flitSrcEp f) 0x35 (flitTag f) false (s.hitchValue (htIdx f))),
        flitVc (mkFlit 1 (flitTenant f) s.ownDie.toNat s.straps.hitchEp.toNat (flitSrcDie f)
          (flitSrcEp f) 0x35 (flitTag f) false (s.hitchValue (htIdx f))), s.now, none⟩]
      ∧ t.ht = s.ht)

/-- Timers, fences and the debug view of the hitch engine (R286, R289, R290, R292, R300): a waiter times out, a realign epoch
is counted, a fence is released at ingress and at egress, and the debug view copies one hitch, or one waiter entry, of the
moment of the write. -/
def Obligations.HitchTimersComplete : Prop :=
  (∀ (s : State) (w : Waiter), s.hasHitch = true ∧ s.ht.waiters = [w] ∧ w.timeout ≠ 0 ∧ s.aon.pwr ≠ .park
      ∧ w.desc = none → Completes (.waiterTimeout w.entry) s fun t =>
    t.ht.waiters = [] ∧ t.ht.timeouts = s.ht.timeouts + 1 ∧ t.ht.hitches = s.ht.hitches)
  ∧ (∀ s : State, s.hasHitch = true ∧ s.start.opened = true ∧ bf s.ht.ctl 0 16 ≠ 0 → Completes .realignEpoch s fun t =>
    t.ht.epoch = s.ht.epoch + 1 ∧ t.ht.hitches = s.ht.hitches ∧ t.ht.waiters = s.ht.waiters)
  ∧ (∀ (s : State) (k o : Nat), s.ht.fences = [(k, o)] ∧ s.fenceClear o = true ∧ (s.bucket k).moving = true →
    Completes (.fenceRelease k) s fun t =>
      t.ht.fences = [] ∧ t.ht.fencesDone = s.ht.fencesDone + 1 ∧ t.noc.pool = s.noc.pool)
  ∧ (∀ (s : State) (b : Fin 8) (x : RxFlit), (s.link.rx.get b).buf = [x] ∧ x.fenced = true ∧ s.egFenceClear x.acc = true
      ∧ s.still = true ∧ s.egressOpen = false ∧ x.eligible = false ∧ s.noc.redSent = [] →
    Completes (.egressFenceRelease b) s fun t => (t.link.rx.get b).buf = [{ x with fenced := false }])
  ∧ (∀ (s : State) (v : Reg), s.hasHitch = true ∧ s.start.opened = true ∧ bf v 0 12 < s.cls.hitches →
    Completes (.hitchDebugCopy v) s fun t =>
      t.ht.dbgIdx = v &&& 0xFFF ∧ tfind t.ht.dbg 0x7204 = some (s.hitch (bf v 0 12)).value
        ∧ tfind t.ht.dbg 0x7208 = some (s.hitch (bf v 0 12)).target ∧ t.ht.hitches = s.ht.hitches)
  ∧ (∀ (s : State) (v : Reg), s.hasHitch = true ∧ s.start.opened = true
      ∧ (∀ w ∈ s.ht.waiters, w.entry ≠ bf v 0 13) → Completes (.waiterDebugCopy v) s fun t =>
    t.ht.dbgWidx = v &&& 0x1FFF ∧ tfind t.ht.dbg 0x7224 = some 0 ∧ tfind t.ht.dbg 0x7228 = some 0
      ∧ t.ht.waiters = s.ht.waiters)
  ∧ (∀ (s : State) (v : Reg) (w : Waiter), s.hasHitch = true ∧ s.start.opened = true ∧ s.ht.waiters = [w]
      ∧ w.entry = bf v 0 13 → Completes (.waiterDebugCopy v) s fun t =>
    tfind t.ht.dbg 0x7224 = some (BitVec.ofNat 32 (packNat [(0, 1, 1), (1, 8, w.die), (9, 10, w.core), (19, 6, w.thread),
      (25, 2, w.op)])) ∧ tfind t.ht.dbg 0x7228 = some w.operand)

/-- Administration descriptors of hitches (R295, R296), by a ring of tenant 0: HT_CONFIG and HT_RESET of a hitch without
waiters, an abort of a hitch's or a thread's one waiter, HT_READ, HT_SIGNAL that sets a counter complete with their results,
and HT_WAIT that is not met waits. -/
def Obligations.HitchDescriptorsComplete : Prop :=
(∀ (s : State) (r : RingNo) (i : BitVec 32) (d : Desc), s.started r i 0x30 d ∧ s.cplReady r ∧ s.ringOwner r.val = 0
      ∧ s.waitersOf (bf d 64 12) = [] → Completes (.htConfig r i) s fun t =>
    s.entered t r i d 0 (bf d 80 32) 0 ∧ (t.hitch (bf d 64 12)).value = BitVec.ofNat 32 (bf d 80 32)
      ∧ (t.hitch (bf d 64 12)).target = BitVec.ofNat 32 (bf d 112 32) ∧ (t.hitch (bf d 64 12)).barrier = bit d 76
      ∧ (t.hitch (bf d 64 12)).role = BitVec.ofNat 2 (bf d 77 2) ∧ (t.hitch (bf d 64 12)).ovf = false)
  ∧ (∀ (s : State) (r : RingNo) (i : BitVec 32) (d : Desc), s.started r i 0x31 d ∧ s.cplReady r ∧ s.ringOwner r.val = 0
      ∧ s.waitersOf (bf d 64 12) = [] → Completes (.htReset r i) s fun t =>
    s.entered t r i d 0 0 0 ∧ t.hitch (bf d 64 12) = zeroHitch ∧ ∀ o ∈ t.ht.owed, o.hitch ≠ bf d 64 12)
  ∧ (∀ (s : State) (r : RingNo) (i : BitVec 32) (d : Desc) (w : Waiter), s.started r i 0x32 d ∧ s.cplReady r
      ∧ s.ringOwner r.val = 0 ∧ s.ht.waiters = [w] ∧ w.hitch = bf d 64 12 ∧ w.desc = none → Completes (.htAbort r i) s fun t =>
    s.entered t r i d 0 1 0 ∧ t.ht.waiters = [] ∧ t.ht.hitches = s.ht.hitches)
  ∧ (∀ (s : State) (r : RingNo) (i : BitVec 32) (d : Desc) (w : Waiter), s.started r i 0x33 d ∧ s.cplReady r
      ∧ s.ringOwner r.val = 0 ∧ s.ht.waiters = [w] ∧ w.die = bf d 80 8 ∧ w.core = bf d 88 10 ∧ w.thread = bf d 98 6
      ∧ w.desc = none → Completes (.htAbortThread r i) s fun t =>
    s.entered t r i d 0 1 w.hitch ∧ t.ht.waiters = [])
  ∧ (∀ (s : State) (r : RingNo) (i : BitVec 32) (d : Desc), s.started r i 0x34 d ∧ s.cplReady r ∧ s.ringOwner r.val = 0 →
    Completes (.htRead r i) s fun t =>
      s.entered t r i d 0 (packNat [(0, 32, (s.hitch (bf d 64 12)).value.toNat), (32, 32, (s.hitch (bf d 64 12)).target.toNat)])
        (packNat [(0, 1, b2n (s.hitch (bf d 64 12)).gen), (1, 1, b2n (s.hitch (bf d 64 12)).barrier),
          (2, 2, (s.hitch (bf d 64 12)).role.toNat), (4, 1, b2n (s.hitch (bf d 64 12)).ovf),
          (5, 14, (s.waitersOf (bf d 64 12)).length)]) ∧ t.ht = s.ht)
  ∧ (∀ (s : State) (r : RingNo) (i : BitVec 32) (d : Desc), s.started r i 0x35 d ∧ s.cplReady r ∧ s.ringOwner r.val = 0
      ∧ s.ht.intake = [] ∧ (s.hitch (bf d 64 12)).role = 0 ∧ (s.hitch (bf d 64 12)).barrier = false ∧ bf d 76 2 = 1
      ∧ s.ht.waiters = [] → Completes (.htSignal r i) s fun t =>
    s.entered t r i d 0 (bf d 80 32) 0 ∧ (t.hitch (bf d 64 12)).value = BitVec.ofNat 32 (bf d 80 32))
  ∧ (∀ (s : State) (r : RingNo) (i : BitVec 32) (d : Desc), s.started r i 0x36 d ∧ s.ringOwner r.val = 0
      ∧ s.ht.waiters = [] ∧ meets (s.hitch (bf d 64 12)) (bf d 76 2) (BitVec.ofNat 32 (bf d 80 32)) = false →
    Completes (.htWait r i) s fun t =>
      ∃ e, e < 8192 ∧ t.ht.waiters = [⟨e, bf d 64 12, 0xFF, r.val, 0, bf d 76 2, BitVec.ofNat 32 (bf d 80 32),
        bf d 112 20, s.now, some (r, i)⟩] ∧ t.rings.fifo = s.rings.fifo)

/-! ### The whole machine -/

/-- A step runs the command at the front of the queue on the state with the queue's rest; on an empty queue one PCLK passes
(the model's choice, assumption log 1). -/
def Obligations.StepRunsTheFrontCommand : Prop :=
(∀ (c : Instr) (rest : List Instr) (s : State), s.pending = c :: rest → step s = exec c { s with pending := rest })
  ∧ (∀ s : State, s.pending = [] → ∃ t, step s = .next t ∧ t.pending = [] ∧ t.clk.now = s.clk.now + 1)

/-- No command changes the straps of the block or the queue of waiting commands: a step takes the front command and nothing
else, so commands run in the order in which they came. -/
def Obligations.StepsKeepStrapsAndOrder : Prop :=
∀ s t : State, Steps s t → t.straps = s.straps ∧ t.pending = s.pending.tail

/-- Every event a step raises is counted, and posted, suppressed or dropped, before the step ends: none waits afterwards, from
any state (R238, R353, R355). -/
def Obligations.StepsPostEveryEvent : Prop :=
∀ s t : State, Steps s t → t.quiet

/-- Every step keeps the serial memory in its canonical form: addresses rise and no erased byte is listed (R364). -/
def Obligations.StepsKeepTheSerialMemory : Prop :=
∀ s t : State, s.memOk → Steps s t → t.memOk

/-- The state after reset (R31, R96, R391 and the Reset columns of the register tables): the start-up state, the registers with a
reset value other than zero, and both invariants; the erased serial memory is the model's choice (assumption log 2). -/
def Obligations.ResetState : Prop :=
State.reset.quiet ∧ State.reset.memOk ∧ State.reset.pending = []
  ∧ (∀ st : Straps,
      let s := State.resetAs st
      s.start.st = .reset ∧ s.aon.pwr = .off ∧ s.aon.reqN = true ∧ s.link.splCtl = 0x00905313 ∧ s.link.llCtl = 0x11
        ∧ s.cal.ctl = 0x00034015 ∧ s.noc.fcCtl = 0x215 ∧ s.rings.ctl = 0x000193E8 ∧ s.red.ctl = 0x000A0064
        ∧ s.ht.ctl = 0x00010064 ∧ s.pwr.ctl = 0x05CC8032 ∧ s.pwr.budget = 0xFFFF ∧ s.pwr.level = 256
        ∧ s.flt.ctl = 5 ∧ s.flt.tidx = 8 ∧ s.lash.window = 100 ∧ s.bight.ctl = 8 ∧ s.quiet ∧ s.memOk)

/-- The class of a block decides which engines it carries (R22, R25, Table 1.5): a contribution at a block without a reduction
engine, a message or a realign epoch at one without a hitch engine, a slot write at one without the hub's agent and an optical
report at one that faces no optical end change nothing. -/
def Obligations.AbsentEnginesChangeNothing : Prop :=
(∀ (s : State) (rx : Bool) (f : NocFlit), s.quiet ∧ s.hasRed = false → Completes (.contribHead rx f) s fun t => t = s)
  ∧ (∀ (s : State) (rx : Bool) (f : NocFlit), s.quiet ∧ s.hasRed = false → Completes (.contribData rx f) s fun t => t = s)
  ∧ (∀ (s : State) (l : List (Bool × NocFlit)), s.quiet ∧ s.hasHitch = false → Completes (.hitchSignal l) s fun t => t = s)
  ∧ (∀ (s : State) (rx : Bool) (f : NocFlit), s.quiet ∧ s.hasHitch = false → Completes (.hitchWait rx f) s fun t => t = s)
  ∧ (∀ (s : State) (rx : Bool) (f : NocFlit), s.quiet ∧ s.hasHitch = false → Completes (.hitchUpdate rx f) s fun t => t = s)
  ∧ (∀ (s : State) (f : NocFlit), s.quiet ∧ s.hasHitch = false → Completes (.hitchRead f) s fun t => t = s)
  ∧ (∀ s : State, s.quiet ∧ s.hasHitch = false → Completes .realignEpoch s fun t => t = s)
  ∧ (∀ (s : State) (a : Nat) (l : List (BitVec 8)), s.quiet ∧ s.agentHere = false →
    Completes (.smSlotWrite a l) s fun t => t = s)
  ∧ (∀ (s : State) (x y z : Reg), s.quiet ∧ s.cls.isFibre = false → Completes (.opticalReport x y z) s fun t => t = s)

/-! ### Rules stated whole -/

/-- R323: the write of FX_MTR_IDX selects a meter by TENANT, COUNTER and BANK, the read of FX_MTR_DATA_LO gives its low half and
latches its 64 bits, and the read of FX_MTR_DATA_HI gives the latched upper half. -/
def Obligations.MeterReadLatches : Prop :=
∀ (s : State) (a lo hi : Access), s.quiet ∧ s.gate a true = .take ∧ a.off.toNat = 0x901C
      ∧ s.gate lo false = .take ∧ lo.off.toNat = 0x9020 ∧ s.gate hi false = .take ∧ hi.off.toNat = 0x9024 →
    ∃ t u v, exec (.registerWrite a) s = .next t ∧ exec (.rcRead lo) t = .next u ∧ exec (.rcRead hi) u = .next v
      ∧ t.mtr.idx = BitVec.ofNat 32 (bf a.data 0 12)
      ∧ v.glob.readData ++ u.glob.readData =
          (if bit a.data 11 then meterValue s.mtr.snap s.mtr.energySnap (bf a.data 0 8) (bf a.data 8 3)
            else meterValue s.mtr.live s.mtr.energy (bf a.data 0 8) (bf a.data 8 3))
      ∧ u.mtr.latchHi = v.glob.readData ∧ v.mtr.live = s.mtr.live ∧ v.mtr.snap = s.mtr.snap
      ∧ v.glob.refusedAcc = false ∧ u.glob.refusedAcc = false ∧ t.glob.refusedAcc = false

/-- R384: a write without all four byte enables is refused and counted in PARTIAL, keeps every register and logs nothing; a read
takes no byte enables; an access through test access carries a whole word, and a misaligned one is refused. Outside OFF, where
R387 leaves three registers. -/
def Obligations.PartialWritesRefused : Prop :=
(∀ (s : State) (a : Access), s.quiet ∧ a.tap = false ∧ a.be ≠ 0xF ∧ s.aon.pwr ≠ .off → Completes (.registerWrite a) s fun t =>
    t = { s with glob.partialCnt := s.glob.partialCnt + 1, glob.readData := 0, glob.refusedAcc := true })
  ∧ (∀ (s : State) (a : Access) (be : BitVec 4), exec (.rcRead { a with be := be }) s = exec (.rcRead a) s)
  ∧ (∀ j : TapJob, j.access.be = 0xF ∧ j.access.tap = true)
  ∧ (∀ (s : State) (j : TapJob), s.quiet ∧ s.test.job = some j ∧ j.off % 4 ≠ 0 → Completes .tapAccessComplete s fun t =>
    t = { s with test.job := none, test.resOp := 2, test.resData := 0 })

/-- R258: JOB_STATUS looks up the running job of its ring's owner with the JOB of bits [79:64] and completes at once, with the
progress of Table 11.9 and the state in DETAIL bits [15:14], or with status 0x25 where no such job runs. -/
def Obligations.JobStatusAnswers : Prop :=
(∀ (s : State) (r : RingNo) (i : BitVec 32) (d : Desc), s.started r i 0x21 d ∧ s.cplReady r
      ∧ (∀ p ∈ s.red.jobs, ¬ (p.2.owner = s.ringOwner r.val ∧ rdJob p.2.desc = bf d 64 16)) →
    Completes (.jobStatus r i) s fun t => s.entered t r i d 0x25 0 0 ∧ t.red = s.red)
  ∧ (∀ (s : State) (r : RingNo) (i : BitVec 32) (d : Desc) (k : Nat) (j : RedJob), s.started r i 0x21 d ∧ s.cplReady r
      ∧ (k, j) ∈ s.red.jobs ∧ j.owner = s.ringOwner r.val ∧ rdJob j.desc = bf d 64 16
      ∧ (∀ p ∈ s.red.jobs, p.2.owner = j.owner ∧ rdJob p.2.desc = rdJob j.desc → p = (k, j)) →
    Completes (.jobStatus r i) s fun t =>
      t.red = s.red ∧ ∃ res det, s.entered t r i d 0 res det
        ∧ res % 2 ^ 32 = j.doneIdx.length % 2 ^ 32 ∧ res / 2 ^ 32 % 2 ^ 16 = min j.straggled 0xFFFF
        ∧ res / 2 ^ 48 = min j.poisonedOut 0xFFFF ∧ det % 2 ^ 7 = j.flags.toNat
        ∧ det / 2 ^ 16 = j.missing.getD 0 % 2 ^ 16
        ∧ det / 2 ^ 14 % 4 = (if j.cancelling then 3
            else if (j.idleClosed ∨ j.chunks.length + j.doneIdx.length = rdChunks j.desc)
              ∧ (∀ c ∈ j.chunks, c.st = .closed) then 2 else 1))

/-- R288: a poisoned signal, wait or update is discarded whole, counted in POISONED, and raises the hitch-poisoned event; a
poisoned wait draws an abort wake for its thread, which at class 1 goes onto its wake bus; a poisoned wake is discarded. -/
def Obligations.PoisonedHitchMessages : Prop :=
(∀ (s : State) (rx : Bool) (f : NocFlit), s.quiet ∧ s.hasHitch = true ∧ s.isTaken rx f = true ∧ flitType f = 0x30
      ∧ flitPoison f = true ∧ s.ht.intake = [] ∧ s.ht.owed = [] → Completes (.hitchSignal [(rx, f)]) s fun t =>
    t.ht = { s.ht with poisoned := s.ht.poisoned + 1 } ∧ s.counted t 0x44 ∧ t.noc.taken = s.noc.taken.erase (rx, f))
  ∧ (∀ (s : State) (rx : Bool) (f : NocFlit), s.quiet ∧ s.hasHitch = true ∧ s.isTaken rx f = true ∧ flitType f = 0x33
      ∧ flitPoison f = true → Completes (.hitchUpdate rx f) s fun t =>
    t.ht = { s.ht with poisoned := s.ht.poisoned + 1 } ∧ s.counted t 0x44 ∧ t.noc.taken = s.noc.taken.erase (rx, f))
  ∧ (∀ (s : State) (rx : Bool) (f : NocFlit), s.quiet ∧ s.cls = .sc ∧ s.isTaken rx f = true ∧ flitType f = 0x31
      ∧ flitPoison f = true ∧ s.ht.owed = [] ∧ flitSrcDie f = s.ownDie.toNat ∧ htCore f ≤ 575 ∧ s.test.alone = false →
    Completes (.hitchWait rx f) s fun t =>
      t.ht = { s.ht with poisoned := s.ht.poisoned + 1, aborts := s.ht.aborts + 1 } ∧ s.counted t 0x44
        ∧ t.out.wakes = s.out.wakes ++ [(htCore f, htThread f, 2)])
  ∧ (∀ (s : State) (rx : Bool) (f : NocFlit), s.quiet ∧ s.hasHitch = true ∧ s.isTaken rx f = true ∧ flitType f = 0x31
      ∧ flitPoison f = true ∧ s.ht.owed = [] ∧ (s.cls = .fib ∨ flitSrcDie f ≠ s.ownDie.toNat) →
    Completes (.hitchWait rx f) s fun t =>
      t.ht = { s.ht with poisoned := s.ht.poisoned + 1, aborts := s.ht.aborts + 1 } ∧ s.counted t 0x44
        ∧ t.out.wakes = s.out.wakes
        ∧ t.noc.qHitch = s.noc.qHitch ++ [⟨.flit (s.wakeFlit (flitSrcDie f) [abortWake (flitSrcDie f) (htCore f) (htThread f)]),
            flitVc (s.wakeFlit (flitSrcDie f) [abortWake (flitSrcDie f) (htCore f) (htThread f)]), s.now, none⟩])
  ∧ (∀ (s : State) (rx : Bool) (f : NocFlit), s.quiet ∧ s.cls = .sc ∧ s.isTaken rx f = true ∧ flitType f = 0x32
      ∧ flitPoison f = true → Completes (.hitchWake rx f) s fun t =>
    t = { s with noc.taken := s.noc.taken.erase (rx, f) })

/-! ### Frames: what the commands of one part leave as it was -/

/-- The clocks, the timestamps, the power switch, the limits of a reset, the pins and registers of test access, a slot write and
an optical report leave the link, the calibration, the engines, the tenancy, the lashing, the power states and the
outputs as they were (R44, R49, R53, R60 to R63, R96, R325, R359), but for a sideband loss, which ends the tests of strands
(R138); of the NoC interface they may only withhold credits, for a requested reset, and queue a message of an event. -/
def Obligations.ClockCommandsFrame : Prop :=
  ∀ (s t : State) (c : Instr), c.ofClocks = true ∧ exec c s = .next t →
    t.straps = s.straps ∧ t.link = { s.link with strands := t.link.strands, admits := t.link.admits } ∧ t.cal = s.cal
      ∧ t.red = s.red ∧ t.ht = s.ht ∧ t.ten = s.ten ∧ t.lash = s.lash ∧ t.pwr = s.pwr ∧ t.cfg = s.cfg ∧ t.out = s.out
      ∧ (c ≠ .sidebandLoss → t.link = s.link)
      ∧ t.noc = { s.noc with whReset := t.noc.whReset, qRing := t.noc.qRing }

/-- The commands of in-flight reduction leave every other engine and the link as they were (R244 to R273): what they change is
the engine itself, the completions and events they post, and the flits they take and queue at the NoC interface. -/
def Obligations.ReductionCommandsFrame : Prop :=
  ∀ (s t : State) (c : Instr), c.ofReduction = true ∧ exec c s = .next t →
    t.straps = s.straps ∧ t.aon = s.aon ∧ t.clk = s.clk ∧ t.sb = s.sb ∧ t.test = s.test ∧ t.start = s.start ∧ t.link = s.link
      ∧ t.cal = s.cal ∧ t.ht = s.ht ∧ t.cfg = s.cfg ∧ t.agent = s.agent ∧ t.pwr = s.pwr ∧ t.lash = s.lash ∧ t.mtr = s.mtr
      ∧ t.bight = s.bight ∧ t.glob = s.glob ∧ t.out = s.out

/-- The commands of the hitch engine leave every other engine, the link and the tenancy as they were (R275 to R300): what they
change is the engine itself, the completions and events they post, the flits they take and queue at the NoC interface, and the
wakes they drive. -/
def Obligations.HitchCommandsFrame : Prop :=
  ∀ (s t : State) (c : Instr), c.ofHitches = true ∧ exec c s = .next t →
    t.straps = s.straps ∧ t.aon = s.aon ∧ t.clk = s.clk ∧ t.sb = s.sb ∧ t.test = s.test ∧ t.start = s.start ∧ t.link = s.link
      ∧ t.cal = s.cal ∧ t.red = s.red ∧ t.cfg = s.cfg ∧ t.agent = s.agent ∧ t.pwr = s.pwr ∧ t.lash = s.lash ∧ t.ten = s.ten
      ∧ t.mtr = s.mtr ∧ t.bight = s.bight ∧ t.glob = s.glob

/-- The rings, their memory accesses and the credit audits leave the link, the other engines and the sideband as they were (R33,
R205, R219 to R241). -/
def Obligations.RingCommandsFrame : Prop :=
  ∀ (s t : State) (c : Instr), c.ofRings = true ∧ exec c s = .next t →
    t.straps = s.straps ∧ t.aon = s.aon ∧ t.clk = s.clk ∧ t.sb = s.sb ∧ t.test = s.test ∧ t.start = s.start ∧ t.link = s.link
      ∧ t.cal = s.cal ∧ t.red = s.red ∧ t.ht = s.ht ∧ t.cfg = s.cfg ∧ t.agent = s.agent ∧ t.pwr = s.pwr ∧ t.lash = s.lash
      ∧ t.ten = s.ten ∧ t.mtr = s.mtr ∧ t.bight = s.bight ∧ t.glob = s.glob ∧ t.out = s.out

/-- The timers of the link and the records of its strands leave the start-up, the sideband, the power states and the engines as
they were (R129, R158, R162, R168, R176, R203, R214), and of the NoC interface all but what counts a stall and queues a
message of an event. The digest and the timeouts of a lashing change the lashing alone, a LASH_WITHDRAW they queue, and what
completes the fences that wait (R311, R315, R318). -/
def Obligations.TimerCommandsFrame : Prop :=
  (∀ (s t : State) (c : Instr), c.ofTimers = true ∧ exec c s = .next t →
    t.straps = s.straps ∧ t.aon = s.aon ∧ t.clk = s.clk ∧ t.sb = s.sb ∧ t.test = s.test ∧ t.start = s.start ∧ t.red = s.red
      ∧ t.ht = s.ht ∧ t.cfg = s.cfg ∧ t.agent = s.agent ∧ t.pwr = s.pwr ∧ t.lash = s.lash ∧ t.ten = s.ten ∧ t.mtr = s.mtr
      ∧ t.bight = s.bight ∧ t.glob = s.glob ∧ t.out = s.out
      ∧ t.noc = { s.noc with stalls := t.noc.stalls, egStalled := t.noc.egStalled, qRing := t.noc.qRing })
  ∧ (∀ (s t : State) (c : Instr), c.ofLashTimers = true ∧ exec c s = .next t →
    t.straps = s.straps ∧ t.aon = s.aon ∧ t.clk = s.clk ∧ t.sb = s.sb ∧ t.test = s.test ∧ t.start = s.start ∧ t.cal = s.cal
      ∧ t.red = s.red ∧ t.ht = s.ht ∧ t.cfg = s.cfg ∧ t.agent = s.agent ∧ t.pwr = s.pwr ∧ t.ten = s.ten ∧ t.mtr = s.mtr
      ∧ t.bight = s.bight ∧ t.glob = s.glob ∧ t.out = s.out ∧ t.link.rx = s.link.rx ∧ t.link.strands = s.link.strands
      ∧ t.noc = { s.noc with qRing := t.noc.qRing })

/-- Start-up from strand detect to the first calibration leaves the engines, the lashing, the meters, the register window and all
clocks but those of the receive wrappers as they were (R64, R98 to R108, R122, R188 to R192), and of the agent all but its
topology table (R112); the frames the sideband sends, forwards and discards leave all but the sideband, its outputs, the RELEASED
flag of start-up, the drive that wakes a parked far end, and the CONTROL frames that carry copies over a fibre as they were (R38
to R41, R67, R89, R90, R98, R344). -/
def Obligations.TrainingCommandsFrame : Prop :=
  (∀ (s t : State) (c : Instr), c.ofTraining = true ∧ exec c s = .next t →
    t.straps = s.straps ∧ t.clk = { s.clk with rxwUp := t.clk.rxwUp } ∧ t.test = s.test ∧ t.red = s.red ∧ t.ht = s.ht
      ∧ t.cfg = s.cfg ∧ t.agent = { s.agent with table := t.agent.table, version := t.agent.version } ∧ t.lash = s.lash ∧ t.ten = s.ten ∧ t.mtr = s.mtr ∧ t.bight = s.bight ∧ t.glob = s.glob)
  ∧ (∀ (s t : State) (c : Instr), c.ofSideband = true ∧ exec c s = .next t →
    t.straps = s.straps ∧ t.aon = s.aon ∧ t.clk = s.clk ∧ t.test = s.test ∧ t.noc = { s.noc with qRing := t.noc.qRing }
      ∧ t.start = { s.start with sentRel := t.start.sentRel } ∧ t.link.strands = s.link.strands
      ∧ (s.fibreHub = false → t.link.rx = s.link.rx) ∧ t.cal = s.cal ∧ t.red = s.red ∧ t.ht = s.ht ∧ t.cfg = s.cfg
      ∧ t.agent = s.agent ∧ t.pwr = { s.pwr with wakeDrive := t.pwr.wakeDrive } ∧ t.lash = s.lash
      ∧ t.ten = s.ten ∧ t.mtr = s.mtr ∧ t.bight = s.bight ∧ t.glob = s.glob ∧ t.out.link = s.out.link
      ∧ t.out.egress = s.out.egress)

/-- Over every command: the test data registers and the stand-alone pin change only by the pins of test access, an access through
it, and the resets of the main island (R48, R49, R63); the registers for software and the answer of the register window change
only by an access of the window, an optical report, and those resets (R359, R382, R395 to R397). -/
def Obligations.TestAndWindowAreIsolated : Prop :=
  (∀ (s t : State) (c : Instr), c.ofTestAccess = false ∧ exec c s = .next t → t.test = s.test)
  ∧ (∀ (s t : State) (c : Instr), c.ofWindow = false ∧ exec c s = .next t → t.glob = s.glob)
end

