-- ==== Sys2Proof/Laws/BaseShared.lean ====
section
/-! SUPPORT. No shared operation over registers, events, meters and flow control changes the straps or the waiting commands: one lemma for each (`State.base`). -/

namespace Sys2Proof.Machine

set_option linter.unusedSimpArgs false
set_option linter.unusedVariables false

/-- What no command changes: the straps and the commands that wait. -/
def State.base (s : State) : Straps × List Instr := (s.straps, s.pending)
/-! `base_fold` and `base_mk` are proved by `id rfl` so that `simp` rewrites with them: as definitional steps the kernel would
compare whole records. -/

@[simp] theorem base_fold (s : State) : (s.straps, s.pending) = s.base := id rfl
@[simp] theorem base_mk f0 f1 f2 f3 f4 f5 f6 f7 f8 f9 f10 f11 f12 f13 f14 f15 f16 f17 f18 f19 f20 f21 f22 f23 : State.base (State.mk f0 f1 f2 f3 f4 f5 f6 f7 f8 f9 f10 f11 f12 f13 f14 f15 f16 f17 f18 f19 f20 f21 f22 f23) = (f0, f1) := id rfl
theorem State.base_of (s t : State) (h : s.straps = t.straps) (k : s.pending = t.pending) : s.base = t.base := by
  unfold State.base; rw [h, k]
@[simp] theorem base_ite (c : Prop) [Decidable c] (a b : State) : (if c then a else b).base = if c then a.base else b.base := by
  split <;> rfl
/-! `base_fold` and `base_mk` are proved by `id rfl` so that `simp` rewrites with them: as definitional steps the kernel would
compare whole records. -/

@[simp] theorem base_foldl {α : Type} (g : State → α → State) (l : List α) (s : State)
    (h : ∀ u x, (g u x).base = u.base) : (l.foldl g s).base = s.base := by
  induction l generalizing s with
  | nil => rfl
  | cons x l ih => rw [List.foldl_cons, ih, h]

/-! ### Ops -/

@[simp] theorem State.modTx_base (s : State) (b : Fin 8) (f : TxBraid → TxBraid) :
    (State.modTx s b f).base = s.base := by
  simp [State.modTx]

@[simp] theorem State.modRx_base (s : State) (b : Fin 8) (f : RxBraid → RxBraid) :
    (State.modRx s b f).base = s.base := by
  simp [State.modRx]

@[simp] theorem State.modShape_base (s : State) (dir : Nat) (b : Fin 8) (f : Shape → Shape) :
    (State.modShape s dir b f).base = s.base := by
  simp [State.modShape]

@[simp] theorem State.modStrand_base (s : State) (dir : Nat) (b : Fin 8) (p : Nat) (f : Strand → Strand) :
    (State.modStrand s dir b p f).base = s.base := by
  simp [State.modStrand]

@[simp] theorem State.modStrands_base (s : State) (dir : Nat) (b : Fin 8) (ps : List Nat) (f : Nat → Strand → Strand) :
    (State.modStrands s dir b ps f).base = s.base := by
  simp [State.modStrands]

@[simp] theorem State.modTrim_base (s : State) (dir : Nat) (b : Fin 8) (p : Nat) (f : Trim → Trim) :
    (State.modTrim s dir b p f).base = s.base := by
  simp [State.modTrim]

@[simp] theorem State.modRing_base (s : State) (r : Nat) (f : Ring → Ring) :
    (State.modRing s r f).base = s.base := by
  simp [State.modRing]

@[simp] theorem State.modLine_base (s : State) (k : Fin 8) (f : Line → Line) :
    (State.modLine s k f).base = s.base := by
  simp [State.modLine]

@[simp] theorem State.free_base (s : State) : (State.free s).2.base = s.base := by
  simp [State.free]

@[simp] theorem State.pick_base {α : Type} (s : State) (d : α) (l : List α) :
    (State.pick s d l).2.base = s.base := by
  simp [State.pick]

@[simp] theorem State.startPatterns_base (s : State) (m : BitVec 8) :
    (State.startPatterns s m).base = s.base := by
  simp [State.startPatterns]

@[simp] theorem State.sendCopy_base (s : State) (f : SbFrame) (b : Fin 8) :
    (State.sendCopy s f b).base = s.base := by
  simp only [State.sendCopy]; (repeat' split) <;> simp

@[simp] theorem State.sendLink_base (s : State) (f : SbFrame) : (State.sendLink s f).base = s.base := by
  simp [State.sendLink]

@[simp] theorem State.sendOpt_base (s : State) (f : SbFrame) :
    (State.sendOpt s f).base = s.base := by
  simp [State.sendOpt]

@[simp] theorem State.sendLocal_base (s : State) (typ : Nat) (payload : Nat) :
    (State.sendLocal s typ payload).base = s.base := by
  simp [State.sendLocal]

@[simp] theorem State.sendRing_base (s : State) (f : SbFrame) : (State.sendRing s f).base = s.base := by
  simp [State.sendRing]

@[simp] theorem State.sendRouted_base (s : State) (f : SbFrame) : (State.sendRouted s f).base = s.base := by
  unfold State.sendRouted; (repeat' split) <;> simp

@[simp] theorem State.cntSbProto_base (s : State) : (State.cntSbProto s).base = s.base := by
  simp [State.cntSbProto]

@[simp] theorem State.withholdReset_base (s : State) : (State.withholdReset s).base = s.base := by
  simp [State.withholdReset]

@[simp] theorem State.requestReset_base (s : State) (cause : BitVec 4) :
    (State.requestReset s cause).base = s.base := by
  simp [State.requestReset]

@[simp] theorem State.sendResetPair_base (s : State) (cause : Nat) (ack : Bool) (drain : Bool) (rel : Bool) :
    (State.sendResetPair s cause ack drain rel).base = s.base := by
  simp [State.sendResetPair]

/-! ### Protected -/

@[simp] theorem State.setProt_base (s : State) (off : Nat) (v : Reg) :
    (State.setProt s off v).base = s.base := by
  simp [State.setProt]

/-! ### Flags -/

@[simp] theorem State.raise_base (s : State) (typ : Nat) (code : Nat) (arg0 : Nat) (arg1 : Nat) (arg2 : Nat) (braid : Nat) (dir : Nat) (strand : Nat) (vc : Nat) (tenant : Nat) :
    (State.raise s typ code arg0 arg1 arg2 braid dir strand vc tenant).base = s.base := by
  simp [State.raise]

@[simp] theorem State.raiseBody_base (s : State) (typ : Nat) (body : Nat) (braid : Nat) :
    (State.raiseBody s typ body braid).base = s.base := by
  simp [State.raiseBody]

@[simp] theorem State.ringMem_base (s : State) (m : MemReq) : (State.ringMem s m).base = s.base := by
  simp [State.ringMem]

@[simp] theorem State.dirty_base (s : State) (k : Fin 8) : (State.dirty s k).base = s.base := by
  simp [State.dirty]

@[simp] theorem State.writeEntry_base (s : State) (r : Nat) (entry : Nat) (msi : Bool) :
    (State.writeEntry s r entry msi).base = s.base := by
  simp [State.writeEntry]

@[simp] theorem State.post_base (s : State) (e : Event) (seq : Nat) (ts : Nat) :
    (State.post s e seq ts).base = s.base := by
  unfold State.post; (repeat' split) <;> simp

@[simp] theorem State.countEvent_base (s : State) (e : Event) : (State.countEvent s e).base = s.base := by
  simp [State.countEvent]

@[simp] theorem State.flushEvents_base (s : State) : (State.flushEvents s).base = s.base := by
  simp [State.flushEvents]

@[simp] theorem State.raiseLimited_base (s : State) (key : Nat) (mk : State → Nat → State) (hmk : ∀ (u0 : State) (u1 : Nat), (mk u0 u1).base = u0.base) :
    (State.raiseLimited s key mk).base = s.base := by
  unfold State.raiseLimited; (repeat' split) <;> simp_all

@[simp] theorem State.boundaryErr_base (s : State) : (State.boundaryErr s).base = s.base := by
  simp [State.boundaryErr]

@[simp] theorem State.linkErr_base (s : State) : (State.linkErr s).base = s.base := by
  simp [State.linkErr]

@[simp] theorem State.sbErr_base (s : State) : (State.sbErr s).base = s.base := by
  simp [State.sbErr]

@[simp] theorem State.overrunEvent_base (s : State) (b : Fin 8) (v : Fin 8) :
    (State.overrunEvent s b v).base = s.base := by
  simp [State.overrunEvent]

/-! ### Topology -/

@[simp] theorem State.modSite_base (s : State) (n : Nat) (f : Site → Site) :
    (State.modSite s n f).base = s.base := by
  simp [State.modSite]

@[simp] theorem State.topo_base (s : State) : (State.topo s).base = s.base := by
  simp [State.topo]

@[simp] theorem State.portTopo_base (s : State) :
    (State.portTopo s).base = s.base := by
  simp only [State.portTopo]; (repeat' split) <;> simp

@[simp] theorem State.agentRaise_base (s : State) (cls : PortClass) (tile : Nat) (index : Nat) (typ : Nat) (code : Nat) (arg0 : Nat) (arg1 : Nat) (arg2 : Nat) :
    (State.agentRaise s cls tile index typ code arg0 arg1 arg2).base = s.base := by
  simp [State.agentRaise]

@[simp] theorem State.siteRaise_base (s : State) (n : Nat) (typ : Nat) (code : Nat) (arg0 : Nat) (arg1 : Nat) (arg2 : Nat) :
    (State.siteRaise s n typ code arg0 arg1 arg2).base = s.base := by
  simp [State.siteRaise]

@[simp] theorem State.lateralDown_base (s : State) :
    (State.lateralDown s).base = s.base := by
  simp only [State.lateralDown]; (repeat' split) <;> simp

/-! ### Tenancy -/

@[simp] theorem State.meter_base (s : State) (tenant : Nat) (counter : Nat) (n : Nat) :
    (State.meter s tenant counter n).base = s.base := by
  simp [State.meter]

@[simp] theorem State.meterBytes_base (s : State) (tenant : Nat) (counter : Nat) (bytes : Nat) :
    (State.meterBytes s tenant counter bytes).base = s.base := by
  simp [State.meterBytes]

@[simp] theorem State.closeEpoch_base (s : State) (cause : Nat) (closeTs : Nat) :
    (State.closeEpoch s cause closeTs).base = s.base := by
  simp [State.closeEpoch]

@[simp] theorem State.raiseDiscard_base (s : State) (f : NocFlit) (cause last : Nat) :
    (State.raiseDiscard s f cause last).base = s.base := by
  unfold State.raiseDiscard; (repeat' split) <;> simp

@[simp] theorem State.recordDiscard_base (s : State) (f : NocFlit) (cause : Nat) :
    (State.recordDiscard s f cause).base = s.base := by
  simp [State.recordDiscard]

@[simp] theorem State.answerNoc_base (s : State) (f : NocFlit) (cause : Nat) :
    (State.answerNoc s f cause).base = s.base := by
  simp [State.answerNoc]

@[simp] theorem State.answerLink_base (s : State) (f : NocFlit) (cause : Nat) :
    (State.answerLink s f cause).base = s.base := by
  simp [State.answerLink]

@[simp] theorem State.policyDiscardTx_base (s : State) (f : NocFlit) :
    (State.policyDiscardTx s f).base = s.base := by
  simp [State.policyDiscardTx]

@[simp] theorem State.policyDiscardRx_base (s : State) (f : NocFlit) :
    (State.policyDiscardRx s f).base = s.base := by
  simp [State.policyDiscardRx]

@[simp] theorem State.firewallDiscard_base (s : State) (f : NocFlit) :
    (State.firewallDiscard s f).base = s.base := by
  simp [State.firewallDiscard]

@[simp] theorem State.compareDigest_base (s : State) (b : Fin 8) (far : Nat) :
    (State.compareDigest s b far).base = s.base := by
  simp [State.compareDigest]

/-! ### Flow -/

@[simp] theorem State.returnVc_base (s : State) (v : Fin 8) : (State.returnVc s v).base = s.base := by
  simp [State.returnVc]

@[simp] theorem State.returnCredits_base (s : State) : (State.returnCredits s).base = s.base := by
  simp [State.returnCredits]

@[simp] theorem State.freeSlot_base (s : State) (v : Fin 8) : (State.freeSlot s v).base = s.base := by
  simp [State.freeSlot]

@[simp] theorem State.startCreditInit_base (s : State) : (State.startCreditInit s).base = s.base := by
  simp [State.startCreditInit]

@[simp] theorem State.zeroCredits_base (s : State) : (State.zeroCredits s).base = s.base := by
  simp [State.zeroCredits]

@[simp] theorem State.setBucket_base (s : State) (i : Nat) (b : Bucket) :
    (State.setBucket s i b).base = s.base := by
  simp [State.setBucket]

@[simp] theorem State.requeue_base (s : State) (i : Nat) (b : Fin 8) :
    (State.requeue s i b).base = s.base := by
  simp [State.requeue]

@[simp] theorem State.retarget_base (s : State) (i : Nat) (t : Fin 8) :
    (State.retarget s i t).base = s.base := by
  simp [State.retarget]

@[simp] theorem State.recomputeTargets_base (s : State) : (State.recomputeTargets s).base = s.base := by
  unfold State.recomputeTargets; dsimp only
  repeat' first
    | ((refine (base_foldl _ _ _ (fun u x => ?_)).trans ?_) <;> try dsimp only)
    | split
  all_goals first | simp | (simp_all)

@[simp] theorem State.openBuckets_base (s : State) : (State.openBuckets s).base = s.base := by
  unfold State.openBuckets; dsimp only
  repeat' first
    | ((refine (base_foldl _ _ _ (fun u x => ?_)).trans ?_) <;> try dsimp only)
    | split
  all_goals first | simp | (simp_all)

@[simp] theorem State.completeMove_base (s : State) (i : Nat) : (State.completeMove s i).base = s.base := by
  simp [State.completeMove]

@[simp] theorem State.enqueue_base (s : State) (f : NocFlit) (fenced : Bool) :
    (State.enqueue s f fenced).base = s.base := by
  simp [State.enqueue]

@[simp] theorem State.oweFrame_base (s : State) (b : Fin 8) :
    (State.oweFrame s b).base = s.base := by
  simp only [State.oweFrame]; (repeat' split) <;> simp

@[simp] theorem State.gatherOwed_base (s : State) :
    (State.gatherOwed s).base = s.base := by
  simp only [State.gatherOwed]; (repeat' split) <;> simp

@[simp] theorem State.updateXon_base (s : State) (b : Fin 8) : (State.updateXon s b).base = s.base := by
  simp only [State.updateXon]; (repeat' split) <;> simp

@[simp] theorem State.takeFlit_base (s : State) (rx : Bool) (f : NocFlit) :
    (State.takeFlit s rx f).base = s.base := by
  simp [State.takeFlit]

@[simp] theorem State.untake_base (s : State) (rx : Bool) (f : NocFlit) :
    (State.untake s rx f).base = s.base := by
  simp [State.untake]

@[simp] theorem State.egPop_base (s : State) (v : Fin 8) (i : Nat) : (State.egPop s v i).base = s.base := by
  unfold State.egPop; (repeat' split) <;> simp

@[simp] theorem State.noteReq_base (s : State) (i : Nat) (w : EgWhat) : (State.noteReq s i w).base = s.base := by
  cases w <;> simp [State.noteReq]

@[simp] theorem State.egressOne_base (s : State) : (State.egressOne s).base = s.base := by
  simp only [State.egressOne]; (repeat' split) <;> simp

@[simp] theorem State.egressN_base (x0 : Nat) (x1 : State) : (State.egressN x0 x1).base = x1.base := by
  induction x0 generalizing x1  with
    | zero => simp [State.egressN]
    | succ n ih =>
      unfold State.egressN
      (repeat' split) <;> simp [ih]

@[simp] theorem State.egressDrive_base (s : State) : (State.egressDrive s).base = s.base := by
  simp [State.egressDrive]

end Sys2Proof.Machine
end

