-- ==== Sys2Proof/Laws/BaseEngines.lean ====
section
/-! SUPPORT. The operations of the rings, the strands, calibration, reduction, the ladder and the hitches keep the straps and the waiting commands. -/

namespace Sys2Proof.Machine

set_option linter.unusedSimpArgs false
set_option linter.unusedVariables false

/-! ### RingOps -/

@[simp] theorem State.ringEvent_base (s : State) (r : Nat) (code : Nat) (config : Bool) (index : Nat) :
    (State.ringEvent s r code config index).base = s.base := by
  simp [State.ringEvent]

@[simp] theorem State.cfgRefuse_base (s : State) (r : Nat) (code : Nat) :
    (State.cfgRefuse s r code).base = s.base := by
  simp [State.cfgRefuse]

@[simp] theorem State.watchRead_base (s : State) (k : Fin 8) : (State.watchRead s k).base = s.base := by
  simp [State.watchRead]

@[simp] theorem State.writeShadow_base (s : State) (k : Fin 8) : (State.writeShadow s k).base = s.base := by
  simp [State.writeShadow]

@[simp] theorem State.indexMoved_base (s : State) (r : Nat) : (State.indexMoved s r).base = s.base := by
  simp [State.indexMoved]

@[simp] theorem State.discardFifo_base (s : State) (c : Nat) : (State.discardFifo s c).base = s.base := by
  simp [State.discardFifo]

@[simp] theorem State.haltOne_base (s : State) (r : Nat) (code : Nat) (index : Nat) :
    (State.haltOne s r code index).base = s.base := by
  simp [State.haltOne]

@[simp] theorem State.haltRing_base (s : State) (r : Nat) (code : Nat) (index : Nat) :
    (State.haltRing s r code index).base = s.base := by
  simp [State.haltRing]

@[simp] theorem State.fetchMore_base (x0 : Nat) (x1 : State) (x2 : Nat) :
    (State.fetchMore x0 x1 x2).base = x1.base := by
  induction x0 generalizing x1 x2 with
    | zero => simp [State.fetchMore]
    | succ n ih =>
      unfold State.fetchMore
      (repeat' split) <;> simp [ih]

@[simp] theorem State.consume_base (s : State) (r : Nat) : (State.consume s r).base = s.base := by
  simp [State.consume]

@[simp] theorem State.applySlot_base (s : State) (r : Nat) (v : BitVec 32) :
    (State.applySlot s r v).base = s.base := by
  simp [State.applySlot]

@[simp] theorem State.modDesc_base (s : State) (r : Nat) (i : BitVec 32) (f : RingDesc → RingDesc) :
    (State.modDesc s r i f).base = s.base := by
  simp [State.modDesc]

@[simp] theorem State.reserve_base (s : State) (r : Nat) : (State.reserve s r).base = s.base := by
  simp [State.reserve]

@[simp] theorem State.loseEntry_base (s : State) (c : Nat) : (State.loseEntry s c).base = s.base := by
  simp [State.loseEntry]

@[simp] theorem State.leaveLine_base (s : State) (k : Fin 8) : (State.leaveLine s k).base = s.base := by
  simp [State.leaveLine]

@[simp] theorem State.drainedRing_base (s : State) (r : Nat) : (State.drainedRing s r).base = s.base := by
  simp [State.drainedRing]

@[simp] theorem State.completeOne_base (s : State) (r : Nat) (i : BitVec 32) (status : Nat) (result : Nat) (detail : Nat) :
    (State.completeOne s r i status result detail).base = s.base := by
  unfold State.completeOne; (repeat' split) <;> simp

@[simp] theorem State.settleCancels_base (x0 : Nat) (x1 : State) :
    (State.settleCancels x0 x1).base = x1.base := by
  induction x0 generalizing x1  with
    | zero => simp [State.settleCancels]
    | succ n ih =>
      unfold State.settleCancels
      (repeat' split) <;> simp [ih]

@[simp] theorem State.complete_base (s : State) (r : Nat) (i : BitVec 32) (status : Nat) (result : Nat) (detail : Nat) :
    (State.complete s r i status result detail).base = s.base := by
  simp [State.complete]

@[simp] theorem State.completeUnstarted_base (s : State) (r : Nat) (i : BitVec 32) (status : Nat) :
    (State.completeUnstarted s r i status).base = s.base := by
  simp [State.completeUnstarted]

@[simp] theorem State.startDesc_base (s : State) (r : Nat) (e : RingDesc) :
    (State.startDesc s r e).base = s.base := by
  simp [State.startDesc]

@[simp] theorem State.withDesc_base (s : State) (r : RingNo) (i : BitVec 32) (op : Nat) (work : Desc → State → State) (hwork : ∀ (u0 : Desc) (u1 : State), (work u0 u1).base = u1.base) :
    (State.withDesc s r i op work).base = s.base := by
  unfold State.withDesc; (repeat' split) <;> simp_all

@[simp] theorem State.sendMsi_base (s : State) (r : Nat) : (State.sendMsi s r).base = s.base := by
  simp [State.sendMsi]

@[simp] theorem State.requestMsi_base (s : State) (r : Nat) : (State.requestMsi s r).base = s.base := by
  simp only [State.requestMsi]; (repeat' split) <;> simp

/-! ### Trims -/

@[simp] theorem State.retain_base (s : State) (dir : Nat) (b : Fin 8) (p : Nat) :
    (State.retain s dir b p).base = s.base := by
  simp [State.retain]

@[simp] theorem State.settleGoal_base (s : State) (dir : Nat) (b : Fin 8) (p : Nat) :
    (State.settleGoal s dir b p).base = s.base := by
  simp only [State.settleGoal]; (repeat' split) <;> simp

@[simp] theorem State.restoreServe_base (s : State) (b : Fin 8) (c : CalServe) :
    (State.restoreServe s b c).base = s.base := by
  simp only [State.restoreServe]; (repeat' split) <;> simp

@[simp] theorem State.restoreTrims_base (s : State) (b : Fin 8) (r : CalRun) :
    (State.restoreTrims s b r).base = s.base := by
  simp [State.restoreTrims]

@[simp] theorem State.dropPending_base (s : State) (dir : Nat) (b : Fin 8) :
    (State.dropPending s dir b).base = s.base := by
  simp [State.dropPending]

@[simp] theorem State.captureFibre_base (s : State) (dir : Nat) (b : Fin 8) (p : Nat) (temp1 : Nat) (temp6 : Nat) :
    (State.captureFibre s dir b p temp1 temp6).base = s.base := by
  simp only [State.captureFibre]; (repeat' split) <;> simp

/-! ### StrandOps -/

@[simp] theorem State.sendCtl_base (s : State) (b : Fin 8) (opcode : Nat) (p : NocFlit) :
    (State.sendCtl s b opcode p).base = s.base := by
  simp [State.sendCtl]

@[simp] theorem State.quarantine_base (s : State) (dir : Nat) (b : Fin 8) (p : Nat) (code : Nat) :
    (State.quarantine s dir b p code).base = s.base := by
  simp [State.quarantine]

@[simp] theorem State.release_base (s : State) (dir : Nat) (b : Fin 8) (p : Nat) (disp : Nat) (code : Nat) :
    (State.release s dir b p disp code).base = s.base := by
  unfold State.release; (repeat' split) <;> simp

@[simp] theorem State.settleSpares_base (s : State) (dir : Nat) (b : Fin 8) :
    (State.settleSpares s dir b).base = s.base := by
  simp [State.settleSpares]

@[simp] theorem State.setMap_base (s : State) (dir : Nat) (b : Fin 8) (map : List Nat) (clock : Nat) :
    (State.setMap s dir b map clock).base = s.base := by
  simp [State.setMap]

@[simp] theorem State.opDone_base (s : State) (o : StrandOp) (status : Nat) (result : Nat) (detail : Nat) :
    (State.opDone s o status result detail).base = s.base := by
  unfold State.opDone; (repeat' split) <;> simp

@[simp] theorem State.restoreOp_base (s : State) (dir : Nat) (b : Fin 8) (o : StrandOp) (code : Nat) :
    (State.restoreOp s dir b o code).base = s.base := by
  simp [State.restoreOp]

@[simp] theorem State.refuseReq_base (s : State) (b : Fin 8) (o : StrandOp) (code : Nat) :
    (State.refuseReq s b o code).base = s.base := by
  simp [State.refuseReq]

@[simp] theorem State.queueOp_base (s : State) (b : Fin 8) (o : StrandOp) :
    (State.queueOp s b o).base = s.base := by
  simp only [State.queueOp]; (repeat' split) <;> simp

@[simp] theorem State.assignOp_base (s : State) (b : Fin 8) (o : StrandOp) :
    (State.assignOp s b o).2.base = s.base := by
  simp [State.assignOp]

@[simp] theorem State.sendPrepare_base (s : State) (b : Fin 8) (p : NocFlit) :
    (State.sendPrepare s b p).base = s.base := by
  simp [State.sendPrepare]

@[simp] theorem State.mirrorTo_base (s : State) (dir : Nat) (b : Fin 8) (p : Nat) :
    (State.mirrorTo s dir b p).base = s.base := by
  simp [State.mirrorTo]

@[simp] theorem State.beginReef_base (s : State) (b : Fin 8) (o : StrandOp) (width : Nat) :
    (State.beginReef s b o width).base = s.base := by
  simp [State.beginReef]

@[simp] theorem State.beginSplice_base (s : State) (b : Fin 8) (o : StrandOp) (dest : Nat) :
    (State.beginSplice s b o dest).base = s.base := by
  simp [State.beginSplice]

@[simp] theorem State.beginOp_base (s : State) (b : Fin 8) (o : StrandOp) (retire : State → State) (hretire : ∀ (u0 : State), (retire u0).base = u0.base) :
    (State.beginOp s b o retire).base = s.base := by
  unfold State.beginOp; dsimp only
  repeat' first
    | ((refine (base_foldl _ _ _ (fun u x => ?_)).trans ?_) <;> try dsimp only)
    | split
  all_goals first | simp | (simp_all)

@[simp] theorem State.runQueue_base (retire : Fin 8 → State → State) (x0 : Nat) (x1 : State) (x2 : Fin 8) (hretire : ∀ (u0 : Fin 8) (u1 : State), (retire u0 u1).base = u1.base) :
    (State.runQueue retire x0 x1 x2).base = x1.base := by
  induction x0 generalizing x1 with
  | zero => rfl
  | succ n ih =>
    unfold State.runQueue
    split
    · rfl
    · dsimp only
      rw [ih]
      simp [hretire]

@[simp] theorem State.countSwitch_base (s : State) (dir : Nat) (b : Fin 8) (o : StrandOp) :
    (State.countSwitch s dir b o).base = s.base := by
  simp [State.countSwitch]

@[simp] theorem State.moveMap_base (s : State) (dir : Nat) (b : Fin 8) (o : StrandOp) :
    (State.moveMap s dir b o).base = s.base := by
  simp [State.moveMap]

@[simp] theorem State.dispose_base (s : State) (dir : Nat) (b : Fin 8) (o : StrandOp) :
    (State.dispose s dir b o).base = s.base := by
  simp [State.dispose]

@[simp] theorem State.switchRx_base (s : State) (b : Fin 8) (o : StrandOp) :
    (State.switchRx s b o).base = s.base := by
  simp [State.switchRx]

@[simp] theorem State.switchTx_base (s : State) (b : Fin 8) (o : StrandOp) :
    (State.switchTx s b o).base = s.base := by
  simp [State.switchTx]

@[simp] theorem State.serveDone_base (s : State) (b : Fin 8) (v : CalServe) :
    (State.serveDone s b v).base = s.base := by
  simp only [State.serveDone]; (repeat' split) <;> simp

@[simp] theorem State.calHold_base (s : State) (b : Fin 8) (o : StrandOp) :
    (State.calHold s b o).base = s.base := by
  simp only [State.calHold]; (repeat' split) <;> simp

@[simp] theorem State.settleTx_base (s : State) (b : Fin 8) (o : StrandOp) :
    (State.settleTx s b o).base = s.base := by
  simp [State.settleTx]

@[simp] theorem State.calReturnLost_base (s : State) (b : Fin 8) (code : Nat) :
    (State.calReturnLost s b code).base = s.base := by
  simp only [State.calReturnLost]; (repeat' split) <;> simp

@[simp] theorem State.abortTx_base (s : State) (b : Fin 8) (code : Nat) (tell : Bool) :
    (State.abortTx s b code tell).base = s.base := by
  unfold State.abortTx; (repeat' split) <;> simp

@[simp] theorem State.abortRx_base (s : State) (b : Fin 8) (code : Nat) (tell : Bool) :
    (State.abortRx s b code tell).base = s.base := by
  unfold State.abortRx; (repeat' split) <;> simp

@[simp] theorem State.supersede_base (s : State) (dir : Nat) (b : Fin 8) :
    (State.supersede s dir b).base = s.base := by
  simp [State.supersede]

@[simp] theorem State.requestFar_base (s : State) (b : Fin 8) (o : StrandOp) :
    (State.requestFar s b o).base = s.base := by
  simp [State.requestFar]

/-! ### CalOps -/

@[simp] theorem State.qualToken_base (s : State) : (State.qualToken s).2.base = s.base := by
  simp [State.qualToken]

@[simp] theorem State.postQual_base (s : State) (q : QualWait) : (State.postQual s q).base = s.base := by
  simp only [State.postQual]; (repeat' split) <;> simp

@[simp] theorem State.postWaiting_base (x0 : Nat) (x1 : State) :
    (State.postWaiting x0 x1).base = x1.base := by
  induction x0 generalizing x1  with
    | zero => simp [State.postWaiting]
    | succ n ih =>
      unfold State.postWaiting
      (repeat' split) <;> simp [ih]

@[simp] theorem State.closeQual_base (s : State) (b : Fin 8) (p : Nat) (kind : Nat) (m : Meas) (status : Nat) (scan : Option (RingNo × BitVec 32)) :
    (State.closeQual s b p kind m status scan).base = s.base := by
  simp [State.closeQual]

@[simp] theorem State.modRun_base (s : State) (b : Fin 8) (f : CalRun → CalRun) :
    (State.modRun s b f).base = s.base := by
  simp [State.modRun]

@[simp] theorem State.sendCalStep_base (s : State) (b : Fin 8) (r : CalRun) (step : Nat) :
    (State.sendCalStep s b r step).base = s.base := by
  simp [State.sendCalStep]

@[simp] theorem State.firstStep_base (s : State) (b : Fin 8) : (State.firstStep s b).base = s.base := by
  unfold State.firstStep; (repeat' split) <;> simp

@[simp] theorem State.calReport_base (s : State) (b : Fin 8) (p : Nat) (status : Nat) (only : Option (RingNo × BitVec 32)) :
    (State.calReport s b p status only).base = s.base := by
  simp [State.calReport]

@[simp] theorem State.finishCal_base (s : State) (b : Fin 8) (r : CalRun) (status : Nat) (m : Meas) :
    (State.finishCal s b r status m).base = s.base := by
  unfold State.finishCal; (repeat' split) <;> simp

@[simp] theorem State.loadFound_base (s : State) (b : Fin 8) (r : CalRun) :
    (State.loadFound s b r).base = s.base := by
  simp only [State.loadFound]; (repeat' split) <;> simp

@[simp] theorem State.endSteps_base (s : State) (b : Fin 8) (status : Nat) (m : Meas) :
    (State.endSteps s b status m).base = s.base := by
  unfold State.endSteps; (repeat' split) <;> simp

@[simp] theorem State.standAside_base (s : State) (b : Fin 8) (p : Nat) :
    (State.standAside s b p).base = s.base := by
  simp [State.standAside]

@[simp] theorem State.beginCal_base (s : State) (b : Fin 8) (p : Nat) (range : Option Nat) :
    (State.beginCal s b p range).base = s.base := by
  simp only [State.beginCal]; (repeat' split) <;> simp

@[simp] theorem State.calRun_base (x0 : Nat) (x1 : State) (x2 : Fin 8) :
    (State.calRun x0 x1 x2).base = x1.base := by
  induction x0 generalizing x1 x2 with
    | zero => simp [State.calRun]
    | succ n ih =>
      unfold State.calRun
      (repeat' split) <;> simp [ih]

@[simp] theorem State.calNext_base (s : State) (b : Fin 8) : (State.calNext s b).base = s.base := by
  simp [State.calNext]

@[simp] theorem State.calAll_base (s : State) :
    (State.calAll s).base = s.base := by
  simp [State.calAll]

@[simp] theorem State.refuseCal_base (s : State) (b : Fin 8) (p : Nat) (status : Nat) (job : Option (RingNo × BitVec 32)) :
    (State.refuseCal s b p status job).base = s.base := by
  simp only [State.refuseCal]; (repeat' split) <;> simp

@[simp] theorem State.askCal_base (s : State) (b : Fin 8) (p : Nat) (job : Option (RingNo × BitVec 32)) :
    (State.askCal s b p job).base = s.base := by
  simp [State.askCal]

@[simp] theorem State.askMoves_base (s : State) : (State.askMoves s).base = s.base := by
  simp [State.askMoves]

@[simp] theorem State.calRetrain_base (s : State) (dir : Nat) (b : Fin 8) :
    (State.calRetrain s dir b).base = s.base := by
  simp only [State.calRetrain]; (repeat' split) <;> simp

@[simp] theorem State.calReset_base (s : State) :
    (State.calReset s).base = s.base := by
  unfold State.calReset; split
  · rfl
  · apply base_foldl; intro u b; (repeat' split) <;> simp

@[simp] theorem State.calAborted_base (s : State) (b : Fin 8) (o : StrandOp) (code : Nat) :
    (State.calAborted s b o code).base = s.base := by
  unfold State.calAborted; (repeat' split) <;> simp

@[simp] theorem State.calSwitched_base (s : State) (b : Fin 8) (o : StrandOp) :
    (State.calSwitched s b o).base = s.base := by
  unfold State.calSwitched; (repeat' split) <;> simp

/-! ### RedOps -/

@[simp] theorem State.modJob_base (s : State) (slot : Nat) (f : RedJob → RedJob) :
    (State.modJob s slot f).base = s.base := by
  simp [State.modJob]

@[simp] theorem State.modChunk_base (s : State) (slot : Nat) (idx : Nat) (f : Chunk → Chunk) :
    (State.modChunk s slot idx f).base = s.base := by
  simp [State.modChunk]

@[simp] theorem State.redEgress_base (s : State) (w : EgWhat) (vc : Fin 8) (last : Option (Nat × Nat)) :
    (State.redEgress s w vc last).base = s.base := by
  simp [State.redEgress]

@[simp] theorem State.redDiscard_base (s : State) (slot : Option Nat) (cause : Nat) (job : Nat) (chunk : Nat) (rank : Nat) :
    (State.redDiscard s slot cause job chunk rank).base = s.base := by
  simp only [State.redDiscard]; (repeat' split) <;> simp

@[simp] theorem State.takeHeld_base (s : State) (slot : Nat) (d : Desc) (c : Chunk) (h : HeldRank) :
    (State.takeHeld s slot d c h).2.base = s.base := by
  simp [State.takeHeld]

@[simp] theorem State.advance_base (x0 : Nat) (x1 : State) (x2 : Nat) (x3 : Desc) (x4 : Chunk) :
    (State.advance x0 x1 x2 x3 x4).2.base = x1.base := by
  induction x0 generalizing x1 x2 x3 x4 with
    | zero => simp [State.advance]
    | succ n ih =>
      unfold State.advance
      (repeat' split) <;> simp [ih]

@[simp] theorem State.combineAll_base (x0 : Nat) (x1 : State) (x2 : Nat) (x3 : Desc) (x4 : Chunk) :
    (State.combineAll x0 x1 x2 x3 x4).2.base = x1.base := by
  induction x0 generalizing x1 x2 x3 x4 with
    | zero => simp [State.combineAll]
    | succ n ih =>
      unfold State.combineAll
      (repeat' split) <;> simp [ih]

@[simp] theorem State.closeWith_base (s : State) (slot : Nat) (j : RedJob) (c : Chunk) (vals : List Nat) :
    (State.closeWith s slot j c vals).base = s.base := by
  simp [State.closeWith]

@[simp] theorem State.closeChunk_base (s : State) (slot : Nat) (j : RedJob) (c : Chunk) :
    (State.closeChunk s slot j c).base = s.base := by
  simp [State.closeChunk]

@[simp] theorem State.loseStreams_base (s : State) (slot : Nat) (lost : Nat → Bool) :
    (State.loseStreams s slot lost).base = s.base := by
  simp only [State.loseStreams]; (repeat' split) <;> simp

@[simp] theorem State.putChunk_base (s : State) (slot : Nat) (c : Chunk) :
    (State.putChunk s slot c).base = s.base := by
  unfold State.putChunk; (repeat' split) <;> simp

@[simp] theorem State.startRefill_base (s : State) (slot : Nat) (idx : Nat) :
    (State.startRefill s slot idx).base = s.base := by
  unfold State.startRefill; (repeat' split) <;> simp

@[simp] theorem State.timerClose_base (s : State) (slot : Nat) (idx : Nat) :
    (State.timerClose s slot idx).base = s.base := by
  simp only [State.timerClose]; (repeat' split) <;> simp

@[simp] theorem State.spillOut_base (s : State) (j : RedJob) (gs : List Nat) (slot idx : Nat) (lines : List Nat) :
    (State.spillOut s j gs slot idx lines).base = s.base :=
  base_foldl _ _ _ fun u x => by simp

@[simp] theorem State.spillOne_base (s : State) (slot : Nat) (c : Chunk) :
    (State.spillOne s slot c).base = s.base := by
  unfold State.spillOne; split <;> simp

@[simp] theorem State.findGrans_base (x0 : Nat) (x1 : State) (x2 : Nat) (x3 : Nat) (x4 : Nat) :
    (State.findGrans x0 x1 x2 x3 x4).2.base = x1.base := by
  induction x0 generalizing x1 x2 x3 x4 with
    | zero => simp [State.findGrans]
    | succ n ih =>
      unfold State.findGrans
      (repeat' split) <;> simp [ih]

@[simp] theorem State.jobHitch_base (s : State) (j : RedJob) : (State.jobHitch s j).base = s.base := by
  simp [State.jobHitch]

@[simp] theorem State.endJob_base (s : State) (slot : Nat) : (State.endJob s slot).base = s.base := by
  unfold State.endJob; (repeat' split) <;> simp

@[simp] theorem State.jobSettle_base (s : State) (slot : Nat) : (State.jobSettle s slot).base = s.base := by
  unfold State.jobSettle; (repeat' split) <;> simp

@[simp] theorem State.chunkSettle_base (s : State) (slot : Nat) (idx : Nat) :
    (State.chunkSettle s slot idx).base = s.base := by
  unfold State.chunkSettle; (repeat' split) <;> simp

@[simp] theorem State.redSettle_base (s : State) : (State.redSettle s).base = s.base := by
  simp [State.redSettle]

@[simp] theorem State.egressStep_base (s : State) : (State.egressStep s).base = s.base := by
  simp [State.egressStep]

@[simp] theorem State.redFeed_base (s : State) : (State.redFeed s).base = s.base := by
  simp [State.redFeed]

@[simp] theorem State.outputChunk_base (s : State) (slot : Nat) (idx : Nat) :
    (State.outputChunk s slot idx).base = s.base := by
  unfold State.outputChunk; (repeat' split) <;> simp

@[simp] theorem State.closeJob_base (s : State) (slot : Nat) (parked : Bool) :
    (State.closeJob s slot parked).base = s.base := by
  unfold State.closeJob; (repeat' split) <;> simp

@[simp] theorem State.redPark_base (s : State) : (State.redPark s).base = s.base := by
  simp [State.redPark]

@[simp] theorem State.cancelJob_base (s : State) (slot : Nat) : (State.cancelJob s slot).base = s.base := by
  simp [State.cancelJob]

@[simp] theorem State.mirrorOut_base (s : State) (f : NocFlit) : (State.mirrorOut s f).2.base = s.base := by
  unfold State.mirrorOut; (repeat' split) <;> simp

@[simp] theorem State.truncate_base (s : State) (t : Stream) : (State.truncate s t).base = s.base := by
  simp only [State.truncate]; (repeat' split) <;> simp

@[simp] theorem State.admitHead_base (s : State) (rx : Bool) (key : List Nat) (f : NocFlit) (slot : Nat) (d : Desc) (ch : Chunk)
    (fresh : Bool) : (State.admitHead s rx key f slot d ch fresh).base = s.base := by
  simp only [State.admitHead]; (repeat' split) <;> simp

@[simp] theorem State.acceptHead_base (s : State) (rx : Bool) (key : List Nat) (f : NocFlit) (slot : Nat) (j : RedJob) :
    (State.acceptHead s rx key f slot j).base = s.base := by
  simp only [State.acceptHead]; (repeat' split) <;> simp

@[simp] theorem State.joinData_base (s : State) (t : Stream) (f : NocFlit) (slot : Nat) (j : RedJob) (c : Chunk) (rank : Nat)
    (img : List (BitVec 512)) (last : Bool) : (State.joinData s t f slot j c rank img last).base = s.base := by
  simp only [State.joinData]; (repeat' split) <;> simp

@[simp] theorem State.takeData_base (s : State) (t : Stream) (f : NocFlit) :
    (State.takeData s t f).base = s.base := by
  simp only [State.takeData]; (repeat' split) <;> simp

@[simp] theorem State.takeHead_base (s : State) (rx : Bool) (f : NocFlit) :
    (State.takeHead s rx f).base = s.base := by
  simp only [State.takeHead]; (repeat' split) <;> simp

@[simp] theorem State.heldFlit_base (rx : Bool) (key : List Nat) (s : State) (f : NocFlit) :
    (State.heldFlit rx key s f).base = s.base := by
  unfold State.heldFlit; split <;> simp

@[simp] theorem State.applyHeld_base (s : State) (slot : Nat) (h : PreHeld) :
    (State.applyHeld s slot h).base = s.base := by
  have k : ∀ (key : List Nat) (u : State), (h.data.foldl (State.heldFlit h.rx key) u).base = u.base :=
    fun key u => base_foldl _ _ _ fun u x => State.heldFlit_base ..
  unfold State.applyHeld
  split
  · rfl
  · dsimp only
    (repeat' split) <;> simp [k]

/-! ### Ladder -/

@[simp] theorem State.sendTrain_base (s : State) (phase : Nat) (braid : Nat) (attempt : Nat) (fields : List (Nat × Nat × Nat)) :
    (State.sendTrain s phase braid attempt fields).base = s.base := by
  simp [State.sendTrain]

@[simp] theorem State.forgetTrain_base (s : State) (braid : Nat) (phases : List Nat) :
    (State.forgetTrain s braid phases).base = s.base := by
  simp [State.forgetTrain]

@[simp] theorem State.beginDetect_base (s : State) (b : Fin 8) (attempt : Nat) :
    (State.beginDetect s b attempt).base = s.base := by
  simp [State.beginDetect]

@[simp] theorem State.postRun_base (s : State) (b : Fin 8) : (State.postRun s b).base = s.base := by
  unfold State.postRun; (repeat' split) <;> simp

@[simp] theorem State.quietBraid_base (s : State) (b : Fin 8) : (State.quietBraid s b).base = s.base := by
  simp [State.quietBraid]

@[simp] theorem State.beginRetrain_base (s : State) (b : Fin 8) (revive : Bool) :
    (State.beginRetrain s b revive).base = s.base := by
  simp [State.beginRetrain]

@[simp] theorem State.startPortRetrain_base (s : State) : (State.startPortRetrain s).base = s.base := by
  simp [State.startPortRetrain]

@[simp] theorem State.startBelay_base (s : State) (case : Nat) : (State.startBelay s case).base = s.base := by
  simp [State.startBelay]

@[simp] theorem State.endBelay_base (s : State) (case : Nat) : (State.endBelay s case).base = s.base := by
  simp [State.endBelay]

@[simp] theorem State.judgeDown_base (s : State) :
    (State.judgeDown s).base = s.base := by
  simp only [State.judgeDown]; (repeat' split) <;> simp

@[simp] theorem State.checkDown_base (s : State) : (State.checkDown s).base = s.base := by
  simp [State.checkDown]

@[simp] theorem State.retireStrands_base (s : State) (dir : Nat) (b : Fin 8) :
    (State.retireStrands s dir b).base = s.base := by
  simp [State.retireStrands]

@[simp] theorem State.retireDir_base (s : State) (dir : Nat) (b : Fin 8) :
    (State.retireDir s dir b).base = s.base := by
  simp [State.retireDir]

@[simp] theorem State.sendFinal_base (s : State) (b : Fin 8) : (State.sendFinal s b).base = s.base := by
  unfold State.sendFinal; (repeat' split) <;> simp

@[simp] theorem State.sendFinals_base (s : State) : (State.sendFinals s).base = s.base := by
  simp [State.sendFinals]

@[simp] theorem State.failDir_base (s : State) (dir : Nat) (b : Fin 8) :
    (State.failDir s dir b).base = s.base := by
  simp only [State.failDir]; (repeat' split) <;> simp

@[simp] theorem State.failRetrain_base (s : State) (b : Fin 8) (tx : Bool) (rx : Bool) :
    (State.failRetrain s b tx rx).base = s.base := by
  simp [State.failRetrain]

@[simp] theorem State.settleRetrains_base (s : State) (b : Fin 8) :
    (State.settleRetrains s b).base = s.base := by
  simp [State.settleRetrains]

@[simp] theorem State.failEarly_base (s : State) (b : Fin 8) :
    (State.failEarly s b).base = s.base := by
  simp only [State.failEarly]; (repeat' split) <;> simp

@[simp] theorem State.startRetrain_base (s : State) (b : Fin 8) (revive : Bool) :
    (State.startRetrain s b revive).base = s.base := by
  simp [State.startRetrain]

@[simp] theorem State.startReplay_base (s : State) (b : Fin 8) (frm : BitVec 16) :
    (State.startReplay s b frm).base = s.base := by
  simp only [State.startReplay]; (repeat' split) <;> simp

@[simp] theorem State.resendAll_base (s : State) (b : Fin 8) : (State.resendAll s b).base = s.base := by
  simp [State.resendAll]

/-! ### HitchOps -/

@[simp] theorem State.modHitch_base (s : State) (i : Nat) (f : Hitch → Hitch) :
    (State.modHitch s i f).base = s.base := by
  simp [State.modHitch]

@[simp] theorem State.htEgress_base (s : State) (f : NocFlit) : (State.htEgress s f).base = s.base := by
  simp [State.htEgress]

@[simp] theorem State.busWake_base (s : State) (core : Nat) (thread : Nat) (cause : Nat) :
    (State.busWake s core thread cause).base = s.base := by
  simp [State.busWake]

@[simp] theorem State.issueWakes_base (s : State) (l : List Wake) :
    (State.issueWakes s l).base = s.base := by
  unfold State.issueWakes; dsimp only
  repeat' first
    | ((refine (base_foldl _ _ _ (fun u x => ?_)).trans ?_) <;> try dsimp only)
    | split
  all_goals first | simp | (simp_all)

@[simp] theorem State.sendWakes_base (s : State) (l : List Wake) : (State.sendWakes s l).base = s.base := by
  unfold State.sendWakes; dsimp only
  repeat' first
    | ((refine (base_foldl _ _ _ (fun u x => ?_)).trans ?_) <;> try dsimp only)
    | split
  all_goals first | simp | (simp_all)

@[simp] theorem State.onePclk_base (s : State) (work : State → State) (hwork : ∀ (u0 : State), (work u0).base = u0.base) :
    (State.onePclk s work).base = s.base := by
  simp [State.onePclk, hwork]

@[simp] theorem State.evalWaiters_base (s : State) (i : Nat) : (State.evalWaiters s i).base = s.base := by
  simp [State.evalWaiters]

@[simp] theorem State.enterWait_base (s : State) (i : Nat) (die : Nat) (core : Nat) (thread : Nat) (op : Nat) (operand : BitVec 32) (timeout : Nat) (desc : Option (RingNo × BitVec 32)) :
    (State.enterWait s i die core thread op operand timeout desc).base = s.base := by
  unfold State.enterWait; (repeat' split) <;> simp

@[simp] theorem State.owe_base (s : State) (i : Nat) (link : Nat) (realign : Bool) :
    (State.owe s i link realign).base = s.base := by
  simp [State.owe]

@[simp] theorem State.oweAll_base (s : State) (i : Nat) (realign : Bool) :
    (State.oweAll s i realign).base = s.base := by
  simp [State.oweAll]

@[simp] theorem State.feedOne_base (s : State) : (State.feedOne s).base = s.base := by
  simp only [State.feedOne]; (repeat' split) <;> simp

@[simp] theorem State.htFeed_base (s : State) : (State.htFeed s).base = s.base := by
  simp [State.htFeed]

@[simp] theorem State.hitchChanged_base (s : State) (i : Nat) : (State.hitchChanged s i).base = s.base := by
  simp [State.hitchChanged]

@[simp] theorem State.refuseSig_base (s : State) (g : Sig) (code : Nat) :
    (State.refuseSig s g code).base = s.base := by
  simp [State.refuseSig]

@[simp] theorem State.signed_base (s : State) (l : List Sig) : (State.signed s l).base = s.base := by
  unfold State.signed; (repeat' split) <;> simp

@[simp] theorem State.counterCycle_base (s : State) (i : Nat) (l : List Sig) :
    (State.counterCycle s i l).base = s.base := by
  simp only [State.counterCycle]; (repeat' split) <;> simp

@[simp] theorem State.barrierCycle_base (s : State) (i : Nat) (l : List Sig) :
    (State.barrierCycle s i l).1.base = s.base := by
  simp only [State.barrierCycle]; (repeat' split) <;> simp

@[simp] theorem State.hitchCycle_base (s : State) (i : Nat) (l : List Sig) :
    (State.hitchCycle s i l).1.base = s.base := by
  simp only [State.hitchCycle]; (repeat' split) <;> simp

@[simp] theorem State.signalCycle_base (s : State) (new : List (NocFlit × Bool)) :
    (State.signalCycle s new).base = s.base := by
  simp [State.signalCycle]

@[simp] theorem State.abortAll_base (s : State) (i : Nat) : (State.abortAll s i).base = s.base := by
  simp [State.abortAll]

@[simp] theorem State.resetHitch_base (s : State) (i : Nat) : (State.resetHitch s i).base = s.base := by
  simp [State.resetHitch]

@[simp] theorem State.resetGroups_base (s : State) (gs : List Nat) :
    (State.resetGroups s gs).base = s.base := by
  simp only [State.resetGroups]; (repeat' split) <;> simp

@[simp] theorem State.startSweep_base (s : State) : (State.startSweep s).base = s.base := by
  simp [State.startSweep]

@[simp] theorem State.blockHitch_base (s : State) (i : Nat) (f : NocFlit) :
    (State.blockHitch s i f).base = s.base := by
  simp [State.blockHitch]

@[simp] theorem State.poisonHitch_base (s : State) (f : NocFlit) : (State.poisonHitch s f).base = s.base := by
  simp [State.poisonHitch]

@[simp] theorem State.badHitch_base (s : State) : (State.badHitch s).base = s.base := by
  simp [State.badHitch]

end Sys2Proof.Machine
end

