-- ==== Sys2Proof/Laws/BaseLink.lean ====
section
/-! SUPPORT. The operations of the link, the power states, start-up, the serial memory and lashing keep the straps and the waiting commands. -/

namespace Sys2Proof.Machine

set_option linter.unusedSimpArgs false
set_option linter.unusedVariables false

/-! ### Line -/

@[simp] theorem State.countWord_base (s : State) (b : Fin 8) (map : List Nat) (d : Decoded) :
    (State.countWord s b map d).base = s.base := by
  simp only [State.countWord]; (repeat' split) <;> simp

@[simp] theorem State.takeWords_base (s : State) (b : Fin 8) (words : List (List (Nat × Nat))) :
    (State.takeWords s b words).base = s.base := by
  simp [State.takeWords]

@[simp] theorem State.popFlit_base (s : State) (b : Fin 8) :
    (State.popFlit s b).2.base = s.base := by
  simp only [State.popFlit]; (repeat' split) <;> simp

@[simp] theorem State.takeLine_base (s : State) (b : Fin 8) (rx : LineRx) :
    (State.takeLine s b rx).2.2.base = s.base := by
  simp only [State.takeLine]; (repeat' split) <;> simp

/-! ### LinkTx -/

@[simp] theorem State.takeAck_base (s : State) (r : Fin 8) : (State.takeAck s r).2.2.base = s.base := by
  simp only [State.takeAck]; (repeat' split) <;> simp

@[simp] theorem State.dueNak_base (s : State) (b : Fin 8) : (State.dueNak s b).base = s.base := by
  simp [State.dueNak]

@[simp] theorem State.dueAck_base (s : State) (b : Fin 8) : (State.dueAck s b).base = s.base := by
  simp [State.dueAck]

@[simp] theorem State.driveRaw_base (s : State) (b : Fin 8) (bits : LinkFlit) :
    (State.driveRaw s b bits).base = s.base := by
  simp [State.driveRaw]

@[simp] theorem State.driveFlit_base (s : State) (b : Fin 8) (f : LinkFlit) :
    (State.driveFlit s b f).base = s.base := by
  simp [State.driveFlit]

@[simp] theorem State.skipFlit_base (s : State) (b : Fin 8) : (State.skipFlit s b).base = s.base := by
  simp [State.skipFlit]

@[simp] theorem State.sendFrame_base (s : State) (b : Fin 8) (r : Fin 8) (ftype : Nat) (seq : BitVec 16) (opcode : Nat) (s0 : NocFlit) (s1 : NocFlit) (v0 : Bool) (v1 : Bool) (digest : Nat) :
    (State.sendFrame s b r ftype seq opcode s0 s1 v0 v1 digest).base = s.base := by
  simp [State.sendFrame]

@[simp] theorem State.srcPop_base (s : State) (b : Fin 8) (v : Fin 8) (src : Nat) :
    (State.srcPop s b v src).2.2.base = s.base := by
  unfold State.srcPop; (repeat' split) <;> simp

@[simp] theorem State.fillSlot_base (x0 : Nat) (x1 : State) (x2 : Fin 8) :
    (State.fillSlot x0 x1 x2).2.base = x1.base := by
  induction x0 generalizing x1 x2 with
    | zero => simp [State.fillSlot]
    | succ n ih =>
      unfold State.fillSlot; dsimp only
      (repeat' split) <;> simp_all

@[simp] theorem State.granted_base (s : State) (b : Fin 8) (seq : BitVec 16) (two : Bool) (g : Grant) :
    (State.granted s b seq two g).base = s.base := by
  simp [State.granted]

@[simp] theorem State.doSwitch_base (s : State) (b : Fin 8) : (State.doSwitch s b).base = s.base := by
  unfold State.doSwitch; (repeat' split) <;> simp

@[simp] theorem State.sendNew_base (s : State) (b : Fin 8) (ftype : Nat) (opcode : Nat) (s0 : NocFlit) (s1 : NocFlit) (v0 : Bool) (v1 : Bool) (ord : Option Nat) :
    (State.sendNew s b ftype opcode s0 s1 v0 v1 ord).base = s.base := by
  simp [State.sendNew]

@[simp] theorem State.noteCtl_base (s : State) (b : Fin 8) (opcode : Nat) (p : NocFlit) (q : BitVec 16) :
    (State.noteCtl s b opcode p q).base = s.base := by
  unfold State.noteCtl; (repeat' split) <;> simp

@[simp] theorem State.sendControl_base (s : State) (b : Fin 8) : (State.sendControl s b).base = s.base := by
  simp only [State.sendControl]; (repeat' split) <;> simp

@[simp] theorem State.sendData_base (s : State) (b : Fin 8) : (State.sendData s b).2.base = s.base := by
  simp only [State.sendData]; (repeat' split) <;> simp

@[simp] theorem State.sendIdle_base (s : State) (b : Fin 8) : (State.sendIdle s b).base = s.base := by
  simp [State.sendIdle]

@[simp] theorem State.sendOwed_base (s : State) (b : Fin 8) (r : Fin 8) :
    (State.sendOwed s b r).base = s.base := by
  simp [State.sendOwed]

@[simp] theorem State.resendOne_base (s : State) (b : Fin 8) (h : Held) :
    (State.resendOne s b h).base = s.base := by
  simp [State.resendOne]

@[simp] theorem State.sendFresh_base (s : State) (b : Fin 8) : (State.sendFresh s b).base = s.base := by
  simp only [State.sendFresh]; (repeat' split) <;> simp

@[simp] theorem State.sendPeriod_base (s : State) (b : Fin 8) : (State.sendPeriod s b).base = s.base := by
  simp only [State.sendPeriod]; (repeat' split) <;> simp

@[simp] theorem State.ctlAcked_base (s : State) (b : Fin 8) (h : Held) :
    (State.ctlAcked s b h).base = s.base := by
  unfold State.ctlAcked; (repeat' split) <;> simp

@[simp] theorem State.freeTo_base (s : State) (b : Fin 8) (k : BitVec 16) :
    (State.freeTo s b k).base = s.base := by
  simp only [State.freeTo]; (repeat' split) <;> simp

@[simp] theorem State.ackOutside_base (s : State) (w : AckAt) : (State.ackOutside s w).base = s.base := by
  unfold State.ackOutside; (repeat' split) <;> simp

@[simp] theorem State.applyNak_base (s : State) (b : Fin 8) (q : BitVec 16) :
    (State.applyNak s b q).base = s.base := by
  simp [State.applyNak]

@[simp] theorem State.applyAcks_base (s : State) (b : Fin 8) : (State.applyAcks s b).base = s.base := by
  simp only [State.applyAcks]; (repeat' split) <;> simp

/-! ### LinkRx -/

@[simp] theorem State.deliver_base (s : State) (b : Fin 8) (q : BitVec 16) (rel : Time) (bytes : Nat) (f : NocFlit) :
    (State.deliver s b q rel bytes f).base = s.base := by
  simp [State.deliver]

@[simp] theorem State.takeCtl_base (s : State) (b : Fin 8) (h : Hdr) (p : NocFlit) :
    (State.takeCtl s b h p).base = s.base := by
  simp [State.takeCtl]

@[simp] theorem State.dropCtl_base (s : State) (b : Fin 8) (op : Nat) (p : NocFlit) :
    (State.dropCtl s b op p).base = s.base := by
  simp [State.dropCtl]

@[simp] theorem State.attribute_base (s : State) (b : Fin 8) (good : LinkFlit) (c : FailedCopy) :
    (State.attribute s b good c).base = s.base := by
  simp [State.attribute]

@[simp] theorem State.keepFailed_base (s : State) (b : Fin 8) (q : BitVec 16) (f : LinkFlit) :
    (State.keepFailed s b q f).base = s.base := by
  simp [State.keepFailed]

@[simp] theorem State.compareFailed_base (s : State) (b : Fin 8) (q : BitVec 16) (f : LinkFlit) :
    (State.compareFailed s b q f).base = s.base := by
  simp [State.compareFailed]

@[simp] theorem State.switchAt_base (s : State) (b : Fin 8) (q : BitVec 16) :
    (State.switchAt s b q).base = s.base := by
  unfold State.switchAt; (repeat' split) <;> simp

@[simp] theorem State.accept_base (s : State) (b : Fin 8) (h : Hdr) (f : LinkFlit) (slots : List NocFlit) (bad : Nat) :
    (State.accept s b h f slots bad).base = s.base := by
  simp [State.accept]

@[simp] theorem State.startWait_base (s : State) (b : Fin 8) (tentative : Bool) :
    (State.startWait s b tentative).base = s.base := by
  simp [State.startWait]

@[simp] theorem State.seen_base (s : State) (b : Fin 8) (q : BitVec 16) :
    (State.seen s b q).base = s.base := by
  simp [State.seen]

@[simp] theorem State.crcFailed_base (s : State) (b : Fin 8) (f : LinkFlit) :
    (State.crcFailed s b f).base = s.base := by
  simp [State.crcFailed]

@[simp] theorem State.useHeader_base (s : State) (b : Fin 8) (h : Hdr) :
    (State.useHeader s b h).base = s.base := by
  simp [State.useHeader]

@[simp] theorem State.takeUnsequenced_base (s : State) (b : Fin 8) (h : Hdr) (f : LinkFlit) :
    (State.takeUnsequenced s b h f).base = s.base := by
  simp [State.takeUnsequenced]

@[simp] theorem State.takeDuplicate_base (s : State) (b : Fin 8) (h : Hdr) :
    (State.takeDuplicate s b h).base = s.base := by
  simp [State.takeDuplicate]

@[simp] theorem State.takeSequenced_base (s : State) (b : Fin 8) (h : Hdr) (f : LinkFlit) :
    (State.takeSequenced s b h f).base = s.base := by
  simp only [State.takeSequenced]; (repeat' split) <;> simp

@[simp] theorem State.takeFrame_base (s : State) (b : Fin 8) (f : LinkFlit) :
    (State.takeFrame s b f).base = s.base := by
  simp [State.takeFrame]

@[simp] theorem State.receiveFlit_base (s : State) (b : Fin 8) (bits : LinkFlit) (alt : Option LinkFlit) :
    (State.receiveFlit s b bits alt).base = s.base := by
  simp only [State.receiveFlit]; (repeat' split) <;> simp

/-! ### PowerOps -/

@[simp] theorem State.applyWidth_base (s : State) (b : Fin 8) : (State.applyWidth s b).base = s.base := by
  simp [State.applyWidth]

@[simp] theorem State.applyWidths_base (s : State) : (State.applyWidths s).base = s.base := by
  simp [State.applyWidths]

@[simp] theorem State.runStrands_base (s : State) (b : Fin 8) : (State.runStrands s b).base = s.base := by
  simp [State.runStrands]

@[simp] theorem State.clearDoze_base (s : State) : (State.clearDoze s).base = s.base := by
  simp [State.clearDoze]

@[simp] theorem State.startBurst_base (s : State) : (State.startBurst s).base = s.base := by
  simp [State.startBurst]

@[simp] theorem State.dozeBraid_base (s : State) (b : Fin 8) : (State.dozeBraid s b).base = s.base := by
  simp [State.dozeBraid]

@[simp] theorem State.dozeEnter_base (s : State) : (State.dozeEnter s).base = s.base := by
  simp [State.dozeEnter]

@[simp] theorem State.dozeLeave_base (s : State) : (State.dozeLeave s).base = s.base := by
  simp [State.dozeLeave]

@[simp] theorem State.parkDone_base (s : State) (status : Nat) (result : Nat) :
    (State.parkDone s status result).base = s.base := by
  unfold State.parkDone; (repeat' split) <;> simp

@[simp] theorem State.startDrain_base (s : State) (why : DrainFor) :
    (State.startDrain s why).base = s.base := by
  simp [State.startDrain]

@[simp] theorem State.stopDrain_base (s : State) : (State.stopDrain s).base = s.base := by
  simp [State.stopDrain]

@[simp] theorem State.powerDown_base (s : State) : (State.powerDown s).base = s.base := by
  simp [State.powerDown]

@[simp] theorem State.switchOff_base (s : State) :
    (State.switchOff s).base = s.base := by
  simp only [State.switchOff]; (repeat' split) <;> simp

@[simp] theorem State.switchTick_base (s : State) :
    (State.switchTick s).base = s.base := by
  simp only [State.switchTick]; (repeat' split) <;> simp

@[simp] theorem State.enterOff_base (s : State) : (State.enterOff s).base = s.base := by
  simp [State.enterOff]

@[simp] theorem State.parkNow_base (s : State) : (State.parkNow s).base = s.base := by
  simp [State.parkNow]

@[simp] theorem State.sendReset_base (s : State) (cause : BitVec 4) (drain : Bool) :
    (State.sendReset s cause drain).base = s.base := by
  simp [State.sendReset]

@[simp] theorem State.resetAfterDrain_base (s : State) : (State.resetAfterDrain s).base = s.base := by
  simp [State.resetAfterDrain]

@[simp] theorem State.askReset_base (s : State) (cause : BitVec 4) (drain : Bool) :
    (State.askReset s cause drain).base = s.base := by
  simp [State.askReset]

@[simp] theorem State.parkBraid_base (s : State) (b : Fin 8) : (State.parkBraid s b).base = s.base := by
  simp [State.parkBraid]

@[simp] theorem State.drainStep_base (s : State) : (State.drainStep s).base = s.base := by
  simp [State.drainStep]

@[simp] theorem State.applyTarget_base (s : State) (st : PwrState) (w : Nat) :
    (State.applyTarget s st w).base = s.base := by
  unfold State.applyTarget; (repeat' split) <;> simp

@[simp] theorem State.leadTarget_base (s : State) : (State.leadTarget s).base = s.base := by
  simp [State.leadTarget]

@[simp] theorem State.sendCap_base (s : State) : (State.sendCap s).base = s.base := by
  simp [State.sendCap]

@[simp] theorem State.setCap_base (s : State) (c : PwrState × Nat) : (State.setCap s c).base = s.base := by
  simp [State.setCap]

@[simp] theorem State.recap_base (s : State) : (State.recap s).base = s.base := by
  simp [State.recap]

@[simp] theorem State.capStep_base (s : State) :
    (State.capStep s).base = s.base := by
  simp only [State.capStep]; (repeat' split) <;> simp

@[simp] theorem State.capAtOpen_base (s : State) : (State.capAtOpen s).base = s.base := by
  simp [State.capAtOpen]

@[simp] theorem State.abandonPark_base (s : State) : (State.abandonPark s).base = s.base := by
  simp [State.abandonPark]

@[simp] theorem State.flushOne_base (s : State) (case : Nat) (f : NocFlit) :
    (State.flushOne s case f).base = s.base := by
  simp [State.flushOne]

@[simp] theorem State.flushPool_base (s : State) (case : Nat) (v : Fin 8) :
    (State.flushPool s case v).base = s.base := by
  simp [State.flushPool]

@[simp] theorem State.flushLinks_base (s : State) (case : Nat) : (State.flushLinks s case).base = s.base := by
  simp [State.flushLinks]

@[simp] theorem State.flushHeld_base (s : State) (case : Nat) (b : Fin 8) :
    (State.flushHeld s case b).base = s.base := by
  simp [State.flushHeld]

@[simp] theorem State.flushCase_base (s : State) (case : Nat) : (State.flushCase s case).base = s.base := by
  simp [State.flushCase]

@[simp] theorem State.flushStep_base (s : State) : (State.flushStep s).base = s.base := by
  simp [State.flushStep]

@[simp] theorem State.resumeStep_base (s : State) :
    (State.resumeStep s).base = s.base := by
  simp only [State.resumeStep]; (repeat' split) <;> simp

@[simp] theorem State.powerStep_base (s : State) : (State.powerStep s).base = s.base := by
  simp [State.powerStep]

/-! ### StartOps -/

@[simp] theorem State.startFail_base (s : State) (code : Nat) : (State.startFail s code).base = s.base := by
  simp [State.startFail]

@[simp] theorem State.reportCode_base (s : State) (dir : Nat) (b : Fin 8) (p : Nat) (k : Nat) (retired : Bool) :
    (State.reportCode s dir b p k retired).base = s.base := by
  simp [State.reportCode]

@[simp] theorem State.lapseDetect_base (s : State) (dir : Nat) (b : Fin 8) (p : Nat) :
    (State.lapseDetect s dir b p).base = s.base := by
  simp only [State.lapseDetect]; (repeat' split) <;> simp

@[simp] theorem State.classRx_base (s : State) (l : Heards) (tile : Fin 8) (b : Fin 8) (p : Nat) :
    (State.classRx s l tile b p).base = s.base := by
  simp [State.classRx]

@[simp] theorem State.endObserve_base (s : State) (l : Heards) (b : Fin 8) (attempt : Nat) :
    (State.endObserve s l b attempt).base = s.base := by
  unfold State.endObserve; (repeat' split) <;> simp

@[simp] theorem State.classTx_base (s : State) (l : List (Fin 8 × Nat × TxObs)) (b : Fin 8) :
    (State.classTx s l b).base = s.base := by
  simp [State.classTx]

@[simp] theorem State.loadMap_base (s : State) (dir : Nat) (b : Fin 8) (m : Nat) :
    (State.loadMap s dir b m).base = s.base := by
  simp [State.loadMap]

@[simp] theorem State.excludeTx_base (s : State) (b : Fin 8) (p : Nat) :
    (State.excludeTx s b p).base = s.base := by
  simp only [State.excludeTx]; (repeat' split) <;> simp

@[simp] theorem State.useResult_base (s : State) (b : Fin 8) : (State.useResult s b).base = s.base := by
  simp [State.useResult]

@[simp] theorem State.noteResult_base (s : State) (b : Fin 8) (far : Nat) (attempt : Nat) :
    (State.noteResult s b far attempt).base = s.base := by
  simp [State.noteResult]

@[simp] theorem State.observeTx_base (s : State) (l : List (Fin 8 × Nat × TxObs)) (b : Fin 8) :
    (State.observeTx s l b).base = s.base := by
  simp [State.observeTx]

@[simp] theorem State.sendMap_base (s : State) (b : Fin 8) : (State.sendMap s b).base = s.base := by
  simp [State.sendMap]

@[simp] theorem State.retireStart_base (s : State) (dir : Nat) (b : Fin 8) :
    (State.retireStart s dir b).base = s.base := by
  simp [State.retireStart]

@[simp] theorem State.dropEmpty_base (s : State) (b : Fin 8) : (State.dropEmpty s b).base = s.base := by
  simp [State.dropEmpty]

@[simp] theorem State.beginTraining_base (s : State) (b : Fin 8) (attempt : Nat) :
    (State.beginTraining s b attempt).base = s.base := by
  unfold State.beginTraining; dsimp only
  repeat' first
    | ((refine (base_foldl _ _ _ (fun u x => ?_)).trans ?_) <;> try dsimp only)
    | split
  all_goals first | simp | (simp_all)

@[simp] theorem State.enterTrain_base (s : State) : (State.enterTrain s).base = s.base := by
  simp [State.enterTrain]

@[simp] theorem State.tryTrain_base (s : State) : (State.tryTrain s).base = s.base := by
  simp [State.tryTrain]

@[simp] theorem State.trySplice_base (s : State) : (State.trySplice s).base = s.base := by
  simp [State.trySplice]

@[simp] theorem State.enterDetect_base (s : State) : (State.enterDetect s).base = s.base := by
  simp [State.enterDetect]

@[simp] theorem State.enterCalibrate_base (s : State) : (State.enterCalibrate s).base = s.base := by
  simp [State.enterCalibrate]

@[simp] theorem State.tryCalibrate_base (s : State) : (State.tryCalibrate s).base = s.base := by
  simp [State.tryCalibrate]

@[simp] theorem State.sendBeacon_base (s : State) : (State.sendBeacon s).base = s.base := by
  simp [State.sendBeacon]

@[simp] theorem State.classFail_base (s : State) (code : Nat) : (State.classFail s code).base = s.base := by
  simp [State.classFail]

@[simp] theorem State.enterNegotiate_base (s : State) : (State.enterNegotiate s).base = s.base := by
  simp [State.enterNegotiate]

@[simp] theorem State.tryNegotiate_base (s : State) : (State.tryNegotiate s).base = s.base := by
  simp [State.tryNegotiate]

@[simp] theorem State.enterDiscover_base (s : State) : (State.enterDiscover s).base = s.base := by
  simp [State.enterDiscover]

@[simp] theorem State.metersAtOpen_base (s : State) : (State.metersAtOpen s).base = s.base := by
  simp [State.metersAtOpen]

@[simp] theorem State.enterOpen_base (s : State) : (State.enterOpen s).base = s.base := by
  simp [State.enterOpen]

@[simp] theorem State.parkSpare_base (s : State) : (State.parkSpare s).base = s.base := by
  simp [State.parkSpare]

@[simp] theorem State.enterLash_base (s : State) : (State.enterLash s).base = s.base := by
  simp [State.enterLash]

@[simp] theorem State.announce_base (s : State) (ack : Bool) : (State.announce s ack).base = s.base := by
  simp [State.announce]

/-! ### SerialOps -/

@[simp] theorem State.sendSmRead_base (s : State) (tag : Nat) (addr : Nat) (len : Nat) :
    (State.sendSmRead s tag addr len).base = s.base := by
  simp [State.sendSmRead]

@[simp] theorem State.smRead_base (s : State) (slot : Nat) (whole : Bool) (addr : Nat) (len : Nat) (reissues : Nat) :
    (State.smRead s slot whole addr len reissues).base = s.base := by
  simp [State.smRead]

@[simp] theorem State.applyProfile_base (s : State) : (State.applyProfile s).base = s.base := by
  unfold State.applyProfile; (repeat' split) <;> simp

@[simp] theorem State.applyMapRec_base (s : State) : (State.applyMapRec s).base = s.base := by
  unfold State.applyMapRec; (repeat' split) <;> simp

@[simp] theorem State.applyParties_base (s : State) : (State.applyParties s).base = s.base := by
  unfold State.applyParties; (repeat' split) <;> simp

@[simp] theorem State.checkParties_base (s : State) : (State.checkParties s).base = s.base := by
  simp [State.checkParties]

@[simp] theorem State.stageValue_base (s : State) (off : Nat) (v : Reg) :
    (State.stageValue s off v).base = s.base := by
  simp [State.stageValue]

@[simp] theorem State.applyStaging_base (s : State) (j : Nat) : (State.applyStaging s j).base = s.base := by
  unfold State.applyStaging; (repeat' split) <;> simp

@[simp] theorem State.applyTset_base (s : State) : (State.applyTset s).base = s.base := by
  unfold State.applyTset; (repeat' split) <;> simp

@[simp] theorem State.loadFibreTrims_base (s : State) : (State.loadFibreTrims s).base = s.base := by
  simp [State.loadFibreTrims]

@[simp] theorem State.applyHeader_base (s : State) : (State.applyHeader s).base = s.base := by
  unfold State.applyHeader; (repeat' split) <;> simp

@[simp] theorem State.finishConfig_base (s : State) : (State.finishConfig s).base = s.base := by
  simp [State.finishConfig]

@[simp] theorem State.setSlot_base (s : State) (j : Nat) (v : Nat) : (State.setSlot s j v).base = s.base := by
  simp [State.setSlot]

@[simp] theorem State.reject_base (s : State) : (State.reject s).base = s.base := by
  simp [State.reject]

@[simp] theorem State.startHeads_base (s : State) (j : Nat) : (State.startHeads s j).base = s.base := by
  simp [State.startHeads]

@[simp] theorem State.startType_base (x0 : Nat) (x1 : State) (x2 : Nat) :
    (State.startType x0 x1 x2).base = x1.base := by
  induction x0 generalizing x1 x2 with
    | zero => simp [State.startType]
    | succ n ih =>
      unfold State.startType
      (repeat' split) <;> simp [ih]

@[simp] theorem State.nextType_base (s : State) (j : Nat) : (State.nextType s j).base = s.base := by
  simp [State.nextType]

@[simp] theorem State.tryNext_base (s : State) (j : Nat) : (State.tryNext s j).base = s.base := by
  unfold State.tryNext; (repeat' split) <;> simp

@[simp] theorem State.judgeHead_base (s : State) (j : Nat) (head : Option (List (BitVec 8))) :
    (State.judgeHead s j head).2.base = s.base := by
  simp only [State.judgeHead]; (repeat' split) <;> simp

@[simp] theorem State.headsDone_base (s : State) (j : Nat) : (State.headsDone s j).base = s.base := by
  simp [State.headsDone]

@[simp] theorem State.wholeDone_base (s : State) (j slot : Nat) (bytes : Option (List (BitVec 8))) :
    (State.wholeDone s j slot bytes).base = s.base := by
  unfold State.wholeDone; (repeat' split) <;> simp

@[simp] theorem State.readDone_base (s : State) (r : SmRead) (bytes : Option (List (BitVec 8))) :
    (State.readDone s r bytes).base = s.base := by
  simp only [State.readDone]; (repeat' split) <;> simp

@[simp] theorem State.enterConfig_base (s : State) : (State.enterConfig s).base = s.base := by
  simp [State.enterConfig]

@[simp] theorem State.completeSideband_base (s : State) : (State.completeSideband s).base = s.base := by
  simp [State.completeSideband]

@[simp] theorem State.trySideband_base (s : State) : (State.trySideband s).base = s.base := by
  simp [State.trySideband]

@[simp] theorem State.readPartiesEarly_base (s : State) : (State.readPartiesEarly s).base = s.base := by
  simp [State.readPartiesEarly]

@[simp] theorem State.tryIdent_base (s : State) : (State.tryIdent s).base = s.base := by
  simp [State.tryIdent]

/-! ### Hitch -/

@[simp] theorem State.screenSignal_base (s : State) (rx : Bool) (f : NocFlit) :
    (State.screenSignal s rx f).1.base = s.base := by
  simp only [State.screenSignal]; (repeat' split) <;> simp

@[simp] theorem State.screenAll_base (x0 : List (Bool × NocFlit)) (x1 : State) :
    (State.screenAll x0 x1).1.base = x1.base := by
  induction x0 generalizing x1 with
  | nil => rfl
  | cons p l ih =>
    obtain ⟨rx, f⟩ := p
    unfold State.screenAll
    split
    · simp [ih]
    · exact ih _

@[simp] theorem State.takeWait_base (s : State) (rx : Bool) (f : NocFlit) :
    (State.takeWait s rx f).base = s.base := by
  simp [State.takeWait]

@[simp] theorem State.takeUpdate_base (s : State) (rx : Bool) (f : NocFlit) :
    (State.takeUpdate s rx f).base = s.base := by
  simp [State.takeUpdate]

@[simp] theorem State.htDesc_base (s : State) (r : RingNo) (i : BitVec 32) (op : Nat) (work : Nat → Desc → State → State) (hwork : ∀ (u0 : Nat) (u1 : Desc) (u2 : State), (work u0 u1 u2).base = u2.base) :
    (State.htDesc s r i op work).base = s.base := by
  unfold State.htDesc; (repeat' split) <;> simp_all

@[simp] theorem State.latch_base (s : State) (l : List (Nat × Nat)) : (State.latch s l).base = s.base := by
  simp [State.latch]

@[simp] theorem State.copyHitch_base (s : State) (v : Reg) : (State.copyHitch s v).base = s.base := by
  simp [State.copyHitch]

@[simp] theorem State.copyWaiter_base (s : State) (v : Reg) : (State.copyWaiter s v).base = s.base := by
  simp only [State.copyWaiter]; (repeat' split) <;> simp

/-! ### LashOps -/

@[simp] theorem State.logViolation_base (s : State) (a : Access) (off : Nat) (value : Reg) (cause : Nat) :
    (State.logViolation s a off value cause).base = s.base := by
  simp [State.logViolation]

@[simp] theorem State.fenceDone_base (s : State) (status : Nat) (detail : Nat) :
    (State.fenceDone s status detail).base = s.base := by
  simp [State.fenceDone]

@[simp] theorem State.endLash_base (s : State) (code : Nat) : (State.endLash s code).base = s.base := by
  simp [State.endLash]

@[simp] theorem State.lashTouched_base (s : State) : (State.lashTouched s).base = s.base := by
  simp [State.lashTouched]

@[simp] theorem State.enterFenced_base (s : State) (traffic : Bool) :
    (State.enterFenced s traffic).base = s.base := by
  simp [State.enterFenced]

@[simp] theorem State.leaveFenced_base (s : State) : (State.leaveFenced s).base = s.base := by
  simp [State.leaveFenced]

@[simp] theorem State.applyOverride_base (s : State) (b : Fin 8) :
    (State.applyOverride s b).base = s.base := by
  simp [State.applyOverride]

@[simp] theorem State.applyItems_base (s : State) (items : Tbl Reg) :
    (State.applyItems s items).base = s.base := by
  simp [State.applyItems]

@[simp] theorem State.applyLocal_base (s : State) : (State.applyLocal s).base = s.base := by
  simp [State.applyLocal]

@[simp] theorem State.withdraw_base (s : State) (cause : Nat) : (State.withdraw s cause).base = s.base := by
  simp [State.withdraw]

@[simp] theorem State.lashSwitch_base (s : State) : (State.lashSwitch s).base = s.base := by
  simp [State.lashSwitch]

@[simp] theorem State.lashStep_base (s : State) : (State.lashStep s).base = s.base := by
  simp [State.lashStep]

@[simp] theorem State.tryMatch_base (s : State) : (State.tryMatch s).base = s.base := by
  unfold State.tryMatch; (repeat' split) <;> simp

@[simp] theorem State.linkStart_base (s : State) : (State.linkStart s).base = s.base := by
  simp [State.linkStart]

@[simp] theorem State.takeCommit_base (s : State) : (State.takeCommit s).base = s.base := by
  simp [State.takeCommit]

@[simp] theorem State.portStep_base (s : State) : (State.portStep s).base = s.base := by
  simp [State.portStep]

end Sys2Proof.Machine
end

