-- ==== Sys2Proof/Laws/BaseCommands.lean ====
section
/-! SUPPORT. The operations the commands are built from, and the passing of a PCLK, keep the straps and the waiting commands. -/

namespace Sys2Proof.Machine

set_option linter.unusedSimpArgs false
set_option linter.unusedVariables false

/-! ### NocCmds -/

@[simp] theorem State.ringTake_base (s : State) (f : NocFlit) : (State.ringTake s f).base = s.base := by
  simp [State.ringTake]

@[simp] theorem State.redTake_base (s : State) (rx : Bool) (f : NocFlit) :
    (State.redTake s rx f).base = s.base := by
  simp [State.redTake]

@[simp] theorem State.htTake_base (s : State) (rx : Bool) (f : NocFlit) :
    (State.htTake s rx f).base = s.base := by
  simp [State.htTake]

theorem State.engineTake_base (s : State) (rx : Bool) (f : NocFlit) (t : State) (h : s.engineTake rx f = some t) :
    t.base = s.base := by
  unfold State.engineTake at h
  dsimp only at h
  (repeat' split at h) <;> first | (cases h; simp) | cases h

@[simp] theorem State.takeEligible_base (s : State) (b : Fin 8) : (State.takeEligible s b).base = s.base := by
  refine base_foldl _ _ _ fun u x => ?_
  split
  · split
    · rename_i t h
      have := State.engineTake_base u true x.flit t h
      simp [this]
    · rfl
  · rfl

@[simp] theorem State.endFence_base (s : State) (b : Fin 8) (x : RxFlit) :
    (State.endFence s b x).base = s.base := by
  simp [State.endFence]

@[simp] theorem State.learnRevoked_base (s : State) (d : Nat) :
    (State.learnRevoked s d).base = s.base := by
  simp only [State.learnRevoked]; (repeat' split) <;> simp

@[simp] theorem State.ingress_base (s : State) (f : NocFlit) (assigned : Bool) :
    (State.ingress s f assigned).base = s.base := by
  unfold State.ingress
  dsimp only
  split
  · simp
  · split
    · simp
    · split
      · rename_i t h
        have := State.engineTake_base _ false f t h
        simpa using this
      · simp

@[simp] theorem State.takeCredits_base (s : State) (v : Fin 8) (n : Nat) :
    (State.takeCredits s v n).base = s.base := by
  simp [State.takeCredits]

@[simp] theorem State.creditAck_base (s : State) : (State.creditAck s).base = s.base := by
  simp [State.creditAck]

@[simp] theorem State.auditStart_base (s : State) : (State.auditStart s).base = s.base := by
  simp [State.auditStart]

@[simp] theorem State.auditIn_base (s : State) (v : Fin 8) (snap : Nat) (cnt : Nat) :
    (State.auditIn s v snap cnt).base = s.base := by
  simp [State.auditIn]

@[simp] theorem State.auditEg_base (s : State) (v : Fin 8) (snap : Nat) (cnt : Nat) :
    (State.auditEg s v snap cnt).base = s.base := by
  simp [State.auditEg]

@[simp] theorem State.auditAnswer_base (s : State) (cnt : Nat) : (State.auditAnswer s cnt).base = s.base := by
  unfold State.auditAnswer; (repeat' split) <;> simp

/-! ### TrainOps -/

@[simp] theorem State.modTrain_base (s : State) (b : Fin 8) (f : Training → Training) :
    (State.modTrain s b f).base = s.base := by
  simp [State.modTrain]

@[simp] theorem State.sendTrainDone_base (s : State) (b : Fin 8) (ok : Bool) (reason : Nat) :
    (State.sendTrainDone s b ok reason).base = s.base := by
  simp [State.sendTrainDone]

@[simp] theorem State.startStream_base (s : State) (b : Fin 8) : (State.startStream s b).base = s.base := by
  simp [State.startStream]

@[simp] theorem State.trainedNow_base (s : State) (b : Fin 8) : (State.trainedNow s b).base = s.base := by
  simp [State.trainedNow]

@[simp] theorem State.trainFailed_base (s : State) (b : Fin 8) (reason : Nat) :
    (State.trainFailed s b reason).base = s.base := by
  simp [State.trainFailed]

@[simp] theorem State.growF_base (s : State) (flight : Nat) : (State.growF s flight).base = s.base := by
  simp [State.growF]

@[simp] theorem State.setPad_base (s : State) (b : Fin 8) : (State.setPad s b).base = s.base := by
  simp [State.setPad]

@[simp] theorem State.settleTrain_base (s : State) : (State.settleTrain s).base = s.base := by
  simp [State.settleTrain]

@[simp] theorem State.sendTraining_base (s : State) (b : Fin 8) (at_ : Nat) :
    (State.sendTraining s b at_).base = s.base := by
  simp [State.sendTraining]

@[simp] theorem State.sendMeasure_base (s : State) (b : Fin 8) (at_ : Nat) :
    (State.sendMeasure s b at_).base = s.base := by
  simp [State.sendMeasure]

@[simp] theorem State.takeEcho_base (s : State) (b : Fin 8) (f : LinkFlit) (at_ : Nat) :
    (State.takeEcho s b f at_).base = s.base := by
  simp only [State.takeEcho]; (repeat' split) <;> simp

@[simp] theorem State.alignAlone_base (s : State) (b : Fin 8) : (State.alignAlone s b).base = s.base := by
  simp [State.alignAlone]

@[simp] theorem State.takeTrainFrame_base (s : State) (b : Fin 8) (f : LinkFlit) (at_ : Nat) :
    (State.takeTrainFrame s b f at_).base = s.base := by
  simp only [State.takeTrainFrame]; (repeat' split) <;> simp

@[simp] theorem State.findFlit_base (s : State) (b : Fin 8) :
    (State.findFlit s b).base = s.base := by
  unfold State.findFlit; exact State.modRx_base _ _ _

@[simp] theorem State.trainLine_base (s : State) (b : Fin 8) (rx : LineRx) :
    (State.trainLine s b rx).2.base = s.base := by
  simp only [State.trainLine]; (repeat' split) <;> simp

@[simp] theorem State.trainLink_base (s : State) (b : Fin 8) (rx : LineRx) (at_ : Nat) :
    (State.trainLink s b rx at_).base = s.base := by
  simp only [State.trainLink]; (repeat' split) <;> simp

/-! ### BightOps -/

@[simp] theorem State.bightCount_base (s : State) (k : Nat) (errors : Nat) (bits : Nat) :
    (State.bightCount s k errors bits).base = s.base := by
  simp [State.bightCount]

@[simp] theorem State.turnBack_base (s : State) (b : Fin 8) :
    (State.turnBack s b).base = s.base := by
  simp only [State.turnBack]; (repeat' split) <;> simp

@[simp] theorem State.sendPattern_base (s : State) (b : Fin 8) :
    (State.sendPattern s b).base = s.base := by
  simp [State.sendPattern]

@[simp] theorem State.freezeCounts_base (s : State) (counts : List (Fin 8 × Nat × Nat × Nat)) :
    (State.freezeCounts s counts).base = s.base := by
  unfold State.freezeCounts; dsimp only
  repeat' first
    | ((refine (base_foldl _ _ _ (fun u x => ?_)).trans ?_) <;> try dsimp only)
    | split
  all_goals first | simp | (simp_all)

@[simp] theorem State.takeOut_base (s : State) (m : BitVec 8) : (State.takeOut s m).base = s.base := by
  simp [State.takeOut]

@[simp] theorem State.putBack_base (s : State) (b : Fin 8) : (State.putBack s b).base = s.base := by
  simp [State.putBack]

@[simp] theorem State.sendBightReq_base (s : State) (b : Fin 8) (enter : Bool) :
    (State.sendBightReq s b enter).base = s.base := by
  simp [State.sendBightReq]

@[simp] theorem State.sendBightAck_base (s : State) (b : Fin 8) (enter : Bool) (refused : Bool) :
    (State.sendBightAck s b enter refused).base = s.base := by
  simp [State.sendBightAck]

@[simp] theorem State.bightStep_base (s : State) : (State.bightStep s).base = s.base := by
  simp [State.bightStep]

@[simp] theorem State.bightRun_base (s : State) (v : Reg) : (State.bightRun s v).base = s.base := by
  simp [State.bightRun]

@[simp] theorem State.bightEnds_base (s : State) (b : Fin 8) : (State.bightEnds s b).base = s.base := by
  simp [State.bightEnds]

@[simp] theorem State.bightStop_base (s : State) (counts : List (Fin 8 × Nat × Nat × Nat)) :
    (State.bightStop s counts).base = s.base := by
  simp [State.bightStop]

@[simp] theorem State.bightDrop_base (s : State) (b : Fin 8) : (State.bightDrop s b).base = s.base := by
  simp only [State.bightDrop]; (repeat' split) <;> simp

/-! ### Link -/

@[simp] theorem State.loopBack_base (s : State) (b : Fin 8) (rx : LineRx) :
    (State.loopBack s b rx).base = s.base := by
  simp only [State.loopBack]; (repeat' split) <;> simp

@[simp] theorem State.frameIn_base (s : State) (b : Fin 8) (rx : LineRx) :
    (State.frameIn s b rx).base = s.base := by
  simp only [State.frameIn]; (repeat' split) <;> simp

@[simp] theorem State.sendTrained_base (s : State) (b : Fin 8) :
    (State.sendTrained s b).base = s.base := by
  simp only [State.sendTrained]; (repeat' split) <;> simp

@[simp] theorem State.flitPeriod_base (s : State) (b : Fin 8) (at_ : Nat) :
    (State.flitPeriod s b at_).base = s.base := by
  simp [State.flitPeriod]

@[simp] theorem State.comeUp_base (s : State) (b : Fin 8) : (State.comeUp s b).base = s.base := by
  simp [State.comeUp]

@[simp] theorem State.afterRetrain_base (s : State) (b : Fin 8) : (State.afterRetrain s b).base = s.base := by
  simp [State.afterRetrain]

@[simp] theorem State.retrainTimeout_base (s : State) (b : Fin 8) :
    (State.retrainTimeout s b).base = s.base := by
  simp [State.retrainTimeout]

@[simp] theorem State.handover_base (s : State) (b : Fin 8) (last : BitVec 16) :
    (State.handover s b last).base = s.base := by
  unfold State.handover; dsimp only
  repeat' first
    | ((refine (base_foldl _ _ _ (fun u x => ?_)).trans ?_) <;> try dsimp only)
    | split
  all_goals first | simp | (simp_all)

@[simp] theorem State.settlePortRetrain_base (s : State) : (State.settlePortRetrain s).base = s.base := by
  simp [State.settlePortRetrain]

@[simp] theorem State.portReturns_base (s : State) : (State.portReturns s).base = s.base := by
  simp [State.portReturns]

/-! ### SidebandOps -/

@[simp] theorem State.takeCopies_base (s : State) (w : SbWord) :
    (State.takeCopies s w).base = s.base := by
  simp only [State.takeCopies]; (repeat' split) <;> simp

@[simp] theorem State.noteFrame_base (s : State) (f : SbFrame) : (State.noteFrame s f).base = s.base := by
  simp [State.noteFrame]

@[simp] theorem State.hear_base (s : State) (f : SbFrame) : (State.hear s f).2.base = s.base := by
  simp only [State.hear]; (repeat' split) <;> simp

@[simp] theorem State.receive_base (s : State) (f : SbFrame) : (State.receive s f).2.base = s.base := by
  unfold State.receive; (repeat' split) <;> simp

@[simp] theorem State.takeTrain_base (s : State) (f : SbFrame) (phase : Nat) (work : State → State) (hwork : ∀ (u0 : State), (work u0).base = u0.base) :
    (State.takeTrain s f phase work).base = s.base := by
  unfold State.takeTrain; (repeat' split) <;> simp_all

/-! ### AgentOps -/

@[simp] theorem State.sendDieId_base (s : State) (n : Nat) (proxy : Bool) (id : DieId) (spare : Bool) (refused : Bool) :
    (State.sendDieId s n proxy id spare refused).base = s.base := by
  simp [State.sendDieId]

@[simp] theorem State.giveId_base (s : State) (n : Nat) (id : DieId) :
    (State.giveId s n id).base = s.base := by
  simp [State.giveId]

@[simp] theorem State.giveGuest_base (s : State) (g : Nat) :
    (State.giveGuest s g).base = s.base := by
  simp [State.giveGuest]

@[simp] theorem State.takeId_base (s : State) : (State.takeId s).base = s.base := by
  simp [State.takeId]

@[simp] theorem State.admitNow_base (s : State) (n : Nat) : (State.admitNow s n).base = s.base := by
  unfold State.admitNow; (repeat' split) <;> simp

@[simp] theorem State.makeSpare_base (s : State) (n : Nat) : (State.makeSpare s n).base = s.base := by
  simp [State.makeSpare]

@[simp] theorem State.chooseSpare_base (s : State) (t : Nat) : (State.chooseSpare s t).2.base = s.base := by
  simp only [State.chooseSpare]; (repeat' split) <;> simp

@[simp] theorem State.closeTile_base (s : State) (t : Nat) : (State.closeTile s t).base = s.base := by
  simp [State.closeTile]

@[simp] theorem State.closeDiscovery_base (s : State) : (State.closeDiscovery s).base = s.base := by
  simp [State.closeDiscovery]

@[simp] theorem State.guestDone_base (s : State) (g : Nat) :
    (State.guestDone s g).2.base = s.base := by
  simp only [State.guestDone]; (repeat' split) <;> simp

@[simp] theorem State.tryClose_base (s : State) :
    (State.tryClose s).base = s.base := by
  simp only [State.tryClose]; (repeat' split) <;> simp

@[simp] theorem State.fencedBeacon_base (s : State) (n : Nat) (uid : BitVec 64) (id : BitVec 8) :
    (State.fencedBeacon s n uid id).base = s.base := by
  simp [State.fencedBeacon]

@[simp] theorem State.nextGuest_base (s : State) (n : Nat) :
    (State.nextGuest s n).base = s.base := by
  simp [State.nextGuest]

@[simp] theorem State.lateBeacon_base (s : State) (n : Nat) : (State.lateBeacon s n).base = s.base := by
  simp [State.lateBeacon]

@[simp] theorem State.refuseDie_base (s : State) (n : Nat) :
    (State.refuseDie s n).base = s.base := by
  simp [State.refuseDie]

@[simp] theorem State.agentBeacon_base (s : State) (n : Nat) (uid : BitVec 64) :
    (State.agentBeacon s n uid).base = s.base := by
  simp only [State.agentBeacon]; (repeat' split) <;> simp

@[simp] theorem State.noteRead_base (s : State) (r : SiteRead) : (State.noteRead s r).base = s.base := by
  simp [State.noteRead]

@[simp] theorem State.declareDead_base (s : State) (r : SiteRead) (cause : Nat) :
    (State.declareDead s r cause).base = s.base := by
  simp only [State.declareDead]; (repeat' split) <;> simp

@[simp] theorem State.pollSite_base (s : State) (r : SiteRead) : (State.pollSite s r).base = s.base := by
  simp [State.pollSite]

/-! ### Start -/

@[simp] theorem State.stepTimeout_base (s : State) : (State.stepTimeout s).base = s.base := by
  unfold State.stepTimeout; (repeat' split) <;> simp

@[simp] theorem State.dropOpen_base (s : State) (dir : Nat) (b : Fin 8) :
    (State.dropOpen s dir b).base = s.base := by
  simp [State.dropOpen]

@[simp] theorem State.mapOpen_base (s : State) (b : Fin 8) : (State.mapOpen s b).base = s.base := by
  simp [State.mapOpen]

@[simp] theorem State.goOpen_base (s : State) (b : Fin 8) : (State.goOpen s b).base = s.base := by
  simp [State.goOpen]

@[simp] theorem State.trainOpen_base (s : State) (b : Fin 8) : (State.trainOpen s b).base = s.base := by
  simp [State.trainOpen]

@[simp] theorem State.stepOpen_base (s : State) (b : Fin 8) : (State.stepOpen s b).base = s.base := by
  simp [State.stepOpen]

@[simp] theorem State.beginTesting_base (s : State) (b : Fin 8) : (State.beginTesting s b).base = s.base := by
  simp [State.beginTesting]

@[simp] theorem State.settleAdmits_base (s : State) : (State.settleAdmits s).base = s.base := by
  unfold State.settleAdmits; dsimp only
  repeat' first
    | ((refine (base_foldl _ _ _ (fun u x => ?_)).trans ?_) <;> try dsimp only)
    | split
  all_goals first | simp | (simp_all)

@[simp] theorem State.testObserved_base (s : State) (b : Fin 8) (rx : Heards) (tx : List (Fin 8 × Nat × TxObs)) :
    (State.testObserved s b rx tx).base = s.base := by
  unfold State.testObserved
  dsimp only
  rw [State.settleAdmits_base, State.sendTrain_base]
  refine (base_foldl _ _ _ fun u p => ?_).trans ((base_foldl _ _ _ fun u p => ?_).trans rfl)
  · split <;> simp
  · split <;> simp

@[simp] theorem State.testResult_base (s : State) (b : Fin 8) (far : Nat) :
    (State.testResult s b far).base = s.base := by
  simp [State.testResult]

@[simp] theorem State.startPattern_base (s : State) (b : Fin 8) :
    (State.startPattern s b).base = s.base := by
  simp only [State.startPattern]; (repeat' split) <;> simp

@[simp] theorem State.startAllPatterns_base (s : State) :
    (State.startAllPatterns s).base = s.base := by
  simp only [State.startAllPatterns]; (repeat' split) <;> simp

@[simp] theorem State.backToSplice_base (s : State) :
    (State.backToSplice s).base = s.base := by
  simp only [State.backToSplice]; (repeat' split) <;> simp

@[simp] theorem State.detectAgain_base (s : State) (b : Fin 8) :
    (State.detectAgain s b).base = s.base := by
  simp only [State.detectAgain]; (repeat' split) <;> simp

@[simp] theorem State.detectGo_base (s : State) (b : Fin 8) (attempt : Nat) (payload : BitVec 64) :
    (State.detectGo s b attempt payload).base = s.base := by
  simp [State.detectGo]

@[simp] theorem State.observeGroup_base (s : State) (bs : List (Fin 8)) (rx : Heards) (tx : List (Fin 8 × Nat × TxObs)) :
    (State.observeGroup s bs rx tx).base = s.base := by
  simp [State.observeGroup]

@[simp] theorem State.observeAll_base (s : State) (rx : Heards) (tx : List (Fin 8 × Nat × TxObs)) :
    (State.observeAll s rx tx).base = s.base := by
  simp [State.observeAll]

@[simp] theorem State.padsAgain_base (s : State) (b : Fin 8) (tx : List (Fin 8 × Nat × TxObs)) :
    (State.padsAgain s b tx).base = s.base := by
  simp only [State.padsAgain]; (repeat' split) <;> simp

@[simp] theorem State.mapAgain_base (s : State) (b : Fin 8) :
    (State.mapAgain s b).base = s.base := by
  simp only [State.mapAgain]; (repeat' split) <;> simp

@[simp] theorem State.observeOne_base (s : State) (b : Fin 8) (rx : Heards) (tx : List (Fin 8 × Nat × TxObs)) :
    (State.observeOne s b rx tx).base = s.base := by
  simp [State.observeOne]

@[simp] theorem State.detectResult_base (s : State) (b : Fin 8) (far : Nat) (attempt : Nat) :
    (State.detectResult s b far attempt).base = s.base := by
  simp [State.detectResult]

@[simp] theorem State.mapAgree_base (s : State) (b : Fin 8) (far : Nat) :
    (State.mapAgree s b far).base = s.base := by
  simp [State.mapAgree]

@[simp] theorem State.trainAll_base (s : State) : (State.trainAll s).base = s.base := by
  simp [State.trainAll]

@[simp] theorem State.trainGo_base (s : State) (b : Fin 8) (mask : BitVec 8) :
    (State.trainGo s b mask).base = s.base := by
  simp [State.trainGo]

@[simp] theorem State.setArrivals_base (s : State) (b : Fin 8) (d : Int) (l : List (Nat × Int)) :
    (State.setArrivals s b d l).base = s.base := by
  simp [State.setArrivals]

@[simp] theorem State.lockAchieved_base (s : State) (b : Fin 8) (cross : Nat) (arrivals : List (Nat × Int)) (words : List (List (Nat × Nat))) :
    (State.lockAchieved s b cross arrivals words).base = s.base := by
  simp only [State.lockAchieved]; (repeat' split) <;> simp

@[simp] theorem State.timeoutReason_base (s : State) (b : Fin 8) (noClock : Bool) :
    (State.timeoutReason s b noClock).2.base = s.base := by
  unfold State.timeoutReason; (repeat' split) <;> simp

@[simp] theorem State.farTrained_base (s : State) (b : Fin 8) : (State.farTrained s b).base = s.base := by
  simp [State.farTrained]

@[simp] theorem State.farFailed_base (s : State) (b : Fin 8) (attempt : Nat) (reason : Nat) :
    (State.farFailed s b attempt reason).base = s.base := by
  simp [State.farFailed]

@[simp] theorem State.firstResult_base (s : State) (dir : Nat) (b : Fin 8) (p : Nat) (x : Found) :
    (State.firstResult s dir b p x).base = s.base := by
  simp [State.firstResult]

@[simp] theorem State.proxyUp_base (s : State) (f : SbFrame) : (State.proxyUp s f).base = s.base := by
  simp [State.proxyUp]

@[simp] theorem State.beaconHeard_base (s : State) (f : SbFrame) : (State.beaconHeard s f).base = s.base := by
  simp only [State.beaconHeard]; (repeat' split) <;> simp

@[simp] theorem State.afterDieId_base (s : State) : (State.afterDieId s).base = s.base := by
  simp [State.afterDieId]

@[simp] theorem State.holdOff_base (s : State) :
    (State.holdOff s).base = s.base := by
  simp [State.holdOff]

@[simp] theorem State.forwardDieId_base (s : State) (f : SbFrame) :
    (State.forwardDieId s f).base = s.base := by
  simp [State.forwardDieId]

@[simp] theorem State.takeDieId_base (s : State) (f : SbFrame) : (State.takeDieId s f).base = s.base := by
  simp [State.takeDieId]

@[simp] theorem State.revoked_base (s : State) (f : SbFrame) : (State.revoked s f).base = s.base := by
  simp [State.revoked]

@[simp] theorem State.negotiated_base (s : State) (p : BitVec 64) : (State.negotiated s p).base = s.base := by
  simp [State.negotiated]

/-! ### RegGate -/

@[simp] theorem State.accDone_base (s : State) (data : Reg) : (State.accDone s data).base = s.base := by
  simp [State.accDone]

@[simp] theorem State.accRefused_base (s : State) : (State.accRefused s).base = s.base := by
  simp [State.accRefused]

@[simp] theorem State.refuseWrite_base (s : State) (a : Access) (cause : Nat) :
    (State.refuseWrite s a cause).base = s.base := by
  simp [State.refuseWrite]

@[simp] theorem State.gateWrite_base (s : State) (a : Access) (g : Gate) :
    (State.gateWrite s a g).base = s.base := by
  unfold State.gateWrite; (repeat' split) <;> simp

@[simp] theorem State.gateRead_base (s : State) (g : Gate) : (State.gateRead s g).base = s.base := by
  unfold State.gateRead; (repeat' split) <;> simp

@[simp] theorem State.regWrite_base (s : State) (a : Access) (act : State → State) (hact : ∀ (u0 : State), (act u0).base = u0.base) :
    (State.regWrite s a act).base = s.base := by
  unfold State.regWrite; (repeat' split) <;> simp_all

/-! ### Lash -/

@[simp] theorem State.lashStage_base (s : State) (a : Access) : (State.lashStage s a).base = s.base := by
  simp [State.lashStage]

@[simp] theorem State.lashUnstage_base (s : State) (a : Access) : (State.lashUnstage s a).base = s.base := by
  simp [State.lashUnstage]

@[simp] theorem State.lashPropose_base (s : State) (a : Access) : (State.lashPropose s a).base = s.base := by
  simp [State.lashPropose]

@[simp] theorem State.lashCommit_base (s : State) (a : Access) : (State.lashCommit s a).base = s.base := by
  unfold State.lashCommit; (repeat' split) <;> simp

@[simp] theorem State.lashAbort_base (s : State) (a : Access) : (State.lashAbort s a).base = s.base := by
  simp [State.lashAbort]

@[simp] theorem State.takeSwitch_base (s : State) (b : Fin 8) : (State.takeSwitch s b).base = s.base := by
  simp [State.takeSwitch]

@[simp] theorem State.takeWithdraw_base (s : State) (cause : Nat) :
    (State.takeWithdraw s cause).base = s.base := by
  simp [State.takeWithdraw]

@[simp] theorem State.partyWrite_base (s : State) (a : Access) : (State.partyWrite s a).base = s.base := by
  simp [State.partyWrite]

/-! ### Bight -/

@[simp] theorem State.writeBight_base (s : State) (v : Reg) (counts : List (Fin 8 × Nat × Nat × Nat)) :
    (State.writeBight s v counts).base = s.base := by
  simp only [State.writeBight]; (repeat' split) <;> simp

@[simp] theorem State.bightReq_base (s : State) (b : Fin 8) (enter : Bool) :
    (State.bightReq s b enter).base = s.base := by
  simp [State.bightReq]

@[simp] theorem State.takeBight_base (s : State) (f : SbFrame) (phase : Nat) (work : State → State) (hwork : ∀ (u0 : State), (work u0).base = u0.base) :
    (State.takeBight s f phase work).base = s.base := by
  unfold State.takeBight; (repeat' split) <;> simp_all

@[simp] theorem State.bightAck_base (s : State) (b : Fin 8) (enter : Bool) (refused : Bool) :
    (State.bightAck s b enter refused).base = s.base := by
  simp [State.bightAck]

/-! ### CancelOps -/

@[simp] theorem State.dropRequests_base (s : State) (dir : Nat) (b : Fin 8) (k : RingNo × BitVec 32) :
    (State.dropRequests s dir b k).base = s.base := by
  simp [State.dropRequests]

@[simp] theorem State.cancelStrand_base (s : State) (k : RingNo × BitVec 32) (d : Desc) :
    (State.cancelStrand s k d).base = s.base := by
  simp only [State.cancelStrand]; (repeat' split) <;> simp

@[simp] theorem State.cancelCal_base (s : State) (k : RingNo × BitVec 32) :
    (State.cancelCal s k).base = s.base := by
  unfold State.cancelCal
  split
  · simp
  · dsimp only
    rw [State.complete_base]
    refine (base_foldl _ _ _ fun u b => ?_).trans (by simp)
    split
    · split <;> simp
    · rfl

@[simp] theorem State.cancelScan_base (s : State) (k : RingNo × BitVec 32) :
    (State.cancelScan s k).base = s.base := by
  unfold State.cancelScan; (repeat' split) <;> simp

@[simp] theorem State.cancelBight_base (s : State) (k : RingNo × BitVec 32) :
    (State.cancelBight s k).base = s.base := by
  simp [State.cancelBight]

@[simp] theorem State.endPark_base (s : State) : (State.endPark s).base = s.base := by
  simp [State.endPark]

@[simp] theorem State.cancelFence_base (s : State) (k : RingNo × BitVec 32) :
    (State.cancelFence s k).base = s.base := by
  simp [State.cancelFence]

@[simp] theorem State.cancelWait_base (s : State) (k : RingNo × BitVec 32) :
    (State.cancelWait s k).base = s.base := by
  simp [State.cancelWait]

@[simp] theorem State.cancelRunning_base (s : State) (k : RingNo × BitVec 32) (d : Desc) :
    (State.cancelRunning s k d).2.base = s.base := by
  unfold State.cancelRunning; (repeat' split) <;> simp

@[simp] theorem State.endRunning_base (s : State) : (State.endRunning s).base = s.base := by
  simp [State.endRunning]

/-! ### Rings -/

@[simp] theorem State.watchFailed_base (s : State) (k : Fin 8) : (State.watchFailed s k).base = s.base := by
  simp [State.watchFailed]

@[simp] theorem State.watchTaken_base (s : State) (k : Fin 8) (data : BitVec 512) :
    (State.watchTaken s k data).base = s.base := by
  simp [State.watchTaken]

@[simp] theorem State.wakeLines_base (s : State) : (State.wakeLines s).base = s.base := by
  simp [State.wakeLines]

@[simp] theorem State.takeDesc_base (s : State) (r : RingNo) (i : BitVec 32) (e : RingDesc) (data : Desc) :
    (State.takeDesc s r i e data).base = s.base := by
  simp only [State.takeDesc]; (repeat' split) <;> simp

@[simp] theorem State.startHead_base (s : State) (r : Nat) : (State.startHead s r).base = s.base := by
  unfold State.startHead; (repeat' split) <;> simp

@[simp] theorem State.settleUnstarted_base (s : State) (r : Nat) :
    (State.settleUnstarted s r).base = s.base := by
  simp [State.settleUnstarted]

@[simp] theorem State.dispatchKind_base (s : State) (kind : Nat) (ptr : Nat) :
    (State.dispatchKind s kind ptr).1.base = s.base := by
  simp only [State.dispatchKind]; (repeat' split) <;> simp

@[simp] theorem State.dispatch_base (s : State) : (State.dispatch s).base = s.base := by
  simp [State.dispatch]

@[simp] theorem State.issueMsi_base (s : State) (r : Nat) : (State.issueMsi s r).base = s.base := by
  simp [State.issueMsi]

@[simp] theorem State.writeCpl_base (s : State) (c : Nat) : (State.writeCpl s c).base = s.base := by
  unfold State.writeCpl; (repeat' split) <;> simp

@[simp] theorem State.entryAcked_base (s : State) (r : Nat) (i : BitVec 32) :
    (State.entryAcked s r i).base = s.base := by
  unfold State.entryAcked; (repeat' split) <;> simp

@[simp] theorem State.enableRing_base (s : State) (r : Nat) (v : Reg) :
    (State.enableRing s r v).base = s.base := by
  simp only [State.enableRing]; (repeat' split) <;> simp

@[simp] theorem State.ringOff_base (s : State) (r : Nat) : (State.ringOff s r).base = s.base := by
  simp [State.ringOff]

@[simp] theorem State.cancelFetched_base (s : State) (r : Nat) : (State.cancelFetched s r).base = s.base := by
  simp [State.cancelFetched]

@[simp] theorem State.disableRing_base (s : State) (r : Nat) : (State.disableRing s r).base = s.base := by
  simp [State.disableRing]

@[simp] theorem State.writeRingCfg_base (s : State) (r : Nat) (v : Reg) :
    (State.writeRingCfg s r v).base = s.base := by
  simp [State.writeRingCfg]

/-! ### ResetOps -/

@[simp] theorem State.islandReset_base (s : State) : (State.islandReset s).base = s.base := by
  rfl

@[simp] theorem State.faultReset_base (s : State) (cause : BitVec 4) :
    (State.faultReset s cause).base = s.base := by
  simp [State.faultReset]

@[simp] theorem State.startExit_base (s : State) : (State.startExit s).base = s.base := by
  simp [State.startExit]

@[simp] theorem State.releaseCap_base (s : State) : (State.releaseCap s).base = s.base := by
  simp [State.releaseCap]

@[simp] theorem State.exitBraid_base (s : State) (b : Fin 8) : (State.exitBraid s b).base = s.base := by
  simp [State.exitBraid]

@[simp] theorem State.exitTrain_base (s : State) : (State.exitTrain s).base = s.base := by
  simp [State.exitTrain]

@[simp] theorem State.closeNoted_base (s : State) : (State.closeNoted s).base = s.base := by
  unfold State.closeNoted; (repeat' split) <;> simp

@[simp] theorem State.exitEnd_base (s : State) (b : Fin 8) : (State.exitEnd s b).base = s.base := by
  simp [State.exitEnd]

@[simp] theorem State.resumeWaits_base (s : State) :
    (State.resumeWaits s).base = s.base := by
  simp only [State.resumeWaits]; (repeat' split) <;> simp

@[simp] theorem State.exitDone_base (s : State) : (State.exitDone s).base = s.base := by
  simp [State.exitDone]

/-! ### Power -/

@[simp] theorem State.pmDrop_base (s : State) : (State.pmDrop s).base = s.base := by
  simp [State.pmDrop]

@[simp] theorem State.pmBudget_base (s : State) (f : NocFlit) : (State.pmBudget s f).base = s.base := by
  simp [State.pmBudget]

@[simp] theorem State.pmRamp_base (s : State) (f : NocFlit) : (State.pmRamp s f).base = s.base := by
  simp [State.pmRamp]

@[simp] theorem State.withCtl_base (s : State) (b : Fin 8) (op : Nat) (p : NocFlit) (work : State → State) (hwork : ∀ (u0 : State), (work u0).base = u0.base) :
    (State.withCtl s b op p work).base = s.base := by
  unfold State.withCtl; (repeat' split) <;> simp_all

@[simp] theorem State.pwrCap_base (s : State) (p : NocFlit) : (State.pwrCap s p).base = s.base := by
  unfold State.pwrCap; (repeat' split) <;> simp

@[simp] theorem State.pwrGo_base (s : State) (p : NocFlit) : (State.pwrGo s p).base = s.base := by
  unfold State.pwrGo; (repeat' split) <;> simp

@[simp] theorem State.wakeBurst_base (s : State) : (State.wakeBurst s).base = s.base := by
  simp [State.wakeBurst]

@[simp] theorem State.drainLimit_base (s : State) : (State.drainLimit s).base = s.base := by
  unfold State.drainLimit; (repeat' split) <;> simp

/-! ### Clocks -/

@[simp] theorem State.pairAssert_base (s : State) : (State.pairAssert s).base = s.base := by
  simp [State.pairAssert]

@[simp] theorem State.toIdent_base (s : State) : (State.toIdent s).base = s.base := by
  simp [State.toIdent]

@[simp] theorem State.pairRelease_base (s : State) : (State.pairRelease s).base = s.base := by
  simp [State.pairRelease]

@[simp] theorem State.mainPower_base (s : State) : (State.mainPower s).base = s.base := by
  simp [State.mainPower]

@[simp] theorem State.switchTimeout_base (s : State) : (State.switchTimeout s).base = s.base := by
  simp [State.switchTimeout]

@[simp] theorem State.rootLocks_base (s : State) : (State.rootLocks s).base = s.base := by
  simp [State.rootLocks]

@[simp] theorem State.rootLost_base (s : State) : (State.rootLost s).base = s.base := by
  simp [State.rootLost]

@[simp] theorem State.nclkBack_base (s : State) : (State.nclkBack s).base = s.base := by
  simp [State.nclkBack]

@[simp] theorem State.nclkWindow_base (s : State) (count : Nat) (locked : Bool) :
    (State.nclkWindow s count locked).base = s.base := by
  simp [State.nclkWindow]

@[simp] theorem State.refWindow_base (s : State) (l : List (Fin 8 × Int)) :
    (State.refWindow s l).base = s.base := by
  simp [State.refWindow]

@[simp] theorem State.tsStep_base (s : State) (old : BitVec 64) (new : BitVec 64) :
    (State.tsStep s old new).base = s.base := by
  simp [State.tsStep]

/-! ### Sideband -/

@[simp] theorem State.takeHeartbeat_base (s : State) (f : SbFrame) :
    (State.takeHeartbeat s f).base = s.base := by
  simp [State.takeHeartbeat]

@[simp] theorem State.bightLost_base (s : State) : (State.bightLost s).base = s.base := by
  simp [State.bightLost]

@[simp] theorem State.testsLost_base (s : State) :
    (State.testsLost s).base = s.base := by
  simp only [State.testsLost]; (repeat' split) <;> simp

@[simp] theorem State.loseSideband_base (s : State) : (State.loseSideband s).base = s.base := by
  simp [State.loseSideband]

@[simp] theorem State.resetPairFresh_base (s : State) (ack : Bool) (rel : Bool) :
    (State.resetPairFresh s ack rel).base = s.base := by
  simp [State.resetPairFresh]

@[simp] theorem State.resetPairAsked_base (s : State) (ack : Bool) (drain : Bool) (rel : Bool) :
    (State.resetPairAsked s ack drain rel).base = s.base := by
  simp [State.resetPairAsked]

@[simp] theorem State.takeResetPair_base (s : State) (f : SbFrame) :
    (State.takeResetPair s f).base = s.base := by
  simp [State.takeResetPair]

@[simp] theorem State.writeReset_base (s : State) (v : Reg) : (State.writeReset s v).base = s.base := by
  simp [State.writeReset]

@[simp] theorem State.dropReserved_base (s : State) (f : SbFrame) :
    (State.dropReserved s f).base = s.base := by
  simp only [State.dropReserved]; (repeat' split) <;> simp

@[simp] theorem State.proxyDown_base (s : State) (f : SbFrame) : (State.proxyDown s f).base = s.base := by
  simp [State.proxyDown]

@[simp] theorem State.ringGap_base (s : State) : (State.ringGap s).base = s.base := by
  unfold State.ringGap; (repeat' split) <;> simp

@[simp] theorem State.ringFrame_base (s : State) (f : SbFrame) (uplink : Bool) :
    (State.ringFrame s f uplink).base = s.base := by
  simp [State.ringFrame]

@[simp] theorem State.sendOn_base (s : State) (f : SbFrame) : (State.sendOn s f).base = s.base := by
  simp [State.sendOn]

@[simp] theorem State.frameReserved_base (s : State) (f : SbFrame) :
    (State.frameReserved s f).base = s.base := by
  simp [State.frameReserved]

@[simp] theorem State.selects_base (s : State) (wdr : Bool) (acc : Bool) :
    (State.selects s wdr acc).base = s.base := by
  simp [State.selects]

@[simp] theorem State.soLow_base (s : State) :
    (State.soLow s).base = s.base := by
  simp only [State.soLow]; (repeat' split) <;> simp

@[simp] theorem State.tapUpdate_base (s : State) : (State.tapUpdate s).base = s.base := by
  simp [State.tapUpdate]

@[simp] theorem State.tapCapture_base (s : State) : (State.tapCapture s).base = s.base := by
  simp [State.tapCapture]

/-! ### Strands -/

@[simp] theorem State.strandWork_base (s : State) (b : Fin 8) (opcode : Nat) (p : NocFlit) (work : State → State) (hwork : ∀ (u0 : State), (work u0).base = u0.base) :
    (State.strandWork s b opcode p work).base = s.base := by
  unfold State.strandWork; (repeat' split) <;> simp_all

@[simp] theorem State.strandRequest_base (s : State) (p : NocFlit) :
    (State.strandRequest s p).base = s.base := by
  simp [State.strandRequest]

@[simp] theorem State.strandReady_base (s : State) (p : NocFlit) : (State.strandReady s p).base = s.base := by
  simp only [State.strandReady]; (repeat' split) <;> simp

@[simp] theorem State.unswitch_base (s : State) (b : Fin 8) (o : StrandOp) :
    (State.unswitch s b o).base = s.base := by
  simp [State.unswitch]

@[simp] theorem State.abortFromRx_base (s : State) (b : Fin 8) (o : StrandOp) (code : Nat) :
    (State.abortFromRx s b o code).base = s.base := by
  simp [State.abortFromRx]

@[simp] theorem State.takeRequest_base (s : State) (b : Fin 8) (ok : StrandOp → Bool) :
    (State.takeRequest s b ok).2.base = s.base := by
  simp only [State.takeRequest]; (repeat' split) <;> simp

@[simp] theorem State.rejectOp_base (s : State) (b : Fin 8) (o : StrandOp) (code : Nat) :
    (State.rejectOp s b o code).base = s.base := by
  simp [State.rejectOp]

@[simp] theorem State.abandonCal_base (s : State) (b : Fin 8) (o : StrandOp) :
    (State.abandonCal s b o).base = s.base := by
  unfold State.abandonCal; (repeat' split) <;> simp

@[simp] theorem State.strandPrepare_base (s : State) (b : Fin 8) (p : NocFlit) :
    (State.strandPrepare s b p).base = s.base := by
  simp only [State.strandPrepare]; (repeat' split) <;> simp

@[simp] theorem State.sendReady_base (s : State) (b : Fin 8) (o : StrandOp) :
    (State.sendReady s b o).base = s.base := by
  simp [State.sendReady]

@[simp] theorem State.alignFail_base (s : State) (b : Fin 8) (o : StrandOp) :
    (State.alignFail s b o).base = s.base := by
  simp [State.alignFail]

@[simp] theorem State.alignDone_base (s : State) (b : Fin 8) (arrival : Int) (pass : Option (Fin 3)) :
    (State.alignDone s b arrival pass).base = s.base := by
  unfold State.alignDone; (repeat' split) <;> simp

@[simp] theorem State.armSwitch_base (s : State) (b : Fin 8) (o : StrandOp) (q : BitVec 16) :
    (State.armSwitch s b o q).base = s.base := by
  simp [State.armSwitch]

@[simp] theorem State.strandCommit_base (s : State) (b : Fin 8) (p : NocFlit) :
    (State.strandCommit s b p).base = s.base := by
  simp only [State.strandCommit]; (repeat' split) <;> simp

@[simp] theorem State.requestRefused_base (s : State) (p : NocFlit) :
    (State.requestRefused s p).base = s.base := by
  simp only [State.requestRefused]; (repeat' split) <;> simp

@[simp] theorem State.strandAbort_base (s : State) (p : NocFlit) : (State.strandAbort s p).base = s.base := by
  simp only [State.strandAbort]; (repeat' split) <;> simp

@[simp] theorem State.admitDone_base (s : State) (dir : Nat) (b : Fin 8) (p : Nat) (pass : Bool) (m : Meas) :
    (State.admitDone s dir b p pass m).base = s.base := by
  simp [State.admitDone]

/-! ### Calib -/

@[simp] theorem State.calWork_base (s : State) (b : Fin 8) (opcode : Nat) (p : NocFlit) (work : State → State) (hwork : ∀ (u0 : State), (work u0).base = u0.base) :
    (State.calWork s b opcode p work).base = s.base := by
  unfold State.calWork; (repeat' split) <;> simp_all

@[simp] theorem State.stepDone_base (s : State) (b : Fin 8) (v : CalServe) (step : Nat) :
    (State.stepDone s b v step).base = s.base := by
  simp [State.stepDone]

@[simp] theorem State.calStep_base (s : State) (p : NocFlit) : (State.calStep s p).base = s.base := by
  simp [State.calStep]

@[simp] theorem State.txStepDone_base (s : State) (b : Fin 8) (codes : Reg) :
    (State.txStepDone s b codes).base = s.base := by
  unfold State.txStepDone; (repeat' split) <;> simp

@[simp] theorem State.calEnd_base (s : State) (p : NocFlit) : (State.calEnd s p).base = s.base := by
  simp only [State.calEnd]; (repeat' split) <;> simp

@[simp] theorem State.afterStep_base (s : State) (b : Fin 8) (r : CalRun) (m : Meas) :
    (State.afterStep s b r m).base = s.base := by
  unfold State.afterStep; (repeat' split) <;> simp

@[simp] theorem State.stepFound_base (s : State) (b : Fin 8) (r : CalRun) (f : Found) :
    (State.stepFound s b r f).base = s.base := by
  unfold State.stepFound; (repeat' split) <;> simp

@[simp] theorem State.calStepOver_base (s : State) (b : Fin 8) (f : Found) (iref : Nat) :
    (State.calStepOver s b f iref).base = s.base := by
  unfold State.calStepOver; (repeat' split) <;> simp

@[simp] theorem State.calStepDone_base (s : State) (p : NocFlit) : (State.calStepDone s p).base = s.base := by
  simp only [State.calStepDone]; (repeat' split) <;> simp

@[simp] theorem State.sweepDue_base (s : State) : (State.sweepDue s).base = s.base := by
  simp [State.sweepDue]

@[simp] theorem State.trend_base (s : State) (b : Fin 8) (p : Nat) (est : Nat) (n : Nat) :
    (State.trend s b p est n).base = s.base := by
  simp [State.trend]

@[simp] theorem State.judge_base (s : State) (b : Fin 8) (p : Nat) (errs : Nat) (units : Nat) (est : Nat) :
    (State.judge s b p errs units est).base = s.base := by
  simp [State.judge]

@[simp] theorem State.closePeriodic_base (s : State) (b : Fin 8) (p : Nat) (m : Meas) :
    (State.closePeriodic s b p m).base = s.base := by
  simp [State.closePeriodic]

@[simp] theorem State.eyePoints_base (s : State) (b : Fin 8) (p : Nat) (m : Meas) :
    (State.eyePoints s b p m).base = s.base := by
  unfold State.eyePoints; (repeat' split) <;> simp

@[simp] theorem State.retrack_base (s : State) :
    (State.retrack s).base = s.base := by
  simp only [State.retrack]; (repeat' split) <;> simp

@[simp] theorem State.fibreTemp_base (s : State) : (State.fibreTemp s).base = s.base := by
  simp [State.fibreTemp]

@[simp] theorem State.newTemp_base (s : State) (v : BitVec 10) : (State.newTemp s v).base = s.base := by
  simp [State.newTemp]

@[simp] theorem State.trackOne_base (s : State) (w : Nat × Fin 8 × Nat) :
    (State.trackOne s w).base = s.base := by
  simp only [State.trackOne]; (repeat' split) <;> simp

@[simp] theorem State.writeTrim_base (s : State) (off : Nat) (v : Reg) :
    (State.writeTrim s off v).base = s.base := by
  simp [State.writeTrim]

/-! ### Commands -/

@[simp] theorem State.linkCmd_base (s : State) (r : RingNo) (i : BitVec 32) (op : Nat) (work : Desc → State → State) (hwork : ∀ (u0 : Desc) (u1 : State), (work u0 u1).base = u1.base) :
    (State.linkCmd s r i op work).base = s.base := by
  unfold State.linkCmd; (repeat' split) <;> simp_all

@[simp] theorem State.braidCmd_base (s : State) (r : RingNo) (i : BitVec 32) (op : Nat) (work : Desc → State → State) (hwork : ∀ (u0 : Desc) (u1 : State), (work u0 u1).base = u1.base) :
    (State.braidCmd s r i op work).base = s.base := by
  unfold State.braidCmd; (repeat' split) <;> simp_all

@[simp] theorem State.admitBraid_base (s : State) (b : Fin 8) : (State.admitBraid s b).base = s.base := by
  simp [State.admitBraid]

@[simp] theorem State.cmdRetrain_base (s : State) (r : RingNo) (i : BitVec 32) (d : Desc) :
    (State.cmdRetrain s r i d).base = s.base := by
  simp [State.cmdRetrain]

@[simp] theorem State.cmdStrand_base (s : State) (r : RingNo) (i : BitVec 32) (d : Desc) (o : StrandOp) :
    (State.cmdStrand s r i d o).base = s.base := by
  simp [State.cmdStrand]

@[simp] theorem State.cmdCalibrate_base (s : State) (r : RingNo) (i : BitVec 32) (d : Desc) :
    (State.cmdCalibrate s r i d).base = s.base := by
  simp [State.cmdCalibrate]

@[simp] theorem State.cmdEyeScan_base (s : State) (r : RingNo) (i : BitVec 32) (d : Desc) :
    (State.cmdEyeScan s r i d).base = s.base := by
  simp [State.cmdEyeScan]

@[simp] theorem State.cmdPrbs_base (s : State) (r : RingNo) (i : BitVec 32) (d : Desc) :
    (State.cmdPrbs s r i d).base = s.base := by
  simp [State.cmdPrbs]

@[simp] theorem State.cmdBight_base (s : State) (r : RingNo) (i : BitVec 32) (d : Desc) :
    (State.cmdBight s r i d).base = s.base := by
  simp [State.cmdBight]

@[simp] theorem State.cmdResume_base (s : State) (r : RingNo) (i : BitVec 32) :
    (State.cmdResume s r i).base = s.base := by
  simp [State.cmdResume]

@[simp] theorem State.cancelOne_base (s : State) (t : RingNo × BitVec 32) :
    (State.cancelOne s t).base = s.base := by
  simp only [State.cancelOne]; (repeat' split) <;> simp

@[simp] theorem State.cancelAll_base (s : State) (r : RingNo) (i : BitVec 32) (targets : List (RingNo × BitVec 32)) :
    (State.cancelAll s r i targets).base = s.base := by
  simp [State.cancelAll]

@[simp] theorem State.cancelNone_base (s : State) (r : RingNo) (i : BitVec 32) (detail : Nat) :
    (State.cancelNone s r i detail).base = s.base := by
  simp [State.cancelNone]

@[simp] theorem State.cancelIndex_base (s : State) (r : RingNo) (i : BitVec 32) (q : RingNo) (x : BitVec 32) :
    (State.cancelIndex s r i q x).base = s.base := by
  simp [State.cancelIndex]

@[simp] theorem State.cancelThrough_base (s : State) (r : RingNo) (i : BitVec 32) (q : RingNo) (x : BitVec 32) :
    (State.cancelThrough s r i q x).base = s.base := by
  simp [State.cancelThrough]

@[simp] theorem State.cmdCancel_base (s : State) (r : RingNo) (i : BitVec 32) (d : Desc) :
    (State.cmdCancel s r i d).base = s.base := by
  simp [State.cmdCancel]

@[simp] theorem State.cmdFence_base (s : State) (r : RingNo) (i : BitVec 32) (d : Desc) (fence : Bool) :
    (State.cmdFence s r i d fence).base = s.base := by
  simp [State.cmdFence]

/-! ### RegRead -/

@[simp] theorem State.readEffect_base (s : State) (off : Nat) : (State.readEffect s off).base = s.base := by
  simp [State.readEffect]

@[simp] theorem State.regRead_base (s : State) (a : Access) : (State.regRead s a).base = s.base := by
  unfold State.regRead; (repeat' split) <;> simp

/-! ### RegWrite -/

@[simp] theorem State.writeGlobal_base (s : State) (off : Nat) (v : Reg) :
    (State.writeGlobal s off v).base = s.base := by
  unfold State.writeGlobal; (repeat' split) <;> simp

@[simp] theorem State.writeLash_base (s : State) (a : Access) : (State.writeLash s a).base = s.base := by
  unfold State.writeLash; (repeat' split) <;> simp

@[simp] theorem State.writeTset_base (s : State) (v : Reg) : (State.writeTset s v).base = s.base := by
  simp [State.writeTset]

@[simp] theorem State.writeCal_base (s : State) (off : Nat) (v : Reg) :
    (State.writeCal s off v).base = s.base := by
  unfold State.writeCal; (repeat' split) <;> simp

@[simp] theorem State.writeLlCtl_base (s : State) (v : Reg) : (State.writeLlCtl s v).base = s.base := by
  simp [State.writeLlCtl]

@[simp] theorem State.writeFlow_base (s : State) (off : Nat) (v : Reg) :
    (State.writeFlow s off v).base = s.base := by
  unfold State.writeFlow; (repeat' split) <;> simp

@[simp] theorem State.writeLine_base (s : State) (k : Fin 8) (off : Nat) (v : Reg) :
    (State.writeLine s k off v).base = s.base := by
  unfold State.writeLine; (repeat' split) <;> simp

@[simp] theorem State.writeRingField_base (s : State) (r : Nat) (f : Ring → Ring) :
    (State.writeRingField s r f).base = s.base := by
  simp [State.writeRingField]

@[simp] theorem State.writeRings_base (s : State) (off : Nat) (v : Reg) :
    (State.writeRings s off v).base = s.base := by
  unfold State.writeRings; (repeat' split) <;> simp

@[simp] theorem State.writeRed_base (s : State) (off : Nat) (v : Reg) :
    (State.writeRed s off v).base = s.base := by
  unfold State.writeRed; (repeat' split) <;> simp

@[simp] theorem State.writeHitch_base (s : State) (off : Nat) (v : Reg) :
    (State.writeHitch s off v).base = s.base := by
  unfold State.writeHitch; (repeat' split) <;> simp

@[simp] theorem State.writeClose_base (s : State) (v : Reg) : (State.writeClose s v).base = s.base := by
  simp [State.writeClose]

@[simp] theorem State.writeMeter_base (s : State) (off : Nat) (v : Reg) :
    (State.writeMeter s off v).base = s.base := by
  unfold State.writeMeter; (repeat' split) <;> simp

@[simp] theorem State.writeFault_base (s : State) (off : Nat) (v : Reg) :
    (State.writeFault s off v).base = s.base := by
  unfold State.writeFault; (repeat' split) <;> simp

@[simp] theorem State.writeDebug_base (s : State) (off : Nat) (v : Reg) :
    (State.writeDebug s off v).base = s.base := by
  unfold State.writeDebug; (repeat' split) <;> simp

@[simp] theorem State.writePlain_base (s : State) (a : Access) : (State.writePlain s a).base = s.base := by
  simp [State.writePlain]

@[simp] theorem State.writeReg_base (s : State) (a : Access) : (State.writeReg s a).base = s.base := by
  simp [State.writeReg]

@[simp] theorem State.regStore_base (s : State) (a : Access) : (State.regStore s a).base = s.base := by
  simp [State.regStore]

/-! ### Serial -/

@[simp] theorem State.takeReply_base (s : State) (f : SbFrame) (typ : BitVec 4) (work : State → State) (hwork : ∀ (u0 : State), (work u0).base = u0.base) :
    (State.takeReply s f typ work).base = s.base := by
  unfold State.takeReply; (repeat' split) <;> simp_all

@[simp] theorem State.smData_base (s : State) (f : SbFrame) : (State.smData s f).base = s.base := by
  simp only [State.smData]; (repeat' split) <;> simp

@[simp] theorem State.smError_base (s : State) (f : SbFrame) : (State.smError s f).base = s.base := by
  simp only [State.smError]; (repeat' split) <;> simp

@[simp] theorem State.smTimeout_base (s : State) (tag : Nat) : (State.smTimeout s tag).base = s.base := by
  simp only [State.smTimeout]; (repeat' split) <;> simp

@[simp] theorem State.relayReply_base (s : State) (f : SbFrame) : (State.relayReply s f).base = s.base := by
  simp [State.relayReply]

/-! ### Registers -/

@[simp] theorem State.tapDone_base (s : State) (j : TapJob) : (State.tapDone s j).base = s.base := by
  simp [State.tapDone]

@[simp] theorem State.epochDue_base (s : State) : (State.epochDue s).base = s.base := by
  simp [State.epochDue]

@[simp] theorem State.ownPoll_base (s : State) (repl : DieId) : (State.ownPoll s repl).base = s.base := by
  simp [State.ownPoll]

/-! ### Reduce -/

@[simp] theorem State.startJob_base (s : State) (r : RingNo) (i : BitVec 32) (d : Desc) :
    (State.startJob s r i d).base = s.base := by
  simp [State.startJob]

@[simp] theorem State.redTaken_base (s : State) (rx : Bool) (f : NocFlit) :
    (State.redTaken s rx f).base = s.base := by
  simp [State.redTaken]

@[simp] theorem State.spillFailed_base (s : State) (slot : Nat) (idx : Nat) :
    (State.spillFailed s slot idx).base = s.base := by
  simp [State.spillFailed]

@[simp] theorem State.closeRefilled_base (s : State) (slot : Nat) (idx : Nat) :
    (State.closeRefilled s slot idx).base = s.base := by
  unfold State.closeRefilled; (repeat' split) <;> simp

@[simp] theorem State.refilled_base (s : State) (slot : Nat) (idx : Nat) :
    (State.refilled s slot idx).base = s.base := by
  unfold State.refilled; (repeat' split) <;> simp

/-! ### Tick -/

@[simp] theorem State.tscTick_base (s : State) : (State.tscTick s).base = s.base := by
  simp [State.tscTick]

@[simp] theorem State.commandOptical_base (s : State) :
    (State.commandOptical s).base = s.base := by
  simp only [State.commandOptical]; (repeat' split) <;> simp

@[simp] theorem State.engineTick_base (s : State) : (State.engineTick s).base = s.base := by
  simp [State.engineTick]

@[simp] theorem State.tick_base (s : State) : (State.tick s).base = s.base := by
  simp [State.tick]

end Sys2Proof.Machine
end

