-- ==== Sys2Proof/Laws/State.lean ====
section
/-!
SUPPORT. What each named update of the state does to each field of it: one lemma a field, true by unfolding, so that no proof
unfolds a record update.
-/
namespace Sys2Proof.Machine

/-! ### modTx -/
@[simp] theorem State.modTx_straps (s : State) (b : Fin 8) (f : TxBraid → TxBraid) : (s.modTx b f).straps = s.straps := rfl
@[simp] theorem State.modTx_pending (s : State) (b : Fin 8) (f : TxBraid → TxBraid) : (s.modTx b f).pending = s.pending := rfl
@[simp] theorem State.modTx_aon (s : State) (b : Fin 8) (f : TxBraid → TxBraid) : (s.modTx b f).aon = s.aon := rfl
@[simp] theorem State.modTx_clk (s : State) (b : Fin 8) (f : TxBraid → TxBraid) : (s.modTx b f).clk = s.clk := rfl
@[simp] theorem State.modTx_sb (s : State) (b : Fin 8) (f : TxBraid → TxBraid) : (s.modTx b f).sb = s.sb := rfl
@[simp] theorem State.modTx_test (s : State) (b : Fin 8) (f : TxBraid → TxBraid) : (s.modTx b f).test = s.test := rfl
@[simp] theorem State.modTx_start (s : State) (b : Fin 8) (f : TxBraid → TxBraid) : (s.modTx b f).start = s.start := rfl
@[simp] theorem State.modTx_link (s : State) (b : Fin 8) (f : TxBraid → TxBraid) :
    (s.modTx b f).link = { s.link with tx := s.link.tx.upd b f } := rfl
@[simp] theorem State.modTx_noc (s : State) (b : Fin 8) (f : TxBraid → TxBraid) : (s.modTx b f).noc = s.noc := rfl
@[simp] theorem State.modTx_rings (s : State) (b : Fin 8) (f : TxBraid → TxBraid) : (s.modTx b f).rings = s.rings := rfl
@[simp] theorem State.modTx_cal (s : State) (b : Fin 8) (f : TxBraid → TxBraid) : (s.modTx b f).cal = s.cal := rfl
@[simp] theorem State.modTx_red (s : State) (b : Fin 8) (f : TxBraid → TxBraid) : (s.modTx b f).red = s.red := rfl
@[simp] theorem State.modTx_ht (s : State) (b : Fin 8) (f : TxBraid → TxBraid) : (s.modTx b f).ht = s.ht := rfl
@[simp] theorem State.modTx_cfg (s : State) (b : Fin 8) (f : TxBraid → TxBraid) : (s.modTx b f).cfg = s.cfg := rfl
@[simp] theorem State.modTx_agent (s : State) (b : Fin 8) (f : TxBraid → TxBraid) : (s.modTx b f).agent = s.agent := rfl
@[simp] theorem State.modTx_flt (s : State) (b : Fin 8) (f : TxBraid → TxBraid) : (s.modTx b f).flt = s.flt := rfl
@[simp] theorem State.modTx_pwr (s : State) (b : Fin 8) (f : TxBraid → TxBraid) : (s.modTx b f).pwr = s.pwr := rfl
@[simp] theorem State.modTx_lash (s : State) (b : Fin 8) (f : TxBraid → TxBraid) : (s.modTx b f).lash = s.lash := rfl
@[simp] theorem State.modTx_ten (s : State) (b : Fin 8) (f : TxBraid → TxBraid) : (s.modTx b f).ten = s.ten := rfl
@[simp] theorem State.modTx_mtr (s : State) (b : Fin 8) (f : TxBraid → TxBraid) : (s.modTx b f).mtr = s.mtr := rfl
@[simp] theorem State.modTx_bight (s : State) (b : Fin 8) (f : TxBraid → TxBraid) : (s.modTx b f).bight = s.bight := rfl
@[simp] theorem State.modTx_glob (s : State) (b : Fin 8) (f : TxBraid → TxBraid) : (s.modTx b f).glob = s.glob := rfl
@[simp] theorem State.modTx_out (s : State) (b : Fin 8) (f : TxBraid → TxBraid) : (s.modTx b f).out = s.out := rfl
@[simp] theorem State.modTx_freeCtr (s : State) (b : Fin 8) (f : TxBraid → TxBraid) : (s.modTx b f).freeCtr = s.freeCtr := rfl

/-! ### modRx -/
@[simp] theorem State.modRx_straps (s : State) (b : Fin 8) (f : RxBraid → RxBraid) : (s.modRx b f).straps = s.straps := rfl
@[simp] theorem State.modRx_pending (s : State) (b : Fin 8) (f : RxBraid → RxBraid) : (s.modRx b f).pending = s.pending := rfl
@[simp] theorem State.modRx_aon (s : State) (b : Fin 8) (f : RxBraid → RxBraid) : (s.modRx b f).aon = s.aon := rfl
@[simp] theorem State.modRx_clk (s : State) (b : Fin 8) (f : RxBraid → RxBraid) : (s.modRx b f).clk = s.clk := rfl
@[simp] theorem State.modRx_sb (s : State) (b : Fin 8) (f : RxBraid → RxBraid) : (s.modRx b f).sb = s.sb := rfl
@[simp] theorem State.modRx_test (s : State) (b : Fin 8) (f : RxBraid → RxBraid) : (s.modRx b f).test = s.test := rfl
@[simp] theorem State.modRx_start (s : State) (b : Fin 8) (f : RxBraid → RxBraid) : (s.modRx b f).start = s.start := rfl
@[simp] theorem State.modRx_link (s : State) (b : Fin 8) (f : RxBraid → RxBraid) :
    (s.modRx b f).link = { s.link with rx := s.link.rx.upd b f } := rfl
@[simp] theorem State.modRx_noc (s : State) (b : Fin 8) (f : RxBraid → RxBraid) : (s.modRx b f).noc = s.noc := rfl
@[simp] theorem State.modRx_rings (s : State) (b : Fin 8) (f : RxBraid → RxBraid) : (s.modRx b f).rings = s.rings := rfl
@[simp] theorem State.modRx_cal (s : State) (b : Fin 8) (f : RxBraid → RxBraid) : (s.modRx b f).cal = s.cal := rfl
@[simp] theorem State.modRx_red (s : State) (b : Fin 8) (f : RxBraid → RxBraid) : (s.modRx b f).red = s.red := rfl
@[simp] theorem State.modRx_ht (s : State) (b : Fin 8) (f : RxBraid → RxBraid) : (s.modRx b f).ht = s.ht := rfl
@[simp] theorem State.modRx_cfg (s : State) (b : Fin 8) (f : RxBraid → RxBraid) : (s.modRx b f).cfg = s.cfg := rfl
@[simp] theorem State.modRx_agent (s : State) (b : Fin 8) (f : RxBraid → RxBraid) : (s.modRx b f).agent = s.agent := rfl
@[simp] theorem State.modRx_flt (s : State) (b : Fin 8) (f : RxBraid → RxBraid) : (s.modRx b f).flt = s.flt := rfl
@[simp] theorem State.modRx_pwr (s : State) (b : Fin 8) (f : RxBraid → RxBraid) : (s.modRx b f).pwr = s.pwr := rfl
@[simp] theorem State.modRx_lash (s : State) (b : Fin 8) (f : RxBraid → RxBraid) : (s.modRx b f).lash = s.lash := rfl
@[simp] theorem State.modRx_ten (s : State) (b : Fin 8) (f : RxBraid → RxBraid) : (s.modRx b f).ten = s.ten := rfl
@[simp] theorem State.modRx_mtr (s : State) (b : Fin 8) (f : RxBraid → RxBraid) : (s.modRx b f).mtr = s.mtr := rfl
@[simp] theorem State.modRx_bight (s : State) (b : Fin 8) (f : RxBraid → RxBraid) : (s.modRx b f).bight = s.bight := rfl
@[simp] theorem State.modRx_glob (s : State) (b : Fin 8) (f : RxBraid → RxBraid) : (s.modRx b f).glob = s.glob := rfl
@[simp] theorem State.modRx_out (s : State) (b : Fin 8) (f : RxBraid → RxBraid) : (s.modRx b f).out = s.out := rfl
@[simp] theorem State.modRx_freeCtr (s : State) (b : Fin 8) (f : RxBraid → RxBraid) : (s.modRx b f).freeCtr = s.freeCtr := rfl

/-! ### modStrand -/
@[simp] theorem State.modStrand_straps (s : State) (dir : Nat) (b : Fin 8) (p : Nat) (f : Strand → Strand) : (s.modStrand dir b p f).straps = s.straps := rfl
@[simp] theorem State.modStrand_pending (s : State) (dir : Nat) (b : Fin 8) (p : Nat) (f : Strand → Strand) : (s.modStrand dir b p f).pending = s.pending := rfl
@[simp] theorem State.modStrand_aon (s : State) (dir : Nat) (b : Fin 8) (p : Nat) (f : Strand → Strand) : (s.modStrand dir b p f).aon = s.aon := rfl
@[simp] theorem State.modStrand_clk (s : State) (dir : Nat) (b : Fin 8) (p : Nat) (f : Strand → Strand) : (s.modStrand dir b p f).clk = s.clk := rfl
@[simp] theorem State.modStrand_sb (s : State) (dir : Nat) (b : Fin 8) (p : Nat) (f : Strand → Strand) : (s.modStrand dir b p f).sb = s.sb := rfl
@[simp] theorem State.modStrand_test (s : State) (dir : Nat) (b : Fin 8) (p : Nat) (f : Strand → Strand) : (s.modStrand dir b p f).test = s.test := rfl
@[simp] theorem State.modStrand_start (s : State) (dir : Nat) (b : Fin 8) (p : Nat) (f : Strand → Strand) : (s.modStrand dir b p f).start = s.start := rfl
@[simp] theorem State.modStrand_link (s : State) (dir : Nat) (b : Fin 8) (p : Nat) (f : Strand → Strand) :
    (s.modStrand dir b p f).link = { s.link with strands := tupd strand0 s.link.strands (strandKey dir b p) f } := rfl
@[simp] theorem State.modStrand_noc (s : State) (dir : Nat) (b : Fin 8) (p : Nat) (f : Strand → Strand) : (s.modStrand dir b p f).noc = s.noc := rfl
@[simp] theorem State.modStrand_rings (s : State) (dir : Nat) (b : Fin 8) (p : Nat) (f : Strand → Strand) : (s.modStrand dir b p f).rings = s.rings := rfl
@[simp] theorem State.modStrand_cal (s : State) (dir : Nat) (b : Fin 8) (p : Nat) (f : Strand → Strand) : (s.modStrand dir b p f).cal = s.cal := rfl
@[simp] theorem State.modStrand_red (s : State) (dir : Nat) (b : Fin 8) (p : Nat) (f : Strand → Strand) : (s.modStrand dir b p f).red = s.red := rfl
@[simp] theorem State.modStrand_ht (s : State) (dir : Nat) (b : Fin 8) (p : Nat) (f : Strand → Strand) : (s.modStrand dir b p f).ht = s.ht := rfl
@[simp] theorem State.modStrand_cfg (s : State) (dir : Nat) (b : Fin 8) (p : Nat) (f : Strand → Strand) : (s.modStrand dir b p f).cfg = s.cfg := rfl
@[simp] theorem State.modStrand_agent (s : State) (dir : Nat) (b : Fin 8) (p : Nat) (f : Strand → Strand) : (s.modStrand dir b p f).agent = s.agent := rfl
@[simp] theorem State.modStrand_flt (s : State) (dir : Nat) (b : Fin 8) (p : Nat) (f : Strand → Strand) : (s.modStrand dir b p f).flt = s.flt := rfl
@[simp] theorem State.modStrand_pwr (s : State) (dir : Nat) (b : Fin 8) (p : Nat) (f : Strand → Strand) : (s.modStrand dir b p f).pwr = s.pwr := rfl
@[simp] theorem State.modStrand_lash (s : State) (dir : Nat) (b : Fin 8) (p : Nat) (f : Strand → Strand) : (s.modStrand dir b p f).lash = s.lash := rfl
@[simp] theorem State.modStrand_ten (s : State) (dir : Nat) (b : Fin 8) (p : Nat) (f : Strand → Strand) : (s.modStrand dir b p f).ten = s.ten := rfl
@[simp] theorem State.modStrand_mtr (s : State) (dir : Nat) (b : Fin 8) (p : Nat) (f : Strand → Strand) : (s.modStrand dir b p f).mtr = s.mtr := rfl
@[simp] theorem State.modStrand_bight (s : State) (dir : Nat) (b : Fin 8) (p : Nat) (f : Strand → Strand) : (s.modStrand dir b p f).bight = s.bight := rfl
@[simp] theorem State.modStrand_glob (s : State) (dir : Nat) (b : Fin 8) (p : Nat) (f : Strand → Strand) : (s.modStrand dir b p f).glob = s.glob := rfl
@[simp] theorem State.modStrand_out (s : State) (dir : Nat) (b : Fin 8) (p : Nat) (f : Strand → Strand) : (s.modStrand dir b p f).out = s.out := rfl
@[simp] theorem State.modStrand_freeCtr (s : State) (dir : Nat) (b : Fin 8) (p : Nat) (f : Strand → Strand) : (s.modStrand dir b p f).freeCtr = s.freeCtr := rfl

/-! ### modTrim -/
@[simp] theorem State.modTrim_straps (s : State) (dir : Nat) (b : Fin 8) (p : Nat) (f : Trim → Trim) : (s.modTrim dir b p f).straps = s.straps := rfl
@[simp] theorem State.modTrim_pending (s : State) (dir : Nat) (b : Fin 8) (p : Nat) (f : Trim → Trim) : (s.modTrim dir b p f).pending = s.pending := rfl
@[simp] theorem State.modTrim_aon (s : State) (dir : Nat) (b : Fin 8) (p : Nat) (f : Trim → Trim) : (s.modTrim dir b p f).aon = s.aon := rfl
@[simp] theorem State.modTrim_clk (s : State) (dir : Nat) (b : Fin 8) (p : Nat) (f : Trim → Trim) : (s.modTrim dir b p f).clk = s.clk := rfl
@[simp] theorem State.modTrim_sb (s : State) (dir : Nat) (b : Fin 8) (p : Nat) (f : Trim → Trim) : (s.modTrim dir b p f).sb = s.sb := rfl
@[simp] theorem State.modTrim_test (s : State) (dir : Nat) (b : Fin 8) (p : Nat) (f : Trim → Trim) : (s.modTrim dir b p f).test = s.test := rfl
@[simp] theorem State.modTrim_start (s : State) (dir : Nat) (b : Fin 8) (p : Nat) (f : Trim → Trim) : (s.modTrim dir b p f).start = s.start := rfl
@[simp] theorem State.modTrim_link (s : State) (dir : Nat) (b : Fin 8) (p : Nat) (f : Trim → Trim) : (s.modTrim dir b p f).link = s.link := rfl
@[simp] theorem State.modTrim_noc (s : State) (dir : Nat) (b : Fin 8) (p : Nat) (f : Trim → Trim) : (s.modTrim dir b p f).noc = s.noc := rfl
@[simp] theorem State.modTrim_rings (s : State) (dir : Nat) (b : Fin 8) (p : Nat) (f : Trim → Trim) : (s.modTrim dir b p f).rings = s.rings := rfl
@[simp] theorem State.modTrim_cal (s : State) (dir : Nat) (b : Fin 8) (p : Nat) (f : Trim → Trim) :
    (s.modTrim dir b p f).cal = { s.cal with trims := tupd (trim0 s.cls) s.cal.trims (strandKey dir b p) f } := rfl
@[simp] theorem State.modTrim_red (s : State) (dir : Nat) (b : Fin 8) (p : Nat) (f : Trim → Trim) : (s.modTrim dir b p f).red = s.red := rfl
@[simp] theorem State.modTrim_ht (s : State) (dir : Nat) (b : Fin 8) (p : Nat) (f : Trim → Trim) : (s.modTrim dir b p f).ht = s.ht := rfl
@[simp] theorem State.modTrim_cfg (s : State) (dir : Nat) (b : Fin 8) (p : Nat) (f : Trim → Trim) : (s.modTrim dir b p f).cfg = s.cfg := rfl
@[simp] theorem State.modTrim_agent (s : State) (dir : Nat) (b : Fin 8) (p : Nat) (f : Trim → Trim) : (s.modTrim dir b p f).agent = s.agent := rfl
@[simp] theorem State.modTrim_flt (s : State) (dir : Nat) (b : Fin 8) (p : Nat) (f : Trim → Trim) : (s.modTrim dir b p f).flt = s.flt := rfl
@[simp] theorem State.modTrim_pwr (s : State) (dir : Nat) (b : Fin 8) (p : Nat) (f : Trim → Trim) : (s.modTrim dir b p f).pwr = s.pwr := rfl
@[simp] theorem State.modTrim_lash (s : State) (dir : Nat) (b : Fin 8) (p : Nat) (f : Trim → Trim) : (s.modTrim dir b p f).lash = s.lash := rfl
@[simp] theorem State.modTrim_ten (s : State) (dir : Nat) (b : Fin 8) (p : Nat) (f : Trim → Trim) : (s.modTrim dir b p f).ten = s.ten := rfl
@[simp] theorem State.modTrim_mtr (s : State) (dir : Nat) (b : Fin 8) (p : Nat) (f : Trim → Trim) : (s.modTrim dir b p f).mtr = s.mtr := rfl
@[simp] theorem State.modTrim_bight (s : State) (dir : Nat) (b : Fin 8) (p : Nat) (f : Trim → Trim) : (s.modTrim dir b p f).bight = s.bight := rfl
@[simp] theorem State.modTrim_glob (s : State) (dir : Nat) (b : Fin 8) (p : Nat) (f : Trim → Trim) : (s.modTrim dir b p f).glob = s.glob := rfl
@[simp] theorem State.modTrim_out (s : State) (dir : Nat) (b : Fin 8) (p : Nat) (f : Trim → Trim) : (s.modTrim dir b p f).out = s.out := rfl
@[simp] theorem State.modTrim_freeCtr (s : State) (dir : Nat) (b : Fin 8) (p : Nat) (f : Trim → Trim) : (s.modTrim dir b p f).freeCtr = s.freeCtr := rfl

/-! ### modRing -/
@[simp] theorem State.modRing_straps (s : State) (r : Nat) (f : Ring → Ring) : (s.modRing r f).straps = s.straps := rfl
@[simp] theorem State.modRing_pending (s : State) (r : Nat) (f : Ring → Ring) : (s.modRing r f).pending = s.pending := rfl
@[simp] theorem State.modRing_aon (s : State) (r : Nat) (f : Ring → Ring) : (s.modRing r f).aon = s.aon := rfl
@[simp] theorem State.modRing_clk (s : State) (r : Nat) (f : Ring → Ring) : (s.modRing r f).clk = s.clk := rfl
@[simp] theorem State.modRing_sb (s : State) (r : Nat) (f : Ring → Ring) : (s.modRing r f).sb = s.sb := rfl
@[simp] theorem State.modRing_test (s : State) (r : Nat) (f : Ring → Ring) : (s.modRing r f).test = s.test := rfl
@[simp] theorem State.modRing_start (s : State) (r : Nat) (f : Ring → Ring) : (s.modRing r f).start = s.start := rfl
@[simp] theorem State.modRing_link (s : State) (r : Nat) (f : Ring → Ring) : (s.modRing r f).link = s.link := rfl
@[simp] theorem State.modRing_noc (s : State) (r : Nat) (f : Ring → Ring) : (s.modRing r f).noc = s.noc := rfl
@[simp] theorem State.modRing_rings (s : State) (r : Nat) (f : Ring → Ring) :
    (s.modRing r f).rings = { s.rings with ring := tupd ring0 s.rings.ring r f } := rfl
@[simp] theorem State.modRing_cal (s : State) (r : Nat) (f : Ring → Ring) : (s.modRing r f).cal = s.cal := rfl
@[simp] theorem State.modRing_red (s : State) (r : Nat) (f : Ring → Ring) : (s.modRing r f).red = s.red := rfl
@[simp] theorem State.modRing_ht (s : State) (r : Nat) (f : Ring → Ring) : (s.modRing r f).ht = s.ht := rfl
@[simp] theorem State.modRing_cfg (s : State) (r : Nat) (f : Ring → Ring) : (s.modRing r f).cfg = s.cfg := rfl
@[simp] theorem State.modRing_agent (s : State) (r : Nat) (f : Ring → Ring) : (s.modRing r f).agent = s.agent := rfl
@[simp] theorem State.modRing_flt (s : State) (r : Nat) (f : Ring → Ring) : (s.modRing r f).flt = s.flt := rfl
@[simp] theorem State.modRing_pwr (s : State) (r : Nat) (f : Ring → Ring) : (s.modRing r f).pwr = s.pwr := rfl
@[simp] theorem State.modRing_lash (s : State) (r : Nat) (f : Ring → Ring) : (s.modRing r f).lash = s.lash := rfl
@[simp] theorem State.modRing_ten (s : State) (r : Nat) (f : Ring → Ring) : (s.modRing r f).ten = s.ten := rfl
@[simp] theorem State.modRing_mtr (s : State) (r : Nat) (f : Ring → Ring) : (s.modRing r f).mtr = s.mtr := rfl
@[simp] theorem State.modRing_bight (s : State) (r : Nat) (f : Ring → Ring) : (s.modRing r f).bight = s.bight := rfl
@[simp] theorem State.modRing_glob (s : State) (r : Nat) (f : Ring → Ring) : (s.modRing r f).glob = s.glob := rfl
@[simp] theorem State.modRing_out (s : State) (r : Nat) (f : Ring → Ring) : (s.modRing r f).out = s.out := rfl
@[simp] theorem State.modRing_freeCtr (s : State) (r : Nat) (f : Ring → Ring) : (s.modRing r f).freeCtr = s.freeCtr := rfl

/-! ### modLine -/
@[simp] theorem State.modLine_straps (s : State) (k : Fin 8) (f : Line → Line) : (s.modLine k f).straps = s.straps := rfl
@[simp] theorem State.modLine_pending (s : State) (k : Fin 8) (f : Line → Line) : (s.modLine k f).pending = s.pending := rfl
@[simp] theorem State.modLine_aon (s : State) (k : Fin 8) (f : Line → Line) : (s.modLine k f).aon = s.aon := rfl
@[simp] theorem State.modLine_clk (s : State) (k : Fin 8) (f : Line → Line) : (s.modLine k f).clk = s.clk := rfl
@[simp] theorem State.modLine_sb (s : State) (k : Fin 8) (f : Line → Line) : (s.modLine k f).sb = s.sb := rfl
@[simp] theorem State.modLine_test (s : State) (k : Fin 8) (f : Line → Line) : (s.modLine k f).test = s.test := rfl
@[simp] theorem State.modLine_start (s : State) (k : Fin 8) (f : Line → Line) : (s.modLine k f).start = s.start := rfl
@[simp] theorem State.modLine_link (s : State) (k : Fin 8) (f : Line → Line) : (s.modLine k f).link = s.link := rfl
@[simp] theorem State.modLine_noc (s : State) (k : Fin 8) (f : Line → Line) : (s.modLine k f).noc = s.noc := rfl
@[simp] theorem State.modLine_rings (s : State) (k : Fin 8) (f : Line → Line) :
    (s.modLine k f).rings = { s.rings with line := s.rings.line.upd k f } := rfl
@[simp] theorem State.modLine_cal (s : State) (k : Fin 8) (f : Line → Line) : (s.modLine k f).cal = s.cal := rfl
@[simp] theorem State.modLine_red (s : State) (k : Fin 8) (f : Line → Line) : (s.modLine k f).red = s.red := rfl
@[simp] theorem State.modLine_ht (s : State) (k : Fin 8) (f : Line → Line) : (s.modLine k f).ht = s.ht := rfl
@[simp] theorem State.modLine_cfg (s : State) (k : Fin 8) (f : Line → Line) : (s.modLine k f).cfg = s.cfg := rfl
@[simp] theorem State.modLine_agent (s : State) (k : Fin 8) (f : Line → Line) : (s.modLine k f).agent = s.agent := rfl
@[simp] theorem State.modLine_flt (s : State) (k : Fin 8) (f : Line → Line) : (s.modLine k f).flt = s.flt := rfl
@[simp] theorem State.modLine_pwr (s : State) (k : Fin 8) (f : Line → Line) : (s.modLine k f).pwr = s.pwr := rfl
@[simp] theorem State.modLine_lash (s : State) (k : Fin 8) (f : Line → Line) : (s.modLine k f).lash = s.lash := rfl
@[simp] theorem State.modLine_ten (s : State) (k : Fin 8) (f : Line → Line) : (s.modLine k f).ten = s.ten := rfl
@[simp] theorem State.modLine_mtr (s : State) (k : Fin 8) (f : Line → Line) : (s.modLine k f).mtr = s.mtr := rfl
@[simp] theorem State.modLine_bight (s : State) (k : Fin 8) (f : Line → Line) : (s.modLine k f).bight = s.bight := rfl
@[simp] theorem State.modLine_glob (s : State) (k : Fin 8) (f : Line → Line) : (s.modLine k f).glob = s.glob := rfl
@[simp] theorem State.modLine_out (s : State) (k : Fin 8) (f : Line → Line) : (s.modLine k f).out = s.out := rfl
@[simp] theorem State.modLine_freeCtr (s : State) (k : Fin 8) (f : Line → Line) : (s.modLine k f).freeCtr = s.freeCtr := rfl

/-! ### modJob -/
@[simp] theorem State.modJob_straps (s : State) (k : Nat) (f : RedJob → RedJob) : (s.modJob k f).straps = s.straps := rfl
@[simp] theorem State.modJob_pending (s : State) (k : Nat) (f : RedJob → RedJob) : (s.modJob k f).pending = s.pending := rfl
@[simp] theorem State.modJob_aon (s : State) (k : Nat) (f : RedJob → RedJob) : (s.modJob k f).aon = s.aon := rfl
@[simp] theorem State.modJob_clk (s : State) (k : Nat) (f : RedJob → RedJob) : (s.modJob k f).clk = s.clk := rfl
@[simp] theorem State.modJob_sb (s : State) (k : Nat) (f : RedJob → RedJob) : (s.modJob k f).sb = s.sb := rfl
@[simp] theorem State.modJob_test (s : State) (k : Nat) (f : RedJob → RedJob) : (s.modJob k f).test = s.test := rfl
@[simp] theorem State.modJob_start (s : State) (k : Nat) (f : RedJob → RedJob) : (s.modJob k f).start = s.start := rfl
@[simp] theorem State.modJob_link (s : State) (k : Nat) (f : RedJob → RedJob) : (s.modJob k f).link = s.link := rfl
@[simp] theorem State.modJob_noc (s : State) (k : Nat) (f : RedJob → RedJob) : (s.modJob k f).noc = s.noc := rfl
@[simp] theorem State.modJob_rings (s : State) (k : Nat) (f : RedJob → RedJob) : (s.modJob k f).rings = s.rings := rfl
@[simp] theorem State.modJob_cal (s : State) (k : Nat) (f : RedJob → RedJob) : (s.modJob k f).cal = s.cal := rfl
@[simp] theorem State.modJob_ht (s : State) (k : Nat) (f : RedJob → RedJob) : (s.modJob k f).ht = s.ht := rfl
@[simp] theorem State.modJob_cfg (s : State) (k : Nat) (f : RedJob → RedJob) : (s.modJob k f).cfg = s.cfg := rfl
@[simp] theorem State.modJob_agent (s : State) (k : Nat) (f : RedJob → RedJob) : (s.modJob k f).agent = s.agent := rfl
@[simp] theorem State.modJob_flt (s : State) (k : Nat) (f : RedJob → RedJob) : (s.modJob k f).flt = s.flt := rfl
@[simp] theorem State.modJob_pwr (s : State) (k : Nat) (f : RedJob → RedJob) : (s.modJob k f).pwr = s.pwr := rfl
@[simp] theorem State.modJob_lash (s : State) (k : Nat) (f : RedJob → RedJob) : (s.modJob k f).lash = s.lash := rfl
@[simp] theorem State.modJob_ten (s : State) (k : Nat) (f : RedJob → RedJob) : (s.modJob k f).ten = s.ten := rfl
@[simp] theorem State.modJob_mtr (s : State) (k : Nat) (f : RedJob → RedJob) : (s.modJob k f).mtr = s.mtr := rfl
@[simp] theorem State.modJob_bight (s : State) (k : Nat) (f : RedJob → RedJob) : (s.modJob k f).bight = s.bight := rfl
@[simp] theorem State.modJob_glob (s : State) (k : Nat) (f : RedJob → RedJob) : (s.modJob k f).glob = s.glob := rfl
@[simp] theorem State.modJob_out (s : State) (k : Nat) (f : RedJob → RedJob) : (s.modJob k f).out = s.out := rfl
@[simp] theorem State.modJob_freeCtr (s : State) (k : Nat) (f : RedJob → RedJob) : (s.modJob k f).freeCtr = s.freeCtr := rfl

/-! ### modChunk -/
@[simp] theorem State.modChunk_straps (s : State) (k i : Nat) (f : Chunk → Chunk) : (s.modChunk k i f).straps = s.straps := rfl
@[simp] theorem State.modChunk_pending (s : State) (k i : Nat) (f : Chunk → Chunk) : (s.modChunk k i f).pending = s.pending := rfl
@[simp] theorem State.modChunk_aon (s : State) (k i : Nat) (f : Chunk → Chunk) : (s.modChunk k i f).aon = s.aon := rfl
@[simp] theorem State.modChunk_clk (s : State) (k i : Nat) (f : Chunk → Chunk) : (s.modChunk k i f).clk = s.clk := rfl
@[simp] theorem State.modChunk_sb (s : State) (k i : Nat) (f : Chunk → Chunk) : (s.modChunk k i f).sb = s.sb := rfl
@[simp] theorem State.modChunk_test (s : State) (k i : Nat) (f : Chunk → Chunk) : (s.modChunk k i f).test = s.test := rfl
@[simp] theorem State.modChunk_start (s : State) (k i : Nat) (f : Chunk → Chunk) : (s.modChunk k i f).start = s.start := rfl
@[simp] theorem State.modChunk_link (s : State) (k i : Nat) (f : Chunk → Chunk) : (s.modChunk k i f).link = s.link := rfl
@[simp] theorem State.modChunk_noc (s : State) (k i : Nat) (f : Chunk → Chunk) : (s.modChunk k i f).noc = s.noc := rfl
@[simp] theorem State.modChunk_rings (s : State) (k i : Nat) (f : Chunk → Chunk) : (s.modChunk k i f).rings = s.rings := rfl
@[simp] theorem State.modChunk_cal (s : State) (k i : Nat) (f : Chunk → Chunk) : (s.modChunk k i f).cal = s.cal := rfl
@[simp] theorem State.modChunk_ht (s : State) (k i : Nat) (f : Chunk → Chunk) : (s.modChunk k i f).ht = s.ht := rfl
@[simp] theorem State.modChunk_cfg (s : State) (k i : Nat) (f : Chunk → Chunk) : (s.modChunk k i f).cfg = s.cfg := rfl
@[simp] theorem State.modChunk_agent (s : State) (k i : Nat) (f : Chunk → Chunk) : (s.modChunk k i f).agent = s.agent := rfl
@[simp] theorem State.modChunk_flt (s : State) (k i : Nat) (f : Chunk → Chunk) : (s.modChunk k i f).flt = s.flt := rfl
@[simp] theorem State.modChunk_pwr (s : State) (k i : Nat) (f : Chunk → Chunk) : (s.modChunk k i f).pwr = s.pwr := rfl
@[simp] theorem State.modChunk_lash (s : State) (k i : Nat) (f : Chunk → Chunk) : (s.modChunk k i f).lash = s.lash := rfl
@[simp] theorem State.modChunk_ten (s : State) (k i : Nat) (f : Chunk → Chunk) : (s.modChunk k i f).ten = s.ten := rfl
@[simp] theorem State.modChunk_mtr (s : State) (k i : Nat) (f : Chunk → Chunk) : (s.modChunk k i f).mtr = s.mtr := rfl
@[simp] theorem State.modChunk_bight (s : State) (k i : Nat) (f : Chunk → Chunk) : (s.modChunk k i f).bight = s.bight := rfl
@[simp] theorem State.modChunk_glob (s : State) (k i : Nat) (f : Chunk → Chunk) : (s.modChunk k i f).glob = s.glob := rfl
@[simp] theorem State.modChunk_out (s : State) (k i : Nat) (f : Chunk → Chunk) : (s.modChunk k i f).out = s.out := rfl
@[simp] theorem State.modChunk_freeCtr (s : State) (k i : Nat) (f : Chunk → Chunk) : (s.modChunk k i f).freeCtr = s.freeCtr := rfl

/-! ### modHitch -/
@[simp] theorem State.modHitch_straps (s : State) (i : Nat) (f : Hitch → Hitch) : (s.modHitch i f).straps = s.straps := rfl
@[simp] theorem State.modHitch_pending (s : State) (i : Nat) (f : Hitch → Hitch) : (s.modHitch i f).pending = s.pending := rfl
@[simp] theorem State.modHitch_aon (s : State) (i : Nat) (f : Hitch → Hitch) : (s.modHitch i f).aon = s.aon := rfl
@[simp] theorem State.modHitch_clk (s : State) (i : Nat) (f : Hitch → Hitch) : (s.modHitch i f).clk = s.clk := rfl
@[simp] theorem State.modHitch_sb (s : State) (i : Nat) (f : Hitch → Hitch) : (s.modHitch i f).sb = s.sb := rfl
@[simp] theorem State.modHitch_test (s : State) (i : Nat) (f : Hitch → Hitch) : (s.modHitch i f).test = s.test := rfl
@[simp] theorem State.modHitch_start (s : State) (i : Nat) (f : Hitch → Hitch) : (s.modHitch i f).start = s.start := rfl
@[simp] theorem State.modHitch_link (s : State) (i : Nat) (f : Hitch → Hitch) : (s.modHitch i f).link = s.link := rfl
@[simp] theorem State.modHitch_noc (s : State) (i : Nat) (f : Hitch → Hitch) : (s.modHitch i f).noc = s.noc := rfl
@[simp] theorem State.modHitch_rings (s : State) (i : Nat) (f : Hitch → Hitch) : (s.modHitch i f).rings = s.rings := rfl
@[simp] theorem State.modHitch_cal (s : State) (i : Nat) (f : Hitch → Hitch) : (s.modHitch i f).cal = s.cal := rfl
@[simp] theorem State.modHitch_red (s : State) (i : Nat) (f : Hitch → Hitch) : (s.modHitch i f).red = s.red := rfl
@[simp] theorem State.modHitch_ht (s : State) (i : Nat) (f : Hitch → Hitch) :
    (s.modHitch i f).ht = { s.ht with hitches := tupd zeroHitch s.ht.hitches i f } := rfl
@[simp] theorem State.modHitch_cfg (s : State) (i : Nat) (f : Hitch → Hitch) : (s.modHitch i f).cfg = s.cfg := rfl
@[simp] theorem State.modHitch_agent (s : State) (i : Nat) (f : Hitch → Hitch) : (s.modHitch i f).agent = s.agent := rfl
@[simp] theorem State.modHitch_flt (s : State) (i : Nat) (f : Hitch → Hitch) : (s.modHitch i f).flt = s.flt := rfl
@[simp] theorem State.modHitch_pwr (s : State) (i : Nat) (f : Hitch → Hitch) : (s.modHitch i f).pwr = s.pwr := rfl
@[simp] theorem State.modHitch_lash (s : State) (i : Nat) (f : Hitch → Hitch) : (s.modHitch i f).lash = s.lash := rfl
@[simp] theorem State.modHitch_ten (s : State) (i : Nat) (f : Hitch → Hitch) : (s.modHitch i f).ten = s.ten := rfl
@[simp] theorem State.modHitch_mtr (s : State) (i : Nat) (f : Hitch → Hitch) : (s.modHitch i f).mtr = s.mtr := rfl
@[simp] theorem State.modHitch_bight (s : State) (i : Nat) (f : Hitch → Hitch) : (s.modHitch i f).bight = s.bight := rfl
@[simp] theorem State.modHitch_glob (s : State) (i : Nat) (f : Hitch → Hitch) : (s.modHitch i f).glob = s.glob := rfl
@[simp] theorem State.modHitch_out (s : State) (i : Nat) (f : Hitch → Hitch) : (s.modHitch i f).out = s.out := rfl
@[simp] theorem State.modHitch_freeCtr (s : State) (i : Nat) (f : Hitch → Hitch) : (s.modHitch i f).freeCtr = s.freeCtr := rfl

/-! ### modSite -/
@[simp] theorem State.modSite_straps (s : State) (n : Nat) (f : Site → Site) : (s.modSite n f).straps = s.straps := rfl
@[simp] theorem State.modSite_pending (s : State) (n : Nat) (f : Site → Site) : (s.modSite n f).pending = s.pending := rfl
@[simp] theorem State.modSite_aon (s : State) (n : Nat) (f : Site → Site) : (s.modSite n f).aon = s.aon := rfl
@[simp] theorem State.modSite_clk (s : State) (n : Nat) (f : Site → Site) : (s.modSite n f).clk = s.clk := rfl
@[simp] theorem State.modSite_sb (s : State) (n : Nat) (f : Site → Site) : (s.modSite n f).sb = s.sb := rfl
@[simp] theorem State.modSite_test (s : State) (n : Nat) (f : Site → Site) : (s.modSite n f).test = s.test := rfl
@[simp] theorem State.modSite_start (s : State) (n : Nat) (f : Site → Site) : (s.modSite n f).start = s.start := rfl
@[simp] theorem State.modSite_link (s : State) (n : Nat) (f : Site → Site) : (s.modSite n f).link = s.link := rfl
@[simp] theorem State.modSite_noc (s : State) (n : Nat) (f : Site → Site) : (s.modSite n f).noc = s.noc := rfl
@[simp] theorem State.modSite_rings (s : State) (n : Nat) (f : Site → Site) : (s.modSite n f).rings = s.rings := rfl
@[simp] theorem State.modSite_cal (s : State) (n : Nat) (f : Site → Site) : (s.modSite n f).cal = s.cal := rfl
@[simp] theorem State.modSite_red (s : State) (n : Nat) (f : Site → Site) : (s.modSite n f).red = s.red := rfl
@[simp] theorem State.modSite_ht (s : State) (n : Nat) (f : Site → Site) : (s.modSite n f).ht = s.ht := rfl
@[simp] theorem State.modSite_cfg (s : State) (n : Nat) (f : Site → Site) : (s.modSite n f).cfg = s.cfg := rfl
@[simp] theorem State.modSite_agent (s : State) (n : Nat) (f : Site → Site) :
    (s.modSite n f).agent = { s.agent with sites := tupd site0 s.agent.sites n f } := rfl
@[simp] theorem State.modSite_flt (s : State) (n : Nat) (f : Site → Site) : (s.modSite n f).flt = s.flt := rfl
@[simp] theorem State.modSite_pwr (s : State) (n : Nat) (f : Site → Site) : (s.modSite n f).pwr = s.pwr := rfl
@[simp] theorem State.modSite_lash (s : State) (n : Nat) (f : Site → Site) : (s.modSite n f).lash = s.lash := rfl
@[simp] theorem State.modSite_ten (s : State) (n : Nat) (f : Site → Site) : (s.modSite n f).ten = s.ten := rfl
@[simp] theorem State.modSite_mtr (s : State) (n : Nat) (f : Site → Site) : (s.modSite n f).mtr = s.mtr := rfl
@[simp] theorem State.modSite_bight (s : State) (n : Nat) (f : Site → Site) : (s.modSite n f).bight = s.bight := rfl
@[simp] theorem State.modSite_glob (s : State) (n : Nat) (f : Site → Site) : (s.modSite n f).glob = s.glob := rfl
@[simp] theorem State.modSite_out (s : State) (n : Nat) (f : Site → Site) : (s.modSite n f).out = s.out := rfl
@[simp] theorem State.modSite_freeCtr (s : State) (n : Nat) (f : Site → Site) : (s.modSite n f).freeCtr = s.freeCtr := rfl

/-! ### setBucket -/
@[simp] theorem State.setBucket_straps (s : State) (i : Nat) (b : Bucket) : (s.setBucket i b).straps = s.straps := rfl
@[simp] theorem State.setBucket_pending (s : State) (i : Nat) (b : Bucket) : (s.setBucket i b).pending = s.pending := rfl
@[simp] theorem State.setBucket_aon (s : State) (i : Nat) (b : Bucket) : (s.setBucket i b).aon = s.aon := rfl
@[simp] theorem State.setBucket_clk (s : State) (i : Nat) (b : Bucket) : (s.setBucket i b).clk = s.clk := rfl
@[simp] theorem State.setBucket_sb (s : State) (i : Nat) (b : Bucket) : (s.setBucket i b).sb = s.sb := rfl
@[simp] theorem State.setBucket_test (s : State) (i : Nat) (b : Bucket) : (s.setBucket i b).test = s.test := rfl
@[simp] theorem State.setBucket_start (s : State) (i : Nat) (b : Bucket) : (s.setBucket i b).start = s.start := rfl
@[simp] theorem State.setBucket_link (s : State) (i : Nat) (b : Bucket) : (s.setBucket i b).link = s.link := rfl
@[simp] theorem State.setBucket_noc (s : State) (i : Nat) (b : Bucket) :
    (s.setBucket i b).noc = { s.noc with buckets := tput s.noc.buckets i b } := rfl
@[simp] theorem State.setBucket_rings (s : State) (i : Nat) (b : Bucket) : (s.setBucket i b).rings = s.rings := rfl
@[simp] theorem State.setBucket_cal (s : State) (i : Nat) (b : Bucket) : (s.setBucket i b).cal = s.cal := rfl
@[simp] theorem State.setBucket_red (s : State) (i : Nat) (b : Bucket) : (s.setBucket i b).red = s.red := rfl
@[simp] theorem State.setBucket_ht (s : State) (i : Nat) (b : Bucket) : (s.setBucket i b).ht = s.ht := rfl
@[simp] theorem State.setBucket_cfg (s : State) (i : Nat) (b : Bucket) : (s.setBucket i b).cfg = s.cfg := rfl
@[simp] theorem State.setBucket_agent (s : State) (i : Nat) (b : Bucket) : (s.setBucket i b).agent = s.agent := rfl
@[simp] theorem State.setBucket_flt (s : State) (i : Nat) (b : Bucket) : (s.setBucket i b).flt = s.flt := rfl
@[simp] theorem State.setBucket_pwr (s : State) (i : Nat) (b : Bucket) : (s.setBucket i b).pwr = s.pwr := rfl
@[simp] theorem State.setBucket_lash (s : State) (i : Nat) (b : Bucket) : (s.setBucket i b).lash = s.lash := rfl
@[simp] theorem State.setBucket_ten (s : State) (i : Nat) (b : Bucket) : (s.setBucket i b).ten = s.ten := rfl
@[simp] theorem State.setBucket_mtr (s : State) (i : Nat) (b : Bucket) : (s.setBucket i b).mtr = s.mtr := rfl
@[simp] theorem State.setBucket_bight (s : State) (i : Nat) (b : Bucket) : (s.setBucket i b).bight = s.bight := rfl
@[simp] theorem State.setBucket_glob (s : State) (i : Nat) (b : Bucket) : (s.setBucket i b).glob = s.glob := rfl
@[simp] theorem State.setBucket_out (s : State) (i : Nat) (b : Bucket) : (s.setBucket i b).out = s.out := rfl
@[simp] theorem State.setBucket_freeCtr (s : State) (i : Nat) (b : Bucket) : (s.setBucket i b).freeCtr = s.freeCtr := rfl

/-! ### setProt -/
@[simp] theorem State.setProt_straps (s : State) (off : Nat) (v : Reg) : (s.setProt off v).straps = s.straps := rfl
@[simp] theorem State.setProt_pending (s : State) (off : Nat) (v : Reg) : (s.setProt off v).pending = s.pending := rfl
@[simp] theorem State.setProt_aon (s : State) (off : Nat) (v : Reg) : (s.setProt off v).aon = s.aon := rfl
@[simp] theorem State.setProt_clk (s : State) (off : Nat) (v : Reg) : (s.setProt off v).clk = s.clk := rfl
@[simp] theorem State.setProt_sb (s : State) (off : Nat) (v : Reg) : (s.setProt off v).sb = s.sb := rfl
@[simp] theorem State.setProt_test (s : State) (off : Nat) (v : Reg) : (s.setProt off v).test = s.test := rfl
@[simp] theorem State.setProt_start (s : State) (off : Nat) (v : Reg) : (s.setProt off v).start = s.start := rfl
@[simp] theorem State.setProt_link (s : State) (off : Nat) (v : Reg) : (s.setProt off v).link = s.link := rfl
@[simp] theorem State.setProt_noc (s : State) (off : Nat) (v : Reg) : (s.setProt off v).noc = s.noc := rfl
@[simp] theorem State.setProt_rings (s : State) (off : Nat) (v : Reg) : (s.setProt off v).rings = s.rings := rfl
@[simp] theorem State.setProt_cal (s : State) (off : Nat) (v : Reg) : (s.setProt off v).cal = s.cal := rfl
@[simp] theorem State.setProt_red (s : State) (off : Nat) (v : Reg) : (s.setProt off v).red = s.red := rfl
@[simp] theorem State.setProt_ht (s : State) (off : Nat) (v : Reg) : (s.setProt off v).ht = s.ht := rfl
@[simp] theorem State.setProt_cfg (s : State) (off : Nat) (v : Reg) : (s.setProt off v).cfg = s.cfg := rfl
@[simp] theorem State.setProt_agent (s : State) (off : Nat) (v : Reg) : (s.setProt off v).agent = s.agent := rfl
@[simp] theorem State.setProt_flt (s : State) (off : Nat) (v : Reg) : (s.setProt off v).flt = s.flt := rfl
@[simp] theorem State.setProt_pwr (s : State) (off : Nat) (v : Reg) : (s.setProt off v).pwr = s.pwr := rfl
@[simp] theorem State.setProt_lash (s : State) (off : Nat) (v : Reg) :
    (s.setProt off v).lash = { s.lash with prot := tput s.lash.prot off v } := rfl
@[simp] theorem State.setProt_ten (s : State) (off : Nat) (v : Reg) : (s.setProt off v).ten = s.ten := rfl
@[simp] theorem State.setProt_mtr (s : State) (off : Nat) (v : Reg) : (s.setProt off v).mtr = s.mtr := rfl
@[simp] theorem State.setProt_bight (s : State) (off : Nat) (v : Reg) : (s.setProt off v).bight = s.bight := rfl
@[simp] theorem State.setProt_glob (s : State) (off : Nat) (v : Reg) : (s.setProt off v).glob = s.glob := rfl
@[simp] theorem State.setProt_out (s : State) (off : Nat) (v : Reg) : (s.setProt off v).out = s.out := rfl
@[simp] theorem State.setProt_freeCtr (s : State) (off : Nat) (v : Reg) : (s.setProt off v).freeCtr = s.freeCtr := rfl

/-! ### raise -/
@[simp] theorem State.raise_straps (s : State) (typ code a0 a1 a2 b d p v t : Nat) : (s.raise typ code a0 a1 a2 b d p v t).straps = s.straps := rfl
@[simp] theorem State.raise_pending (s : State) (typ code a0 a1 a2 b d p v t : Nat) : (s.raise typ code a0 a1 a2 b d p v t).pending = s.pending := rfl
@[simp] theorem State.raise_aon (s : State) (typ code a0 a1 a2 b d p v t : Nat) : (s.raise typ code a0 a1 a2 b d p v t).aon = s.aon := rfl
@[simp] theorem State.raise_clk (s : State) (typ code a0 a1 a2 b d p v t : Nat) : (s.raise typ code a0 a1 a2 b d p v t).clk = s.clk := rfl
@[simp] theorem State.raise_sb (s : State) (typ code a0 a1 a2 b d p v t : Nat) : (s.raise typ code a0 a1 a2 b d p v t).sb = s.sb := rfl
@[simp] theorem State.raise_test (s : State) (typ code a0 a1 a2 b d p v t : Nat) : (s.raise typ code a0 a1 a2 b d p v t).test = s.test := rfl
@[simp] theorem State.raise_start (s : State) (typ code a0 a1 a2 b d p v t : Nat) : (s.raise typ code a0 a1 a2 b d p v t).start = s.start := rfl
@[simp] theorem State.raise_link (s : State) (typ code a0 a1 a2 b d p v t : Nat) : (s.raise typ code a0 a1 a2 b d p v t).link = s.link := rfl
@[simp] theorem State.raise_noc (s : State) (typ code a0 a1 a2 b d p v t : Nat) : (s.raise typ code a0 a1 a2 b d p v t).noc = s.noc := rfl
@[simp] theorem State.raise_rings (s : State) (typ code a0 a1 a2 b d p v t : Nat) : (s.raise typ code a0 a1 a2 b d p v t).rings = s.rings := rfl
@[simp] theorem State.raise_cal (s : State) (typ code a0 a1 a2 b d p v t : Nat) : (s.raise typ code a0 a1 a2 b d p v t).cal = s.cal := rfl
@[simp] theorem State.raise_red (s : State) (typ code a0 a1 a2 b d p v t : Nat) : (s.raise typ code a0 a1 a2 b d p v t).red = s.red := rfl
@[simp] theorem State.raise_ht (s : State) (typ code a0 a1 a2 b d p v t : Nat) : (s.raise typ code a0 a1 a2 b d p v t).ht = s.ht := rfl
@[simp] theorem State.raise_cfg (s : State) (typ code a0 a1 a2 b d p v t : Nat) : (s.raise typ code a0 a1 a2 b d p v t).cfg = s.cfg := rfl
@[simp] theorem State.raise_agent (s : State) (typ code a0 a1 a2 b d p v t : Nat) : (s.raise typ code a0 a1 a2 b d p v t).agent = s.agent := rfl
@[simp] theorem State.raise_pwr (s : State) (typ code a0 a1 a2 b d p v t : Nat) : (s.raise typ code a0 a1 a2 b d p v t).pwr = s.pwr := rfl
@[simp] theorem State.raise_lash (s : State) (typ code a0 a1 a2 b d p v t : Nat) : (s.raise typ code a0 a1 a2 b d p v t).lash = s.lash := rfl
@[simp] theorem State.raise_ten (s : State) (typ code a0 a1 a2 b d p v t : Nat) : (s.raise typ code a0 a1 a2 b d p v t).ten = s.ten := rfl
@[simp] theorem State.raise_mtr (s : State) (typ code a0 a1 a2 b d p v t : Nat) : (s.raise typ code a0 a1 a2 b d p v t).mtr = s.mtr := rfl
@[simp] theorem State.raise_bight (s : State) (typ code a0 a1 a2 b d p v t : Nat) : (s.raise typ code a0 a1 a2 b d p v t).bight = s.bight := rfl
@[simp] theorem State.raise_glob (s : State) (typ code a0 a1 a2 b d p v t : Nat) : (s.raise typ code a0 a1 a2 b d p v t).glob = s.glob := rfl
@[simp] theorem State.raise_out (s : State) (typ code a0 a1 a2 b d p v t : Nat) : (s.raise typ code a0 a1 a2 b d p v t).out = s.out := rfl
@[simp] theorem State.raise_freeCtr (s : State) (typ code a0 a1 a2 b d p v t : Nat) : (s.raise typ code a0 a1 a2 b d p v t).freeCtr = s.freeCtr := rfl

/-! ### raiseBody -/
@[simp] theorem State.raiseBody_straps (s : State) (typ body b : Nat) : (s.raiseBody typ body b).straps = s.straps := rfl
@[simp] theorem State.raiseBody_pending (s : State) (typ body b : Nat) : (s.raiseBody typ body b).pending = s.pending := rfl
@[simp] theorem State.raiseBody_aon (s : State) (typ body b : Nat) : (s.raiseBody typ body b).aon = s.aon := rfl
@[simp] theorem State.raiseBody_clk (s : State) (typ body b : Nat) : (s.raiseBody typ body b).clk = s.clk := rfl
@[simp] theorem State.raiseBody_sb (s : State) (typ body b : Nat) : (s.raiseBody typ body b).sb = s.sb := rfl
@[simp] theorem State.raiseBody_test (s : State) (typ body b : Nat) : (s.raiseBody typ body b).test = s.test := rfl
@[simp] theorem State.raiseBody_start (s : State) (typ body b : Nat) : (s.raiseBody typ body b).start = s.start := rfl
@[simp] theorem State.raiseBody_link (s : State) (typ body b : Nat) : (s.raiseBody typ body b).link = s.link := rfl
@[simp] theorem State.raiseBody_noc (s : State) (typ body b : Nat) : (s.raiseBody typ body b).noc = s.noc := rfl
@[simp] theorem State.raiseBody_rings (s : State) (typ body b : Nat) : (s.raiseBody typ body b).rings = s.rings := rfl
@[simp] theorem State.raiseBody_cal (s : State) (typ body b : Nat) : (s.raiseBody typ body b).cal = s.cal := rfl
@[simp] theorem State.raiseBody_red (s : State) (typ body b : Nat) : (s.raiseBody typ body b).red = s.red := rfl
@[simp] theorem State.raiseBody_ht (s : State) (typ body b : Nat) : (s.raiseBody typ body b).ht = s.ht := rfl
@[simp] theorem State.raiseBody_cfg (s : State) (typ body b : Nat) : (s.raiseBody typ body b).cfg = s.cfg := rfl
@[simp] theorem State.raiseBody_agent (s : State) (typ body b : Nat) : (s.raiseBody typ body b).agent = s.agent := rfl
@[simp] theorem State.raiseBody_pwr (s : State) (typ body b : Nat) : (s.raiseBody typ body b).pwr = s.pwr := rfl
@[simp] theorem State.raiseBody_lash (s : State) (typ body b : Nat) : (s.raiseBody typ body b).lash = s.lash := rfl
@[simp] theorem State.raiseBody_ten (s : State) (typ body b : Nat) : (s.raiseBody typ body b).ten = s.ten := rfl
@[simp] theorem State.raiseBody_mtr (s : State) (typ body b : Nat) : (s.raiseBody typ body b).mtr = s.mtr := rfl
@[simp] theorem State.raiseBody_bight (s : State) (typ body b : Nat) : (s.raiseBody typ body b).bight = s.bight := rfl
@[simp] theorem State.raiseBody_glob (s : State) (typ body b : Nat) : (s.raiseBody typ body b).glob = s.glob := rfl
@[simp] theorem State.raiseBody_out (s : State) (typ body b : Nat) : (s.raiseBody typ body b).out = s.out := rfl
@[simp] theorem State.raiseBody_freeCtr (s : State) (typ body b : Nat) : (s.raiseBody typ body b).freeCtr = s.freeCtr := rfl

/-! ### ringMem -/
@[simp] theorem State.ringMem_straps (s : State) (m : MemReq) : (s.ringMem m).straps = s.straps := rfl
@[simp] theorem State.ringMem_pending (s : State) (m : MemReq) : (s.ringMem m).pending = s.pending := rfl
@[simp] theorem State.ringMem_aon (s : State) (m : MemReq) : (s.ringMem m).aon = s.aon := rfl
@[simp] theorem State.ringMem_clk (s : State) (m : MemReq) : (s.ringMem m).clk = s.clk := rfl
@[simp] theorem State.ringMem_sb (s : State) (m : MemReq) : (s.ringMem m).sb = s.sb := rfl
@[simp] theorem State.ringMem_test (s : State) (m : MemReq) : (s.ringMem m).test = s.test := rfl
@[simp] theorem State.ringMem_start (s : State) (m : MemReq) : (s.ringMem m).start = s.start := rfl
@[simp] theorem State.ringMem_link (s : State) (m : MemReq) : (s.ringMem m).link = s.link := rfl
@[simp] theorem State.ringMem_noc (s : State) (m : MemReq) :
    (s.ringMem m).noc = { s.noc with qRing := s.noc.qRing ++ [⟨.mem m, oct m.vc, s.now, none⟩] } := rfl
@[simp] theorem State.ringMem_rings (s : State) (m : MemReq) : (s.ringMem m).rings = s.rings := rfl
@[simp] theorem State.ringMem_cal (s : State) (m : MemReq) : (s.ringMem m).cal = s.cal := rfl
@[simp] theorem State.ringMem_red (s : State) (m : MemReq) : (s.ringMem m).red = s.red := rfl
@[simp] theorem State.ringMem_ht (s : State) (m : MemReq) : (s.ringMem m).ht = s.ht := rfl
@[simp] theorem State.ringMem_cfg (s : State) (m : MemReq) : (s.ringMem m).cfg = s.cfg := rfl
@[simp] theorem State.ringMem_agent (s : State) (m : MemReq) : (s.ringMem m).agent = s.agent := rfl
@[simp] theorem State.ringMem_flt (s : State) (m : MemReq) : (s.ringMem m).flt = s.flt := rfl
@[simp] theorem State.ringMem_pwr (s : State) (m : MemReq) : (s.ringMem m).pwr = s.pwr := rfl
@[simp] theorem State.ringMem_lash (s : State) (m : MemReq) : (s.ringMem m).lash = s.lash := rfl
@[simp] theorem State.ringMem_ten (s : State) (m : MemReq) : (s.ringMem m).ten = s.ten := rfl
@[simp] theorem State.ringMem_mtr (s : State) (m : MemReq) : (s.ringMem m).mtr = s.mtr := rfl
@[simp] theorem State.ringMem_bight (s : State) (m : MemReq) : (s.ringMem m).bight = s.bight := rfl
@[simp] theorem State.ringMem_glob (s : State) (m : MemReq) : (s.ringMem m).glob = s.glob := rfl
@[simp] theorem State.ringMem_out (s : State) (m : MemReq) : (s.ringMem m).out = s.out := rfl
@[simp] theorem State.ringMem_freeCtr (s : State) (m : MemReq) : (s.ringMem m).freeCtr = s.freeCtr := rfl

/-! ### redEgress -/
@[simp] theorem State.redEgress_straps (s : State) (w : EgWhat) (v : Fin 8) (l : Option (Nat × Nat)) : (s.redEgress w v l).straps = s.straps := rfl
@[simp] theorem State.redEgress_pending (s : State) (w : EgWhat) (v : Fin 8) (l : Option (Nat × Nat)) : (s.redEgress w v l).pending = s.pending := rfl
@[simp] theorem State.redEgress_aon (s : State) (w : EgWhat) (v : Fin 8) (l : Option (Nat × Nat)) : (s.redEgress w v l).aon = s.aon := rfl
@[simp] theorem State.redEgress_clk (s : State) (w : EgWhat) (v : Fin 8) (l : Option (Nat × Nat)) : (s.redEgress w v l).clk = s.clk := rfl
@[simp] theorem State.redEgress_sb (s : State) (w : EgWhat) (v : Fin 8) (l : Option (Nat × Nat)) : (s.redEgress w v l).sb = s.sb := rfl
@[simp] theorem State.redEgress_test (s : State) (w : EgWhat) (v : Fin 8) (l : Option (Nat × Nat)) : (s.redEgress w v l).test = s.test := rfl
@[simp] theorem State.redEgress_start (s : State) (w : EgWhat) (v : Fin 8) (l : Option (Nat × Nat)) : (s.redEgress w v l).start = s.start := rfl
@[simp] theorem State.redEgress_link (s : State) (w : EgWhat) (v : Fin 8) (l : Option (Nat × Nat)) : (s.redEgress w v l).link = s.link := rfl
@[simp] theorem State.redEgress_rings (s : State) (w : EgWhat) (v : Fin 8) (l : Option (Nat × Nat)) : (s.redEgress w v l).rings = s.rings := rfl
@[simp] theorem State.redEgress_cal (s : State) (w : EgWhat) (v : Fin 8) (l : Option (Nat × Nat)) : (s.redEgress w v l).cal = s.cal := rfl
@[simp] theorem State.redEgress_red (s : State) (w : EgWhat) (v : Fin 8) (l : Option (Nat × Nat)) : (s.redEgress w v l).red = s.red := rfl
@[simp] theorem State.redEgress_ht (s : State) (w : EgWhat) (v : Fin 8) (l : Option (Nat × Nat)) : (s.redEgress w v l).ht = s.ht := rfl
@[simp] theorem State.redEgress_cfg (s : State) (w : EgWhat) (v : Fin 8) (l : Option (Nat × Nat)) : (s.redEgress w v l).cfg = s.cfg := rfl
@[simp] theorem State.redEgress_agent (s : State) (w : EgWhat) (v : Fin 8) (l : Option (Nat × Nat)) : (s.redEgress w v l).agent = s.agent := rfl
@[simp] theorem State.redEgress_flt (s : State) (w : EgWhat) (v : Fin 8) (l : Option (Nat × Nat)) : (s.redEgress w v l).flt = s.flt := rfl
@[simp] theorem State.redEgress_pwr (s : State) (w : EgWhat) (v : Fin 8) (l : Option (Nat × Nat)) : (s.redEgress w v l).pwr = s.pwr := rfl
@[simp] theorem State.redEgress_lash (s : State) (w : EgWhat) (v : Fin 8) (l : Option (Nat × Nat)) : (s.redEgress w v l).lash = s.lash := rfl
@[simp] theorem State.redEgress_ten (s : State) (w : EgWhat) (v : Fin 8) (l : Option (Nat × Nat)) : (s.redEgress w v l).ten = s.ten := rfl
@[simp] theorem State.redEgress_mtr (s : State) (w : EgWhat) (v : Fin 8) (l : Option (Nat × Nat)) : (s.redEgress w v l).mtr = s.mtr := rfl
@[simp] theorem State.redEgress_bight (s : State) (w : EgWhat) (v : Fin 8) (l : Option (Nat × Nat)) : (s.redEgress w v l).bight = s.bight := rfl
@[simp] theorem State.redEgress_glob (s : State) (w : EgWhat) (v : Fin 8) (l : Option (Nat × Nat)) : (s.redEgress w v l).glob = s.glob := rfl
@[simp] theorem State.redEgress_out (s : State) (w : EgWhat) (v : Fin 8) (l : Option (Nat × Nat)) : (s.redEgress w v l).out = s.out := rfl
@[simp] theorem State.redEgress_freeCtr (s : State) (w : EgWhat) (v : Fin 8) (l : Option (Nat × Nat)) : (s.redEgress w v l).freeCtr = s.freeCtr := rfl

/-! ### htEgress -/
@[simp] theorem State.htEgress_straps (s : State) (f : NocFlit) : (s.htEgress f).straps = s.straps := rfl
@[simp] theorem State.htEgress_pending (s : State) (f : NocFlit) : (s.htEgress f).pending = s.pending := rfl
@[simp] theorem State.htEgress_aon (s : State) (f : NocFlit) : (s.htEgress f).aon = s.aon := rfl
@[simp] theorem State.htEgress_clk (s : State) (f : NocFlit) : (s.htEgress f).clk = s.clk := rfl
@[simp] theorem State.htEgress_sb (s : State) (f : NocFlit) : (s.htEgress f).sb = s.sb := rfl
@[simp] theorem State.htEgress_test (s : State) (f : NocFlit) : (s.htEgress f).test = s.test := rfl
@[simp] theorem State.htEgress_start (s : State) (f : NocFlit) : (s.htEgress f).start = s.start := rfl
@[simp] theorem State.htEgress_link (s : State) (f : NocFlit) : (s.htEgress f).link = s.link := rfl
@[simp] theorem State.htEgress_rings (s : State) (f : NocFlit) : (s.htEgress f).rings = s.rings := rfl
@[simp] theorem State.htEgress_cal (s : State) (f : NocFlit) : (s.htEgress f).cal = s.cal := rfl
@[simp] theorem State.htEgress_red (s : State) (f : NocFlit) : (s.htEgress f).red = s.red := rfl
@[simp] theorem State.htEgress_ht (s : State) (f : NocFlit) : (s.htEgress f).ht = s.ht := rfl
@[simp] theorem State.htEgress_cfg (s : State) (f : NocFlit) : (s.htEgress f).cfg = s.cfg := rfl
@[simp] theorem State.htEgress_agent (s : State) (f : NocFlit) : (s.htEgress f).agent = s.agent := rfl
@[simp] theorem State.htEgress_flt (s : State) (f : NocFlit) : (s.htEgress f).flt = s.flt := rfl
@[simp] theorem State.htEgress_pwr (s : State) (f : NocFlit) : (s.htEgress f).pwr = s.pwr := rfl
@[simp] theorem State.htEgress_lash (s : State) (f : NocFlit) : (s.htEgress f).lash = s.lash := rfl
@[simp] theorem State.htEgress_ten (s : State) (f : NocFlit) : (s.htEgress f).ten = s.ten := rfl
@[simp] theorem State.htEgress_mtr (s : State) (f : NocFlit) : (s.htEgress f).mtr = s.mtr := rfl
@[simp] theorem State.htEgress_bight (s : State) (f : NocFlit) : (s.htEgress f).bight = s.bight := rfl
@[simp] theorem State.htEgress_glob (s : State) (f : NocFlit) : (s.htEgress f).glob = s.glob := rfl
@[simp] theorem State.htEgress_out (s : State) (f : NocFlit) : (s.htEgress f).out = s.out := rfl

/-! ### untake -/
@[simp] theorem State.untake_straps (s : State) (rx : Bool) (f : NocFlit) : (s.untake rx f).straps = s.straps := rfl
@[simp] theorem State.untake_pending (s : State) (rx : Bool) (f : NocFlit) : (s.untake rx f).pending = s.pending := rfl
@[simp] theorem State.untake_aon (s : State) (rx : Bool) (f : NocFlit) : (s.untake rx f).aon = s.aon := rfl
@[simp] theorem State.untake_clk (s : State) (rx : Bool) (f : NocFlit) : (s.untake rx f).clk = s.clk := rfl
@[simp] theorem State.untake_sb (s : State) (rx : Bool) (f : NocFlit) : (s.untake rx f).sb = s.sb := rfl
@[simp] theorem State.untake_test (s : State) (rx : Bool) (f : NocFlit) : (s.untake rx f).test = s.test := rfl
@[simp] theorem State.untake_start (s : State) (rx : Bool) (f : NocFlit) : (s.untake rx f).start = s.start := rfl
@[simp] theorem State.untake_link (s : State) (rx : Bool) (f : NocFlit) : (s.untake rx f).link = s.link := rfl
@[simp] theorem State.untake_noc (s : State) (rx : Bool) (f : NocFlit) :
    (s.untake rx f).noc = { s.noc with taken := s.noc.taken.erase (rx, f) } := rfl
@[simp] theorem State.untake_rings (s : State) (rx : Bool) (f : NocFlit) : (s.untake rx f).rings = s.rings := rfl
@[simp] theorem State.untake_cal (s : State) (rx : Bool) (f : NocFlit) : (s.untake rx f).cal = s.cal := rfl
@[simp] theorem State.untake_red (s : State) (rx : Bool) (f : NocFlit) : (s.untake rx f).red = s.red := rfl
@[simp] theorem State.untake_ht (s : State) (rx : Bool) (f : NocFlit) : (s.untake rx f).ht = s.ht := rfl
@[simp] theorem State.untake_cfg (s : State) (rx : Bool) (f : NocFlit) : (s.untake rx f).cfg = s.cfg := rfl
@[simp] theorem State.untake_agent (s : State) (rx : Bool) (f : NocFlit) : (s.untake rx f).agent = s.agent := rfl
@[simp] theorem State.untake_flt (s : State) (rx : Bool) (f : NocFlit) : (s.untake rx f).flt = s.flt := rfl
@[simp] theorem State.untake_pwr (s : State) (rx : Bool) (f : NocFlit) : (s.untake rx f).pwr = s.pwr := rfl
@[simp] theorem State.untake_lash (s : State) (rx : Bool) (f : NocFlit) : (s.untake rx f).lash = s.lash := rfl
@[simp] theorem State.untake_ten (s : State) (rx : Bool) (f : NocFlit) : (s.untake rx f).ten = s.ten := rfl
@[simp] theorem State.untake_mtr (s : State) (rx : Bool) (f : NocFlit) : (s.untake rx f).mtr = s.mtr := rfl
@[simp] theorem State.untake_bight (s : State) (rx : Bool) (f : NocFlit) : (s.untake rx f).bight = s.bight := rfl
@[simp] theorem State.untake_glob (s : State) (rx : Bool) (f : NocFlit) : (s.untake rx f).glob = s.glob := rfl
@[simp] theorem State.untake_out (s : State) (rx : Bool) (f : NocFlit) : (s.untake rx f).out = s.out := rfl
@[simp] theorem State.untake_freeCtr (s : State) (rx : Bool) (f : NocFlit) : (s.untake rx f).freeCtr = s.freeCtr := rfl

/-! ### dropCtl -/
@[simp] theorem State.dropCtl_straps (s : State) (b : Fin 8) (op : Nat) (p : NocFlit) : (s.dropCtl b op p).straps = s.straps := rfl
@[simp] theorem State.dropCtl_pending (s : State) (b : Fin 8) (op : Nat) (p : NocFlit) : (s.dropCtl b op p).pending = s.pending := rfl
@[simp] theorem State.dropCtl_aon (s : State) (b : Fin 8) (op : Nat) (p : NocFlit) : (s.dropCtl b op p).aon = s.aon := rfl
@[simp] theorem State.dropCtl_clk (s : State) (b : Fin 8) (op : Nat) (p : NocFlit) : (s.dropCtl b op p).clk = s.clk := rfl
@[simp] theorem State.dropCtl_sb (s : State) (b : Fin 8) (op : Nat) (p : NocFlit) : (s.dropCtl b op p).sb = s.sb := rfl
@[simp] theorem State.dropCtl_test (s : State) (b : Fin 8) (op : Nat) (p : NocFlit) : (s.dropCtl b op p).test = s.test := rfl
@[simp] theorem State.dropCtl_start (s : State) (b : Fin 8) (op : Nat) (p : NocFlit) : (s.dropCtl b op p).start = s.start := rfl
@[simp] theorem State.dropCtl_noc (s : State) (b : Fin 8) (op : Nat) (p : NocFlit) : (s.dropCtl b op p).noc = s.noc := rfl
@[simp] theorem State.dropCtl_rings (s : State) (b : Fin 8) (op : Nat) (p : NocFlit) : (s.dropCtl b op p).rings = s.rings := rfl
@[simp] theorem State.dropCtl_cal (s : State) (b : Fin 8) (op : Nat) (p : NocFlit) : (s.dropCtl b op p).cal = s.cal := rfl
@[simp] theorem State.dropCtl_red (s : State) (b : Fin 8) (op : Nat) (p : NocFlit) : (s.dropCtl b op p).red = s.red := rfl
@[simp] theorem State.dropCtl_ht (s : State) (b : Fin 8) (op : Nat) (p : NocFlit) : (s.dropCtl b op p).ht = s.ht := rfl
@[simp] theorem State.dropCtl_cfg (s : State) (b : Fin 8) (op : Nat) (p : NocFlit) : (s.dropCtl b op p).cfg = s.cfg := rfl
@[simp] theorem State.dropCtl_agent (s : State) (b : Fin 8) (op : Nat) (p : NocFlit) : (s.dropCtl b op p).agent = s.agent := rfl
@[simp] theorem State.dropCtl_flt (s : State) (b : Fin 8) (op : Nat) (p : NocFlit) : (s.dropCtl b op p).flt = s.flt := rfl
@[simp] theorem State.dropCtl_pwr (s : State) (b : Fin 8) (op : Nat) (p : NocFlit) : (s.dropCtl b op p).pwr = s.pwr := rfl
@[simp] theorem State.dropCtl_lash (s : State) (b : Fin 8) (op : Nat) (p : NocFlit) : (s.dropCtl b op p).lash = s.lash := rfl
@[simp] theorem State.dropCtl_ten (s : State) (b : Fin 8) (op : Nat) (p : NocFlit) : (s.dropCtl b op p).ten = s.ten := rfl
@[simp] theorem State.dropCtl_mtr (s : State) (b : Fin 8) (op : Nat) (p : NocFlit) : (s.dropCtl b op p).mtr = s.mtr := rfl
@[simp] theorem State.dropCtl_bight (s : State) (b : Fin 8) (op : Nat) (p : NocFlit) : (s.dropCtl b op p).bight = s.bight := rfl
@[simp] theorem State.dropCtl_glob (s : State) (b : Fin 8) (op : Nat) (p : NocFlit) : (s.dropCtl b op p).glob = s.glob := rfl
@[simp] theorem State.dropCtl_out (s : State) (b : Fin 8) (op : Nat) (p : NocFlit) : (s.dropCtl b op p).out = s.out := rfl
@[simp] theorem State.dropCtl_freeCtr (s : State) (b : Fin 8) (op : Nat) (p : NocFlit) : (s.dropCtl b op p).freeCtr = s.freeCtr := rfl

/-! ### sendRing -/
@[simp] theorem State.sendRing_straps (s : State) (f : SbFrame) : (s.sendRing f).straps = s.straps := rfl
@[simp] theorem State.sendRing_pending (s : State) (f : SbFrame) : (s.sendRing f).pending = s.pending := rfl
@[simp] theorem State.sendRing_aon (s : State) (f : SbFrame) : (s.sendRing f).aon = s.aon := rfl
@[simp] theorem State.sendRing_clk (s : State) (f : SbFrame) : (s.sendRing f).clk = s.clk := rfl
@[simp] theorem State.sendRing_sb (s : State) (f : SbFrame) :
    (s.sendRing f).sb = { s.sb with ringOwn := s.sb.ringOwn ++ [f] } := rfl
@[simp] theorem State.sendRing_test (s : State) (f : SbFrame) : (s.sendRing f).test = s.test := rfl
@[simp] theorem State.sendRing_start (s : State) (f : SbFrame) : (s.sendRing f).start = s.start := rfl
@[simp] theorem State.sendRing_link (s : State) (f : SbFrame) : (s.sendRing f).link = s.link := rfl
@[simp] theorem State.sendRing_noc (s : State) (f : SbFrame) : (s.sendRing f).noc = s.noc := rfl
@[simp] theorem State.sendRing_rings (s : State) (f : SbFrame) : (s.sendRing f).rings = s.rings := rfl
@[simp] theorem State.sendRing_cal (s : State) (f : SbFrame) : (s.sendRing f).cal = s.cal := rfl
@[simp] theorem State.sendRing_red (s : State) (f : SbFrame) : (s.sendRing f).red = s.red := rfl
@[simp] theorem State.sendRing_ht (s : State) (f : SbFrame) : (s.sendRing f).ht = s.ht := rfl
@[simp] theorem State.sendRing_cfg (s : State) (f : SbFrame) : (s.sendRing f).cfg = s.cfg := rfl
@[simp] theorem State.sendRing_agent (s : State) (f : SbFrame) : (s.sendRing f).agent = s.agent := rfl
@[simp] theorem State.sendRing_flt (s : State) (f : SbFrame) : (s.sendRing f).flt = s.flt := rfl
@[simp] theorem State.sendRing_pwr (s : State) (f : SbFrame) : (s.sendRing f).pwr = s.pwr := rfl
@[simp] theorem State.sendRing_lash (s : State) (f : SbFrame) : (s.sendRing f).lash = s.lash := rfl
@[simp] theorem State.sendRing_ten (s : State) (f : SbFrame) : (s.sendRing f).ten = s.ten := rfl
@[simp] theorem State.sendRing_mtr (s : State) (f : SbFrame) : (s.sendRing f).mtr = s.mtr := rfl
@[simp] theorem State.sendRing_bight (s : State) (f : SbFrame) : (s.sendRing f).bight = s.bight := rfl
@[simp] theorem State.sendRing_glob (s : State) (f : SbFrame) : (s.sendRing f).glob = s.glob := rfl
@[simp] theorem State.sendRing_out (s : State) (f : SbFrame) : (s.sendRing f).out = s.out := rfl
@[simp] theorem State.sendRing_freeCtr (s : State) (f : SbFrame) : (s.sendRing f).freeCtr = s.freeCtr := rfl

/-! ### accDone -/
@[simp] theorem State.accDone_straps (s : State) (v : Reg) : (s.accDone v).straps = s.straps := rfl
@[simp] theorem State.accDone_pending (s : State) (v : Reg) : (s.accDone v).pending = s.pending := rfl
@[simp] theorem State.accDone_aon (s : State) (v : Reg) : (s.accDone v).aon = s.aon := rfl
@[simp] theorem State.accDone_clk (s : State) (v : Reg) : (s.accDone v).clk = s.clk := rfl
@[simp] theorem State.accDone_sb (s : State) (v : Reg) : (s.accDone v).sb = s.sb := rfl
@[simp] theorem State.accDone_test (s : State) (v : Reg) : (s.accDone v).test = s.test := rfl
@[simp] theorem State.accDone_start (s : State) (v : Reg) : (s.accDone v).start = s.start := rfl
@[simp] theorem State.accDone_link (s : State) (v : Reg) : (s.accDone v).link = s.link := rfl
@[simp] theorem State.accDone_noc (s : State) (v : Reg) : (s.accDone v).noc = s.noc := rfl
@[simp] theorem State.accDone_rings (s : State) (v : Reg) : (s.accDone v).rings = s.rings := rfl
@[simp] theorem State.accDone_cal (s : State) (v : Reg) : (s.accDone v).cal = s.cal := rfl
@[simp] theorem State.accDone_red (s : State) (v : Reg) : (s.accDone v).red = s.red := rfl
@[simp] theorem State.accDone_ht (s : State) (v : Reg) : (s.accDone v).ht = s.ht := rfl
@[simp] theorem State.accDone_cfg (s : State) (v : Reg) : (s.accDone v).cfg = s.cfg := rfl
@[simp] theorem State.accDone_agent (s : State) (v : Reg) : (s.accDone v).agent = s.agent := rfl
@[simp] theorem State.accDone_flt (s : State) (v : Reg) : (s.accDone v).flt = s.flt := rfl
@[simp] theorem State.accDone_pwr (s : State) (v : Reg) : (s.accDone v).pwr = s.pwr := rfl
@[simp] theorem State.accDone_lash (s : State) (v : Reg) : (s.accDone v).lash = s.lash := rfl
@[simp] theorem State.accDone_ten (s : State) (v : Reg) : (s.accDone v).ten = s.ten := rfl
@[simp] theorem State.accDone_mtr (s : State) (v : Reg) : (s.accDone v).mtr = s.mtr := rfl
@[simp] theorem State.accDone_bight (s : State) (v : Reg) : (s.accDone v).bight = s.bight := rfl
@[simp] theorem State.accDone_glob (s : State) (v : Reg) :
    (s.accDone v).glob = { s.glob with readData := v, refusedAcc := false } := rfl
@[simp] theorem State.accDone_out (s : State) (v : Reg) : (s.accDone v).out = s.out := rfl
@[simp] theorem State.accDone_freeCtr (s : State) (v : Reg) : (s.accDone v).freeCtr = s.freeCtr := rfl

/-! ### accRefused -/
@[simp] theorem State.accRefused_straps (s : State) : (s.accRefused).straps = s.straps := rfl
@[simp] theorem State.accRefused_pending (s : State) : (s.accRefused).pending = s.pending := rfl
@[simp] theorem State.accRefused_aon (s : State) : (s.accRefused).aon = s.aon := rfl
@[simp] theorem State.accRefused_clk (s : State) : (s.accRefused).clk = s.clk := rfl
@[simp] theorem State.accRefused_sb (s : State) : (s.accRefused).sb = s.sb := rfl
@[simp] theorem State.accRefused_test (s : State) : (s.accRefused).test = s.test := rfl
@[simp] theorem State.accRefused_start (s : State) : (s.accRefused).start = s.start := rfl
@[simp] theorem State.accRefused_link (s : State) : (s.accRefused).link = s.link := rfl
@[simp] theorem State.accRefused_noc (s : State) : (s.accRefused).noc = s.noc := rfl
@[simp] theorem State.accRefused_rings (s : State) : (s.accRefused).rings = s.rings := rfl
@[simp] theorem State.accRefused_cal (s : State) : (s.accRefused).cal = s.cal := rfl
@[simp] theorem State.accRefused_red (s : State) : (s.accRefused).red = s.red := rfl
@[simp] theorem State.accRefused_ht (s : State) : (s.accRefused).ht = s.ht := rfl
@[simp] theorem State.accRefused_cfg (s : State) : (s.accRefused).cfg = s.cfg := rfl
@[simp] theorem State.accRefused_agent (s : State) : (s.accRefused).agent = s.agent := rfl
@[simp] theorem State.accRefused_flt (s : State) : (s.accRefused).flt = s.flt := rfl
@[simp] theorem State.accRefused_pwr (s : State) : (s.accRefused).pwr = s.pwr := rfl
@[simp] theorem State.accRefused_lash (s : State) : (s.accRefused).lash = s.lash := rfl
@[simp] theorem State.accRefused_ten (s : State) : (s.accRefused).ten = s.ten := rfl
@[simp] theorem State.accRefused_mtr (s : State) : (s.accRefused).mtr = s.mtr := rfl
@[simp] theorem State.accRefused_bight (s : State) : (s.accRefused).bight = s.bight := rfl
@[simp] theorem State.accRefused_glob (s : State) :
    (s.accRefused).glob = { s.glob with readData := 0, refusedAcc := true } := rfl
@[simp] theorem State.accRefused_out (s : State) : (s.accRefused).out = s.out := rfl
@[simp] theorem State.accRefused_freeCtr (s : State) : (s.accRefused).freeCtr = s.freeCtr := rfl

/-! ### withholdReset -/
@[simp] theorem State.withholdReset_straps (s : State) : (s.withholdReset).straps = s.straps := rfl
@[simp] theorem State.withholdReset_pending (s : State) : (s.withholdReset).pending = s.pending := rfl
@[simp] theorem State.withholdReset_aon (s : State) : (s.withholdReset).aon = s.aon := rfl
@[simp] theorem State.withholdReset_clk (s : State) : (s.withholdReset).clk = s.clk := rfl
@[simp] theorem State.withholdReset_sb (s : State) : (s.withholdReset).sb = s.sb := rfl
@[simp] theorem State.withholdReset_test (s : State) : (s.withholdReset).test = s.test := rfl
@[simp] theorem State.withholdReset_start (s : State) : (s.withholdReset).start = s.start := rfl
@[simp] theorem State.withholdReset_link (s : State) : (s.withholdReset).link = s.link := rfl
@[simp] theorem State.withholdReset_noc (s : State) :
    (s.withholdReset).noc = { s.noc with whReset := true } := rfl
@[simp] theorem State.withholdReset_rings (s : State) : (s.withholdReset).rings = s.rings := rfl
@[simp] theorem State.withholdReset_cal (s : State) : (s.withholdReset).cal = s.cal := rfl
@[simp] theorem State.withholdReset_red (s : State) : (s.withholdReset).red = s.red := rfl
@[simp] theorem State.withholdReset_ht (s : State) : (s.withholdReset).ht = s.ht := rfl
@[simp] theorem State.withholdReset_cfg (s : State) : (s.withholdReset).cfg = s.cfg := rfl
@[simp] theorem State.withholdReset_agent (s : State) : (s.withholdReset).agent = s.agent := rfl
@[simp] theorem State.withholdReset_flt (s : State) : (s.withholdReset).flt = s.flt := rfl
@[simp] theorem State.withholdReset_pwr (s : State) : (s.withholdReset).pwr = s.pwr := rfl
@[simp] theorem State.withholdReset_lash (s : State) : (s.withholdReset).lash = s.lash := rfl
@[simp] theorem State.withholdReset_ten (s : State) : (s.withholdReset).ten = s.ten := rfl
@[simp] theorem State.withholdReset_mtr (s : State) : (s.withholdReset).mtr = s.mtr := rfl
@[simp] theorem State.withholdReset_bight (s : State) : (s.withholdReset).bight = s.bight := rfl
@[simp] theorem State.withholdReset_glob (s : State) : (s.withholdReset).glob = s.glob := rfl
@[simp] theorem State.withholdReset_out (s : State) : (s.withholdReset).out = s.out := rfl
@[simp] theorem State.withholdReset_freeCtr (s : State) : (s.withholdReset).freeCtr = s.freeCtr := rfl

/-! ### requestReset -/
@[simp] theorem State.requestReset_straps (s : State) (c : BitVec 4) : (s.requestReset c).straps = s.straps := rfl
@[simp] theorem State.requestReset_pending (s : State) (c : BitVec 4) : (s.requestReset c).pending = s.pending := rfl
@[simp] theorem State.requestReset_aon (s : State) (c : BitVec 4) :
    (s.requestReset c).aon = { s.aon with reqN := false, reqCause := some c } := rfl
@[simp] theorem State.requestReset_clk (s : State) (c : BitVec 4) : (s.requestReset c).clk = s.clk := rfl
@[simp] theorem State.requestReset_sb (s : State) (c : BitVec 4) : (s.requestReset c).sb = s.sb := rfl
@[simp] theorem State.requestReset_test (s : State) (c : BitVec 4) : (s.requestReset c).test = s.test := rfl
@[simp] theorem State.requestReset_start (s : State) (c : BitVec 4) : (s.requestReset c).start = s.start := rfl
@[simp] theorem State.requestReset_link (s : State) (c : BitVec 4) : (s.requestReset c).link = s.link := rfl
@[simp] theorem State.requestReset_noc (s : State) (c : BitVec 4) : (s.requestReset c).noc = s.noc := rfl
@[simp] theorem State.requestReset_rings (s : State) (c : BitVec 4) : (s.requestReset c).rings = s.rings := rfl
@[simp] theorem State.requestReset_cal (s : State) (c : BitVec 4) : (s.requestReset c).cal = s.cal := rfl
@[simp] theorem State.requestReset_red (s : State) (c : BitVec 4) : (s.requestReset c).red = s.red := rfl
@[simp] theorem State.requestReset_ht (s : State) (c : BitVec 4) : (s.requestReset c).ht = s.ht := rfl
@[simp] theorem State.requestReset_cfg (s : State) (c : BitVec 4) : (s.requestReset c).cfg = s.cfg := rfl
@[simp] theorem State.requestReset_agent (s : State) (c : BitVec 4) : (s.requestReset c).agent = s.agent := rfl
@[simp] theorem State.requestReset_flt (s : State) (c : BitVec 4) : (s.requestReset c).flt = s.flt := rfl
@[simp] theorem State.requestReset_pwr (s : State) (c : BitVec 4) : (s.requestReset c).pwr = s.pwr := rfl
@[simp] theorem State.requestReset_lash (s : State) (c : BitVec 4) : (s.requestReset c).lash = s.lash := rfl
@[simp] theorem State.requestReset_ten (s : State) (c : BitVec 4) : (s.requestReset c).ten = s.ten := rfl
@[simp] theorem State.requestReset_mtr (s : State) (c : BitVec 4) : (s.requestReset c).mtr = s.mtr := rfl
@[simp] theorem State.requestReset_bight (s : State) (c : BitVec 4) : (s.requestReset c).bight = s.bight := rfl
@[simp] theorem State.requestReset_glob (s : State) (c : BitVec 4) : (s.requestReset c).glob = s.glob := rfl
@[simp] theorem State.requestReset_out (s : State) (c : BitVec 4) : (s.requestReset c).out = s.out := rfl
@[simp] theorem State.requestReset_freeCtr (s : State) (c : BitVec 4) : (s.requestReset c).freeCtr = s.freeCtr := rfl

end Sys2Proof.Machine
end

