-- ==== Sys2Proof/Laws/Tables.lean ====
section
/-!
SUPPORT. Reading after writing: the sparse tables and the eight-entry records of the state.
-/
namespace Sys2Proof.Machine

/-! ### Sparse tables -/

/-- The entry just written reads as written. -/
@[simp] theorem tget_tput_self {α : Type} (d : α) (t : Tbl α) (i : Nat) (x : α) : tget d (tput t i x) i = x := by
  induction t with
  | nil => simp [tput, tget]
  | cons p t ih =>
    obtain ⟨k, v⟩ := p
    unfold tput
    split
    · simp [tget]
    · split
      · simp [tget]
      · rename_i h; simp [tget, Ne.symm h, ih]

/-- Every other entry reads as before. -/
theorem tget_tput_ne {α : Type} (d : α) (t : Tbl α) (i j : Nat) (x : α) (h : j ≠ i) :
    tget d (tput t i x) j = tget d t j := by
  induction t with
  | nil => simp [tput, tget, Ne.symm h]
  | cons p t ih =>
    obtain ⟨k, v⟩ := p
    unfold tput
    split
    · simp [tget, Ne.symm h]
    · split
      · rename_i e; subst e; simp [tget, Ne.symm h]
      · simp [tget, ih]

/-- The entry just changed. -/
@[simp] theorem tget_tupd_self {α : Type} (d : α) (t : Tbl α) (i : Nat) (f : α → α) :
    tget d (tupd d t i f) i = f (tget d t i) := by simp [tupd]

/-- Every other entry reads as before a change. -/
theorem tget_tupd_ne {α : Type} (d : α) (t : Tbl α) (i j : Nat) (f : α → α) (h : j ≠ i) :
    tget d (tupd d t i f) j = tget d t j := by simp [tupd, tget_tput_ne d t i j _ h]

/-- A look-up of the entry just written. -/
@[simp] theorem tfind_tput_self {α : Type} (t : Tbl α) (i : Nat) (x : α) : tfind (tput t i x) i = some x := by
  induction t with
  | nil => simp [tput, tfind]
  | cons p t ih =>
    obtain ⟨k, v⟩ := p
    unfold tput
    split
    · simp [tfind]
    · split
      · simp [tfind]
      · rename_i h; simp [tfind, Ne.symm h, ih]

/-- A look-up of every other entry. -/
theorem tfind_tput_ne {α : Type} (t : Tbl α) (i j : Nat) (x : α) (h : j ≠ i) : tfind (tput t i x) j = tfind t j := by
  induction t with
  | nil => simp [tput, tfind, Ne.symm h]
  | cons p t ih =>
    obtain ⟨k, v⟩ := p
    unfold tput
    split
    · simp [tfind, Ne.symm h]
    · split
      · rename_i e; subst e; simp [tfind, Ne.symm h]
      · simp [tfind, ih]

/-- An entry taken out reads as the default. -/
@[simp] theorem tget_tdel_self {α : Type} (d : α) (t : Tbl α) (i : Nat) : tget d (tdel t i) i = d := by
  induction t with
  | nil => simp [tdel, tget]
  | cons p t ih =>
    obtain ⟨k, v⟩ := p
    by_cases h : k = i
    · simpa [tdel, h] using ih
    · simp only [tdel, List.filter_cons, ne_eq, h, not_false_eq_true, decide_true, if_true, tget, if_false]
      exact ih

/-- A look-up of an entry taken out finds none. -/
@[simp] theorem tfind_tdel_self {α : Type} (t : Tbl α) (i : Nat) : tfind (tdel t i) i = none := by
  induction t with
  | nil => simp [tdel, tfind]
  | cons p t ih =>
    obtain ⟨k, v⟩ := p
    by_cases h : k = i
    · simpa [tdel, h] using ih
    · simp only [tdel, List.filter_cons, ne_eq, h, not_false_eq_true, decide_true, if_true, tfind, if_false]
      exact ih

/-! ### Eight entries -/

/-- The entry just put. -/
@[simp] theorem oct_get_put_self {α : Type} (o : Oct α) (i : Fin 8) (x : α) : (o.put i x).get i = x := by
  match i with
  | 0 | 1 | 2 | 3 | 4 | 5 | 6 | 7 => rfl

/-- Every other entry reads as before. -/
theorem oct_get_put_ne {α : Type} (o : Oct α) (i j : Fin 8) (x : α) (h : j ≠ i) : (o.put i x).get j = o.get j := by
  match i, j with
  | 0, 0 | 1, 1 | 2, 2 | 3, 3 | 4, 4 | 5, 5 | 6, 6 | 7, 7 => exact absurd rfl h
  | 0, 1 | 0, 2 | 0, 3 | 0, 4 | 0, 5 | 0, 6 | 0, 7 => rfl
  | 1, 0 | 1, 2 | 1, 3 | 1, 4 | 1, 5 | 1, 6 | 1, 7 => rfl
  | 2, 0 | 2, 1 | 2, 3 | 2, 4 | 2, 5 | 2, 6 | 2, 7 => rfl
  | 3, 0 | 3, 1 | 3, 2 | 3, 4 | 3, 5 | 3, 6 | 3, 7 => rfl
  | 4, 0 | 4, 1 | 4, 2 | 4, 3 | 4, 5 | 4, 6 | 4, 7 => rfl
  | 5, 0 | 5, 1 | 5, 2 | 5, 3 | 5, 4 | 5, 6 | 5, 7 => rfl
  | 6, 0 | 6, 1 | 6, 2 | 6, 3 | 6, 4 | 6, 5 | 6, 7 => rfl
  | 7, 0 | 7, 1 | 7, 2 | 7, 3 | 7, 4 | 7, 5 | 7, 6 => rfl

/-- The entry just changed. -/
@[simp] theorem oct_get_upd_self {α : Type} (o : Oct α) (i : Fin 8) (f : α → α) : (o.upd i f).get i = f (o.get i) := by
  simp [Oct.upd]

/-- Every other entry reads as before a change. -/
theorem oct_get_upd_ne {α : Type} (o : Oct α) (i j : Fin 8) (f : α → α) (h : j ≠ i) : (o.upd i f).get j = o.get j := by
  simp [Oct.upd, oct_get_put_ne o i j _ h]

/-- The entry of a record made by a function. -/
@[simp] theorem oct_get_ofFn {α : Type} (f : Fin 8 → α) (i : Fin 8) : (Oct.ofFn f).get i = f i := by
  match i with
  | 0 | 1 | 2 | 3 | 4 | 5 | 6 | 7 => rfl

/-- The entry of eight copies. -/
@[simp] theorem oct_get_all {α : Type} (x : α) (i : Fin 8) : (Oct.all x).get i = x := by
  match i with
  | 0 | 1 | 2 | 3 | 4 | 5 | 6 | 7 => rfl

/-- The entry of a record mapped. -/
@[simp] theorem oct_get_map {α β : Type} (f : α → β) (o : Oct α) (i : Fin 8) : (o.map f).get i = f (o.get i) := by
  match i with
  | 0 | 1 | 2 | 3 | 4 | 5 | 6 | 7 => rfl

/-- Every number is among the eight. -/
@[simp] theorem mem_octs (i : Fin 8) : i ∈ octs := by
  match i with
  | 0 | 1 | 2 | 3 | 4 | 5 | 6 | 7 => simp [octs]

end Sys2Proof.Machine
end

