-- ==== Sys2Proof/Laws/Events.lean ====
section
/-!
SUPPORT. What raising and posting events can do (R237, R238, R353, R355): posting changes the fault block, the event rings and the
queue of the ring engine's memory requests, and nothing else; no event waits afterwards.
-/
namespace Sys2Proof.Machine

/-! ### One event -/

@[simp] theorem State.post_straps (s : State) (e : Event) (q ts : Nat) : (s.post e q ts).straps = s.straps := by
  unfold State.post; split <;> rfl
@[simp] theorem State.post_pending (s : State) (e : Event) (q ts : Nat) : (s.post e q ts).pending = s.pending := by
  unfold State.post; split <;> rfl
@[simp] theorem State.post_aon (s : State) (e : Event) (q ts : Nat) : (s.post e q ts).aon = s.aon := by
  unfold State.post; split <;> rfl
@[simp] theorem State.post_clk (s : State) (e : Event) (q ts : Nat) : (s.post e q ts).clk = s.clk := by
  unfold State.post; split <;> rfl
@[simp] theorem State.post_sb (s : State) (e : Event) (q ts : Nat) : (s.post e q ts).sb = s.sb := by
  unfold State.post; split <;> rfl
@[simp] theorem State.post_test (s : State) (e : Event) (q ts : Nat) : (s.post e q ts).test = s.test := by
  unfold State.post; split <;> rfl
@[simp] theorem State.post_start (s : State) (e : Event) (q ts : Nat) : (s.post e q ts).start = s.start := by
  unfold State.post; split <;> rfl
@[simp] theorem State.post_link (s : State) (e : Event) (q ts : Nat) : (s.post e q ts).link = s.link := by
  unfold State.post; split <;> rfl
@[simp] theorem State.post_cal (s : State) (e : Event) (q ts : Nat) : (s.post e q ts).cal = s.cal := by
  unfold State.post; split <;> rfl
@[simp] theorem State.post_red (s : State) (e : Event) (q ts : Nat) : (s.post e q ts).red = s.red := by
  unfold State.post; split <;> rfl
@[simp] theorem State.post_ht (s : State) (e : Event) (q ts : Nat) : (s.post e q ts).ht = s.ht := by
  unfold State.post; split <;> rfl
@[simp] theorem State.post_cfg (s : State) (e : Event) (q ts : Nat) : (s.post e q ts).cfg = s.cfg := by
  unfold State.post; split <;> rfl
@[simp] theorem State.post_agent (s : State) (e : Event) (q ts : Nat) : (s.post e q ts).agent = s.agent := by
  unfold State.post; split <;> rfl
@[simp] theorem State.post_pwr (s : State) (e : Event) (q ts : Nat) : (s.post e q ts).pwr = s.pwr := by
  unfold State.post; split <;> rfl
@[simp] theorem State.post_lash (s : State) (e : Event) (q ts : Nat) : (s.post e q ts).lash = s.lash := by
  unfold State.post; split <;> rfl
@[simp] theorem State.post_ten (s : State) (e : Event) (q ts : Nat) : (s.post e q ts).ten = s.ten := by
  unfold State.post; split <;> rfl
@[simp] theorem State.post_mtr (s : State) (e : Event) (q ts : Nat) : (s.post e q ts).mtr = s.mtr := by
  unfold State.post; split <;> rfl
@[simp] theorem State.post_bight (s : State) (e : Event) (q ts : Nat) : (s.post e q ts).bight = s.bight := by
  unfold State.post; split <;> rfl
@[simp] theorem State.post_glob (s : State) (e : Event) (q ts : Nat) : (s.post e q ts).glob = s.glob := by
  unfold State.post; split <;> rfl
@[simp] theorem State.post_out (s : State) (e : Event) (q ts : Nat) : (s.post e q ts).out = s.out := by
  unfold State.post; split <;> rfl
@[simp] theorem State.post_freeCtr (s : State) (e : Event) (q ts : Nat) : (s.post e q ts).freeCtr = s.freeCtr := by
  unfold State.post; split <;> rfl

@[simp] theorem State.post_noc_pool (s : State) (e : Event) (q ts : Nat) : (s.post e q ts).noc.pool = s.noc.pool := by
  unfold State.post; split <;> rfl
@[simp] theorem State.post_noc_order (s : State) (e : Event) (q ts : Nat) : (s.post e q ts).noc.order = s.noc.order := by
  unfold State.post; split <;> rfl
@[simp] theorem State.post_noc_inHeld (s : State) (e : Event) (q ts : Nat) : (s.post e q ts).noc.inHeld = s.noc.inHeld := by
  unfold State.post; split <;> rfl
@[simp] theorem State.post_noc_lostIn (s : State) (e : Event) (q ts : Nat) : (s.post e q ts).noc.lostIn = s.noc.lostIn := by
  unfold State.post; split <;> rfl
@[simp] theorem State.post_noc_egHeld (s : State) (e : Event) (q ts : Nat) : (s.post e q ts).noc.egHeld = s.noc.egHeld := by
  unfold State.post; split <;> rfl
@[simp] theorem State.post_noc_lostEg (s : State) (e : Event) (q ts : Nat) : (s.post e q ts).noc.lostEg = s.noc.lostEg := by
  unfold State.post; split <;> rfl
@[simp] theorem State.post_noc_owed (s : State) (e : Event) (q ts : Nat) : (s.post e q ts).noc.owed = s.noc.owed := by
  unfold State.post; split <;> rfl
@[simp] theorem State.post_noc_whReset (s : State) (e : Event) (q ts : Nat) : (s.post e q ts).noc.whReset = s.noc.whReset := by
  unfold State.post; split <;> rfl
@[simp] theorem State.post_noc_whNclk (s : State) (e : Event) (q ts : Nat) : (s.post e q ts).noc.whNclk = s.noc.whNclk := by
  unfold State.post; split <;> rfl
@[simp] theorem State.post_noc_whRetrain (s : State) (e : Event) (q ts : Nat) : (s.post e q ts).noc.whRetrain = s.noc.whRetrain := by
  unfold State.post; split <;> rfl
@[simp] theorem State.post_noc_whDrain (s : State) (e : Event) (q ts : Nat) : (s.post e q ts).noc.whDrain = s.noc.whDrain := by
  unfold State.post; split <;> rfl
@[simp] theorem State.post_noc_crdInit (s : State) (e : Event) (q ts : Nat) : (s.post e q ts).noc.crdInit = s.noc.crdInit := by
  unfold State.post; split <;> rfl
@[simp] theorem State.post_noc_initDone (s : State) (e : Event) (q ts : Nat) : (s.post e q ts).noc.initDone = s.noc.initDone := by
  unfold State.post; split <;> rfl
@[simp] theorem State.post_noc_timeoutRaised (s : State) (e : Event) (q ts : Nat) : (s.post e q ts).noc.timeoutRaised = s.noc.timeoutRaised := by
  unfold State.post; split <;> rfl
@[simp] theorem State.post_noc_returned (s : State) (e : Event) (q ts : Nat) : (s.post e q ts).noc.returned = s.noc.returned := by
  unfold State.post; split <;> rfl
@[simp] theorem State.post_noc_audit (s : State) (e : Event) (q ts : Nat) : (s.post e q ts).noc.audit = s.noc.audit := by
  unfold State.post; split <;> rfl
@[simp] theorem State.post_noc_nextAudit (s : State) (e : Event) (q ts : Nat) : (s.post e q ts).noc.nextAudit = s.noc.nextAudit := by
  unfold State.post; split <;> rfl
@[simp] theorem State.post_noc_audits (s : State) (e : Event) (q ts : Nat) : (s.post e q ts).noc.audits = s.noc.audits := by
  unfold State.post; split <;> rfl
@[simp] theorem State.post_noc_mismatch (s : State) (e : Event) (q ts : Nat) : (s.post e q ts).noc.mismatch = s.noc.mismatch := by
  unfold State.post; split <;> rfl
@[simp] theorem State.post_noc_abandoned (s : State) (e : Event) (q ts : Nat) : (s.post e q ts).noc.abandoned = s.noc.abandoned := by
  unfold State.post; split <;> rfl
@[simp] theorem State.post_noc_boundary (s : State) (e : Event) (q ts : Nat) : (s.post e q ts).noc.boundary = s.noc.boundary := by
  unfold State.post; split <;> rfl
@[simp] theorem State.post_noc_stalls (s : State) (e : Event) (q ts : Nat) : (s.post e q ts).noc.stalls = s.noc.stalls := by
  unfold State.post; split <;> rfl
@[simp] theorem State.post_noc_mgmtDrop (s : State) (e : Event) (q ts : Nat) : (s.post e q ts).noc.mgmtDrop = s.noc.mgmtDrop := by
  unfold State.post; split <;> rfl
@[simp] theorem State.post_noc_egStalled (s : State) (e : Event) (q ts : Nat) : (s.post e q ts).noc.egStalled = s.noc.egStalled := by
  unfold State.post; split <;> rfl
@[simp] theorem State.post_noc_fcCtl (s : State) (e : Event) (q ts : Nat) : (s.post e q ts).noc.fcCtl = s.noc.fcCtl := by
  unfold State.post; split <;> rfl
@[simp] theorem State.post_noc_fcIdx (s : State) (e : Event) (q ts : Nat) : (s.post e q ts).noc.fcIdx = s.noc.fcIdx := by
  unfold State.post; split <;> rfl
@[simp] theorem State.post_noc_flowIdx (s : State) (e : Event) (q ts : Nat) : (s.post e q ts).noc.flowIdx = s.noc.flowIdx := by
  unfold State.post; split <;> rfl
@[simp] theorem State.post_noc_buckets (s : State) (e : Event) (q ts : Nat) : (s.post e q ts).noc.buckets = s.noc.buckets := by
  unfold State.post; split <;> rfl
@[simp] theorem State.post_noc_live (s : State) (e : Event) (q ts : Nat) : (s.post e q ts).noc.live = s.noc.live := by
  unfold State.post; split <;> rfl
@[simp] theorem State.post_noc_bightOut (s : State) (e : Event) (q ts : Nat) : (s.post e q ts).noc.bightOut = s.noc.bightOut := by
  unfold State.post; split <;> rfl
@[simp] theorem State.post_noc_moves (s : State) (e : Event) (q ts : Nat) : (s.post e q ts).noc.moves = s.noc.moves := by
  unfold State.post; split <;> rfl
@[simp] theorem State.post_noc_taken (s : State) (e : Event) (q ts : Nat) : (s.post e q ts).noc.taken = s.noc.taken := by
  unfold State.post; split <;> rfl
@[simp] theorem State.post_noc_redSent (s : State) (e : Event) (q ts : Nat) : (s.post e q ts).noc.redSent = s.noc.redSent := by
  unfold State.post; split <;> rfl
@[simp] theorem State.post_noc_qRed (s : State) (e : Event) (q ts : Nat) : (s.post e q ts).noc.qRed = s.noc.qRed := by
  unfold State.post; split <;> rfl
@[simp] theorem State.post_noc_qHitch (s : State) (e : Event) (q ts : Nat) : (s.post e q ts).noc.qHitch = s.noc.qHitch := by
  unfold State.post; split <;> rfl
@[simp] theorem State.post_noc_qErr (s : State) (e : Event) (q ts : Nat) : (s.post e q ts).noc.qErr = s.noc.qErr := by
  unfold State.post; split <;> rfl
@[simp] theorem State.post_noc_mergePtr (s : State) (e : Event) (q ts : Nat) : (s.post e q ts).noc.mergePtr = s.noc.mergePtr := by
  unfold State.post; split <;> rfl
@[simp] theorem State.post_noc_egPtr (s : State) (e : Event) (q ts : Nat) : (s.post e q ts).noc.egPtr = s.noc.egPtr := by
  unfold State.post; split <;> rfl

@[simp] theorem State.post_rings_ctl (s : State) (e : Event) (q ts : Nat) : (s.post e q ts).rings.ctl = s.rings.ctl := by
  unfold State.post; split <;> rfl
@[simp] theorem State.post_rings_msiMask (s : State) (e : Event) (q ts : Nat) : (s.post e q ts).rings.msiMask = s.rings.msiMask := by
  unfold State.post; split <;> rfl
@[simp] theorem State.post_rings_line (s : State) (e : Event) (q ts : Nat) : (s.post e q ts).rings.line = s.rings.line := by
  unfold State.post; split <;> rfl
@[simp] theorem State.post_rings_fifo (s : State) (e : Event) (q ts : Nat) : (s.post e q ts).rings.fifo = s.rings.fifo := by
  unfold State.post; split <;> rfl
@[simp] theorem State.post_rings_fifoHigh (s : State) (e : Event) (q ts : Nat) : (s.post e q ts).rings.fifoHigh = s.rings.fifoHigh := by
  unfold State.post; split <;> rfl
@[simp] theorem State.post_rings_cancels (s : State) (e : Event) (q ts : Nat) : (s.post e q ts).rings.cancels = s.rings.cancels := by
  unfold State.post; split <;> rfl
@[simp] theorem State.post_rings_cancelled (s : State) (e : Event) (q ts : Nat) : (s.post e q ts).rings.cancelled = s.rings.cancelled := by
  unfold State.post; split <;> rfl
@[simp] theorem State.post_rings_halts (s : State) (e : Event) (q ts : Nat) : (s.post e q ts).rings.halts = s.rings.halts := by
  unfold State.post; split <;> rfl
@[simp] theorem State.post_rings_evtHalted (s : State) (e : Event) (q ts : Nat) : (s.post e q ts).rings.evtHalted = s.rings.evtHalted := by
  unfold State.post; split <;> rfl
@[simp] theorem State.post_rings_cfgErr (s : State) (e : Event) (q ts : Nat) : (s.post e q ts).rings.cfgErr = s.rings.cfgErr := by
  unfold State.post; split <;> rfl
@[simp] theorem State.post_rings_staleDesc (s : State) (e : Event) (q ts : Nat) : (s.post e q ts).rings.staleDesc = s.rings.staleDesc := by
  unfold State.post; split <;> rfl
@[simp] theorem State.post_rings_cplDiscarded (s : State) (e : Event) (q ts : Nat) : (s.post e q ts).rings.cplDiscarded = s.rings.cplDiscarded := by
  unfold State.post; split <;> rfl
@[simp] theorem State.post_rings_msiFail (s : State) (e : Event) (q ts : Nat) : (s.post e q ts).rings.msiFail = s.rings.msiFail := by
  unfold State.post; split <;> rfl
@[simp] theorem State.post_rings_ptrCmd (s : State) (e : Event) (q ts : Nat) : (s.post e q ts).rings.ptrCmd = s.rings.ptrCmd := by
  unfold State.post; split <;> rfl
@[simp] theorem State.post_rings_ptrRed (s : State) (e : Event) (q ts : Nat) : (s.post e q ts).rings.ptrRed = s.rings.ptrRed := by
  unfold State.post; split <;> rfl
@[simp] theorem State.post_rings_ptrHit (s : State) (e : Event) (q ts : Nat) : (s.post e q ts).rings.ptrHit = s.rings.ptrHit := by
  unfold State.post; split <;> rfl

@[simp] theorem State.post_flt (s : State) (e : Event) (q ts : Nat) : (s.post e q ts).flt = s.flt := by
  unfold State.post; split <;> rfl

@[simp] theorem State.countEvent_straps (s : State) (e : Event) : (s.countEvent e).straps = s.straps := by
  unfold State.countEvent; dsimp only; split <;> (try split) <;> simp
@[simp] theorem State.countEvent_pending (s : State) (e : Event) : (s.countEvent e).pending = s.pending := by
  unfold State.countEvent; dsimp only; split <;> (try split) <;> simp
@[simp] theorem State.countEvent_aon (s : State) (e : Event) : (s.countEvent e).aon = s.aon := by
  unfold State.countEvent; dsimp only; split <;> (try split) <;> simp
@[simp] theorem State.countEvent_clk (s : State) (e : Event) : (s.countEvent e).clk = s.clk := by
  unfold State.countEvent; dsimp only; split <;> (try split) <;> simp
@[simp] theorem State.countEvent_sb (s : State) (e : Event) : (s.countEvent e).sb = s.sb := by
  unfold State.countEvent; dsimp only; split <;> (try split) <;> simp
@[simp] theorem State.countEvent_test (s : State) (e : Event) : (s.countEvent e).test = s.test := by
  unfold State.countEvent; dsimp only; split <;> (try split) <;> simp
@[simp] theorem State.countEvent_start (s : State) (e : Event) : (s.countEvent e).start = s.start := by
  unfold State.countEvent; dsimp only; split <;> (try split) <;> simp
@[simp] theorem State.countEvent_link (s : State) (e : Event) : (s.countEvent e).link = s.link := by
  unfold State.countEvent; dsimp only; split <;> (try split) <;> simp
@[simp] theorem State.countEvent_cal (s : State) (e : Event) : (s.countEvent e).cal = s.cal := by
  unfold State.countEvent; dsimp only; split <;> (try split) <;> simp
@[simp] theorem State.countEvent_red (s : State) (e : Event) : (s.countEvent e).red = s.red := by
  unfold State.countEvent; dsimp only; split <;> (try split) <;> simp
@[simp] theorem State.countEvent_ht (s : State) (e : Event) : (s.countEvent e).ht = s.ht := by
  unfold State.countEvent; dsimp only; split <;> (try split) <;> simp
@[simp] theorem State.countEvent_cfg (s : State) (e : Event) : (s.countEvent e).cfg = s.cfg := by
  unfold State.countEvent; dsimp only; split <;> (try split) <;> simp
@[simp] theorem State.countEvent_agent (s : State) (e : Event) : (s.countEvent e).agent = s.agent := by
  unfold State.countEvent; dsimp only; split <;> (try split) <;> simp
@[simp] theorem State.countEvent_pwr (s : State) (e : Event) : (s.countEvent e).pwr = s.pwr := by
  unfold State.countEvent; dsimp only; split <;> (try split) <;> simp
@[simp] theorem State.countEvent_lash (s : State) (e : Event) : (s.countEvent e).lash = s.lash := by
  unfold State.countEvent; dsimp only; split <;> (try split) <;> simp
@[simp] theorem State.countEvent_ten (s : State) (e : Event) : (s.countEvent e).ten = s.ten := by
  unfold State.countEvent; dsimp only; split <;> (try split) <;> simp
@[simp] theorem State.countEvent_mtr (s : State) (e : Event) : (s.countEvent e).mtr = s.mtr := by
  unfold State.countEvent; dsimp only; split <;> (try split) <;> simp
@[simp] theorem State.countEvent_bight (s : State) (e : Event) : (s.countEvent e).bight = s.bight := by
  unfold State.countEvent; dsimp only; split <;> (try split) <;> simp
@[simp] theorem State.countEvent_glob (s : State) (e : Event) : (s.countEvent e).glob = s.glob := by
  unfold State.countEvent; dsimp only; split <;> (try split) <;> simp
@[simp] theorem State.countEvent_out (s : State) (e : Event) : (s.countEvent e).out = s.out := by
  unfold State.countEvent; dsimp only; split <;> (try split) <;> simp
@[simp] theorem State.countEvent_freeCtr (s : State) (e : Event) : (s.countEvent e).freeCtr = s.freeCtr := by
  unfold State.countEvent; dsimp only; split <;> (try split) <;> simp
@[simp] theorem State.countEvent_noc_pool (s : State) (e : Event) : (s.countEvent e).noc.pool = s.noc.pool := by
  unfold State.countEvent; dsimp only; split <;> (try split) <;> simp
@[simp] theorem State.countEvent_noc_order (s : State) (e : Event) : (s.countEvent e).noc.order = s.noc.order := by
  unfold State.countEvent; dsimp only; split <;> (try split) <;> simp
@[simp] theorem State.countEvent_noc_inHeld (s : State) (e : Event) : (s.countEvent e).noc.inHeld = s.noc.inHeld := by
  unfold State.countEvent; dsimp only; split <;> (try split) <;> simp
@[simp] theorem State.countEvent_noc_lostIn (s : State) (e : Event) : (s.countEvent e).noc.lostIn = s.noc.lostIn := by
  unfold State.countEvent; dsimp only; split <;> (try split) <;> simp
@[simp] theorem State.countEvent_noc_egHeld (s : State) (e : Event) : (s.countEvent e).noc.egHeld = s.noc.egHeld := by
  unfold State.countEvent; dsimp only; split <;> (try split) <;> simp
@[simp] theorem State.countEvent_noc_lostEg (s : State) (e : Event) : (s.countEvent e).noc.lostEg = s.noc.lostEg := by
  unfold State.countEvent; dsimp only; split <;> (try split) <;> simp
@[simp] theorem State.countEvent_noc_owed (s : State) (e : Event) : (s.countEvent e).noc.owed = s.noc.owed := by
  unfold State.countEvent; dsimp only; split <;> (try split) <;> simp
@[simp] theorem State.countEvent_noc_whReset (s : State) (e : Event) : (s.countEvent e).noc.whReset = s.noc.whReset := by
  unfold State.countEvent; dsimp only; split <;> (try split) <;> simp
@[simp] theorem State.countEvent_noc_whNclk (s : State) (e : Event) : (s.countEvent e).noc.whNclk = s.noc.whNclk := by
  unfold State.countEvent; dsimp only; split <;> (try split) <;> simp
@[simp] theorem State.countEvent_noc_whRetrain (s : State) (e : Event) : (s.countEvent e).noc.whRetrain = s.noc.whRetrain := by
  unfold State.countEvent; dsimp only; split <;> (try split) <;> simp
@[simp] theorem State.countEvent_noc_whDrain (s : State) (e : Event) : (s.countEvent e).noc.whDrain = s.noc.whDrain := by
  unfold State.countEvent; dsimp only; split <;> (try split) <;> simp
@[simp] theorem State.countEvent_noc_crdInit (s : State) (e : Event) : (s.countEvent e).noc.crdInit = s.noc.crdInit := by
  unfold State.countEvent; dsimp only; split <;> (try split) <;> simp
@[simp] theorem State.countEvent_noc_initDone (s : State) (e : Event) : (s.countEvent e).noc.initDone = s.noc.initDone := by
  unfold State.countEvent; dsimp only; split <;> (try split) <;> simp
@[simp] theorem State.countEvent_noc_timeoutRaised (s : State) (e : Event) : (s.countEvent e).noc.timeoutRaised = s.noc.timeoutRaised := by
  unfold State.countEvent; dsimp only; split <;> (try split) <;> simp
@[simp] theorem State.countEvent_noc_returned (s : State) (e : Event) : (s.countEvent e).noc.returned = s.noc.returned := by
  unfold State.countEvent; dsimp only; split <;> (try split) <;> simp
@[simp] theorem State.countEvent_noc_audit (s : State) (e : Event) : (s.countEvent e).noc.audit = s.noc.audit := by
  unfold State.countEvent; dsimp only; split <;> (try split) <;> simp
@[simp] theorem State.countEvent_noc_nextAudit (s : State) (e : Event) : (s.countEvent e).noc.nextAudit = s.noc.nextAudit := by
  unfold State.countEvent; dsimp only; split <;> (try split) <;> simp
@[simp] theorem State.countEvent_noc_audits (s : State) (e : Event) : (s.countEvent e).noc.audits = s.noc.audits := by
  unfold State.countEvent; dsimp only; split <;> (try split) <;> simp
@[simp] theorem State.countEvent_noc_mismatch (s : State) (e : Event) : (s.countEvent e).noc.mismatch = s.noc.mismatch := by
  unfold State.countEvent; dsimp only; split <;> (try split) <;> simp
@[simp] theorem State.countEvent_noc_abandoned (s : State) (e : Event) : (s.countEvent e).noc.abandoned = s.noc.abandoned := by
  unfold State.countEvent; dsimp only; split <;> (try split) <;> simp
@[simp] theorem State.countEvent_noc_boundary (s : State) (e : Event) : (s.countEvent e).noc.boundary = s.noc.boundary := by
  unfold State.countEvent; dsimp only; split <;> (try split) <;> simp
@[simp] theorem State.countEvent_noc_stalls (s : State) (e : Event) : (s.countEvent e).noc.stalls = s.noc.stalls := by
  unfold State.countEvent; dsimp only; split <;> (try split) <;> simp
@[simp] theorem State.countEvent_noc_mgmtDrop (s : State) (e : Event) : (s.countEvent e).noc.mgmtDrop = s.noc.mgmtDrop := by
  unfold State.countEvent; dsimp only; split <;> (try split) <;> simp
@[simp] theorem State.countEvent_noc_egStalled (s : State) (e : Event) : (s.countEvent e).noc.egStalled = s.noc.egStalled := by
  unfold State.countEvent; dsimp only; split <;> (try split) <;> simp
@[simp] theorem State.countEvent_noc_fcCtl (s : State) (e : Event) : (s.countEvent e).noc.fcCtl = s.noc.fcCtl := by
  unfold State.countEvent; dsimp only; split <;> (try split) <;> simp
@[simp] theorem State.countEvent_noc_fcIdx (s : State) (e : Event) : (s.countEvent e).noc.fcIdx = s.noc.fcIdx := by
  unfold State.countEvent; dsimp only; split <;> (try split) <;> simp
@[simp] theorem State.countEvent_noc_flowIdx (s : State) (e : Event) : (s.countEvent e).noc.flowIdx = s.noc.flowIdx := by
  unfold State.countEvent; dsimp only; split <;> (try split) <;> simp
@[simp] theorem State.countEvent_noc_buckets (s : State) (e : Event) : (s.countEvent e).noc.buckets = s.noc.buckets := by
  unfold State.countEvent; dsimp only; split <;> (try split) <;> simp
@[simp] theorem State.countEvent_noc_live (s : State) (e : Event) : (s.countEvent e).noc.live = s.noc.live := by
  unfold State.countEvent; dsimp only; split <;> (try split) <;> simp
@[simp] theorem State.countEvent_noc_bightOut (s : State) (e : Event) : (s.countEvent e).noc.bightOut = s.noc.bightOut := by
  unfold State.countEvent; dsimp only; split <;> (try split) <;> simp
@[simp] theorem State.countEvent_noc_moves (s : State) (e : Event) : (s.countEvent e).noc.moves = s.noc.moves := by
  unfold State.countEvent; dsimp only; split <;> (try split) <;> simp
@[simp] theorem State.countEvent_noc_taken (s : State) (e : Event) : (s.countEvent e).noc.taken = s.noc.taken := by
  unfold State.countEvent; dsimp only; split <;> (try split) <;> simp
@[simp] theorem State.countEvent_noc_redSent (s : State) (e : Event) : (s.countEvent e).noc.redSent = s.noc.redSent := by
  unfold State.countEvent; dsimp only; split <;> (try split) <;> simp
@[simp] theorem State.countEvent_noc_qRed (s : State) (e : Event) : (s.countEvent e).noc.qRed = s.noc.qRed := by
  unfold State.countEvent; dsimp only; split <;> (try split) <;> simp
@[simp] theorem State.countEvent_noc_qHitch (s : State) (e : Event) : (s.countEvent e).noc.qHitch = s.noc.qHitch := by
  unfold State.countEvent; dsimp only; split <;> (try split) <;> simp
@[simp] theorem State.countEvent_noc_qErr (s : State) (e : Event) : (s.countEvent e).noc.qErr = s.noc.qErr := by
  unfold State.countEvent; dsimp only; split <;> (try split) <;> simp
@[simp] theorem State.countEvent_noc_mergePtr (s : State) (e : Event) : (s.countEvent e).noc.mergePtr = s.noc.mergePtr := by
  unfold State.countEvent; dsimp only; split <;> (try split) <;> simp
@[simp] theorem State.countEvent_noc_egPtr (s : State) (e : Event) : (s.countEvent e).noc.egPtr = s.noc.egPtr := by
  unfold State.countEvent; dsimp only; split <;> (try split) <;> simp
@[simp] theorem State.countEvent_rings_ctl (s : State) (e : Event) : (s.countEvent e).rings.ctl = s.rings.ctl := by
  unfold State.countEvent; dsimp only; split <;> (try split) <;> simp
@[simp] theorem State.countEvent_rings_msiMask (s : State) (e : Event) : (s.countEvent e).rings.msiMask = s.rings.msiMask := by
  unfold State.countEvent; dsimp only; split <;> (try split) <;> simp
@[simp] theorem State.countEvent_rings_line (s : State) (e : Event) : (s.countEvent e).rings.line = s.rings.line := by
  unfold State.countEvent; dsimp only; split <;> (try split) <;> simp
@[simp] theorem State.countEvent_rings_fifo (s : State) (e : Event) : (s.countEvent e).rings.fifo = s.rings.fifo := by
  unfold State.countEvent; dsimp only; split <;> (try split) <;> simp
@[simp] theorem State.countEvent_rings_fifoHigh (s : State) (e : Event) : (s.countEvent e).rings.fifoHigh = s.rings.fifoHigh := by
  unfold State.countEvent; dsimp only; split <;> (try split) <;> simp
@[simp] theorem State.countEvent_rings_cancels (s : State) (e : Event) : (s.countEvent e).rings.cancels = s.rings.cancels := by
  unfold State.countEvent; dsimp only; split <;> (try split) <;> simp
@[simp] theorem State.countEvent_rings_cancelled (s : State) (e : Event) : (s.countEvent e).rings.cancelled = s.rings.cancelled := by
  unfold State.countEvent; dsimp only; split <;> (try split) <;> simp
@[simp] theorem State.countEvent_rings_halts (s : State) (e : Event) : (s.countEvent e).rings.halts = s.rings.halts := by
  unfold State.countEvent; dsimp only; split <;> (try split) <;> simp
@[simp] theorem State.countEvent_rings_evtHalted (s : State) (e : Event) : (s.countEvent e).rings.evtHalted = s.rings.evtHalted := by
  unfold State.countEvent; dsimp only; split <;> (try split) <;> simp
@[simp] theorem State.countEvent_rings_cfgErr (s : State) (e : Event) : (s.countEvent e).rings.cfgErr = s.rings.cfgErr := by
  unfold State.countEvent; dsimp only; split <;> (try split) <;> simp
@[simp] theorem State.countEvent_rings_staleDesc (s : State) (e : Event) : (s.countEvent e).rings.staleDesc = s.rings.staleDesc := by
  unfold State.countEvent; dsimp only; split <;> (try split) <;> simp
@[simp] theorem State.countEvent_rings_cplDiscarded (s : State) (e : Event) : (s.countEvent e).rings.cplDiscarded = s.rings.cplDiscarded := by
  unfold State.countEvent; dsimp only; split <;> (try split) <;> simp
@[simp] theorem State.countEvent_rings_msiFail (s : State) (e : Event) : (s.countEvent e).rings.msiFail = s.rings.msiFail := by
  unfold State.countEvent; dsimp only; split <;> (try split) <;> simp
@[simp] theorem State.countEvent_rings_ptrCmd (s : State) (e : Event) : (s.countEvent e).rings.ptrCmd = s.rings.ptrCmd := by
  unfold State.countEvent; dsimp only; split <;> (try split) <;> simp
@[simp] theorem State.countEvent_rings_ptrRed (s : State) (e : Event) : (s.countEvent e).rings.ptrRed = s.rings.ptrRed := by
  unfold State.countEvent; dsimp only; split <;> (try split) <;> simp
@[simp] theorem State.countEvent_rings_ptrHit (s : State) (e : Event) : (s.countEvent e).rings.ptrHit = s.rings.ptrHit := by
  unfold State.countEvent; dsimp only; split <;> (try split) <;> simp
@[simp] theorem State.countEvent_flt_ctl (s : State) (e : Event) : (s.countEvent e).flt.ctl = s.flt.ctl := by
  unfold State.countEvent; dsimp only; split <;> (try split) <;> simp
@[simp] theorem State.countEvent_flt_tidx (s : State) (e : Event) : (s.countEvent e).flt.tidx = s.flt.tidx := by
  unfold State.countEvent; dsimp only; split <;> (try split) <;> simp
@[simp] theorem State.countEvent_flt_fenceDiscards (s : State) (e : Event) : (s.countEvent e).flt.fenceDiscards = s.flt.fenceDiscards := by
  unfold State.countEvent; dsimp only; split <;> (try split) <;> simp
@[simp] theorem State.countEvent_flt_fenceBeacons (s : State) (e : Event) : (s.countEvent e).flt.fenceBeacons = s.flt.fenceBeacons := by
  unfold State.countEvent; dsimp only; split <;> (try split) <;> simp
@[simp] theorem State.countEvent_flt_limited (s : State) (e : Event) : (s.countEvent e).flt.limited = s.flt.limited := by
  unfold State.countEvent; dsimp only; split <;> (try split) <;> simp
@[simp] theorem State.countEvent_flt_queue (s : State) (e : Event) : (s.countEvent e).flt.queue = s.flt.queue := by
  unfold State.countEvent; dsimp only; split <;> (try split) <;> simp
@[simp] theorem State.countEvent_flt_raised (s : State) (e : Event) : (s.countEvent e).flt.raised = tput s.flt.raised e.typ (tget 0 s.flt.raised e.typ + 1) := by
  unfold State.countEvent; dsimp only; split <;> (try split) <;> simp
@[simp] theorem State.countEvent_flt_flags (s : State) (e : Event) : (s.countEvent e).flt.flags = (s.flt.flags ||| BitVec.ofNat 32 (2 ^ (e.typ / 8))) := by
  unfold State.countEvent; dsimp only; split <;> (try split) <;> simp

/-- A projection every counted event keeps is kept by a list of them. -/
theorem foldl_countEvent {α : Type} (p : State → α) (h : ∀ s e, p (s.countEvent e) = p s) (l : List Event) (s : State) :
    p (l.foldl State.countEvent s) = p s := by
  induction l generalizing s with
  | nil => rfl
  | cons e l ih => rw [List.foldl_cons, ih, h]

/-! ### All of a command's events -/

@[simp] theorem State.flushEvents_straps (s : State) : s.flushEvents.straps = s.straps := by
  unfold State.flushEvents; rw [foldl_countEvent (fun s => s.straps) (by simp)]
@[simp] theorem State.flushEvents_pending (s : State) : s.flushEvents.pending = s.pending := by
  unfold State.flushEvents; rw [foldl_countEvent (fun s => s.pending) (by simp)]
@[simp] theorem State.flushEvents_aon (s : State) : s.flushEvents.aon = s.aon := by
  unfold State.flushEvents; rw [foldl_countEvent (fun s => s.aon) (by simp)]
@[simp] theorem State.flushEvents_clk (s : State) : s.flushEvents.clk = s.clk := by
  unfold State.flushEvents; rw [foldl_countEvent (fun s => s.clk) (by simp)]
@[simp] theorem State.flushEvents_sb (s : State) : s.flushEvents.sb = s.sb := by
  unfold State.flushEvents; rw [foldl_countEvent (fun s => s.sb) (by simp)]
@[simp] theorem State.flushEvents_test (s : State) : s.flushEvents.test = s.test := by
  unfold State.flushEvents; rw [foldl_countEvent (fun s => s.test) (by simp)]
@[simp] theorem State.flushEvents_start (s : State) : s.flushEvents.start = s.start := by
  unfold State.flushEvents; rw [foldl_countEvent (fun s => s.start) (by simp)]
@[simp] theorem State.flushEvents_link (s : State) : s.flushEvents.link = s.link := by
  unfold State.flushEvents; rw [foldl_countEvent (fun s => s.link) (by simp)]
@[simp] theorem State.flushEvents_cal (s : State) : s.flushEvents.cal = s.cal := by
  unfold State.flushEvents; rw [foldl_countEvent (fun s => s.cal) (by simp)]
@[simp] theorem State.flushEvents_red (s : State) : s.flushEvents.red = s.red := by
  unfold State.flushEvents; rw [foldl_countEvent (fun s => s.red) (by simp)]
@[simp] theorem State.flushEvents_ht (s : State) : s.flushEvents.ht = s.ht := by
  unfold State.flushEvents; rw [foldl_countEvent (fun s => s.ht) (by simp)]
@[simp] theorem State.flushEvents_cfg (s : State) : s.flushEvents.cfg = s.cfg := by
  unfold State.flushEvents; rw [foldl_countEvent (fun s => s.cfg) (by simp)]
@[simp] theorem State.flushEvents_agent (s : State) : s.flushEvents.agent = s.agent := by
  unfold State.flushEvents; rw [foldl_countEvent (fun s => s.agent) (by simp)]
@[simp] theorem State.flushEvents_pwr (s : State) : s.flushEvents.pwr = s.pwr := by
  unfold State.flushEvents; rw [foldl_countEvent (fun s => s.pwr) (by simp)]
@[simp] theorem State.flushEvents_lash (s : State) : s.flushEvents.lash = s.lash := by
  unfold State.flushEvents; rw [foldl_countEvent (fun s => s.lash) (by simp)]
@[simp] theorem State.flushEvents_ten (s : State) : s.flushEvents.ten = s.ten := by
  unfold State.flushEvents; rw [foldl_countEvent (fun s => s.ten) (by simp)]
@[simp] theorem State.flushEvents_mtr (s : State) : s.flushEvents.mtr = s.mtr := by
  unfold State.flushEvents; rw [foldl_countEvent (fun s => s.mtr) (by simp)]
@[simp] theorem State.flushEvents_bight (s : State) : s.flushEvents.bight = s.bight := by
  unfold State.flushEvents; rw [foldl_countEvent (fun s => s.bight) (by simp)]
@[simp] theorem State.flushEvents_glob (s : State) : s.flushEvents.glob = s.glob := by
  unfold State.flushEvents; rw [foldl_countEvent (fun s => s.glob) (by simp)]
@[simp] theorem State.flushEvents_out (s : State) : s.flushEvents.out = s.out := by
  unfold State.flushEvents; rw [foldl_countEvent (fun s => s.out) (by simp)]
@[simp] theorem State.flushEvents_freeCtr (s : State) : s.flushEvents.freeCtr = s.freeCtr := by
  unfold State.flushEvents; rw [foldl_countEvent (fun s => s.freeCtr) (by simp)]
@[simp] theorem State.flushEvents_noc_pool (s : State) : s.flushEvents.noc.pool = s.noc.pool := by
  unfold State.flushEvents; rw [foldl_countEvent (fun s => s.noc.pool) (by simp)]
@[simp] theorem State.flushEvents_noc_order (s : State) : s.flushEvents.noc.order = s.noc.order := by
  unfold State.flushEvents; rw [foldl_countEvent (fun s => s.noc.order) (by simp)]
@[simp] theorem State.flushEvents_noc_inHeld (s : State) : s.flushEvents.noc.inHeld = s.noc.inHeld := by
  unfold State.flushEvents; rw [foldl_countEvent (fun s => s.noc.inHeld) (by simp)]
@[simp] theorem State.flushEvents_noc_lostIn (s : State) : s.flushEvents.noc.lostIn = s.noc.lostIn := by
  unfold State.flushEvents; rw [foldl_countEvent (fun s => s.noc.lostIn) (by simp)]
@[simp] theorem State.flushEvents_noc_egHeld (s : State) : s.flushEvents.noc.egHeld = s.noc.egHeld := by
  unfold State.flushEvents; rw [foldl_countEvent (fun s => s.noc.egHeld) (by simp)]
@[simp] theorem State.flushEvents_noc_lostEg (s : State) : s.flushEvents.noc.lostEg = s.noc.lostEg := by
  unfold State.flushEvents; rw [foldl_countEvent (fun s => s.noc.lostEg) (by simp)]
@[simp] theorem State.flushEvents_noc_owed (s : State) : s.flushEvents.noc.owed = s.noc.owed := by
  unfold State.flushEvents; rw [foldl_countEvent (fun s => s.noc.owed) (by simp)]
@[simp] theorem State.flushEvents_noc_whReset (s : State) : s.flushEvents.noc.whReset = s.noc.whReset := by
  unfold State.flushEvents; rw [foldl_countEvent (fun s => s.noc.whReset) (by simp)]
@[simp] theorem State.flushEvents_noc_whNclk (s : State) : s.flushEvents.noc.whNclk = s.noc.whNclk := by
  unfold State.flushEvents; rw [foldl_countEvent (fun s => s.noc.whNclk) (by simp)]
@[simp] theorem State.flushEvents_noc_whRetrain (s : State) : s.flushEvents.noc.whRetrain = s.noc.whRetrain := by
  unfold State.flushEvents; rw [foldl_countEvent (fun s => s.noc.whRetrain) (by simp)]
@[simp] theorem State.flushEvents_noc_whDrain (s : State) : s.flushEvents.noc.whDrain = s.noc.whDrain := by
  unfold State.flushEvents; rw [foldl_countEvent (fun s => s.noc.whDrain) (by simp)]
@[simp] theorem State.flushEvents_noc_crdInit (s : State) : s.flushEvents.noc.crdInit = s.noc.crdInit := by
  unfold State.flushEvents; rw [foldl_countEvent (fun s => s.noc.crdInit) (by simp)]
@[simp] theorem State.flushEvents_noc_initDone (s : State) : s.flushEvents.noc.initDone = s.noc.initDone := by
  unfold State.flushEvents; rw [foldl_countEvent (fun s => s.noc.initDone) (by simp)]
@[simp] theorem State.flushEvents_noc_timeoutRaised (s : State) : s.flushEvents.noc.timeoutRaised = s.noc.timeoutRaised := by
  unfold State.flushEvents; rw [foldl_countEvent (fun s => s.noc.timeoutRaised) (by simp)]
@[simp] theorem State.flushEvents_noc_returned (s : State) : s.flushEvents.noc.returned = s.noc.returned := by
  unfold State.flushEvents; rw [foldl_countEvent (fun s => s.noc.returned) (by simp)]
@[simp] theorem State.flushEvents_noc_audit (s : State) : s.flushEvents.noc.audit = s.noc.audit := by
  unfold State.flushEvents; rw [foldl_countEvent (fun s => s.noc.audit) (by simp)]
@[simp] theorem State.flushEvents_noc_nextAudit (s : State) : s.flushEvents.noc.nextAudit = s.noc.nextAudit := by
  unfold State.flushEvents; rw [foldl_countEvent (fun s => s.noc.nextAudit) (by simp)]
@[simp] theorem State.flushEvents_noc_audits (s : State) : s.flushEvents.noc.audits = s.noc.audits := by
  unfold State.flushEvents; rw [foldl_countEvent (fun s => s.noc.audits) (by simp)]
@[simp] theorem State.flushEvents_noc_mismatch (s : State) : s.flushEvents.noc.mismatch = s.noc.mismatch := by
  unfold State.flushEvents; rw [foldl_countEvent (fun s => s.noc.mismatch) (by simp)]
@[simp] theorem State.flushEvents_noc_abandoned (s : State) : s.flushEvents.noc.abandoned = s.noc.abandoned := by
  unfold State.flushEvents; rw [foldl_countEvent (fun s => s.noc.abandoned) (by simp)]
@[simp] theorem State.flushEvents_noc_boundary (s : State) : s.flushEvents.noc.boundary = s.noc.boundary := by
  unfold State.flushEvents; rw [foldl_countEvent (fun s => s.noc.boundary) (by simp)]
@[simp] theorem State.flushEvents_noc_stalls (s : State) : s.flushEvents.noc.stalls = s.noc.stalls := by
  unfold State.flushEvents; rw [foldl_countEvent (fun s => s.noc.stalls) (by simp)]
@[simp] theorem State.flushEvents_noc_mgmtDrop (s : State) : s.flushEvents.noc.mgmtDrop = s.noc.mgmtDrop := by
  unfold State.flushEvents; rw [foldl_countEvent (fun s => s.noc.mgmtDrop) (by simp)]
@[simp] theorem State.flushEvents_noc_egStalled (s : State) : s.flushEvents.noc.egStalled = s.noc.egStalled := by
  unfold State.flushEvents; rw [foldl_countEvent (fun s => s.noc.egStalled) (by simp)]
@[simp] theorem State.flushEvents_noc_fcCtl (s : State) : s.flushEvents.noc.fcCtl = s.noc.fcCtl := by
  unfold State.flushEvents; rw [foldl_countEvent (fun s => s.noc.fcCtl) (by simp)]
@[simp] theorem State.flushEvents_noc_fcIdx (s : State) : s.flushEvents.noc.fcIdx = s.noc.fcIdx := by
  unfold State.flushEvents; rw [foldl_countEvent (fun s => s.noc.fcIdx) (by simp)]
@[simp] theorem State.flushEvents_noc_flowIdx (s : State) : s.flushEvents.noc.flowIdx = s.noc.flowIdx := by
  unfold State.flushEvents; rw [foldl_countEvent (fun s => s.noc.flowIdx) (by simp)]
@[simp] theorem State.flushEvents_noc_buckets (s : State) : s.flushEvents.noc.buckets = s.noc.buckets := by
  unfold State.flushEvents; rw [foldl_countEvent (fun s => s.noc.buckets) (by simp)]
@[simp] theorem State.flushEvents_noc_live (s : State) : s.flushEvents.noc.live = s.noc.live := by
  unfold State.flushEvents; rw [foldl_countEvent (fun s => s.noc.live) (by simp)]
@[simp] theorem State.flushEvents_noc_bightOut (s : State) : s.flushEvents.noc.bightOut = s.noc.bightOut := by
  unfold State.flushEvents; rw [foldl_countEvent (fun s => s.noc.bightOut) (by simp)]
@[simp] theorem State.flushEvents_noc_moves (s : State) : s.flushEvents.noc.moves = s.noc.moves := by
  unfold State.flushEvents; rw [foldl_countEvent (fun s => s.noc.moves) (by simp)]
@[simp] theorem State.flushEvents_noc_taken (s : State) : s.flushEvents.noc.taken = s.noc.taken := by
  unfold State.flushEvents; rw [foldl_countEvent (fun s => s.noc.taken) (by simp)]
@[simp] theorem State.flushEvents_noc_redSent (s : State) : s.flushEvents.noc.redSent = s.noc.redSent := by
  unfold State.flushEvents; rw [foldl_countEvent (fun s => s.noc.redSent) (by simp)]
@[simp] theorem State.flushEvents_noc_qRed (s : State) : s.flushEvents.noc.qRed = s.noc.qRed := by
  unfold State.flushEvents; rw [foldl_countEvent (fun s => s.noc.qRed) (by simp)]
@[simp] theorem State.flushEvents_noc_qHitch (s : State) : s.flushEvents.noc.qHitch = s.noc.qHitch := by
  unfold State.flushEvents; rw [foldl_countEvent (fun s => s.noc.qHitch) (by simp)]
@[simp] theorem State.flushEvents_noc_qErr (s : State) : s.flushEvents.noc.qErr = s.noc.qErr := by
  unfold State.flushEvents; rw [foldl_countEvent (fun s => s.noc.qErr) (by simp)]
@[simp] theorem State.flushEvents_noc_mergePtr (s : State) : s.flushEvents.noc.mergePtr = s.noc.mergePtr := by
  unfold State.flushEvents; rw [foldl_countEvent (fun s => s.noc.mergePtr) (by simp)]
@[simp] theorem State.flushEvents_noc_egPtr (s : State) : s.flushEvents.noc.egPtr = s.noc.egPtr := by
  unfold State.flushEvents; rw [foldl_countEvent (fun s => s.noc.egPtr) (by simp)]
@[simp] theorem State.flushEvents_rings_ctl (s : State) : s.flushEvents.rings.ctl = s.rings.ctl := by
  unfold State.flushEvents; rw [foldl_countEvent (fun s => s.rings.ctl) (by simp)]
@[simp] theorem State.flushEvents_rings_msiMask (s : State) : s.flushEvents.rings.msiMask = s.rings.msiMask := by
  unfold State.flushEvents; rw [foldl_countEvent (fun s => s.rings.msiMask) (by simp)]
@[simp] theorem State.flushEvents_rings_line (s : State) : s.flushEvents.rings.line = s.rings.line := by
  unfold State.flushEvents; rw [foldl_countEvent (fun s => s.rings.line) (by simp)]
@[simp] theorem State.flushEvents_rings_fifo (s : State) : s.flushEvents.rings.fifo = s.rings.fifo := by
  unfold State.flushEvents; rw [foldl_countEvent (fun s => s.rings.fifo) (by simp)]
@[simp] theorem State.flushEvents_rings_fifoHigh (s : State) : s.flushEvents.rings.fifoHigh = s.rings.fifoHigh := by
  unfold State.flushEvents; rw [foldl_countEvent (fun s => s.rings.fifoHigh) (by simp)]
@[simp] theorem State.flushEvents_rings_cancels (s : State) : s.flushEvents.rings.cancels = s.rings.cancels := by
  unfold State.flushEvents; rw [foldl_countEvent (fun s => s.rings.cancels) (by simp)]
@[simp] theorem State.flushEvents_rings_cancelled (s : State) : s.flushEvents.rings.cancelled = s.rings.cancelled := by
  unfold State.flushEvents; rw [foldl_countEvent (fun s => s.rings.cancelled) (by simp)]
@[simp] theorem State.flushEvents_rings_halts (s : State) : s.flushEvents.rings.halts = s.rings.halts := by
  unfold State.flushEvents; rw [foldl_countEvent (fun s => s.rings.halts) (by simp)]
@[simp] theorem State.flushEvents_rings_evtHalted (s : State) : s.flushEvents.rings.evtHalted = s.rings.evtHalted := by
  unfold State.flushEvents; rw [foldl_countEvent (fun s => s.rings.evtHalted) (by simp)]
@[simp] theorem State.flushEvents_rings_cfgErr (s : State) : s.flushEvents.rings.cfgErr = s.rings.cfgErr := by
  unfold State.flushEvents; rw [foldl_countEvent (fun s => s.rings.cfgErr) (by simp)]
@[simp] theorem State.flushEvents_rings_staleDesc (s : State) : s.flushEvents.rings.staleDesc = s.rings.staleDesc := by
  unfold State.flushEvents; rw [foldl_countEvent (fun s => s.rings.staleDesc) (by simp)]
@[simp] theorem State.flushEvents_rings_cplDiscarded (s : State) : s.flushEvents.rings.cplDiscarded = s.rings.cplDiscarded := by
  unfold State.flushEvents; rw [foldl_countEvent (fun s => s.rings.cplDiscarded) (by simp)]
@[simp] theorem State.flushEvents_rings_msiFail (s : State) : s.flushEvents.rings.msiFail = s.rings.msiFail := by
  unfold State.flushEvents; rw [foldl_countEvent (fun s => s.rings.msiFail) (by simp)]
@[simp] theorem State.flushEvents_rings_ptrCmd (s : State) : s.flushEvents.rings.ptrCmd = s.rings.ptrCmd := by
  unfold State.flushEvents; rw [foldl_countEvent (fun s => s.rings.ptrCmd) (by simp)]
@[simp] theorem State.flushEvents_rings_ptrRed (s : State) : s.flushEvents.rings.ptrRed = s.rings.ptrRed := by
  unfold State.flushEvents; rw [foldl_countEvent (fun s => s.rings.ptrRed) (by simp)]
@[simp] theorem State.flushEvents_rings_ptrHit (s : State) : s.flushEvents.rings.ptrHit = s.rings.ptrHit := by
  unfold State.flushEvents; rw [foldl_countEvent (fun s => s.rings.ptrHit) (by simp)]
@[simp] theorem State.flushEvents_flt_ctl (s : State) : s.flushEvents.flt.ctl = s.flt.ctl := by
  unfold State.flushEvents; rw [foldl_countEvent (fun s => s.flt.ctl) (by simp)]
@[simp] theorem State.flushEvents_flt_tidx (s : State) : s.flushEvents.flt.tidx = s.flt.tidx := by
  unfold State.flushEvents; rw [foldl_countEvent (fun s => s.flt.tidx) (by simp)]
@[simp] theorem State.flushEvents_flt_fenceDiscards (s : State) : s.flushEvents.flt.fenceDiscards = s.flt.fenceDiscards := by
  unfold State.flushEvents; rw [foldl_countEvent (fun s => s.flt.fenceDiscards) (by simp)]
@[simp] theorem State.flushEvents_flt_fenceBeacons (s : State) : s.flushEvents.flt.fenceBeacons = s.flt.fenceBeacons := by
  unfold State.flushEvents; rw [foldl_countEvent (fun s => s.flt.fenceBeacons) (by simp)]
@[simp] theorem State.flushEvents_flt_limited (s : State) : s.flushEvents.flt.limited = s.flt.limited := by
  unfold State.flushEvents; rw [foldl_countEvent (fun s => s.flt.limited) (by simp)]

/-- No event waits once a command's events are posted. -/
@[simp] theorem State.flushEvents_flt_queue (s : State) : s.flushEvents.flt.queue = [] := by
  unfold State.flushEvents; rw [foldl_countEvent (fun s => s.flt.queue) (by simp)]

/-- With no event raised, posting changes nothing. -/
theorem State.flushEvents_of_quiet (s : State) (h : s.flt.queue = []) : s.flushEvents = s := by
  have e : ({ s with flt.queue := [] } : State) = s := by
    obtain ⟨a, b, c, d, f, g, i, j, k, l, m, n, o, p, q, ⟨f1, f2, f3, f4, f5, f6, f7, f8, f9, f10, f11⟩, r, t, u, v, w, x, y, z⟩ := s
    simp only at h; subst h; rfl
  unfold State.flushEvents; rw [e, h]; rfl

/-- One event raised from a quiet state is counted once. -/
theorem State.flushEvents_one (s : State) (e : Event) (h : s.flt.queue = [e]) :
    s.flushEvents = State.countEvent { s with flt.queue := [] } e := by
  unfold State.flushEvents; rw [h]; rfl

/-- The next state of a command whose events are posted. -/
theorem done_eq (s : State) : done s = .next s.flushEvents := rfl

/-- The next state of a command that raised no event. -/
theorem done_of_quiet (s : State) (h : s.flt.queue = []) : done s = .next s := by rw [done_eq, State.flushEvents_of_quiet s h]

end Sys2Proof.Machine
end

