-- ==== Sys2Proof/Laws/Counts.lean ====
section
/-!
SUPPORT. How many events of a TYPE a command counts, and the flag of their class (R352, R353).
-/
namespace Sys2Proof.Machine

/-- A bit of a word. -/
theorem bit_eq_getLsbD {n : Nat} (w : BitVec n) (i : Nat) : bit w i = w.getLsbD i := by
  simp only [bit, bf, bitsOf, BitVec.getLsbD, Nat.testBit, Nat.shiftRight_eq_div_pow, Nat.one_and_eq_mod_two, Nat.pow_one]
  rcases Nat.mod_two_eq_zero_or_one (w.toNat / 2 ^ i) with h | h <;> simp [h]

/-- A bit set by an OR stays set. -/
theorem bit_or_left {n : Nat} (x y : BitVec n) (i : Nat) (h : bit x i = true) : bit (x ||| y) i = true := by
  rw [bit_eq_getLsbD] at *; simp [h]

/-- The bit an OR sets. -/
theorem bit_or_pow {n : Nat} (x : BitVec n) (i : Nat) (h : i < n) : bit (x ||| BitVec.ofNat n (2 ^ i)) i = true := by
  rw [bit_eq_getLsbD, BitVec.getLsbD_or, BitVec.getLsbD_ofNat]; simp [h, Nat.testBit_two_pow_self]

/-- Events of a TYPE in a list. -/
def eventsOf (l : List Event) (typ : Nat) : Nat := (l.filter fun e => e.typ == typ).length

theorem eventsOf_cons (e : Event) (l : List Event) (typ : Nat) :
    eventsOf (e :: l) typ = (if e.typ = typ then 1 else 0) + eventsOf l typ := by
  unfold eventsOf; by_cases h : e.typ = typ <;> simp [h, Nat.add_comm]

theorem eventsOf_insert (e : Event) (l : List Event) (typ : Nat) :
    eventsOf (insertEvent e l) typ = eventsOf (e :: l) typ := by
  induction l with
  | nil => rfl
  | cons x l ih =>
    unfold insertEvent; split
    · rfl
    · rw [eventsOf_cons, ih, eventsOf_cons, eventsOf_cons, eventsOf_cons]; omega

theorem eventsOf_foldl_insert (l m : List Event) (typ : Nat) :
    eventsOf (l.foldl (fun a e => insertEvent e a) m) typ = eventsOf l typ + eventsOf m typ := by
  induction l generalizing m with
  | nil => simp [eventsOf]
  | cons e l ih => rw [List.foldl_cons, ih, eventsOf_insert, eventsOf_cons, eventsOf_cons]; omega

/-- Posting order keeps the number of events of a TYPE. -/
theorem eventsOf_sort (l : List Event) (typ : Nat) : eventsOf (sortEvents l) typ = eventsOf l typ := by
  unfold sortEvents; rw [eventsOf_foldl_insert]; simp [eventsOf]

theorem raised_foldl (l : List Event) (s : State) (typ : Nat) :
    tget 0 (l.foldl State.countEvent s).flt.raised typ
      = tget 0 s.flt.raised typ + BitVec.ofNat 32 (eventsOf l typ) := by
  induction l generalizing s with
  | nil => simp [eventsOf]
  | cons e l ih =>
    rw [List.foldl_cons, ih, eventsOf_cons, State.countEvent_flt_raised]
    by_cases h : e.typ = typ
    · subst h; simp only [tget_tput_self, if_true, BitVec.ofNat_add]; rw [BitVec.add_assoc]; rfl
    · rw [tget_tput_ne _ _ _ _ _ (Ne.symm h)]; simp [h]

/-- Every event of a TYPE that a command raised is counted. -/
theorem flushEvents_raised (s : State) (typ : Nat) :
    tget 0 s.flushEvents.flt.raised typ = tget 0 s.flt.raised typ + BitVec.ofNat 32 (eventsOf s.flt.queue typ) := by
  unfold State.flushEvents; rw [raised_foldl, eventsOf_sort]

theorem flags_foldl_mono (l : List Event) (s : State) (i : Nat) (h : bit s.flt.flags i = true) :
    bit (l.foldl State.countEvent s).flt.flags i = true := by
  induction l generalizing s with
  | nil => exact h
  | cons e l ih => rw [List.foldl_cons]; apply ih; rw [State.countEvent_flt_flags]; exact bit_or_left _ _ _ h

theorem flags_foldl (l : List Event) (s : State) (typ : Nat) (ht : typ < 256) (h : 0 < eventsOf l typ) :
    bit (l.foldl State.countEvent s).flt.flags (typ / 8) = true := by
  induction l generalizing s with
  | nil => simp [eventsOf] at h
  | cons e l ih =>
    rw [List.foldl_cons]
    by_cases he : e.typ = typ
    · apply flags_foldl_mono; rw [State.countEvent_flt_flags, he]; exact bit_or_pow _ _ (by omega)
    · apply ih; rw [eventsOf_cons] at h; simpa [he] using h

/-- A command that raised one event of a TYPE counts one, and the flag of its class stands. -/
theorem counted_flush (s u : State) (typ : Nat) (ht : typ < 256) (hr : u.flt.raised = s.flt.raised)
    (hq : eventsOf u.flt.queue typ = 1) : s.counted u.flushEvents typ := by
  refine ⟨by rw [flushEvents_raised, hr, hq]; rfl, ?_⟩
  unfold State.flushEvents
  exact flags_foldl _ _ _ ht (by rw [eventsOf_sort, hq]; exact Nat.one_pos)

end Sys2Proof.Machine
end

