-- ==== Sys2Proof/Laws/Memory.lean ====
section
/-!
SUPPORT. The hub's serial memory: reading a byte after a write, and that every operation on it keeps its canonical form
(R364).
-/
namespace Sys2Proof.Machine

/-- Rising addresses as a relation between every two entries. -/
theorem memSorted_iff (m : List Host.Cell) : memSorted m = true ↔ m.Pairwise (fun a b => a.1 < b.1) := by
  induction m with
  | nil => simp [memSorted]
  | cons a l ih =>
    cases l with
    | nil => simp [memSorted]
    | cons b l =>
      rw [show memSorted (a :: b :: l) = (decide (a.1 < b.1) && memSorted (b :: l)) from rfl]
      simp only [Bool.and_eq_true, decide_eq_true_eq, ih, List.pairwise_cons (a := a)]
      constructor
      · rintro ⟨h, hp⟩
        refine ⟨fun c hc => ?_, hp⟩
        rcases List.mem_cons.mp hc with rfl | hc
        · exact h
        · exact Nat.lt_trans h ((List.pairwise_cons.mp hp).1 c hc)
      · rintro ⟨h, hp⟩
        exact ⟨h b (List.mem_cons_self ..), hp⟩

/-- The canonical form in two parts. -/
theorem memWf_iff (m : List Host.Cell) :
    memWf m = true ↔ m.Pairwise (fun a b => a.1 < b.1) ∧ ∀ c ∈ m, c.2 ≠ erasedByte := by
  simp [memWf, memSorted_iff]

/-- Putting an entry lists it, and entries that were listed. -/
theorem mem_tput {α : Type} {t : Tbl α} {i : Nat} {x : α} {c : Nat × α} (h : c ∈ tput t i x) : c = (i, x) ∨ c ∈ t := by
  induction t with
  | nil => simpa [tput] using h
  | cons p t ih =>
    obtain ⟨k, v⟩ := p
    unfold tput at h
    split at h
    · simpa using h
    · split at h
      · rcases List.mem_cons.mp h with h | h <;> simp [h]
      · rcases List.mem_cons.mp h with h | h
        · simp [h]
        · rcases ih h with h | h <;> simp [h]

/-- Putting an entry keeps rising addresses. -/
theorem tput_pairwise {α : Type} (t : Tbl α) (i : Nat) (x : α) (h : t.Pairwise fun a b => a.1 < b.1) :
    (tput t i x).Pairwise fun a b => a.1 < b.1 := by
  induction t with
  | nil => simp [tput]
  | cons p t ih =>
    obtain ⟨k, v⟩ := p
    have hp := List.pairwise_cons.mp h
    unfold tput
    split
    · rename_i hk
      refine List.pairwise_cons.mpr ⟨fun c hc => ?_, h⟩
      rcases List.mem_cons.mp hc with rfl | hc
      · simpa using hk
      · have := hp.1 c hc; simp at hk this ⊢; omega
    · split
      · rename_i hk; subst hk
        exact List.pairwise_cons.mpr ⟨hp.1, hp.2⟩
      · rename_i h1 h2
        refine List.pairwise_cons.mpr ⟨fun c hc => ?_, ih hp.2⟩
        rcases mem_tput hc with rfl | hc
        · simp at h1 h2 ⊢; omega
        · exact hp.1 c hc

/-- Removing an entry leaves a part of the list. -/
theorem tdel_sublist {α : Type} (t : Tbl α) (i : Nat) : (tdel t i).Sublist t := by
  unfold tdel; exact List.filter_sublist

/-- A write of one byte keeps the canonical form. -/
theorem memWrite_wf (m : List Host.Cell) (a : Nat) (v : BitVec 8) (h : memWf m = true) : memWf (memWrite m a v) = true := by
  rw [memWf_iff] at h ⊢
  unfold memWrite
  split
  · exact ⟨h.1.sublist (tdel_sublist m a), fun c hc => h.2 c ((tdel_sublist m a).subset hc)⟩
  · rename_i hv
    refine ⟨tput_pairwise m a v h.1, fun c hc => ?_⟩
    rcases mem_tput hc with rfl | hc
    · exact hv
    · exact h.2 c hc

/-- Erasing a sector keeps the canonical form. -/
theorem memErase_wf (m : List Host.Cell) (a : Nat) (h : memWf m = true) : memWf (memErase m a) = true := by
  rw [memWf_iff] at h ⊢
  unfold memErase
  exact ⟨h.1.sublist List.filter_sublist, fun c hc => h.2 c (List.mem_filter.mp hc).1⟩

/-- Writing bytes keeps the canonical form. -/
theorem memProgram_wf (m : List Host.Cell) (a : Nat) (l : List (BitVec 8)) (h : memWf m = true) :
    memWf (memProgram m a l) = true := by
  induction l generalizing m a with
  | nil => exact h
  | cons v l ih => exact ih _ _ (memWrite_wf m a v h)

/-- The byte just written reads as written. -/
@[simp] theorem memRead_memWrite_self (m : List Host.Cell) (a : Nat) (v : BitVec 8) : memRead (memWrite m a v) a = v := by
  unfold memRead memWrite
  split
  · rename_i h
    subst h
    unfold tdel
    induction m with
    | nil => rfl
    | cons c m ih =>
      obtain ⟨k, w⟩ := c
      by_cases e : k = a
      · subst e; simpa using ih
      · simpa [tget, e] using ih
  · simp

/-- Every other byte reads as before. -/
theorem memRead_memWrite_ne (m : List Host.Cell) (a b : Nat) (v : BitVec 8) (h : b ≠ a) :
    memRead (memWrite m a v) b = memRead m b := by
  unfold memRead memWrite
  split
  · unfold tdel
    induction m with
    | nil => rfl
    | cons c m ih =>
      obtain ⟨k, w⟩ := c
      by_cases e : k = a
      · subst e; simpa [tget, Ne.symm h] using ih
      · by_cases f : k = b
        · subst f; simp [tget, h]
        · simpa [tget, e, f] using ih
  · simp [tget_tput_ne _ _ _ _ _ h]

/-- A sector that is erased reads erased, and every byte outside it reads as before. -/
theorem memRead_memErase (m : List Host.Cell) (a b : Nat) :
    memRead (memErase m a) b = if a ≤ b ∧ b < a + 0x1000 then erasedByte else memRead m b := by
  unfold memRead memErase
  induction m with
  | nil => simp [tget]
  | cons c m ih =>
    obtain ⟨k, v⟩ := c
    by_cases hk : a ≤ k ∧ k < a + 0x1000
    · rw [List.filter_cons_of_neg (by simpa using hk), ih]
      split
      · rfl
      · rename_i hb
        have : k ≠ b := by rintro rfl; exact hb hk
        simp [tget, this]
    · rw [List.filter_cons_of_pos (by simp; omega)]
      by_cases e : k = b
      · subst e; simp [tget, hk]
      · rw [tget, if_neg e, tget, if_neg e, ih]

/-- A slot write that begins keeps the canonical form. -/
theorem beginSlot_wf (g : Agent) (a : Nat) (l : List (BitVec 8)) (h : memWf g.mem = true) :
    memWf (beginSlot g a l).mem = true := memErase_wf _ _ h

/-- A slot write that completes keeps the canonical form. -/
theorem finishSlot_wf (g : Agent) (h : memWf g.mem = true) : memWf (finishSlot g).mem = true := by
  unfold finishSlot
  split
  · exact memProgram_wf _ _ _ h
  · exact h

/-- The agent's write of SPARE keeps the canonical form. -/
theorem writeSpare_wf (g : Agent) (n : Nat) (b : Bool) (h : memWf g.mem = true) : memWf (writeSpare g n b).mem = true := by
  have hf := finishSlot_wf g h
  rw [writeSpare]
  split
  · exact hf
  · split
    · exact hf
    · extract_lets a dest data
      split
      · exact finishSlot_wf (beginSlot (finishSlot g) _ _) (beginSlot_wf (finishSlot g) _ _ hf)
      · exact hf

/-- The agent's two writes of SPARE keep the canonical form. -/
theorem writeSpares_wf (g : Agent) (x y : Nat) (h : memWf g.mem = true) : memWf (writeSpares g x y).mem = true :=
  writeSpare_wf _ _ _ (writeSpare_wf _ _ _ h)

/-- The memory after reset lists nothing. -/
theorem reset_mem_wf (st : Straps) : memWf (State.resetAs st).agent.mem = true := by
  rfl

end Sys2Proof.Machine
end

