-- ==== Sys2Proof/WellFormed.lean ====
section
/-!
DEFINITION. Well-formed commands: the checks that say a command is one its interface can carry. The meanings do not rest on them.
-/
namespace Sys2Proof

/-- A physical strand or wavelength number of some class: 0 to 35 (R74). -/
def strandNo (p : Nat) : Bool := p < 36

/-- Errors and bits of checkers name strands (R117). -/
def countsWf (l : List (Fin 8 × Nat × Nat × Nat)) : Bool := l.all fun c => strandNo c.2.1

/-- No braid is named twice. -/
def braidsOnce : List (Fin 8) → Bool
  | [] => true
  | b :: l => !l.contains b && braidsOnce l

/-- A sideband frame of one of the types given (Table 2.11). -/
def frameIs (f : SbFrame) (types : List Nat) : Bool := types.contains f.typ.toNat

/-- An access is aligned to four bytes (R382). -/
def aligned (a : Access) : Bool := a.off.toNat % 4 == 0

/-- A write at one of the offsets given. -/
def accessAt (a : Access) (offs : List Nat) : Bool := offs.contains a.off.toNat

/-- Well-formedness of a command. -/
def Instr.wf : Instr → Bool
  | .nclkMonitorWindow count _ => count < 65536
  | .refOffsetWindow l => braidsOnce (l.map Prod.fst)
  | .nocEgressCredit _ n => n.toNat ≤ 16
  | .heartbeat f => frameIs f [0]
  | .resetPair f => frameIs f [4]
  | .smRelayFrame reply f => frameIs f (if reply then [6, 7] else [5])
  | .smData f => frameIs f [6]
  | .smError f => frameIs f [7]
  | .beacon f => frameIs f [1]
  | .detectGo f => frameIs f [3]
  | .detectResult f => frameIs f [3]
  | .mapAgree f => frameIs f [3]
  | .trainGo f => frameIs f [3]
  | .trainDone f => frameIs f [3]
  | .calDone f => frameIs f [3]
  | .negotiate f => frameIs f [3]
  | .bightReq f => frameIs f [3]
  | .bightAck f => frameIs f [3]
  | .dieId f => frameIs f [2]
  | .dieIdRevocation f => frameIs f [2]
  | .pairedResetRequest a => accessAt a [0x20]
  | .bightRun a counts => accessAt a [0xC000] && countsWf counts
  | .bightDurationEnd counts => countsWf counts
  | .trimWrite a => accessAt a [0x2008, 0x200C, 0x2010, 0x2014, 0x2018]
  | .minBraidsWrite a => accessAt a [0x3000]
  | .lashStage a => accessAt a [0x80C]
  | .lashUnstage a => accessAt a [0x814]
  | .lashPropose a => accessAt a [0x818]
  | .lashCommit a => accessAt a [0x820]
  | .lashAbort a => accessAt a [0x824]
  | .partyWrite a => accessAt a [0x830, 0x834]
  | .epochCloseCommand a => accessAt a [0x9000]
  | .meterRead a => accessAt a [0x9020]
  | .flagClear a => accessAt a [0x880, 0xB000, 0xC004]
  | .rcRead a => aligned a
  | .registerWrite a => aligned a
  | .admitPrbsComplete _ _ p _ _ => strandNo p
  | .qualityRecordClose _ p _ => strandNo p
  | .eyeScanPointSetComplete _ p _ => strandNo p
  | .checkerLock _ seen => strandNo seen.p
  | .checkerLockLoss _ p _ _ => strandNo p
  | .braidLockAchieved _ _ seen => seen.arrivals.all fun x => strandNo x.1
  | .firstCalibrationComplete results _ => results.all fun x => strandNo x.2.2.1
  | .detectObservationEnd _ rx tx => (rx.all fun x => strandNo x.2.1) && tx.all fun x => strandNo x.2.1
  | .chunkTimer slot _ => slot < 32
  | .jobIdleTimer slot => slot < 32
  | .spillWriteResponse slot _ _ => slot < 32
  | .refillResponse slot _ _ => slot < 32
  | .chunkOutput slot _ => slot < 32
  | .resultWriteResponse slot _ _ => slot < 32
  | .hitchSignal l => l.length ≤ 16
  | .waiterTimeout entry => entry < 8192
  | .fenceRelease bucket => bucket < 256
  | .belayExpiry case => 1 ≤ case && case ≤ 4
  | .deadDiePoll reads _ => reads.all fun r => r.site < 58
  | .smSlotWrite addr data => addr % 0x1000 == 0 && data.length ≤ 0x1000
  | .powerOnReset | .powerOnRelease | .pairResetAssert | .pairResetRelease | .mainPowerGood | .powerSwitchTimeout
  | .powerSwitchRetry | .pmResume | .pmPwrRefresh | .rootLock | .rootLockLost | .tscCheck _ | .timestampStep _
  | .crossingSlip _ | .tempValue _ | .staleTemp | .heartbeatTimer | .sidebandLoss | .resetPairAnnounce | .resetAckLimit
  | .resetReqTimeout | .sidebandProxy _ | .ringFrameForward _ _ | .tstAloneChange _ | .testLogicReset | .tapUpdate _ _
  | .tapCapture _ _ _ | .tapAccessComplete | .nocIngressFlit _ _ | .creditInitAck | .creditInitTimeout
  | .creditInitRetry | .creditAuditStart | .creditAuditAnswer _ | .creditAuditAbandon | .smReadTimeout _
  | .smQueueFullReissue _ | .startStepTimeout | .sidebandNotUp | .trainLinkFrame _ _ _ | .measureTimer _ _
  | .trainAttemptTimeout _ _ | .beaconTimer | .discoveryWindowExpiry | .spareDieIdTimeout | .strandRequest _ _
  | .strandPrepare _ _ | .alignmentComplete _ _ _ | .standinLockComplete _ | .strandReady _ _ | .strandCommit _ _
  | .strandAbort _ _ | .readyTimeout _ | .qualityRecordPost | .calSweepTimer | .calStep _ _ | .calStepComplete _ _ _
  | .calStepDone _ _ | .calStepDoneTimeout _ | .calEnd _ _ | .trimTrackTick | .linkFrameReceive _ _ _ | .ackApply _
  | .nakRepeat _ | .ackTimerExpiry _ | .replayTimeout _ | .flitRelease _ | .idleDue _ | .transmitFlitPeriod _ _
  | .braidRetrainComplete _ | .braidRetrainTimeout _ | .braidFinal _ _ | .braidFinalTimeout _ | .portRetrainEnd
  | .vcStall _ _ _ | .bucketQuiescent _ | .doorbellNotification _ | .watchReadResponse _ _ _ | .watchReadRetry _
  | .doorbellPoll | .descriptorFetchResponse _ _ _ _ | .descriptorReread _ _ | .descriptorDispatch | .shadowWriteDue _
  | .shadowWriteResponse _ _ | .completionWrite _ | .entryWriteResponse _ _ _ | .msiHoldoffExpiry _ | .ringEnable _ _
  | .ringDisable _ | .nop _ _ | .retrain _ _ | .reef _ _ | .unreef _ _ | .splice _ _ | .unsplice _ _ | .calibrate _ _
  | .eyeScan _ _ | .prbsTest _ _ | .prbsTestDone _ _ _ | .bight _ _ | .park _ _ | .resume _ _ | .digest _ _
  | .cancel _ _ | .fenceDie _ _ | .unfenceDie _ _ | .reduce _ _ | .jobStatus _ _ | .contribHead _ _ | .contribData _ _
  | .preholdExpiry _ | .hitchWait _ _ | .hitchWake _ _ | .hitchUpdate _ _ | .hitchRead _ | .realignEpoch
  | .egressFenceRelease _ | .htConfig _ _ | .htReset _ _ | .htAbort _ _ | .htAbortThread _ _ | .htRead _ _
  | .htSignal _ _ | .htWait _ _ | .hitchDebugCopy _ | .waiterDebugCopy _ | .lashDigestReady | .lashWindowExpiry
  | .lashOffer _ _ | .lashSwitch _ _ | .lashWithdraw _ _ | .leaderLinkTimeout | .followerLinkTimeout | .epochClose
  | .pmBudget _ | .pmRamp _ | .pwrCap _ _ | .pwrGo _ _ | .dozeEnter _ _ | .wakeBurst | .controlWake | .dozeHoldExpiry
  | .parkReady _ _ | .drainLimit | .parkDurationEnd | .sidebandWake | .farParkedTimeout | .parkExitTrained
  | .opticalReport _ _ _ | .codewordLockLoss _ | .trainFrameRepeat | .sidebandFrameDiscard _ | .sidebandFrameForward _
  | .tapShift _ _ _ | .msiWriteResponse _ _ | .transmitCalStepComplete _ _ => true

end Sys2Proof
end

