-- ==== Sys2Proof/Tests/Slice0.lean ====
section
/-! SUPPORT. The model's own tests: for the premises of every statement states and operands that meet them, an ill-formed
command for every check of well-formedness, and values of the spec's worked examples. -/

namespace Sys2Proof.Tests

set_option linter.unusedVariables false

/-! Each theorem is checked before the next begins: many kernel evaluations at once would each hold a thread. -/

set_option Elab.async false

open Sys2Proof Sys2Proof.Machine

/-! ### States the tests start from -/

/-- No event waits. -/
def hush (s : State) : State := { s with flt.queue := [] }

/-- Nothing is under way of itself. -/
def calm (s : State) : State :=
  { s with
    pwr.target := .active, pwr.dzSent := 0, pwr.dozing := 0, pwr.dzGot := 0, pwr.draining := .none, pwr.flushes := []
    pwr.sinking := false, pwr.resumeCmds := [], pwr.capBraids := s.retiredMask, lash.switching := false
    aon.pwr := if s.aon.pwr = .doze then .active else s.aon.pwr }

/-- Power, clocks and the pair reset are released. -/
def powered (s : State) : State :=
  { s with
    aon.porN := true, aon.pairN := true, aon.reqN := true, aon.mainOn := true, aon.mainGood := true, aon.isoN := true
    aon.pwr := .active, clk.refUp := true, clk.pclkUp := true, clk.rootLock := true, clk.rxwUp := 0xFF }

/-- Start-up stands in a state. -/
def inSt (x : StartState) (s : State) : State := { s with start.st := x, start.failed := false }

/-- The port is OPEN and quiet. -/
def opened (s : State) : State :=
  hush (calm { inSt .openSt (powered s) with start.opened := true })

/-- A block of another class. -/
def ofCls (c : PortClass) (s : State) : State := { s with straps.cls := c, straps.optical := false }

/-- An access of a tenant's die with all byte enables. -/
def acc (off : Nat) (data : Reg) : Access := ⟨1, 2, BitVec.ofNat 16 off, data, 0xF, false⟩

/-- A frame of the link. -/
def sbf (typ : Nat) (payload : BitVec 64) : SbFrame := ⟨BitVec.ofNat 4 typ, 5, false, 0xFF, 0xFF, 0x21, 0x20, payload⟩

/-- The payload of a TRAIN frame: phase, braid, attempt and further fields. -/
def tr (phase braid attempt : Nat) (l : List (Nat × Nat × Nat)) : BitVec 64 :=
  pack 64 ([(0, 4, phase), (4, 3, braid), (7, 4, attempt)] ++ l)

/-- A CONTROL frame waits in the FIFO of a braid. -/
def withCtl (b : Fin 8) (op : Nat) (p : NocFlit) (s : State) : State := s.modRx b fun r => { r with ctlIn := [(op, p, 3)] }

/-- Nothing waits to start on a braid. -/
def idleBraid (b : Fin 8) (s : State) : State :=
  { (s.modShape 0 b fun h => { h with queue := [] }) with
    cal.want := s.cal.want.put b [], cal.sweep := s.cal.sweep.put b [] }

/-- A ring. -/
def putRing (r : Nat) (g : Ring) (s : State) : State := { s with rings.ring := tput s.rings.ring r g }

/-- A descriptor of an opcode and operand fields, in ring 1, whose completion ring is ring 2. -/
def mkD (op : Nat) (l : List (Nat × Nat × Nat)) : Desc := pack 512 ([(0, 8, op), (32, 32, 77)] ++ l)

/-- Ring 1 of a kind runs with one started descriptor at index 4, and ring 2 is its completion ring. -/
def withDescs (kind : Nat) (d : Desc) (s : State) : State :=
  putRing 2 { ring0 with st := .running, cfg := pack 32 [(0, 1, 1), (1, 3, 3), (4, 5, 6), (9, 3, 1)] }
    (putRing 1 { ring0 with
        st := .running, cfg := pack 32 [(0, 1, 1), (1, 3, kind), (4, 5, 6), (9, 3, 1), (15, 6, 2)]
        swIdx := 9, fetchIdx := 5, descs := [⟨4, .started, d, 0, false, none⟩] }
      { s with rings.cancels := [] })

/-- A link flit with its CRC made good. -/
def sealed (f : LinkFlit) : LinkFlit := setBf f 1248 32 (crc32c 1248 (bf f 0 1248))

/-- A strand payload: operation, braid, token and further fields. -/
def sp (op b token : Nat) (l : List (Nat × Nat × Nat)) : NocFlit := pack 576 ([(0, 4, op), (4, 3, b), (8, 8, token)] ++ l)

/-- A link flit laid on the strands of a map, as the sites of a receive braid bring it (R83). -/
def onPads (map : List Nat) (f : LinkFlit) : LineRx where
  pads := map.zipIdx.map fun q => (q.1, packNat ((List.range (1280 / map.length)).map fun u =>
    (u, 1, b2n (f.toNat.testBit (u * map.length + q.2)))))
  words := []

/-- A calibration at a receive braid. -/
def run0 : CalRun :=
  { strand := 7, phase := .steps, cover := .direct, token := 3, step := 1, stepDone := false, stepAt := 0, old := ⟨0, 0, 0⟩
    oldO := 0, oldArrival := 0, oldDeskew := 0, new := ⟨0, 0, 0⟩, newO := 0, arrival := none, meas := ⟨0, 0, 0, 0, 0, 0⟩
    prev := .active, temp1 := 0, temp6 := 0, held := false, range := none, status := 0, txCodes := 0 }

/-- A calibration served at a transmit braid. -/
def serve0 : CalServe := ⟨5, 3, 3, 1, ⟨1, 2, 3⟩, 4, ⟨5, 6, 7⟩, 8, 0, 0, none⟩

/-! ### Premises of the statements over the whole machine -/

/-- The outcome is a next state with a property. -/
def gives (o : Host.Outcome State Fault Refusal) (p : State → Bool) : Bool :=
  match o with
  | .next t => p t
  | _ => false

theorem next_of_gives {o : Host.Outcome State Fault Refusal} {p : State → Bool} (h : gives o p = true) : ∃ t, o = .next t := by
  cases o with
  | next t => exact ⟨t, rfl⟩
  | fault r => exact absurd h (by simp [gives])
  | refused r => exact absurd h (by simp [gives])

/-- The command runs from the state. -/
def runs (c : Instr) (s : State) : Bool := gives (exec c s) fun _ => true

theorem premises_StepRunsTheFrontCommand :
    (∃ (c : Instr) (rest : List Instr) (s : State), s.pending = c :: rest) ∧ (∃ s : State, s.pending = []) :=
  ⟨⟨.tscCheck 0, [.epochClose], { State.reset with pending := [.tscCheck 0, .epochClose] }, rfl⟩, ⟨State.reset, rfl⟩⟩

/-- A step answers a next state, with a command at the front and on an empty queue, from a state that meets each invariant. -/
theorem premises_Steps :
    (∃ s t : State, s.quiet ∧ s.memOk ∧ s.pending = [] ∧ Steps s t)
  ∧ (∃ s t : State, s.quiet ∧ s.memOk ∧ s.pending = [.powerOnRelease] ∧ Steps s t) := by
  refine ⟨?_, ?_⟩
  · obtain ⟨t, h⟩ := next_of_gives (o := step State.reset) (p := fun _ => true) (by decide +kernel)
    exact ⟨State.reset, t, by decide +kernel, by decide +kernel, rfl, h⟩
  · obtain ⟨t, h⟩ := next_of_gives (o := step { State.reset with pending := [.powerOnRelease] }) (p := fun _ => true)
      (by decide +kernel)
    exact ⟨{ State.reset with pending := [.powerOnRelease] }, t, by decide +kernel, by decide +kernel, rfl, h⟩

/-- A command of each group of the frame statements runs from a state. -/
theorem premises_Frames :
    (∃ (s t : State) (c : Instr), c.ofClocks = true ∧ exec c s = .next t)
  ∧ (∃ (s t : State) (c : Instr), c.ofReduction = true ∧ exec c s = .next t)
  ∧ (∃ (s t : State) (c : Instr), c.ofHitches = true ∧ exec c s = .next t)
  ∧ (∃ (s t : State) (c : Instr), c.ofRings = true ∧ exec c s = .next t)
  ∧ (∃ (s t : State) (c : Instr), c.ofTimers = true ∧ exec c s = .next t)
  ∧ (∃ (s t : State) (c : Instr), c.ofLashTimers = true ∧ exec c s = .next t)
  ∧ (∃ (s t : State) (c : Instr), c.ofTraining = true ∧ exec c s = .next t)
  ∧ (∃ (s t : State) (c : Instr), c.ofSideband = true ∧ exec c s = .next t)
  ∧ (∃ (s t : State) (c : Instr), c.ofTestAccess = false ∧ exec c s = .next t)
  ∧ (∃ (s t : State) (c : Instr), c.ofWindow = false ∧ exec c s = .next t) := by
  have g : ∀ (s : State) (c : Instr) (p : Instr → Bool), p c = true → runs c s = true →
      ∃ (s t : State) (c : Instr), p c = true ∧ exec c s = .next t :=
    fun s c p hc h => (next_of_gives h).elim fun t e => ⟨s, t, c, hc, e⟩
  have n : ∀ (s : State) (c : Instr) (p : Instr → Bool), p c = false → runs c s = true →
      ∃ (s t : State) (c : Instr), p c = false ∧ exec c s = .next t :=
    fun s c p hc h => (next_of_gives h).elim fun t e => ⟨s, t, c, hc, e⟩
  exact ⟨g (opened State.reset) (.epochClose) _ rfl (by decide +kernel),
    g (ofCls .lt (opened State.reset)) (.jobIdleTimer 3) _ rfl (by decide +kernel),
    g (opened State.reset) (.waiterTimeout 3) _ rfl (by decide +kernel),
    g (opened State.reset) .doorbellPoll _ rfl (by decide +kernel),
    g (opened State.reset) (.idleDue 3) _ rfl (by decide +kernel),
    g (opened State.reset) .lashWindowExpiry _ rfl (by decide +kernel),
    g (inSt .train (powered State.reset)) (.trainAttemptTimeout 3 false) _ rfl (by decide +kernel),
    g (opened State.reset) .heartbeatTimer _ rfl (by decide +kernel),
    n (opened State.reset) .epochClose _ rfl (by decide +kernel),
    n (opened State.reset) .epochClose _ rfl (by decide +kernel)⟩

theorem premises_MeterReadLatches : ∃ (s : State) (a lo hi : Access), s.quiet ∧ s.gate a true = .take ∧ a.off.toNat = 0x901C
    ∧ s.gate lo false = .take ∧ lo.off.toNat = 0x9020 ∧ s.gate hi false = .take ∧ hi.off.toNat = 0x9024 :=
  ⟨opened State.reset, acc 0x901C 0xD07, acc 0x9020 0, acc 0x9024 0, by decide +kernel⟩

/-! ### Ill-formed commands are refused by well-formedness, one for each check -/

theorem test_wf_bad_frame_types :
    [Instr.heartbeat (sbf 1 0), .resetPair (sbf 3 0), .smRelayFrame true (sbf 5 0), .smRelayFrame false (sbf 6 0),
      .smData (sbf 7 0), .smError (sbf 6 0), .beacon (sbf 0 0), .detectGo (sbf 1 0), .detectResult (sbf 1 0),
      .mapAgree (sbf 2 0), .trainGo (sbf 2 0), .trainDone (sbf 0 0), .calDone (sbf 0 0), .negotiate (sbf 0 0),
      .bightReq (sbf 0 0), .bightAck (sbf 1 0), .dieId (sbf 3 0), .dieIdRevocation (sbf 3 0)].all (fun c => !c.wf) = true := by
  decide +kernel

theorem test_wf_bad_offsets :
    [Instr.pairedResetRequest (acc 0x24 0), .bightRun (acc 0xC008 0) [], .trimWrite (acc 0x201C 0), .minBraidsWrite (acc 0x3004 0),
      .lashStage (acc 0x810 0), .lashUnstage (acc 0x80C 0), .lashPropose (acc 0x814 0), .lashCommit (acc 0x818 0),
      .lashAbort (acc 0x820 0), .partyWrite (acc 0x838 0), .epochCloseCommand (acc 0x9004 0), .meterRead (acc 0x9024 0),
      .flagClear (acc 0x884 0), .rcRead (acc 0x9022 0), .registerWrite (acc 0x901D 0)].all (fun c => !c.wf) = true := by
  decide +kernel

/-- What a record of a strand measured. -/
def meas0 : Meas := ⟨0, 0, 0, 0, 0, 0⟩

/-- What a calibration found. -/
def found0 : Found := ⟨0, 0, 0, 0, 0, 0, 0, 0, meas0⟩

theorem test_wf_bad_strands :
    [Instr.admitPrbsComplete true 0 36 ⟨true, 0⟩ meas0, .qualityRecordClose 0 36 meas0, .eyeScanPointSetComplete 0 40 meas0,
      .checkerLock 0 ⟨36, 0⟩, .checkerLockLoss 0 36 ⟨0, 0⟩ 0, .braidLockAchieved 0 0 ⟨[(36, 0)], []⟩,
      .firstCalibrationComplete [(true, 0, 36, found0)] 0, .detectObservationEnd none [(0, 36, .dark)] [],
      .detectObservationEnd none [] [(0, 36, [])], .bightRun (acc 0xC000 0) [(0, 36, 0, 0)],
      .bightDurationEnd [(0, 36, 0, 0)]].all (fun c => !c.wf) = true := by
  decide +kernel

theorem test_wf_bad_numbers :
    [Instr.nclkMonitorWindow 65536 true, .refOffsetWindow [(3, 0), (3, 1)], .nocEgressCredit 0 17, .chunkTimer 32 0,
      .jobIdleTimer 32, .spillWriteResponse 32 0 false, .refillResponse 32 0 false, .chunkOutput 32 0,
      .resultWriteResponse 32 0 false, .hitchSignal (List.replicate 17 (false, 0)), .waiterTimeout 8192, .fenceRelease 256,
      .belayExpiry 0, .belayExpiry 5, .deadDiePoll [⟨58, 0, false, false, 0, 0, 0, 0⟩] 0, .smSlotWrite 0x800 [],
      .smSlotWrite 0x1000 (List.replicate 4097 0)].all (fun c => !c.wf) = true := by
  decide +kernel

/-! ### Values of the spec's worked examples -/

/-- The identity word of strand 9 of braid 6 (05, worked example: detect on lateral port 2.1, step 1). -/
theorem test_identity_word : identWord 9 6 = 0x3B89 := by decide +kernel

/-- The far end decodes it after inversion (the same example, step 2). -/
theorem test_identity_decodes : identOf .lh 0x3B89 = some (9, 6) ∧ (0x3B89 : BitVec 16) ^^^ 0xFFFF = 0xC476 := by decide +kernel

/-- USABLE 0x3_FFCF_BFFF holds 31 strands: width 16 (the same example, steps 6 and 7). -/
theorem test_detect_width :
    ((List.range 34).filter (Nat.testBit 0x3FFCFBFFF)).length = 31 ∧ widestWidth .lt 31 = 16 := by decide +kernel

/-- CRC-32C of the nine digits, the known check value of the polynomial of R167 (PRESUMED: the value is no part of the spec). -/
theorem test_crc32c : crc32cBytes [0x31, 0x32, 0x33, 0x34, 0x35, 0x36, 0x37, 0x38, 0x39] = 0xE3069283 := by decide +kernel

/-- The heater of the range move on H.F3: 1,952 at code 488, 2,090 at code 511 and 2,150 before the offset at 521 (07). -/
theorem test_trim_interpolation :
    let v : Nat → Nat := fun k => if k = 1 then 1880 else 2240
    interp v 488 = 1952 ∧ interp v 511 = 2090 ∧ interp v 521 - 3 = 2147 := by decide +kernel

/-- Bucket 45 with braid 5 retired stands on braid 6 (09, worked example, step 2), and on its home once it is back. -/
theorem test_bucket_target :
    targetOf [0, 1, 2, 3, 4, 6, 7] 45 = some 6 ∧ targetOf [0, 1, 2, 3, 4, 5, 6, 7] 45 = some 5 := by decide +kernel

/-- The extent of L2.1 is 119 (16, worked example). -/
theorem test_extent :
    { State.reset with straps.cls := .lt, straps.tile := 2, straps.index := 1 }.extent = 119 := by decide +kernel

/-- SET(5) and ADD(1) on 0 leave 6; ADD(4), ADD(−3), ADD(−5) on 2 leave 6 and refuse the negative ones (R281). -/
theorem test_counter :
    combineCounter 0 [⟨0, 1, 5, 0, 0, 0, 0⟩, ⟨0, 0, 1, 0, 0, 0, 0⟩] = (6, false, false)
      ∧ combineCounter 2 [⟨0, 0, 4, 0, 0, 0, 0⟩, ⟨0, 0, 2 ^ 32 - 3, 0, 0, 0, 0⟩, ⟨0, 0, 2 ^ 32 - 5, 0, 0, 0, 0⟩] = (6, false, true) := by
  decide +kernel

/-- The sums of the three ranks in the two orders (11, worked example: why RANK mode gives the same bits every run). -/
theorem test_fp32_orders :
    f32Add (f32Add 0x3F800000 0x3F800000) 0x4B800000 = 0x4B800001
      ∧ f32Add (f32Add 0x3F800000 0x4B800000) 0x3F800000 = 0x4B800000 := by decide +kernel

/-- A block right after reset, of a class. -/
def fresh (c : PortClass) : State := State.resetAs { defaultStraps with cls := c }

/-- The estimates of a ramp to LEVEL 25 (14, worked example): 28, 70 and 315 at the narrowest width, 8, 20 and 290 in DOZE. -/
theorem test_power_estimates :
    [PortClass.sc, .lt, .fib].map (fun c => (fresh c).estimateAt fun _ _ => if c.isFibre then 1 else 4) = [28, 70, 315]
      ∧ [PortClass.sc, .lt, .fib].map (fun c => { fresh c with aon.pwr := .doze }.powerNow) = [8, 20, 290] := by decide +kernel

/-- The caps of the same ramp: DOZE at a stack and a lateral end, PARK at a fibre end. -/
theorem test_ramp_caps :
    [PortClass.sc, .lt, .fib].map (fun c => { fresh c with pwr.level := 25 }.ownCap.1) = [.doze, .doze, .park] := by decide +kernel

/-- An MXFP4 block of largest magnitude 5.5 takes the scale byte 0x7F, and 5.5 rounds to 6, code 7 (R253 and the example
after it). -/
theorem test_mx_block :
    (mxBlock 9 (fun _ => .near) [0x40B00000, 0, 0xC0000000]).1 = 0x7F
      ∧ (mxBlock 9 (fun _ => .near) [0x40B00000, 0, 0xC0000000]).2.1 = [7, 0, 12] := by decide +kernel

/-- FX_MTR_IDX of tenant 7, ENERGY, snapshot bank is 0xD07 (17, worked example): the write is kept as it stands. -/
theorem test_meter_index :
    gives (exec (.registerWrite (acc 0x901C 0xD07)) (opened State.reset)) (fun t => t.mtr.idx == 0xD07) = true := by decide +kernel

/-- A write without all four byte enables is refused (R384). -/
theorem test_partial_write :
    gives (exec (.registerWrite { acc 0x901C 0xD07 with be := 7 }) (opened State.reset))
      (fun t => t.mtr.idx == 0 && t.glob.partialCnt == 1 && t.glob.refusedAcc) = true := by decide +kernel

/-- The table gives its rows no bits, so no word spells a command. -/
theorem test_no_word_decodes : decodeTableWord 32 0x12345678 = none := by decide

/-! ### Premises of the statements, clause by clause -/

def w_PowerOnCompletes_2 : State :=
  let s := State.reset
  let s : State := { s with aon.porN := false }
  s

def w_PowerOnCompletes_3 : State :=
  let s := State.reset
  let s : State := { s with aon.mainOn := true, aon.mainGood := false, aon.pairN := true, start.st := .reset, clk.rootLock := false }
  s

def w_PowerOnCompletes_4 : State :=
  let s := State.reset
  let s : State := { s with aon.mainOn := true, aon.mainGood := false, start.st := .park, aon.pwr := .park }
  s

def w_PowerOnCompletes_5 : State :=
  let s := State.reset
  let s : State := hush { s with aon.mainOn := true, aon.mainGood := false, aon.swTimeoutRaised := false }
  s

def w_PowerOnCompletes_6 : State :=
  let s := State.reset
  let s : State := { s with aon.mainOn := false, aon.porN := true, aon.swTimeoutRaised := true, start.st := .reset }
  s

def w_PowerOnCompletes_7 : State :=
  let s := State.reset
  s

def w_PowerOnCompletes_8 : State :=
  let s : State := hush { State.reset with straps.cls := .fib, straps.optical := true }
  s

/-- States and operands that meet the premises of PowerOnCompletes. -/
theorem premises_PowerOnCompletes :
    (∃ (s : State), s.aon.porN = false)
  ∧ (∃ (s : State), s.aon.mainOn = true ∧ s.aon.mainGood = false ∧ s.aon.pairN = true ∧ s.start.st = .reset
      ∧ s.clk.rootLock = false)
  ∧ (∃ (s : State), s.aon.mainOn = true ∧ s.aon.mainGood = false ∧ s.start.st = .park ∧ s.aon.pwr = .park)
  ∧ (∃ (s : State), s.quiet ∧ s.aon.mainOn = true ∧ s.aon.mainGood = false ∧ s.aon.swTimeoutRaised = false)
  ∧ (∃ (s : State), s.aon.swTimeoutRaised = true ∧ s.aon.mainOn = false ∧ s.aon.porN = true ∧ s.start.st = .reset)
  ∧ (∃ (s : State), s.quiet ∧ s.isOptical = false)
  ∧ (∃ (s : State), s.quiet ∧ s.isOptical = true) :=
  ⟨⟨w_PowerOnCompletes_2, by decide +kernel⟩,
  ⟨w_PowerOnCompletes_3, by decide +kernel⟩,
  ⟨w_PowerOnCompletes_4, by decide +kernel⟩,
  ⟨w_PowerOnCompletes_5, by decide +kernel⟩,
  ⟨w_PowerOnCompletes_6, by decide +kernel⟩,
  ⟨w_PowerOnCompletes_7, by decide +kernel⟩,
  ⟨w_PowerOnCompletes_8, by decide +kernel⟩⟩

def w_PairResetCompletes_1 : State :=
  let s := State.reset
  let s : State := { s with aon.porN := true, aon.pairN := true }
  s

def w_PairResetCompletes_2 : State :=
  let s := State.reset
  let s : State := { s with aon.porN := true, aon.pairN := false, clk.rootLock := false }
  s

def w_PairResetCompletes_3 : State :=
  let s := State.reset
  let s : State := { s with start.reqSent := true, aon.pairN := true, aon.reqN := true }
  s

def w_PairResetCompletes_4 : State :=
  let s := State.reset
  let s : State := hush { s with aon.reqN := false, aon.pairN := true, start.reqHeld := false }
  s

def w_PairResetCompletes_5 : State :=
  let s := State.reset
  let s : State := ofCls .sb { powered s with start.fresh := true, start.gotRel := false }
  s

def w_PairResetCompletes_6 : State × SbFrame :=
  let s := State.reset
  let f : SbFrame := sbf 4 0x43
  let s : State := ofCls .sc { inSt .sideband (powered s) with start.fresh := true, sb.hbSeen := false }
  (s, f)

def w_PairResetCompletes_7 : State × SbFrame :=
  let s := State.reset
  let f : SbFrame := sbf 4 3
  let s : State := ofCls .sb { inSt .openSt (powered s) with start.fresh := false, start.reqSent := false }
  (s, f)

def w_PairResetCompletes_8 : State × Access :=
  let s := State.reset
  let a : Access := acc 0x20 1
  let s : State := { opened s with start.fresh := false, start.reqSent := false, start.reqDrain := false, mtr.running := false, straps.optical := false }
  (s, a)

def w_PairResetCompletes_9 : State × SbFrame :=
  let s := State.reset
  let f : SbFrame := sbf 4 3
  let s : State := ofCls .sc { inSt .sideband (powered s) with start.fresh := true }
  (s, f)

def w_PairResetCompletes_10 : State × SbFrame :=
  let s := State.reset
  let f : SbFrame := sbf 4 3
  let s : State := ofCls .sb { inSt .openSt (powered s) with start.fresh := false, start.reqSent := true }
  (s, f)

def w_PairResetCompletes_11 : State × SbFrame :=
  let s := State.reset
  let f : SbFrame := sbf 4 0x23
  let s : State := ofCls .sb { opened s with start.fresh := false, start.reqSent := false }
  (s, f)

/-- States and operands that meet the premises of PairResetCompletes. -/
theorem premises_PairResetCompletes :
    (∃ (s : State), s.aon.porN = true ∧ s.aon.pairN = true)
  ∧ (∃ (s : State), s.aon.porN = true ∧ s.aon.pairN = false ∧ s.clk.rootLock = false)
  ∧ (∃ (s : State), s.start.reqSent = true ∧ s.aon.reqN = true ∧ s.aon.pairN = true)
  ∧ (∃ (s : State), s.quiet ∧ s.aon.reqN = false ∧ s.aon.pairN = true ∧ s.start.reqHeld = false)
  ∧ (∃ (s : State), s.start.fresh = true ∧ s.sbRuns = true ∧ s.start.gotRel = false ∧ s.guestOn = true)
  ∧ (∃ (s : State) (f : SbFrame), f.typ = 4 ∧ isLocal f = true ∧ (s.hear f).1 = true ∧ s.start.fresh = true
      ∧ bit f.payload 6 = true ∧ s.start.st = .sideband ∧ s.cls = .sc ∧ s.sb.hbSeen = false)
  ∧ (∃ (s : State) (f : SbFrame), f.typ = 4 ∧ isLocal f = true ∧ (s.hear f).1 = true ∧ s.start.fresh = false
      ∧ s.start.reqSent = false ∧ s.aon.reqN = true ∧ bit f.payload 4 = false ∧ bit f.payload 5 = false)
  ∧ (∃ (s : State) (a : Access), a.off = 0x20 ∧ s.gate a true = .take ∧ a.data = 1 ∧ s.pairRefused = false ∧ s.still = true
      ∧ s.mtr.running = false)
  ∧ (∃ (s : State) (f : SbFrame), f.typ = 4 ∧ isLocal f = true ∧ (s.hear f).1 = true ∧ s.start.fresh = true
      ∧ bit f.payload 6 = false ∧ bit f.payload 4 = false)
  ∧ (∃ (s : State) (f : SbFrame), f.typ = 4 ∧ isLocal f = true ∧ (s.hear f).1 = true ∧ s.start.fresh = false
      ∧ s.start.reqSent = true ∧ s.aon.reqN = true)
  ∧ (∃ (s : State) (f : SbFrame), f.typ = 4 ∧ isLocal f = true ∧ (s.hear f).1 = true ∧ s.start.fresh = false
      ∧ s.start.reqSent = false ∧ s.aon.reqN = true ∧ bit f.payload 4 = false ∧ bit f.payload 5 = true
      ∧ bit f.payload 6 = false ∧ s.drains = true) :=
  ⟨⟨w_PairResetCompletes_1, by decide +kernel⟩,
  ⟨w_PairResetCompletes_2, by decide +kernel⟩,
  ⟨w_PairResetCompletes_3, by decide +kernel⟩,
  ⟨w_PairResetCompletes_4, by decide +kernel⟩,
  ⟨w_PairResetCompletes_5, by decide +kernel⟩,
  ⟨w_PairResetCompletes_6.1, w_PairResetCompletes_6.2, by decide +kernel⟩,
  ⟨w_PairResetCompletes_7.1, w_PairResetCompletes_7.2, by decide +kernel⟩,
  ⟨w_PairResetCompletes_8.1, w_PairResetCompletes_8.2, by decide +kernel⟩,
  ⟨w_PairResetCompletes_9.1, w_PairResetCompletes_9.2, by decide +kernel⟩,
  ⟨w_PairResetCompletes_10.1, w_PairResetCompletes_10.2, by decide +kernel⟩,
  ⟨w_PairResetCompletes_11.1, w_PairResetCompletes_11.2, by decide +kernel⟩⟩

def w_ClocksComplete_1 : State :=
  let s := State.reset
  let s : State := ofCls .sc { inSt .ident (powered s) with clk.rootLock := false, start.sentRel := false }
  s

def w_ClocksComplete_2 : State :=
  let s := State.reset
  let s : State := hush { s with clk.rootLock := true, start.st := .openSt }
  s

def w_ClocksComplete_3 : State × Nat :=
  let s := State.reset
  let n : Nat := 1440 + (160)
  let s : State := { powered s with straps.optical := false, clk.nclkUp := true, clk.nclkGone := false }
  (s, n)

def w_ClocksComplete_4 : State × Nat × Bool :=
  let k : Bool := true
  let s := State.reset
  let n : Nat := (1439)
  let s : State := hush { powered s with straps.optical := false, clk.nclkGone := false }
  (s, n, k)

def w_ClocksComplete_5 : State × List (Fin 8 × Int) :=
  let s := State.reset
  let l : List (Fin 8 × Int) := [(3, -5), (4, (7))]
  let s : State := { s with clk.pclkUp := true }
  (s, l)

def w_ClocksComplete_6 : State :=
  let s := State.reset
  let s : State := hush { s with clk.pclkUp := true, start.st := .lash }
  s

def w_ClocksComplete_7 : State × (BitVec 64) :=
  let s := State.reset
  let v : BitVec 64 := s.clk.tsc
  let s : State := hush s
  (s, v)

def w_ClocksComplete_8 : State × (BitVec 64) :=
  let s := State.reset
  let v : BitVec 64 := 0x1234
  let s : State := hush { s with clk.pclkUp := true }
  (s, v)

def w_ClocksComplete_9 : State × (BitVec 64) :=
  let s := State.reset
  let v : BitVec 64 := 0x1234
  let s : State := hush { s with clk.pclkUp := true, aon.porN := true }
  (s, v)

def w_ClocksComplete_10 : State × (BitVec 64) :=
  let s := State.reset
  let s : State := hush { s with straps.optical := false, clk.pclkUp := true }
  let v : BitVec 64 := s.clk.tsVal + 2
  (s, v)

def w_ClocksComplete_11 : State × (BitVec 64) :=
  let s : State := hush { State.reset with straps.cls := .fib, straps.optical := true }
  let v : BitVec 64 := 0x1234
  (s, v)

def w_ClocksComplete_12 : State × (BitVec 64) :=
  let s : State := hush { State.reset with straps.cls := .fib, straps.optical := true }
  let v : BitVec 64 := 0x1234
  (s, v)

def w_ClocksComplete_13 : State × Nat × Bool :=
  let s : State := hush { State.reset with straps.cls := .fib, straps.optical := true }
  let n : Nat := 1439
  let k : Bool := true
  (s, n, k)

def w_ClocksComplete_14 : State × (Fin 8) :=
  let s := State.reset
  let b : Fin 8 := 2
  let s : State := { inSt .openSt (powered s) with link.retraining := false }
  let s : State := (s.modShape 0 b fun h => { h with retired := false }).modTx b fun t => { t with ladder := .up, retrainAt := none }
  (s, b)

def w_ClocksComplete_15 : State × (Fin 8) :=
  let s := State.reset
  let b : Fin 8 := 2
  let s : State := { inSt .openSt (powered s) with link.retraining := false }
  let s : State := (s.modShape 0 b fun h => { h with retired := false }).modTx b fun t => { t with ladder := .up, retrainAt := none }
  (s, b)

def w_ClocksComplete_16 : State :=
  let s := State.reset
  let s : State := { inSt .openSt (powered s) with link.retraining := false }
  s

/-- States and operands that meet the premises of ClocksComplete. -/
theorem premises_ClocksComplete :
    (∃ (s : State), s.mainUp = true ∧ s.aon.pairN = true ∧ s.clk.rootLock = false ∧ s.start.st = .ident ∧ s.guestOn = true
      ∧ s.start.sentRel = false)
  ∧ (∃ (s : State), s.quiet ∧ s.clk.rootLock = true ∧ s.start.st ≠ .park)
  ∧ (∃ (s : State) (n : Nat), s.isOptical = false ∧ s.clk.refUp = true ∧ 1440 ≤ n ∧ n ≤ 1760 ∧ s.clk.nclkUp = true
      ∧ s.clk.nclkGone = false)
  ∧ (∃ (s : State) (n : Nat) (k : Bool), s.quiet ∧ s.isOptical = false ∧ s.clk.refUp = true ∧ (n < 1440 ∨ 1760 < n)
      ∧ s.clk.nclkGone = false)
  ∧ (∃ (s : State) (l : List (Fin 8 × Int)), s.clk.pclkUp = true)
  ∧ (∃ (s : State), s.quiet ∧ s.clk.pclkUp = true ∧ s.start.st ≠ .openSt)
  ∧ (∃ (s : State) (v : BitVec 64), s.quiet ∧ s.isOptical = false ∧ (s.clk.pclkUp = false ∨ v = s.clk.tsc))
  ∧ (∃ (s : State) (v : BitVec 64), s.quiet ∧ s.isOptical = false ∧ s.clk.pclkUp = true ∧ v ≠ s.clk.tsc)
  ∧ (∃ (s : State) (v : BitVec 64), s.quiet ∧ s.isOptical = false ∧ s.aon.porN = true ∧ v ≠ s.clk.tsVal + 2)
  ∧ (∃ (s : State) (v : BitVec 64), s.quiet ∧ s.isOptical = false ∧ v = s.clk.tsVal + 2)
  ∧ (∃ (s : State) (v : BitVec 64), s.quiet ∧ s.isOptical = true)
  ∧ (∃ (s : State) (v : BitVec 64), s.quiet ∧ s.isOptical = true)
  ∧ (∃ (s : State) (n : Nat) (k : Bool), s.quiet ∧ s.isOptical = true)
  ∧ (∃ (s : State) (b : Fin 8), s.clk.pclkUp = true ∧ s.start.st = .openSt ∧ s.link.retraining = false
      ∧ (s.link.tx.get b).retrainAt = none ∧ (s.link.tx.get b).ladder = .up ∧ (s.shape 0 b).retired = false)
  ∧ (∃ (s : State) (b : Fin 8), s.clk.pclkUp = true ∧ s.start.st = .openSt ∧ s.link.retraining = false
      ∧ (s.link.tx.get b).retrainAt = none ∧ (s.link.tx.get b).ladder = .up ∧ (s.shape 0 b).retired = false)
  ∧ (∃ (s : State), s.clk.pclkUp = true ∧ s.start.st = .openSt ∧ s.link.retraining = false) :=
  ⟨⟨w_ClocksComplete_1, by decide +kernel⟩,
  ⟨w_ClocksComplete_2, by decide +kernel⟩,
  ⟨w_ClocksComplete_3.1, w_ClocksComplete_3.2, by decide +kernel⟩,
  ⟨w_ClocksComplete_4.1, w_ClocksComplete_4.2.1, w_ClocksComplete_4.2.2, by decide +kernel⟩,
  ⟨w_ClocksComplete_5.1, w_ClocksComplete_5.2, by decide +kernel⟩,
  ⟨w_ClocksComplete_6, by decide +kernel⟩,
  ⟨w_ClocksComplete_7.1, w_ClocksComplete_7.2, by decide +kernel⟩,
  ⟨w_ClocksComplete_8.1, w_ClocksComplete_8.2, by decide +kernel⟩,
  ⟨w_ClocksComplete_9.1, w_ClocksComplete_9.2, by decide +kernel⟩,
  ⟨w_ClocksComplete_10.1, w_ClocksComplete_10.2, by decide +kernel⟩,
  ⟨w_ClocksComplete_11.1, w_ClocksComplete_11.2, by decide +kernel⟩,
  ⟨w_ClocksComplete_12.1, w_ClocksComplete_12.2, by decide +kernel⟩,
  ⟨w_ClocksComplete_13.1, w_ClocksComplete_13.2.1, w_ClocksComplete_13.2.2, by decide +kernel⟩,
  ⟨w_ClocksComplete_14.1, w_ClocksComplete_14.2, by decide +kernel⟩,
  ⟨w_ClocksComplete_15.1, w_ClocksComplete_15.2, by decide +kernel⟩,
  ⟨w_ClocksComplete_16, by decide +kernel⟩⟩

def w_SidebandCompletes_1 : State :=
  let s := State.reset
  let s : State := hush (powered s)
  s

def w_SidebandCompletes_2 : State × SbFrame :=
  let s := State.reset
  let f : SbFrame := sbf 0 0x2C2
  let s : State := ofCls .sc (opened s)
  (s, f)

def w_SidebandCompletes_3 : State :=
  let s := State.reset
  let s : State := hush { inSt .openSt (powered s) with start.fresh := false, sb.lost := false, sb.watchOff := false, test.alone := false }
  s

def w_SidebandCompletes_4 : State × SbFrame :=
  let s := State.reset
  let s : State := ofCls .sb (powered { s with start.st := .openSt })
  let f : SbFrame := { sbf 5 0x77 with proxy := true, destDie := s.sbDie, destPort := s.portCode }
  let s : State := { s with sb.ringBuf := [f] }
  (s, f)

def w_SidebandCompletes_5 : State × SbFrame :=
  let s := State.reset
  let f : SbFrame := { sbf 5 0x77 with srcDie := 0xFF, destDie := 0 }
  let s : State := ofCls .sb (inSt .openSt (powered s))
  (s, f)

def w_SidebandCompletes_6 : State × SbFrame × Bool :=
  let u : Bool := true
  let s := State.reset
  let s : State := hush (ofCls .sb (powered s))
  let f : SbFrame := { sbf 2 7 with destDie := s.sbDie, destPort := s.portCode }
  (s, f, u)

def w_SidebandCompletes_7 : State × SbFrame :=
  let s := State.reset
  let s : State := hush (ofCls .sb { powered s with sb.ringPtr := 0 })
  let f : SbFrame := { sbf 2 7 with destDie := 0x77, destPort := 3 }
  (s, f)

def w_SidebandCompletes_8 : State × SbFrame × List SbFrame × Bool :=
  let u : Bool := true
  let s := State.reset
  let f : SbFrame := sbf 5 9
  let l : List SbFrame := [sbf 4 3]
  let s : State := hush (ofCls .sb { powered s with sb.ringOwn := f :: l })
  (s, f, l, u)

def w_SidebandCompletes_9 : State × SbFrame :=
  let s := State.reset
  let s : State := ofCls .sb (inSt .openSt (powered s))
  let f : SbFrame := { sbf 5 0x77 with destDie := 0x77 }
  (s, f)

def w_SidebandCompletes_10 : State × SbWord :=
  let s := State.reset
  let w : SbWord := 0xA4
  let s : State := hush (powered s)
  (s, w)

def w_SidebandCompletes_11 : State × Nat × SbFrame :=
  let s := State.reset
  let k : Nat := 25
  let f : SbFrame := sbf 3 0x11
  let s : State := powered { s with start.failed := false, start.repeats := [(k, f)] }
  (s, k, f)

def w_SidebandCompletes_12 : State × SbFrame :=
  let s := State.reset
  let f : SbFrame := { sbf 5 0x77 with destDie := 0x77 }
  let s : State := ofCls .sc (inSt .openSt (powered s))
  (s, f)

def w_SidebandCompletes_13 : State × SbFrame :=
  let s := State.reset
  let f : SbFrame := { sbf 5 0x77 with destDie := 0, destPort := 0 }
  let s : State := ofCls .lh (inSt .openSt (powered s))
  (s, f)

def w_SidebandCompletes_14 : State × SbFrame :=
  let s := State.reset
  let f : SbFrame := { sbf 9 0x77 with destDie := 0x77 }
  let s : State := ofCls .sc (inSt .openSt (powered s))
  (s, f)

/-- States and operands that meet the premises of SidebandCompletes. -/
theorem premises_SidebandCompletes :
    (∃ (s : State), s.quiet ∧ s.sbRuns = true)
  ∧ (∃ (s : State) (f : SbFrame), f.typ = 0 ∧ isLocal f = true ∧ (s.hear f).1 = true ∧ bf f.payload 6 4 < 14
      ∧ s.start.st = .openSt)
  ∧ (∃ (s : State), s.quiet ∧ s.start.fresh = false ∧ s.sbRuns = true ∧ s.sb.lost = false ∧ s.sb.watchOff = false
      ∧ s.start.st ≠ .park ∧ s.test.alone = false ∧ s.aon.reqN = true)
  ∧ (∃ (s : State) (f : SbFrame), isLocal f = false ∧ f.proxy = true ∧ s.addressed f = true ∧ (s.receive f).1 = true
      ∧ f.typ ≠ 2)
  ∧ (∃ (s : State) (f : SbFrame), isLocal f = false ∧ f.proxy = false ∧ f.srcDie = 0xFF ∧ s.isOptical = false ∧ f.typ = 5
      ∧ (s.hear f).1 = true ∧ s.guestOn = true ∧ s.agentHere = false ∧ s.cls ≠ .sc ∧ s.leadsTo f = false)
  ∧ (∃ (s : State) (f : SbFrame) (u : Bool), s.quiet ∧ s.sbRuns = true ∧ s.isOptical = false ∧ s.addressed f = true)
  ∧ (∃ (s : State) (f : SbFrame), s.quiet ∧ s.sbRuns = true ∧ s.isOptical = false ∧ s.addressed f = false ∧ s.sb.ringPtr = 0)
  ∧ (∃ (s : State) (f : SbFrame) (l : List SbFrame) (u : Bool), s.quiet ∧ s.sbRuns = true ∧ s.isOptical = false
      ∧ s.sb.ringOwn = f :: l)
  ∧ (∃ (s : State) (f : SbFrame), isLocal f = false ∧ f.srcDie ≠ 0xFF ∧ s.addressed f = false ∧ s.isOptical = false
      ∧ f.typ.toNat < 8 ∧ (s.hear f).1 = true ∧ s.agentHere = false ∧ s.cls ≠ .sc ∧ s.leadsTo f = false)
  ∧ (∃ (s : State) (w : SbWord), s.quiet ∧ s.sbRuns = true ∧ (bf w 0 8 ≠ 0xA5 ∨ crc16 112 w.toNat ≠ bf w 112 16))
  ∧ (∃ (s : State) (k : Nat) (f : SbFrame), s.start.failed = false ∧ s.sbRuns = true ∧ s.start.repeats = [(k, f)])
  ∧ (∃ (s : State) (f : SbFrame), isLocal f = false ∧ f.srcDie ≠ 0xFF ∧ s.addressed f = false ∧ s.isOptical = false
      ∧ f.typ.toNat < 8 ∧ (s.hear f).1 = true ∧ s.agentHere = false ∧ (s.cls = .sc ∨ (s.leadsTo f = true ∧ s.index = 0)))
  ∧ (∃ (s : State) (f : SbFrame), s.agentHere = true ∧ isLocal f = false ∧ f.srcDie ≠ 0xFF ∧ f.destDie = 0 ∧ f.destPort = 0
      ∧ s.addressed f = false ∧ f.typ.toNat < 8 ∧ (s.hear f).1 = true)
  ∧ (∃ (s : State) (f : SbFrame), isLocal f = false ∧ f.srcDie ≠ 0xFF ∧ s.addressed f = false ∧ s.isOptical = false
      ∧ 8 ≤ f.typ.toNat ∧ s.sbRuns = true ∧ s.isCopy f = false) :=
  ⟨⟨w_SidebandCompletes_1, by decide +kernel⟩,
  ⟨w_SidebandCompletes_2.1, w_SidebandCompletes_2.2, by decide +kernel⟩,
  ⟨w_SidebandCompletes_3, by decide +kernel⟩,
  ⟨w_SidebandCompletes_4.1, w_SidebandCompletes_4.2, by decide +kernel⟩,
  ⟨w_SidebandCompletes_5.1, w_SidebandCompletes_5.2, by decide +kernel⟩,
  ⟨w_SidebandCompletes_6.1, w_SidebandCompletes_6.2.1, w_SidebandCompletes_6.2.2, by decide +kernel⟩,
  ⟨w_SidebandCompletes_7.1, w_SidebandCompletes_7.2, by decide +kernel⟩,
  ⟨w_SidebandCompletes_8.1, w_SidebandCompletes_8.2.1, w_SidebandCompletes_8.2.2.1, w_SidebandCompletes_8.2.2.2, by decide +kernel⟩,
  ⟨w_SidebandCompletes_9.1, w_SidebandCompletes_9.2, by decide +kernel⟩,
  ⟨w_SidebandCompletes_10.1, w_SidebandCompletes_10.2, by decide +kernel⟩,
  ⟨w_SidebandCompletes_11.1, w_SidebandCompletes_11.2.1, w_SidebandCompletes_11.2.2, by decide +kernel⟩,
  ⟨w_SidebandCompletes_12.1, w_SidebandCompletes_12.2, by decide +kernel⟩,
  ⟨w_SidebandCompletes_13.1, w_SidebandCompletes_13.2, by decide +kernel⟩,
  ⟨w_SidebandCompletes_14.1, w_SidebandCompletes_14.2, by decide +kernel⟩⟩

def w_TestAccessCompletes_1 : State × Bool :=
  let s := State.reset
  let v : Bool := !s.test.alone
  let s : State := hush { s with aon.pairN := true, aon.reqN := true }
  (s, v)

def w_TestAccessCompletes_2 : State :=
  let s := State.reset
  let s : State := hush s
  s

def w_TestAccessCompletes_3 : State :=
  let s := State.reset
  let s : State := hush { s with test.job := none, test.acc := 0x3FFF1 }
  s

def w_TestAccessCompletes_4 : State × (BitVec 38) :=
  let s := State.reset
  let c : BitVec 38 := 0x123456789
  let s : State := hush s
  (s, c)

def w_TestAccessCompletes_5 : State × (BitVec 38) :=
  let s := State.reset
  let c : BitVec 38 := 0
  let s : State := hush { s with test.job := some ⟨1, 0x10, 0⟩, test.acc := 0x40041 }
  (s, c)

def w_TestAccessCompletes_6 : State × Bool :=
  let s := State.reset
  let b : Bool := true
  let s : State := hush s
  (s, b)

def w_TestAccessCompletes_7 : State × Bool :=
  let s := State.reset
  let b : Bool := true
  let s : State := hush s
  (s, b)

def w_TestAccessCompletes_8 : State × TapJob :=
  let s := State.reset
  let j : TapJob := ⟨1, 0x11, 0⟩
  let s : State := { s with test.job := some j }
  (s, j)

def w_TestAccessCompletes_9 : State × TapJob :=
  let s := State.reset
  let j : TapJob := ⟨1, 0, 0⟩
  let s : State := hush { opened s with test.job := some j }
  (s, j)

def w_TestAccessCompletes_10 : State :=
  let s := State.reset
  let s : State := hush { s with test.job := some ⟨1, 0, 0⟩ }
  s

def w_TestAccessCompletes_11 : State × (BitVec 38) :=
  let s := State.reset
  let c : BitVec 38 := 0x123456789
  let s : State := hush { s with test.job := none, test.resOp := 1, test.resData := 0x55 }
  (s, c)

def w_TestAccessCompletes_12 : State × Bool :=
  let s := State.reset
  let b : Bool := true
  let s : State := hush { s with test.so := true }
  (s, b)

/-- States and operands that meet the premises of TestAccessCompletes. -/
theorem premises_TestAccessCompletes :
    (∃ (s : State) (v : Bool), s.quiet ∧ v ≠ s.test.alone ∧ s.aon.pairN = true ∧ s.aon.reqN = true)
  ∧ (∃ (s : State), s.quiet)
  ∧ (∃ (s : State), s.quiet ∧ s.test.job = none ∧ (bf s.test.acc 0 2 = 1 ∨ bf s.test.acc 0 2 = 2))
  ∧ (∃ (s : State) (c : BitVec 38), s.quiet)
  ∧ (∃ (s : State) (c : BitVec 38), s.quiet ∧ s.test.job.isSome = true)
  ∧ (∃ (s : State) (b : Bool), s.quiet)
  ∧ (∃ (s : State) (b : Bool), s.quiet)
  ∧ (∃ (s : State) (j : TapJob), s.test.job = some j ∧ j.off % 4 ≠ 0)
  ∧ (∃ (s : State) (j : TapJob), s.quiet ∧ s.test.job = some j ∧ j.op = 1 ∧ j.off = 0 ∧ s.gate j.access false = .take)
  ∧ (∃ (s : State), s.quiet ∧ s.test.job.isSome = true)
  ∧ (∃ (s : State) (c : BitVec 38), s.quiet ∧ s.test.job = none)
  ∧ (∃ (s : State) (b : Bool), s.quiet) :=
  ⟨⟨w_TestAccessCompletes_1.1, w_TestAccessCompletes_1.2, by decide +kernel⟩,
  ⟨w_TestAccessCompletes_2, by decide +kernel⟩,
  ⟨w_TestAccessCompletes_3, by decide +kernel⟩,
  ⟨w_TestAccessCompletes_4.1, w_TestAccessCompletes_4.2, by decide +kernel⟩,
  ⟨w_TestAccessCompletes_5.1, w_TestAccessCompletes_5.2, by decide +kernel⟩,
  ⟨w_TestAccessCompletes_6.1, w_TestAccessCompletes_6.2, by decide +kernel⟩,
  ⟨w_TestAccessCompletes_7.1, w_TestAccessCompletes_7.2, by decide +kernel⟩,
  ⟨w_TestAccessCompletes_8.1, w_TestAccessCompletes_8.2, by decide +kernel⟩,
  ⟨w_TestAccessCompletes_9.1, w_TestAccessCompletes_9.2, by decide +kernel⟩,
  ⟨w_TestAccessCompletes_10, by decide +kernel⟩,
  ⟨w_TestAccessCompletes_11.1, w_TestAccessCompletes_11.2, by decide +kernel⟩,
  ⟨w_TestAccessCompletes_12.1, w_TestAccessCompletes_12.2, by decide +kernel⟩⟩

def w_RelayCompletes_1 : State × SbFrame :=
  let s := State.reset
  let s : State := hush (ofCls .lh { powered s with sb.relay := [] })
  let f : SbFrame := { sbf 6 1 with destDie := s.sbDie, destPort := s.portCode }
  (s, f)

def w_RelayCompletes_2 : State × SbFrame :=
  let s := State.reset
  let s : State := ofCls .lh (inSt .openSt (powered s))
  let f : SbFrame := { sbf 5 1 with destDie := 0, destPort := 0 }
  (s, f)

def w_RelayCompletes_3 : State × Bool × SbFrame :=
  let s := State.reset
  let b : Bool := true
  let f : SbFrame := sbf 5 1
  let s : State := ofCls .sc s
  (s, b, f)

def w_RelayCompletes_4 : State × SbFrame × SmRead :=
  let s := State.reset
  let r : SmRead := ⟨3, 0x100, 96, [], 0, false, 0, false⟩
  let f : SbFrame := sbf 6 (pack 64 [(0, 48, 0xABCDEF), (48, 12, 2), (60, 4, 3)])
  let s : State := ofCls .sb { inSt .config (powered s) with cfg.reads := [r] }
  (s, f, r)

def w_RelayCompletes_5 : State × SbFrame × SmRead :=
  let s := State.reset
  let r : SmRead := ⟨3, 0x100, 96, [], 0, false, 0, false⟩
  let f : SbFrame := sbf 7 0x33
  let s : State := ofCls .sb { inSt .config (powered s) with cfg.reads := [r] }
  (s, f, r)

def w_RelayCompletes_6 : State × SmRead :=
  let s := State.reset
  let r : SmRead := ⟨3, 0x100, 96, [], 1, false, 0, false⟩
  let s : State := ofCls .sb { inSt .config (powered s) with cfg.reads := [r] }
  (s, r)

def w_RelayCompletes_7 : State × SmRead :=
  let s := State.reset
  let r : SmRead := ⟨3, 0x100, 96, [], 1, true, 0, false⟩
  let s : State := ofCls .sb { inSt .config (powered s) with cfg.reads := [r] }
  (s, r)

def w_RelayCompletes_8 : State × Nat × List (BitVec 8) :=
  let s := State.reset
  let s : State := hush (ofCls .lh { s with agent.busy := none, agent.usable := true, agent.mem := [] })
  let a : Nat := 0x01000000
  let d : List (BitVec 8) := [17, 0, 0, 0, 40, 0, 0, 0, 1, 0, 0, 0, 151, 159, 133, 28, 0, 0, 0, 0, 0, 0, 0, 0, 0, 0, 0, 0, 0, 0, 0, 0, 0, 0, 0, 0, 0, 0, 0, 0]
  (s, a, d)

def w_RelayCompletes_9 : State × Nat × List (BitVec 8) :=
  let s := State.reset
  let s : State := hush (ofCls .lh { s with agent.busy := none })
  let a : Nat := 3
  let d : List (BitVec 8) := [1]
  (s, a, d)

def w_RelayCompletes_10 : State × Nat × List (BitVec 8) :=
  let s := State.reset
  let a : Nat := 3
  let d : List (BitVec 8) := [1]
  let s : State := ofCls .sc s
  (s, a, d)

def w_RelayCompletes_11 : State × Reg × Reg × Reg :=
  let s := State.reset
  let i : Reg := 1
  let k : Reg := 2
  let c : Reg := 3
  let s : State := hush (ofCls .fib { powered s with aon.exiting := false, start.st := .openSt })
  (s, i, k, c)

def w_RelayCompletes_12 : State × Reg × Reg × Reg :=
  let s := State.reset
  let i : Reg := 1
  let k : Reg := 2
  let c : Reg := 3
  let s : State := ofCls .sc s
  (s, i, k, c)

/-- States and operands that meet the premises of RelayCompletes. -/
theorem premises_RelayCompletes :
    (∃ (s : State) (f : SbFrame), s.quiet ∧ s.agentHere = true ∧ s.sbRuns = true ∧ s.sb.relay.length < 4
      ∧ s.addressed f = true)
  ∧ (∃ (s : State) (f : SbFrame), s.agentHere = true ∧ f.destDie = 0 ∧ f.destPort = 0 ∧ f.srcDie ≠ 0xFF ∧ (s.hear f).1 = true)
  ∧ (∃ (s : State) (b : Bool) (f : SbFrame), s.quiet ∧ s.agentHere = false)
  ∧ (∃ (s : State) (f : SbFrame) (r : SmRead), f.typ = 6 ∧ s.myReply f = true ∧ (s.receive f).1 = true ∧ s.cfg.reads = [r]
      ∧ r.tag.toNat = bf f.payload 60 4 ∧ r.got = [] ∧ bf f.payload 48 12 < readFrames r.len ∧ 1 < readFrames r.len)
  ∧ (∃ (s : State) (f : SbFrame) (r : SmRead), f.typ = 7 ∧ s.myReply f = true ∧ (s.receive f).1 = true ∧ s.cfg.reads = [r]
      ∧ r.tag.toNat = bf f.payload 0 4 ∧ bf f.payload 4 4 = 3)
  ∧ (∃ (s : State) (r : SmRead), s.cfg.reads = [r] ∧ r.waiting = false ∧ r.reissues < 3)
  ∧ (∃ (s : State) (r : SmRead), s.cfg.reads = [r] ∧ r.waiting = true)
  ∧ (∃ (s : State) (a : Nat) (d : List (BitVec 8)), s.quiet ∧ s.agentHere = true ∧ s.agent.busy = none
      ∧ slotWriteOk s.agent a d = true)
  ∧ (∃ (s : State) (a : Nat) (d : List (BitVec 8)), s.quiet ∧ s.agentHere = true ∧ s.agent.busy = none
      ∧ slotWriteOk s.agent a d = false)
  ∧ (∃ (s : State) (a : Nat) (d : List (BitVec 8)), s.quiet ∧ s.agentHere = false)
  ∧ (∃ (s : State) (i : Reg) (k : Reg) (c : Reg), s.quiet ∧ s.cls = .fib ∧ s.isOptical = false ∧ s.asleep = false
      ∧ s.sbRuns = true)
  ∧ (∃ (s : State) (i : Reg) (k : Reg) (c : Reg), s.quiet ∧ (s.cls ≠ .fib ∨ s.isOptical = true)) :=
  ⟨⟨w_RelayCompletes_1.1, w_RelayCompletes_1.2, by decide +kernel⟩,
  ⟨w_RelayCompletes_2.1, w_RelayCompletes_2.2, by decide +kernel⟩,
  ⟨w_RelayCompletes_3.1, w_RelayCompletes_3.2.1, w_RelayCompletes_3.2.2, by decide +kernel⟩,
  ⟨w_RelayCompletes_4.1, w_RelayCompletes_4.2.1, w_RelayCompletes_4.2.2, by decide +kernel⟩,
  ⟨w_RelayCompletes_5.1, w_RelayCompletes_5.2.1, w_RelayCompletes_5.2.2, by decide +kernel⟩,
  ⟨w_RelayCompletes_6.1, w_RelayCompletes_6.2, by decide +kernel⟩,
  ⟨w_RelayCompletes_7.1, w_RelayCompletes_7.2, by decide +kernel⟩,
  ⟨w_RelayCompletes_8.1, w_RelayCompletes_8.2.1, w_RelayCompletes_8.2.2, by decide +kernel⟩,
  ⟨w_RelayCompletes_9.1, w_RelayCompletes_9.2.1, w_RelayCompletes_9.2.2, by decide +kernel⟩,
  ⟨w_RelayCompletes_10.1, w_RelayCompletes_10.2.1, w_RelayCompletes_10.2.2, by decide +kernel⟩,
  ⟨w_RelayCompletes_11.1, w_RelayCompletes_11.2.1, w_RelayCompletes_11.2.2.1, w_RelayCompletes_11.2.2.2, by decide +kernel⟩,
  ⟨w_RelayCompletes_12.1, w_RelayCompletes_12.2.1, w_RelayCompletes_12.2.2.1, w_RelayCompletes_12.2.2.2, by decide +kernel⟩⟩

def w_WindowCompletes_1 : State × Access :=
  let s := State.reset
  let a : Access := acc 0x5004 0
  let s : State := ofCls .sc (opened s)
  (s, a)

def w_WindowCompletes_2 : State × Access :=
  let s := State.reset
  let a : Access := acc 0x10 0
  let s : State := ofCls .sc (opened s)
  (s, a)

def w_WindowCompletes_3 : State × Access :=
  let s := State.reset
  let a : Access := acc 0x3F0 0
  let s : State := ofCls .sc (opened s)
  (s, a)

def w_WindowCompletes_4 : State × Access :=
  let s := State.reset
  let a : Access := acc 0x5004 0
  let s : State := hush { opened s with start.opened := false, start.st := .detect, test.alone := false }
  (s, a)

def w_WindowCompletes_5 : State × Access :=
  let s := State.reset
  let a : Access := acc 0x400 0x1234567
  let s : State := ofCls .sc (opened s)
  (s, a)

def w_WindowCompletes_6 : State × Access :=
  let s := State.reset
  let a : Access := { acc 0x400 7 with be := 3 }
  let s : State := ofCls .sc (opened s)
  (s, a)

def w_WindowCompletes_7 : State × Access :=
  let s := State.reset
  let a : Access := acc 0x8800 7
  let s : State := ofCls .sc (opened s)
  (s, a)

def w_WindowCompletes_8 : State × Access :=
  let s := State.reset
  let a : Access := acc 0xB000 0xF
  let s : State := ofCls .sc (opened s)
  (s, a)

def w_WindowCompletes_9 : State × Access :=
  let s := State.reset
  let a : Access := acc 0x3000 0x13
  let s : State := ofCls .sc (opened s)
  (s, a)

/-- States and operands that meet the premises of WindowCompletes. -/
theorem premises_WindowCompletes :
    (∃ (s : State) (a : Access), s.quiet ∧ s.gate a false = .take ∧ a.off.toNat = 0x5004)
  ∧ (∃ (s : State) (a : Access), s.quiet ∧ s.gate a false = .take ∧ a.off.toNat = 0x10)
  ∧ (∃ (s : State) (a : Access), s.quiet ∧ s.gate a false = .unmapped)
  ∧ (∃ (s : State) (a : Access), s.quiet ∧ s.gate a false = .blocked)
  ∧ (∃ (s : State) (a : Access), s.quiet ∧ s.gate a true = .take ∧ a.off.toNat = 0x400)
  ∧ (∃ (s : State) (a : Access), s.quiet ∧ s.gate a true = .partialWrite)
  ∧ (∃ (s : State) (a : Access), s.gate a true = .take ∧ protectedOff s.cls a.off.toNat = true)
  ∧ (∃ (s : State) (a : Access), s.quiet ∧ s.gate a true = .take ∧ a.off = 0xB000)
  ∧ (∃ (s : State) (a : Access), s.quiet ∧ s.gate a true = .take ∧ a.off = 0x3000
      ∧ max 1 (min (bf a.data 0 4) 8) ≤ s.surviving 0 ∧ max 1 (min (bf a.data 0 4) 8) ≤ s.surviving 1) :=
  ⟨⟨w_WindowCompletes_1.1, w_WindowCompletes_1.2, by decide +kernel⟩,
  ⟨w_WindowCompletes_2.1, w_WindowCompletes_2.2, by decide +kernel⟩,
  ⟨w_WindowCompletes_3.1, w_WindowCompletes_3.2, by decide +kernel⟩,
  ⟨w_WindowCompletes_4.1, w_WindowCompletes_4.2, by decide +kernel⟩,
  ⟨w_WindowCompletes_5.1, w_WindowCompletes_5.2, by decide +kernel⟩,
  ⟨w_WindowCompletes_6.1, w_WindowCompletes_6.2, by decide +kernel⟩,
  ⟨w_WindowCompletes_7.1, w_WindowCompletes_7.2, by decide +kernel⟩,
  ⟨w_WindowCompletes_8.1, w_WindowCompletes_8.2, by decide +kernel⟩,
  ⟨w_WindowCompletes_9.1, w_WindowCompletes_9.2, by decide +kernel⟩⟩

def w_MetersComplete_1 : State :=
  let s := State.reset
  let s : State := hush { powered s with mtr.running := true, aon.exiting := false, start.st := .openSt, mtr.next := 5, clk.tsc := 7 }
  s

def w_MetersComplete_2 : State × Access :=
  let s := State.reset
  let a : Access := acc 0x9000 1
  let s : State := ofCls .sc { opened s with mtr.running := true }
  (s, a)

def w_MetersComplete_3 : State × Access :=
  let s := State.reset
  let a : Access := acc 0x9020 0
  let s : State := ofCls .sc (opened s)
  (s, a)

/-- States and operands that meet the premises of MetersComplete. -/
theorem premises_MetersComplete :
    (∃ (s : State), s.quiet ∧ s.mtr.running = true ∧ s.asleep = false ∧ s.mtr.next.toNat ≤ s.clk.tsc.toNat)
  ∧ (∃ (s : State) (a : Access), s.quiet ∧ s.gate a true = .take ∧ a.off = 0x9000 ∧ a.data = 1 ∧ s.mtr.running = true)
  ∧ (∃ (s : State) (a : Access), s.quiet ∧ s.gate a false = .take ∧ a.off = 0x9020) :=
  ⟨⟨w_MetersComplete_1, by decide +kernel⟩,
  ⟨w_MetersComplete_2.1, w_MetersComplete_2.2, by decide +kernel⟩,
  ⟨w_MetersComplete_3.1, w_MetersComplete_3.2, by decide +kernel⟩⟩

def w_DoorbellsComplete_1 : State × (Fin 8) :=
  let k : Fin 8 := 2
  let s := State.reset
  let s : State := hush { s with start.st := .openSt, rings.line := s.rings.line.upd k fun l => { l with st := .watching } }
  (s, k)

def w_DoorbellsComplete_2 : State × (Fin 8) :=
  let k : Fin 8 := 2
  let s := State.reset
  let s : State := hush { s with start.st := .openSt, rings.line := s.rings.line.upd k fun l => { l with st := .reading } }
  (s, k)

def w_DoorbellsComplete_3 : State × (Fin 8) :=
  let k : Fin 8 := 2
  let s : State := powered State.reset
  let s : State := hush { s with rings.line := s.rings.line.upd k fun l => { l with st := .retrying } }
  (s, k)

def w_DoorbellsComplete_4 : State × (Fin 8) :=
  let k : Fin 8 := 2
  let s : State := powered State.reset
  let s : State := hush { s with start.st := .openSt, rings.ctl := 7, rings.line := (s.rings.line.map fun l => { l with st := .retrying }).upd k fun l => { l with st := .watching } }
  (s, k)

def w_DoorbellsComplete_5 : State × (Fin 8) × Nat × (BitVec 512) × (BitVec 32) :=
  let s := State.reset
  let k : Fin 8 := 1
  let r : Nat := 1
  let v : BitVec 32 := (s.ring 1).portIdx
  let s : State := hush { s with rings.ring := [], rings.line := s.rings.line.upd k fun l => { l with st := .reading, pending := false } }
  let s : State := putRing 1 { ring0 with st := .running, cfg := pack 32 [(4, 5, 6), (9, 3, 1), (12, 3, 2), (15, 6, 2)], portIdx := 5, swIdx := 9 } s
  let v : BitVec 32 := 20
  let d : BitVec 512 := BitVec.ofNat 512 (20 * 2 ^ 128)
  (s, k, r, d, v)

/-- States and operands that meet the premises of DoorbellsComplete. -/
theorem premises_DoorbellsComplete :
    (∃ (s : State) (k : Fin 8), s.quiet ∧ s.start.st ≠ .park ∧ (s.rings.line.get k).st = .watching)
  ∧ (∃ (s : State) (k : Fin 8), s.quiet ∧ s.start.st ≠ .park ∧ (s.rings.line.get k).st = .reading)
  ∧ (∃ (s : State) (k : Fin 8), s.quiet ∧ s.clocked = true ∧ (s.rings.line.get k).st = .retrying)
  ∧ (∃ (s : State) (k : Fin 8), s.quiet ∧ s.clocked = true ∧ s.start.st ≠ .park ∧ bf s.rings.ctl 0 10 ≠ 0
      ∧ (octs.filter fun j => (s.rings.line.get j).st == .watching) = [k])
  ∧ (∃ (s : State) (k : Fin 8) (r : Nat) (d : BitVec 512) (v : BitVec 32), s.quiet ∧ (s.rings.line.get k).st = .reading
      ∧ (s.rings.line.get k).pending = false ∧ s.lineRings k = [r] ∧ (s.ring r).st = .running ∧ (s.ring r).isSub = true
      ∧ v = BitVec.ofNat 32 (bf d (64 * (s.ring r).dbSlot) 32) ∧ (v - (s.ring r).portIdx).toNat ≤ (s.ring r).size
      ∧ (v - (s.ring r).swIdx).toNat < 2 ^ 31) :=
  ⟨⟨w_DoorbellsComplete_1.1, w_DoorbellsComplete_1.2, by decide +kernel⟩,
  ⟨w_DoorbellsComplete_2.1, w_DoorbellsComplete_2.2, by decide +kernel⟩,
  ⟨w_DoorbellsComplete_3.1, w_DoorbellsComplete_3.2, by decide +kernel⟩,
  ⟨w_DoorbellsComplete_4.1, w_DoorbellsComplete_4.2, by decide +kernel⟩,
  ⟨w_DoorbellsComplete_5.1, w_DoorbellsComplete_5.2.1, w_DoorbellsComplete_5.2.2.1, w_DoorbellsComplete_5.2.2.2.1, w_DoorbellsComplete_5.2.2.2.2, by decide +kernel⟩⟩

def w_DescriptorsComplete_1 : State × RingNo × (BitVec 32) × Desc × RingDesc :=
  let s := State.reset
  let r : RingNo := 1
  let i : BitVec 32 := 4
  let d : Desc := mkD 0 [(16, 16, 4)]
  let e : RingDesc := ⟨4, .fetching, 0, 0, false, none⟩
  let s : State := hush (ofCls .sc (putRing 1 { ring0 with st := .running, cfg := pack 32 [(4, 5, 6), (9, 3, 1), (15, 6, 2)], descs := [e] } s))
  (s, r, i, d, e)

def w_DescriptorsComplete_2 : State × RingNo × (BitVec 32) × RingDesc :=
  let s : State := powered State.reset
  let r : RingNo := 1
  let i : BitVec 32 := 4
  let e : RingDesc := ⟨4, .rereading, 0, 1, false, none⟩
  let s : State := hush (putRing 1 { ring0 with st := .running, cfg := pack 32 [(4, 5, 6), (9, 3, 1), (15, 6, 2)], descs := [e] } s)
  (s, r, i, e)

def w_DescriptorsComplete_3 : State × Nat × RingDesc :=
  let s : State := powered State.reset
  let r : Nat := 1
  let e : RingDesc := ⟨4, .ready, 0, 0, false, none⟩
  let s : State := hush { s with rings.ring := [] }
  let s : State := putRing 2 { ring0 with st := .running, cfg := pack 32 [(0, 1, 1), (1, 3, 3), (4, 5, 6), (9, 3, 1), (21, 6, 8)] } (putRing 1 { ring0 with st := .running, cfg := pack 32 [(4, 5, 6), (9, 3, 1), (15, 6, 2)], descs := [e] } s)
  (s, r, e)

/-- States and operands that meet the premises of DescriptorsComplete. -/
theorem premises_DescriptorsComplete :
    (∃ (s : State) (r : RingNo) (i : BitVec 32) (d : Desc) (e : RingDesc), s.quiet ∧ s.desc r.val i = some e
      ∧ e.st = .fetching ∧ e.marked = false ∧ (s.ring r.val).st = .running ∧ dSeq d = i.toNat % 65536
      ∧ s.descCheck r.val d = none)
  ∧ (∃ (s : State) (r : RingNo) (i : BitVec 32) (e : RingDesc), s.quiet ∧ s.clocked = true ∧ s.desc r.val i = some e
      ∧ e.st = .rereading ∧ (s.ring r.val).st = .running)
  ∧ (∃ (s : State) (r : Nat) (e : RingDesc), s.quiet ∧ s.clocked = true ∧ s.ringsOf 0 = [r] ∧ s.ringsOf 1 = []
      ∧ s.ringsOf 2 = [] ∧ (s.ring r).descs = [e] ∧ s.startable r e = true ∧ s.targetReady e.desc = true) :=
  ⟨⟨w_DescriptorsComplete_1.1, w_DescriptorsComplete_1.2.1, w_DescriptorsComplete_1.2.2.1, w_DescriptorsComplete_1.2.2.2.1, w_DescriptorsComplete_1.2.2.2.2, by decide +kernel⟩,
  ⟨w_DescriptorsComplete_2.1, w_DescriptorsComplete_2.2.1, w_DescriptorsComplete_2.2.2.1, w_DescriptorsComplete_2.2.2.2, by decide +kernel⟩,
  ⟨w_DescriptorsComplete_3.1, w_DescriptorsComplete_3.2.1, w_DescriptorsComplete_3.2.2, by decide +kernel⟩⟩

def w_CompletionsComplete_1 : State × (Fin 8) :=
  let k : Fin 8 := 2
  let s : State := powered State.reset
  let s : State := hush { s with rings.line := s.rings.line.upd k fun l => { l with dirtyAt := some 7 } }
  (s, k)

def w_CompletionsComplete_2 : State × (Fin 8) :=
  let k : Fin 8 := 2
  let s := State.reset
  let s : State := hush { s with rings.line := s.rings.line.upd k fun l => { l with shWait := 2 } }
  (s, k)

def w_CompletionsComplete_3 : State × RingNo × CplEntry × List CplEntry :=
  let s : State := powered State.reset
  let c : RingNo := 2
  let e : CplEntry := ⟨1, 2, 0, 0, 4, 77, 0, 0, 0, false⟩
  let s : State := hush (putRing 2 { ring0 with st := .running, cfg := pack 32 [(0, 1, 1), (1, 3, 3), (4, 5, 6), (9, 3, 1), (21, 6, 8)], slots := 1, portIdx := 69, swIdx := 9 } { s with rings.fifo := e :: s.rings.fifo })
  let l : List CplEntry := s.rings.fifo.drop 1
  (s, c, e, l)

def w_CompletionsComplete_4 : State × RingNo × (BitVec 32) × Nat :=
  let s := State.reset
  let r : RingNo := 2
  let i : BitVec 32 := 68
  let n : Nat := 1
  let s : State := hush (putRing 2 { ring0 with st := .running, cfg := pack 32 [(0, 1, 1), (1, 3, 3), (4, 5, 6), (9, 3, 1), (21, 6, 8)], slots := 1, portIdx := 69, swIdx := 9, writes := [(68, 1)] } s)
  (s, r, i, n)

def w_CompletionsComplete_5 : State × RingNo :=
  let s : State := powered State.reset
  let r : RingNo := 2
  let s : State := hush (putRing 2 { ring0 with st := .running, cfg := pack 32 [(0, 1, 1), (1, 3, 3), (4, 5, 6), (9, 3, 1), (21, 6, 8)], slots := 1, portIdx := 69, swIdx := 9, msiHold := true } s)
  (s, r)

def w_CompletionsComplete_6 : State × RingNo :=
  let r : RingNo := 1
  let s := State.reset
  let s : State := hush s
  (s, r)

def w_CompletionsComplete_7 : State × RingNo :=
  let r : RingNo := 1
  let s := State.reset
  let s : State := hush s
  (s, r)

/-- States and operands that meet the premises of CompletionsComplete. -/
theorem premises_CompletionsComplete :
    (∃ (s : State) (k : Fin 8), s.quiet ∧ s.clocked = true ∧ (s.rings.line.get k).dirtyAt.isSome = true)
  ∧ (∃ (s : State) (k : Fin 8), s.quiet ∧ 1 < (s.rings.line.get k).shWait)
  ∧ (∃ (s : State) (c : RingNo) (e : CplEntry) (l : List CplEntry), s.quiet ∧ s.clocked = true ∧ (s.ring c.val).st = .running
      ∧ (s.ring c.val).kind = 3 ∧ (s.ring c.val).full = false ∧ s.rings.fifo = e :: l ∧ e.cplRing = c)
  ∧ (∃ (s : State) (r : RingNo) (i : BitVec 32) (n : Nat), s.quiet ∧ (s.ring r.val).st = .running
      ∧ (s.ring r.val).writes = [(i, n)])
  ∧ (∃ (s : State) (r : RingNo), s.quiet ∧ s.clocked = true ∧ (s.ring r.val).msiHold = true)
  ∧ (∃ (s : State) (r : RingNo), s.quiet)
  ∧ (∃ (s : State) (r : RingNo), s.quiet) :=
  ⟨⟨w_CompletionsComplete_1.1, w_CompletionsComplete_1.2, by decide +kernel⟩,
  ⟨w_CompletionsComplete_2.1, w_CompletionsComplete_2.2, by decide +kernel⟩,
  ⟨w_CompletionsComplete_3.1, w_CompletionsComplete_3.2.1, w_CompletionsComplete_3.2.2.1, w_CompletionsComplete_3.2.2.2, by decide +kernel⟩,
  ⟨w_CompletionsComplete_4.1, w_CompletionsComplete_4.2.1, w_CompletionsComplete_4.2.2.1, w_CompletionsComplete_4.2.2.2, by decide +kernel⟩,
  ⟨w_CompletionsComplete_5.1, w_CompletionsComplete_5.2, by decide +kernel⟩,
  ⟨w_CompletionsComplete_6.1, w_CompletionsComplete_6.2, by decide +kernel⟩,
  ⟨w_CompletionsComplete_7.1, w_CompletionsComplete_7.2, by decide +kernel⟩⟩

def w_RingStatesComplete_1 : State × RingNo × Reg :=
  let s := State.reset
  let r : RingNo := 2
  let v : Reg := pack 32 [(0, 1, 1), (1, 3, 3), (4, 5, 6), (9, 3, 1), (21, 6, 8)]
  let s : State := hush (putRing 2 { ring0 with st := .disabled } { s with start.opened := true, rings.ring := [], rings.line := s.rings.line.upd 1 fun l => { l with dbLo := 0x40, shLo := 0x80 } })
  (s, r, v)

def w_RingStatesComplete_2 : State × RingNo :=
  let s := State.reset
  let r : RingNo := 1
  let s : State := hush (putRing 1 { ring0 with st := .running, cfg := pack 32 [(0, 1, 1), (4, 5, 6), (9, 3, 1), (15, 6, 2)], portIdx := 5, swIdx := 9 } { s with start.opened := true })
  (s, r)

/-- States and operands that meet the premises of RingStatesComplete. -/
theorem premises_RingStatesComplete :
    (∃ (s : State) (r : RingNo) (v : Reg), s.quiet ∧ s.start.opened = true ∧ (s.ring r.val).st = .disabled
      ∧ s.enableFails r.val { s.ring r.val with cfg := setBf (setBf v 0 1 1 &&& 0x0FFFFFFF) 0 1 0 } = none)
  ∧ (∃ (s : State) (r : RingNo), s.start.opened = true ∧ (s.ring r.val).st = .running ∧ (s.ring r.val).isSub = true
      ∧ (s.ring r.val).descs = []) :=
  ⟨⟨w_RingStatesComplete_1.1, w_RingStatesComplete_1.2.1, w_RingStatesComplete_1.2.2, by decide +kernel⟩,
  ⟨w_RingStatesComplete_2.1, w_RingStatesComplete_2.2, by decide +kernel⟩⟩

def w_StrandDescriptorsComplete_1 : State × RingNo × (BitVec 32) × Desc :=
  let s := State.reset
  let r : RingNo := 1
  let i : BitVec 32 := 4
  let d : Desc := mkD 1 [(64, 3, 2), (80, 1, 1)]
  let s : State := withDescs 0 d (opened s)
  let s : State := (s.modStrand 1 2 5 fun x => { x with st := .quarantined }).modTx 2 fun t => { t with ladder := .up }
  (s, r, i, d)

def w_StrandDescriptorsComplete_2 : State × RingNo × (BitVec 32) × Desc :=
  let s := State.reset
  let r : RingNo := 1
  let i : BitVec 32 := 4
  let d : Desc := mkD 2 [(64, 3, 2), (67, 1, 1), (80, 6, 8)]
  let s : State := withDescs 0 d (opened s)
  let s : State := (s.modShape 1 2 fun h => { h with trained := true, retired := false }).modTx 2 fun t => { t with ladder := .up }
  (s, r, i, d)

def w_StrandDescriptorsComplete_3 : State × RingNo × (BitVec 32) × Desc :=
  let s := State.reset
  let r : RingNo := 1
  let i : BitVec 32 := 4
  let d : Desc := mkD 3 [(64, 3, 2), (67, 1, 1), (80, 6, 16)]
  let s : State := withDescs 0 d (opened s)
  let s : State := (s.modShape 1 2 fun h => { h with trained := true, retired := false }).modTx 2 fun t => { t with ladder := .up }
  (s, r, i, d)

def w_StrandDescriptorsComplete_4 : State × RingNo × (BitVec 32) × Desc :=
  let s := State.reset
  let r : RingNo := 1
  let i : BitVec 32 := 4
  let d : Desc := mkD 4 [(64, 3, 2), (67, 1, 1), (69, 6, 5), (80, 6, 33), (86, 2, 2)]
  let s : State := withDescs 0 d (opened s)
  let s : State := (s.modShape 1 2 fun h => { h with trained := true, retired := false }).modTx 2 fun t => { t with ladder := .up }
  (s, r, i, d)

def w_StrandDescriptorsComplete_5 : State × RingNo × (BitVec 32) × Desc :=
  let s := State.reset
  let r : RingNo := 1
  let i : BitVec 32 := 4
  let d : Desc := mkD 5 [(64, 3, 2), (67, 1, 1), (69, 6, 5)]
  let s : State := withDescs 0 d (opened s)
  let s : State := (s.modShape 1 2 fun h => { h with trained := true, retired := false }).modTx 2 fun t => { t with ladder := .up }
  (s, r, i, d)

def w_StrandDescriptorsComplete_6 : State × RingNo × (BitVec 32) × Desc :=
  let s := State.reset
  let r : RingNo := 1
  let i : BitVec 32 := 4
  let d : Desc := mkD 2 [(64, 3, 2), (80, 6, 8)]
  let s : State := withDescs 0 d (opened s)
  let s : State := (s.modShape 0 2 fun h => { h with trained := true, retired := false, queue := [], op := some { op0 with op := 5 } }).modTx 2 fun t => { t with ladder := .up }
  (s, r, i, d)

def w_StrandDescriptorsComplete_7 : State × RingNo × (BitVec 32) × Desc :=
  let s := State.reset
  let r : RingNo := 1
  let i : BitVec 32 := 4
  let d : Desc := mkD 3 [(64, 3, 2), (80, 6, 16)]
  let s : State := withDescs 0 d (opened s)
  let s : State := (s.modShape 0 2 fun h => { h with trained := true, retired := false, queue := [], op := some { op0 with op := 5 } }).modTx 2 fun t => { t with ladder := .up }
  (s, r, i, d)

def w_StrandDescriptorsComplete_8 : State × RingNo × (BitVec 32) × Desc :=
  let s := State.reset
  let r : RingNo := 1
  let i : BitVec 32 := 4
  let d : Desc := mkD 4 [(64, 3, 2), (69, 6, 5), (80, 6, 33), (86, 2, 2)]
  let s : State := withDescs 0 d (opened s)
  let s : State := (s.modShape 0 2 fun h => { h with trained := true, retired := false, queue := [], op := some { op0 with op := 5 } }).modTx 2 fun t => { t with ladder := .up }
  (s, r, i, d)

def w_StrandDescriptorsComplete_9 : State × RingNo × (BitVec 32) × Desc :=
  let s := State.reset
  let r : RingNo := 1
  let i : BitVec 32 := 4
  let d : Desc := mkD 5 [(64, 3, 2), (69, 6, 5)]
  let s : State := withDescs 0 d (opened s)
  let s : State := (s.modShape 0 2 fun h => { h with trained := true, retired := false, queue := [], op := some { op0 with op := 5 } }).modTx 2 fun t => { t with ladder := .up }
  (s, r, i, d)

def w_StrandDescriptorsComplete_10 : State × RingNo × (BitVec 32) × Desc :=
  let s := State.reset
  let r : RingNo := 1
  let i : BitVec 32 := 4
  let d : Desc := mkD 1 [(64, 3, 2)]
  let s : State := withDescs 0 d (ofCls .sb { opened s with link.retraining := false })
  let s : State := (s.modShape 0 2 fun h => { h with retired := false }).modTx 2 fun t => { t with ladder := .up }
  (s, r, i, d)

/-- States and operands that meet the premises of StrandDescriptorsComplete. -/
theorem premises_StrandDescriptorsComplete :
    (∃ (s : State) (r : RingNo) (i : BitVec 32) (d : Desc), s.started r i 0x01 d ∧ s.linkReady ∧ dAll d = false
      ∧ bit d 80 = true ∧ s.hasQuarantined (dBraid d) = true ∧ (s.link.tx.get (dBraid d)).ladder = .up)
  ∧ (∃ (s : State) (r : RingNo) (i : BitVec 32) (d : Desc), s.started r i 0x02 d ∧ s.linkReady ∧ dDir d = 1
      ∧ (s.link.tx.get (dBraid d)).ladder ≠ .retraining ∧ (s.shape 1 (dBraid d)).trained = true
      ∧ (s.shape 1 (dBraid d)).retired = false)
  ∧ (∃ (s : State) (r : RingNo) (i : BitVec 32) (d : Desc), s.started r i 0x03 d ∧ s.linkReady ∧ dDir d = 1
      ∧ (s.link.tx.get (dBraid d)).ladder ≠ .retraining ∧ (s.shape 1 (dBraid d)).trained = true
      ∧ (s.shape 1 (dBraid d)).retired = false ∧ (s.shape 1 (dBraid d)).width < s.widest 1 (dBraid d)
      ∧ (s.shape 1 (dBraid d)).width < bf d 80 6)
  ∧ (∃ (s : State) (r : RingNo) (i : BitVec 32) (d : Desc), s.started r i 0x04 d ∧ s.linkReady ∧ dDir d = 1
      ∧ (s.link.tx.get (dBraid d)).ladder ≠ .retraining ∧ (s.shape 1 (dBraid d)).trained = true
      ∧ (s.shape 1 (dBraid d)).retired = false)
  ∧ (∃ (s : State) (r : RingNo) (i : BitVec 32) (d : Desc), s.started r i 0x05 d ∧ s.linkReady ∧ dDir d = 1
      ∧ (s.link.tx.get (dBraid d)).ladder ≠ .retraining ∧ (s.shape 1 (dBraid d)).trained = true
      ∧ (s.shape 1 (dBraid d)).retired = false)
  ∧ (∃ (s : State) (r : RingNo) (i : BitVec 32) (d : Desc), s.started r i 0x02 d ∧ s.linkReady ∧ dDir d = 0
      ∧ (s.link.tx.get (dBraid d)).ladder ≠ .retraining ∧ (s.shape 0 (dBraid d)).trained = true
      ∧ (s.shape 0 (dBraid d)).retired = false ∧ (s.shape 0 (dBraid d)).queue = [] ∧ (s.shape 0 (dBraid d)).op.isSome = true)
  ∧ (∃ (s : State) (r : RingNo) (i : BitVec 32) (d : Desc), s.started r i 0x03 d ∧ s.linkReady ∧ dDir d = 0
      ∧ (s.link.tx.get (dBraid d)).ladder ≠ .retraining ∧ (s.shape 0 (dBraid d)).trained = true
      ∧ (s.shape 0 (dBraid d)).retired = false ∧ (s.shape 0 (dBraid d)).queue = [] ∧ (s.shape 0 (dBraid d)).op.isSome = true)
  ∧ (∃ (s : State) (r : RingNo) (i : BitVec 32) (d : Desc), s.started r i 0x04 d ∧ s.linkReady ∧ dDir d = 0
      ∧ (s.link.tx.get (dBraid d)).ladder ≠ .retraining ∧ (s.shape 0 (dBraid d)).trained = true
      ∧ (s.shape 0 (dBraid d)).retired = false ∧ (s.shape 0 (dBraid d)).queue = [] ∧ (s.shape 0 (dBraid d)).op.isSome = true)
  ∧ (∃ (s : State) (r : RingNo) (i : BitVec 32) (d : Desc), s.started r i 0x05 d ∧ s.linkReady ∧ dDir d = 0
      ∧ (s.link.tx.get (dBraid d)).ladder ≠ .retraining ∧ (s.shape 0 (dBraid d)).trained = true
      ∧ (s.shape 0 (dBraid d)).retired = false ∧ (s.shape 0 (dBraid d)).queue = [] ∧ (s.shape 0 (dBraid d)).op.isSome = true)
  ∧ (∃ (s : State) (r : RingNo) (i : BitVec 32) (d : Desc), s.started r i 0x01 d ∧ s.linkReady ∧ dAll d = false
      ∧ bit d 80 = false ∧ (s.link.tx.get (dBraid d)).ladder = .up ∧ (s.shape 0 (dBraid d)).retired = false
      ∧ s.link.retraining = false ∧ s.leads = false) :=
  ⟨⟨w_StrandDescriptorsComplete_1.1, w_StrandDescriptorsComplete_1.2.1, w_StrandDescriptorsComplete_1.2.2.1, w_StrandDescriptorsComplete_1.2.2.2, by decide +kernel⟩,
  ⟨w_StrandDescriptorsComplete_2.1, w_StrandDescriptorsComplete_2.2.1, w_StrandDescriptorsComplete_2.2.2.1, w_StrandDescriptorsComplete_2.2.2.2, by decide +kernel⟩,
  ⟨w_StrandDescriptorsComplete_3.1, w_StrandDescriptorsComplete_3.2.1, w_StrandDescriptorsComplete_3.2.2.1, w_StrandDescriptorsComplete_3.2.2.2, by decide +kernel⟩,
  ⟨w_StrandDescriptorsComplete_4.1, w_StrandDescriptorsComplete_4.2.1, w_StrandDescriptorsComplete_4.2.2.1, w_StrandDescriptorsComplete_4.2.2.2, by decide +kernel⟩,
  ⟨w_StrandDescriptorsComplete_5.1, w_StrandDescriptorsComplete_5.2.1, w_StrandDescriptorsComplete_5.2.2.1, w_StrandDescriptorsComplete_5.2.2.2, by decide +kernel⟩,
  ⟨w_StrandDescriptorsComplete_6.1, w_StrandDescriptorsComplete_6.2.1, w_StrandDescriptorsComplete_6.2.2.1, w_StrandDescriptorsComplete_6.2.2.2, by decide +kernel⟩,
  ⟨w_StrandDescriptorsComplete_7.1, w_StrandDescriptorsComplete_7.2.1, w_StrandDescriptorsComplete_7.2.2.1, w_StrandDescriptorsComplete_7.2.2.2, by decide +kernel⟩,
  ⟨w_StrandDescriptorsComplete_8.1, w_StrandDescriptorsComplete_8.2.1, w_StrandDescriptorsComplete_8.2.2.1, w_StrandDescriptorsComplete_8.2.2.2, by decide +kernel⟩,
  ⟨w_StrandDescriptorsComplete_9.1, w_StrandDescriptorsComplete_9.2.1, w_StrandDescriptorsComplete_9.2.2.1, w_StrandDescriptorsComplete_9.2.2.2, by decide +kernel⟩,
  ⟨w_StrandDescriptorsComplete_10.1, w_StrandDescriptorsComplete_10.2.1, w_StrandDescriptorsComplete_10.2.2.1, w_StrandDescriptorsComplete_10.2.2.2, by decide +kernel⟩⟩

def w_WorkDescriptorsComplete_1 : State × RingNo × (BitVec 32) × Desc :=
  let s := State.reset
  let r : RingNo := 1
  let i : BitVec 32 := 4
  let d : Desc := mkD 0 []
  let s : State := withDescs 0 d s
  (s, r, i, d)

def w_WorkDescriptorsComplete_2 : State × RingNo × (BitVec 32) × Desc :=
  let s := State.reset
  let r : RingNo := 1
  let i : BitVec 32 := 4
  let d : Desc := mkD 0x0C []
  let s : State := withDescs 0 d s
  (s, r, i, d)

def w_WorkDescriptorsComplete_3 : State × RingNo × (BitVec 32) × RingDesc × ScanJob × Nat :=
  let n : Nat := 3
  let s := State.reset
  let r : RingNo := 1
  let i : BitVec 32 := 4
  let e : RingDesc := ⟨4, .running, mkD 8 [], 0, false, none⟩
  let j : ScanJob := ⟨1, 4, 3, 5, 20, 0, true⟩
  let s : State := withDescs 0 0 { s with cal.scans := [j] }
  let s : State := putRing 1 { s.ring 1 with descs := [e] } s
  (s, r, i, e, j, n)

def w_WorkDescriptorsComplete_4 : State × RingNo × (BitVec 32) × Desc :=
  let s := State.reset
  let r : RingNo := 1
  let i : BitVec 32 := 4
  let d : Desc := mkD 6 [(64, 3, 2), (69, 6, 5)]
  let s : State := withDescs 0 d (opened (powered (ofCls .sc s)))
  let s : State := (s.modStrand 1 2 5 fun x => { x with st := .standby })
  let s : State := { s with cal.run := s.cal.run.put 2 (some { run0 with token := 0, step := 2 }), cal.want := s.cal.want.put 2 [9] }
  (s, r, i, d)

def w_WorkDescriptorsComplete_5 : State × RingNo × (BitVec 32) × Desc :=
  let s := State.reset
  let r : RingNo := 1
  let i : BitVec 32 := 4
  let d : Desc := mkD 7 [(64, 3, 2), (69, 6, 5), (86, 6, 2)]
  let s : State := withDescs 0 d (opened (ofCls .sc s))
  let s : State := ((s.modStrand 1 2 5 fun x => { x with st := .active }).modTx 2 fun t => { t with ladder := .up }).modShape 1 2 fun h => { h with trained := true }
  (s, r, i, d)

def w_WorkDescriptorsComplete_6 : State × RingNo × (BitVec 32) × Desc :=
  let s := State.reset
  let r : RingNo := 1
  let i : BitVec 32 := 4
  let d : Desc := mkD 8 [(64, 3, 2), (69, 6, 5), (80, 6, 20)]
  let s : State := withDescs 0 d (opened (ofCls .sc s))
  let s : State := (s.modStrand 1 2 5 fun x => { x with st := .standby }).modTx 2 fun t => { t with ladder := .up }
  (s, r, i, d)

def w_WorkDescriptorsComplete_7 : State × RingNo × (BitVec 32) × Desc :=
  let s := State.reset
  let r : RingNo := 1
  let i : BitVec 32 := 4
  let d : Desc := mkD 0x0A [(80, 32, 500)]
  let s : State := withDescs 0 d (ofCls .sb { opened s with pwr.parkCmd := none })
  (s, r, i, d)

def w_WorkDescriptorsComplete_8 : State × RingNo × (BitVec 32) × Desc :=
  let s := State.reset
  let r : RingNo := 1
  let i : BitVec 32 := 4
  let d : Desc := mkD 0x0B []
  let s : State := withDescs 0 d { opened s with pwr.parkCmd := none }
  (s, r, i, d)

/-- States and operands that meet the premises of WorkDescriptorsComplete. -/
theorem premises_WorkDescriptorsComplete :
    (∃ (s : State) (r : RingNo) (i : BitVec 32) (d : Desc), s.started r i 0x00 d ∧ s.cplReady r)
  ∧ (∃ (s : State) (r : RingNo) (i : BitVec 32) (d : Desc), s.started r i 0x0C d ∧ s.cplReady r)
  ∧ (∃ (s : State) (r : RingNo) (i : BitVec 32) (e : RingDesc) (j : ScanJob) (n : Nat), s.desc r.val i = some e ∧ s.cplReady r
      ∧ s.cal.scans = [j] ∧ j.prbs = true ∧ j.ring = r ∧ j.index = i)
  ∧ (∃ (s : State) (r : RingNo) (i : BitVec 32) (d : Desc), s.started r i 0x06 d ∧ s.linkReady ∧ dAll d = false
      ∧ bit d 80 = false ∧ (∃ q, s.cal.run.get (dBraid d) = some q ∧ q.strand ≠ dStrand d)
      ∧ (s.cal.want.get (dBraid d)).contains (dStrand d) = false ∧ s.aon.pwr = .active
      ∧ calibratable (s.strand 1 (dBraid d) (dStrand d)).st = true)
  ∧ (∃ (s : State) (r : RingNo) (i : BitVec 32) (d : Desc), s.started r i 0x07 d ∧ s.linkReady
      ∧ (s.link.tx.get (dBraid d)).ladder ≠ .retraining ∧ (s.shape 1 (dBraid d)).trained = true
      ∧ (s.strand 1 (dBraid d) (dStrand d)).st = .active ∧ bf d 80 6 = 0 ∧ bf d 86 6 = 2)
  ∧ (∃ (s : State) (r : RingNo) (i : BitVec 32) (d : Desc), s.started r i 0x08 d ∧ s.linkReady
      ∧ (s.link.tx.get (dBraid d)).ladder ≠ .retraining ∧ (s.strand 1 (dBraid d) (dStrand d)).st = .standby)
  ∧ (∃ (s : State) (r : RingNo) (i : BitVec 32) (d : Desc), s.started r i 0x0A d ∧ s.linkReady ∧ s.leads = false
      ∧ s.pwr.parkCmd = none)
  ∧ (∃ (s : State) (r : RingNo) (i : BitVec 32) (d : Desc), s.started r i 0x0B d ∧ s.cplReady r ∧ s.pwr.draining = .none
      ∧ s.pwr.parkCmd = none ∧ s.aon.pwr ≠ .doze) :=
  ⟨⟨w_WorkDescriptorsComplete_1.1, w_WorkDescriptorsComplete_1.2.1, w_WorkDescriptorsComplete_1.2.2.1, w_WorkDescriptorsComplete_1.2.2.2, by decide +kernel⟩,
  ⟨w_WorkDescriptorsComplete_2.1, w_WorkDescriptorsComplete_2.2.1, w_WorkDescriptorsComplete_2.2.2.1, w_WorkDescriptorsComplete_2.2.2.2, by decide +kernel⟩,
  ⟨w_WorkDescriptorsComplete_3.1, w_WorkDescriptorsComplete_3.2.1, w_WorkDescriptorsComplete_3.2.2.1, w_WorkDescriptorsComplete_3.2.2.2.1, w_WorkDescriptorsComplete_3.2.2.2.2.1, w_WorkDescriptorsComplete_3.2.2.2.2.2, by decide +kernel⟩,
  ⟨w_WorkDescriptorsComplete_4.1, w_WorkDescriptorsComplete_4.2.1, w_WorkDescriptorsComplete_4.2.2.1, w_WorkDescriptorsComplete_4.2.2.2, by decide +kernel⟩,
  ⟨w_WorkDescriptorsComplete_5.1, w_WorkDescriptorsComplete_5.2.1, w_WorkDescriptorsComplete_5.2.2.1, w_WorkDescriptorsComplete_5.2.2.2, by decide +kernel⟩,
  ⟨w_WorkDescriptorsComplete_6.1, w_WorkDescriptorsComplete_6.2.1, w_WorkDescriptorsComplete_6.2.2.1, w_WorkDescriptorsComplete_6.2.2.2, by decide +kernel⟩,
  ⟨w_WorkDescriptorsComplete_7.1, w_WorkDescriptorsComplete_7.2.1, w_WorkDescriptorsComplete_7.2.2.1, w_WorkDescriptorsComplete_7.2.2.2, by decide +kernel⟩,
  ⟨w_WorkDescriptorsComplete_8.1, w_WorkDescriptorsComplete_8.2.1, w_WorkDescriptorsComplete_8.2.2.1, w_WorkDescriptorsComplete_8.2.2.2, by decide +kernel⟩⟩

def w_ControlDescriptorsComplete_1 : State × RingNo × RingNo × (BitVec 32) × (BitVec 32) × Desc :=
  let s := State.reset
  let r : RingNo := 1
  let q : RingNo := 3
  let i : BitVec 32 := 4
  let x : BitVec 32 := 6
  let d : Desc := mkD 0x0D [(80, 6, 3), (96, 32, 6)]
  let s : State := putRing 3 { ring0 with st := .running, cfg := pack 32 [(0, 1, 1), (1, 3, 1), (4, 5, 6), (9, 3, 1), (15, 6, 2)], swIdx := 9, fetchIdx := 5, portIdx := 4 } (withDescs 0 d (calm { s with rings.cancelled := [] }))
  (s, r, q, i, x, d)

def w_ControlDescriptorsComplete_2 : State × RingNo × (BitVec 32) × Desc :=
  let s := State.reset
  let r : RingNo := 1
  let i : BitVec 32 := 4
  let d : Desc := mkD 0x0E [(80, 8, 0x15)]
  let s : State := withDescs 0 d (ofCls .sb { s with lash.proposed := none, lash.fenceCmds := [] })
  let s : State := s.modSite (7 * s.tile + s.index) fun x => { x with dieId := 0x15, state := 1 }
  (s, r, i, d)

def w_ControlDescriptorsComplete_3 : State × RingNo × (BitVec 32) × Desc :=
  let s := State.reset
  let r : RingNo := 1
  let i : BitVec 32 := 4
  let d : Desc := mkD 0x0F [(80, 8, 0x15)]
  let s : State := withDescs 0 d (ofCls .sb { s with lash.proposed := none, lash.fenceCmds := [] })
  let s : State := s.modSite (7 * s.tile + s.index) fun x => { x with dieId := 0x15, state := 4 }
  (s, r, i, d)

def w_ControlDescriptorsComplete_4 : State × RingNo × (BitVec 32) × Desc :=
  let s := State.reset
  let r : RingNo := 1
  let i : BitVec 32 := 4
  let d : Desc := mkD 0x0B []
  let s : State := withDescs 0 d (ofCls .sb { calm s with pwr.draining := .park, pwr.parkCmd := none })
  (s, r, i, d)

/-- States and operands that meet the premises of ControlDescriptorsComplete. -/
theorem premises_ControlDescriptorsComplete :
    (∃ (s : State) (r : RingNo) (q : RingNo) (i : BitVec 32) (x : BitVec 32) (d : Desc), s.started r i 0x0D d ∧ s.still = true
      ∧ s.rings.cancels = [] ∧ (s.ring r.val).kind = 0 ∧ q ≠ r ∧ q = Fin.ofNat 64 (bf d 80 6)
      ∧ x = BitVec.ofNat 32 (bf d 96 32) ∧ bit d 86 = false ∧ (s.ring q.val).enabled = true ∧ (s.ring q.val).isSub = true
      ∧ beyond x (s.ring q.val).swIdx = false ∧ s.rings.cancelled.contains (q, x) = false ∧ s.desc q.val x = none
      ∧ (s.ring q.val).uncompleted.contains x = true)
  ∧ (∃ (s : State) (r : RingNo) (i : BitVec 32) (d : Desc), s.started r i 0x0E d ∧ s.cls = .sb
      ∧ s.siteDie (BitVec.ofNat 8 (bf d 80 8)) = true ∧ s.lash.proposed = none ∧ s.lash.fenceCmds = [])
  ∧ (∃ (s : State) (r : RingNo) (i : BitVec 32) (d : Desc), s.started r i 0x0F d ∧ s.cls = .sb
      ∧ s.siteDie (BitVec.ofNat 8 (bf d 80 8)) = true ∧ s.lash.proposed = none ∧ s.lash.fenceCmds = [])
  ∧ (∃ (s : State) (r : RingNo) (i : BitVec 32) (d : Desc), s.started r i 0x0B d ∧ s.leads = false ∧ s.pwr.draining = .park
      ∧ s.pwr.parkCmd = none ∧ { s with pwr.draining := .none }.still = true) :=
  ⟨⟨w_ControlDescriptorsComplete_1.1, w_ControlDescriptorsComplete_1.2.1, w_ControlDescriptorsComplete_1.2.2.1, w_ControlDescriptorsComplete_1.2.2.2.1, w_ControlDescriptorsComplete_1.2.2.2.2.1, w_ControlDescriptorsComplete_1.2.2.2.2.2, by decide +kernel⟩,
  ⟨w_ControlDescriptorsComplete_2.1, w_ControlDescriptorsComplete_2.2.1, w_ControlDescriptorsComplete_2.2.2.1, w_ControlDescriptorsComplete_2.2.2.2, by decide +kernel⟩,
  ⟨w_ControlDescriptorsComplete_3.1, w_ControlDescriptorsComplete_3.2.1, w_ControlDescriptorsComplete_3.2.2.1, w_ControlDescriptorsComplete_3.2.2.2, by decide +kernel⟩,
  ⟨w_ControlDescriptorsComplete_4.1, w_ControlDescriptorsComplete_4.2.1, w_ControlDescriptorsComplete_4.2.2.1, w_ControlDescriptorsComplete_4.2.2.2, by decide +kernel⟩⟩

def w_BightCompletes_1 : State × Access × List (Fin 8 × Nat × Nat × Nat) :=
  let s := State.reset
  let a : Access := acc 0xC000 0x1011
  let l : List (Fin 8 × Nat × Nat × Nat) := []
  let s : State := ofCls .sc { opened s with test.alone := true, bight.active := false, bight.asked := 0 }
  (s, a, l)

def w_BightCompletes_2 : State × SbFrame :=
  let s := State.reset
  let f : SbFrame := sbf 3 (tr 8 2 0 [(11, 1, 1)])
  let s : State := ofCls .sb (opened { s with link.llCtl := 0, bight.serving := 0, bight.asked := 0, bight.waiting := 0 })
  let s : State := ((s.modShape 0 2 fun h => { h with trained := true, retired := false, width := 16 }).modShape 1 2 fun h => { h with trained := true, retired := false, width := 16 })
  let s : State := { s with noc.live := 0xFF, noc.bightOut := 0, link.tx := s.link.tx.map fun t => { t with ladder := .up, shape := { t.shape with retired := false } } }
  (s, f)

def w_BightCompletes_3 : State × SbFrame :=
  let s := State.reset
  let f : SbFrame := sbf 3 (tr 9 2 0 [(11, 1, 1)])
  let s : State := ofCls .sb (opened { s with bight.waiting := 4 })
  (s, f)

def w_BightCompletes_4 : State × (Fin 8) × Nat × (BitVec 64) :=
  let s := State.reset
  let b : Fin 8 := 2
  let p : Nat := 5
  let s : State := hush { s with bight.active := true, bight.braids := 4, bight.locked := [], bight.ctl := 0x1041 }
  let x : BitVec 64 := BitVec.ofNat 64 (prbsRun s.bightTaps 64 0x55)
  (s, b, p, x)

def w_BightCompletes_5 : State × (Fin 8) × Nat × Nat × Nat × (BitVec 256) :=
  let e : Nat := 3
  let n : Nat := 3
  let s := State.reset
  let b : Fin 8 := 2
  let p : Nat := 5
  let s : State := hush { s with bight.locked := [strandKey 1 2 5, strandKey 1 2 7] }
  let x : BitVec 256 := BitVec.allOnes 256
  (s, b, p, e, n, x)

def w_BightCompletes_6 : State × RingNo × (BitVec 32) × Desc × Reg :=
  let s := State.reset
  let r : RingNo := 1
  let i : BitVec 32 := 4
  let d : Desc := mkD 9 [(80, 12, 0x042)]
  let v : Reg := 0x1042
  let s : State := withDescs 0 d (ofCls .sc { opened s with bight.active := false, bight.ctl := 0, link.llCtl := 0, noc.live := 0xFF, noc.bightOut := 0, link.tx := s.link.tx.map fun t => { t with ladder := .up, shape := { t.shape with retired := false } } })
  (s, r, i, d, v)

def w_BightCompletes_7 : State × RingNo × (BitVec 32) × RingDesc :=
  let s := State.reset
  let r : RingNo := 1
  let i : BitVec 32 := 4
  let e : RingDesc := ⟨4, .running, mkD 9 [], 0, false, none⟩
  let s : State := putRing 1 { ring0 with st := .running, cfg := pack 32 [(0, 1, 1), (4, 5, 6), (9, 3, 1), (15, 6, 2)], swIdx := 9, fetchIdx := 5, descs := [e] } (withDescs 0 0 (calm { s with bight.active := true, bight.cmd := some (1, 4), bight.ctl := 0x1011, bight.locked := [] }))
  (s, r, i, e)

/-- States and operands that meet the premises of BightCompletes. -/
theorem premises_BightCompletes :
    (∃ (s : State) (a : Access) (l : List (Fin 8 × Nat × Nat × Nat)), s.gate a true = .take ∧ a.off = 0xC000
      ∧ a.data &&& 0x3FFFFF = a.data ∧ bit a.data 12 = true ∧ s.bight.active = false ∧ bf a.data 0 2 = 1
      ∧ s.bightBad a.data = false ∧ s.bight.asked = 0)
  ∧ (∃ (s : State) (f : SbFrame), f.typ = 3 ∧ trPhase f.payload = 8 ∧ isLocal f = true ∧ (s.hear f).1 = true
      ∧ s.phaseHere 8 = true ∧ s.start.failed = false ∧ bit f.payload 11 = true ∧ s.start.opened = true
      ∧ bit (s.bight.serving ||| s.bight.asked) (trBraid f.payload).val = false
      ∧ bit s.bight.waiting (trBraid f.payload).val = false ∧ s.oneWidth (trBraid f.payload) = true
      ∧ s.tooFew (BitVec.ofNat 8 (2 ^ (trBraid f.payload).val)) = false)
  ∧ (∃ (s : State) (f : SbFrame), f.typ = 3 ∧ trPhase f.payload = 9 ∧ isLocal f = true ∧ (s.hear f).1 = true
      ∧ s.phaseHere 9 = true ∧ s.start.failed = false ∧ bit f.payload 11 = true ∧ bit f.payload 12 = false
      ∧ bit s.bight.waiting (trBraid f.payload).val = true)
  ∧ (∃ (s : State) (b : Fin 8) (p : Nat) (x : BitVec 64), s.quiet ∧ s.checks b p = true
      ∧ s.bight.locked.contains (strandKey 1 b p) = false ∧ onPattern s.bightTaps 64 x.toNat = true)
  ∧ (∃ (s : State) (b : Fin 8) (p : Nat) (e : Nat) (n : Nat) (x : BitVec 256), s.quiet
      ∧ s.bight.locked.contains (strandKey 1 b p) = true ∧ 64 ≤ s.windowErrors (strandKey 1 b p) n x)
  ∧ (∃ (s : State) (r : RingNo) (i : BitVec 32) (d : Desc) (v : Reg), s.started r i 0x09 d ∧ s.linkReady
      ∧ s.bight.active = false ∧ v = setBf (setBf s.bight.ctl 0 12 (bf d 80 12)) 12 1 1 ∧ v &&& 0x3FFFFF = v ∧ bf v 0 2 = 2
      ∧ s.bightBad v = false)
  ∧ (∃ (s : State) (r : RingNo) (i : BitVec 32) (e : RingDesc), s.desc r.val i = some e ∧ s.cplReady r ∧ s.still = true
      ∧ s.bight.active = true ∧ s.bight.cmd = some (r, i) ∧ bf s.bight.ctl 0 2 = 1 ∧ s.bight.locked = []) :=
  ⟨⟨w_BightCompletes_1.1, w_BightCompletes_1.2.1, w_BightCompletes_1.2.2, by decide +kernel⟩,
  ⟨w_BightCompletes_2.1, w_BightCompletes_2.2, by decide +kernel⟩,
  ⟨w_BightCompletes_3.1, w_BightCompletes_3.2, by decide +kernel⟩,
  ⟨w_BightCompletes_4.1, w_BightCompletes_4.2.1, w_BightCompletes_4.2.2.1, w_BightCompletes_4.2.2.2, by decide +kernel⟩,
  ⟨w_BightCompletes_5.1, w_BightCompletes_5.2.1, w_BightCompletes_5.2.2.1, w_BightCompletes_5.2.2.2.1, w_BightCompletes_5.2.2.2.2.1, w_BightCompletes_5.2.2.2.2.2, by decide +kernel⟩,
  ⟨w_BightCompletes_6.1, w_BightCompletes_6.2.1, w_BightCompletes_6.2.2.1, w_BightCompletes_6.2.2.2.1, w_BightCompletes_6.2.2.2.2, by decide +kernel⟩,
  ⟨w_BightCompletes_7.1, w_BightCompletes_7.2.1, w_BightCompletes_7.2.2.1, w_BightCompletes_7.2.2.2, by decide +kernel⟩⟩

def w_LashingCompletes_1 : State × Access :=
  let s := State.reset
  let a : Access := acc 0x80C 0x77
  let s : State := ofCls .sc (opened { s with lash.partyA := 0x80000201, lash.soff := 0x8800, lash.proposed := none })
  (s, a)

def w_LashingCompletes_2 : State × Access :=
  let s := State.reset
  let a : Access := acc 0x814 0x10000
  let s : State := ofCls .sc (opened { s with lash.partyA := pack 32 [(0, 8, 1), (8, 10, 2), (31, 1, 1)], lash.proposed := none, lash.fenceCmds := [] })
  (s, a)

def w_LashingCompletes_3 : State × Access :=
  let s := State.reset
  let a : Access := acc 0x818 0x99
  let s : State := ofCls .sc (opened { s with lash.partyA := pack 32 [(0, 8, 1), (8, 10, 2), (31, 1, 1)], lash.proposed := none, lash.staged := [(0x8800, 5)], lash.linkWait := false })
  (s, a)

def w_LashingCompletes_4 : State × Reg × (BitVec 8) × (BitVec 10) :=
  let s := State.reset
  let n : Reg := 0x99
  let d : BitVec 8 := 1
  let e : BitVec 10 := 2
  let s : State := ofCls .sc (opened { s with lash.proposed := some (n, d, e), lash.digestValid := false, lash.staged := [(0x8800, 5)], lash.linkWait := false })
  (s, n, d, e)

def w_LashingCompletes_5 : State × Access × Reg × (BitVec 8) × (BitVec 10) × Nat × Reg :=
  let s := State.reset
  let k : Nat := (3)
  let v : Reg := 5
  let n : Reg := 0x99
  let d : BitVec 8 := 4
  let e : BitVec 10 := 2
  let a : Access := acc 0x820 0x1234
  let s : State := ofCls .sc (opened { s with lash.partyB := pack 32 [(0, 8, 1), (8, 10, 2), (31, 1, 1)], lash.proposed := some (n, d, e), lash.digestValid := true, lash.digest := 0x1234, lash.staged := [(0x8800 + 4 * k, v)], lash.fenceCmds := [], lash.linkWait := false })
  (s, a, n, d, e, k, v)

def w_LashingCompletes_6 : State × Access :=
  let s := State.reset
  let a : Access := acc 0x824 1
  let s : State := ofCls .sc (opened { s with lash.partyA := pack 32 [(0, 8, 1), (8, 10, 2), (31, 1, 1)], lash.proposed := some (1, 4, 2), lash.fenceCmds := [] })
  (s, a)

def w_LashingCompletes_7 : State :=
  let s := State.reset
  let s : State := { s with lash.proposed := some (1, 4, 2), lash.digestValid := true, lash.fenceCmds := [] }
  s

def w_LashingCompletes_8 : State × Access :=
  let s := State.reset
  let a : Access := { acc 0x830 0x8003FFFF with tap := true }
  let s : State := ofCls .sc (opened { s with lash.partySet := 0 })
  (s, a)

/-- States and operands that meet the premises of LashingCompletes. -/
theorem premises_LashingCompletes :
    (∃ (s : State) (a : Access), s.quiet ∧ s.gate a true = .take ∧ a.off = 0x80C ∧ s.isA a = true
      ∧ protectedOff s.cls s.shadowOff = true ∧ s.shadowOff ≠ 0x83C ∧ s.lash.proposed = none)
  ∧ (∃ (s : State) (a : Access), s.quiet ∧ s.gate a true = .take ∧ a.off = 0x814 ∧ s.isA a = true ∧ bit a.data 16 = true
      ∧ s.lash.proposed = none ∧ s.lash.fenceCmds = [])
  ∧ (∃ (s : State) (a : Access), s.quiet ∧ s.gate a true = .take ∧ a.off = 0x818 ∧ s.isA a = true ∧ s.lash.proposed = none
      ∧ s.proposalBad = false)
  ∧ (∃ (s : State) (n : Reg) (d : BitVec 8) (e : BitVec 10), s.quiet ∧ s.lash.proposed = some (n, d, e)
      ∧ s.lash.digestValid = false ∧ s.proposalBad = false)
  ∧ (∃ (s : State) (a : Access) (n : Reg) (d : BitVec 8) (e : BitVec 10) (k : Nat) (v : Reg), s.gate a true = .take
      ∧ a.off = 0x820 ∧ s.isB a = true ∧ s.lash.proposed = some (n, d, e) ∧ (d ≠ a.srcDie ∨ e ≠ a.srcEp)
      ∧ s.lash.digestValid = true ∧ a.data = s.lash.digest ∧ k < 512 ∧ s.lash.staged = [(0x8800 + 4 * k, v)]
      ∧ s.lash.fenceCmds = [] ∧ s.start.st = .openSt ∧ s.still = true)
  ∧ (∃ (s : State) (a : Access), s.gate a true = .take ∧ a.off = 0x824 ∧ s.isA a = true ∧ bit a.data 0 = true
      ∧ s.lash.proposed.isSome = true ∧ s.lash.fenceCmds = [])
  ∧ (∃ (s : State), s.lash.proposed.isSome = true ∧ s.lash.digestValid = true ∧ s.lash.fenceCmds = [])
  ∧ (∃ (s : State) (a : Access), s.quiet ∧ s.gate a true = .take ∧ a.off = 0x830 ∧ a.tap = true
      ∧ bit s.lash.partySet 0 = false) :=
  ⟨⟨w_LashingCompletes_1.1, w_LashingCompletes_1.2, by decide +kernel⟩,
  ⟨w_LashingCompletes_2.1, w_LashingCompletes_2.2, by decide +kernel⟩,
  ⟨w_LashingCompletes_3.1, w_LashingCompletes_3.2, by decide +kernel⟩,
  ⟨w_LashingCompletes_4.1, w_LashingCompletes_4.2.1, w_LashingCompletes_4.2.2.1, w_LashingCompletes_4.2.2.2, by decide +kernel⟩,
  ⟨w_LashingCompletes_5.1, w_LashingCompletes_5.2.1, w_LashingCompletes_5.2.2.1, w_LashingCompletes_5.2.2.2.1, w_LashingCompletes_5.2.2.2.2.1, w_LashingCompletes_5.2.2.2.2.2.1, w_LashingCompletes_5.2.2.2.2.2.2, by decide +kernel⟩,
  ⟨w_LashingCompletes_6.1, w_LashingCompletes_6.2, by decide +kernel⟩,
  ⟨w_LashingCompletes_7, by decide +kernel⟩,
  ⟨w_LashingCompletes_8.1, w_LashingCompletes_8.2, by decide +kernel⟩⟩

def w_LinkLashingCompletes_1 : State × (Fin 8) × NocFlit :=
  let b : Fin 8 := 2
  let s := State.reset
  let p : NocFlit := 0x1122334455667788
  let s : State := withCtl b 0x40 p (calm { s with lash.linkWait := false })
  (s, b, p)

def w_LinkLashingCompletes_2 : State × (Fin 8) × NocFlit :=
  let s := State.reset
  let b : Fin 8 := Fin.ofNat 8 (2)
  let p : NocFlit := 0
  let s : State := withCtl b 0x41 p (calm { s with lash.linkWait := false })
  let s : State := { (s.modShape 0 7 fun h => { h with retired := false }) with lash.switching := true, lash.swSent := 0xFF, lash.swAcked := 0 }
  (s, b, p)

def w_LinkLashingCompletes_3 : State × (Fin 8) × NocFlit :=
  let b : Fin 8 := 2
  let s := State.reset
  let p : NocFlit := BitVec.ofNat 576 (8 * 2 ^ 83)
  let s : State := withCtl b 0x42 p (ofCls .sb { s with lash.linkWait := true, lash.fenceCmds := [] })
  (s, b, p)

def w_LinkLashingCompletes_4 : State :=
  let s := State.reset
  let s : State := ofCls .sc { s with lash.linkWait := true, lash.fenceCmds := [] }
  s

def w_LinkLashingCompletes_5 : State :=
  let s := State.reset
  let s : State := hush (ofCls .sb { s with lash.linkWait := true, lash.fenceCmds := [] })
  s

/-- States and operands that meet the premises of LinkLashingCompletes. -/
theorem premises_LinkLashingCompletes :
    (∃ (s : State) (b : Fin 8) (p : NocFlit), s.ctlWaits b 0x40 p = true ∧ s.lash.linkWait = false ∧ s.still = true)
  ∧ (∃ (s : State) (b : Fin 8) (p : NocFlit), s.ctlWaits b 0x41 p = true ∧ s.lash.switching = true ∧ s.lash.linkWait = false
      ∧ s.powerIdle = true
      ∧ octs.all (fun c => (s.shape 0 c).retired || !bit s.lash.swSent c.val || bit s.lash.swAcked c.val) = false)
  ∧ (∃ (s : State) (b : Fin 8) (p : NocFlit), s.ctlWaits b 0x42 p = true ∧ s.lash.linkWait = true ∧ s.leads = false
      ∧ s.lash.fenceCmds = [])
  ∧ (∃ (s : State), s.leads = true ∧ s.lash.linkWait = true ∧ s.lash.fenceCmds = [])
  ∧ (∃ (s : State), s.quiet ∧ s.leads = false ∧ s.lash.linkWait = true ∧ s.lash.fenceCmds = []) :=
  ⟨⟨w_LinkLashingCompletes_1.1, w_LinkLashingCompletes_1.2.1, w_LinkLashingCompletes_1.2.2, by decide +kernel⟩,
  ⟨w_LinkLashingCompletes_2.1, w_LinkLashingCompletes_2.2.1, w_LinkLashingCompletes_2.2.2, by decide +kernel⟩,
  ⟨w_LinkLashingCompletes_3.1, w_LinkLashingCompletes_3.2.1, w_LinkLashingCompletes_3.2.2, by decide +kernel⟩,
  ⟨w_LinkLashingCompletes_4, by decide +kernel⟩,
  ⟨w_LinkLashingCompletes_5, by decide +kernel⟩⟩

def w_StrandTransmitCompletes_1 : State × (Fin 8) × NocFlit :=
  let s := State.reset
  let b : Fin 8 := 3
  let p : NocFlit := sp 4 2 0 [(34, 6, 16)]
  let s : State := withCtl b 0x20 p (idleBraid 2 (calm s))
  let s : State := s.modShape 0 2 fun h => { h with retired := false, trained := true, op := some op0 }
  (s, b, p)

def w_StrandTransmitCompletes_2 : State × (Fin 8) × NocFlit × StrandOp :=
  let s := State.reset
  let b : Fin 8 := 3
  let o : StrandOp := { op0 with op := 1, token := 7 }
  let p : NocFlit := sp 1 2 7 []
  let s : State := withCtl b 0x22 p (idleBraid 2 (calm s))
  let s : State := s.modShape 0 2 fun h => { h with op := some o }
  (s, b, p, o)

def w_StrandTransmitCompletes_3 : State × (Fin 8) × StrandOp :=
  let s := State.reset
  let b : Fin 8 := 3
  let o : StrandOp := { op0 with op := 1, token := 7 }
  let s : State := idleBraid b (calm s)
  let s : State := s.modShape 0 b fun h => { h with op := some o }
  (s, b, o)

/-- States and operands that meet the premises of StrandTransmitCompletes. -/
theorem premises_StrandTransmitCompletes :
    (∃ (s : State) (b : Fin 8) (p : NocFlit), s.holds b 0x20 p ∧ strandOk p = true ∧ s.braidIdle (strandBraid p)
      ∧ (s.shape 0 (strandBraid p)).retired = false ∧ (s.shape 0 (strandBraid p)).trained = true
      ∧ (s.shape 0 (strandBraid p)).op.isSome = true)
  ∧ (∃ (s : State) (b : Fin 8) (p : NocFlit) (o : StrandOp), s.holds b 0x22 p ∧ strandOk p = true
      ∧ s.braidIdle (strandBraid p) ∧ (s.shape 0 (strandBraid p)).op = some o ∧ o.token = strandToken p ∧ strandToken p ≠ 0
      ∧ o.ready = false ∧ o.op ≠ 3)
  ∧ (∃ (s : State) (b : Fin 8) (o : StrandOp), s.still = true ∧ s.braidIdle b ∧ (s.shape 0 b).op = some o ∧ o.ready = false
      ∧ o.op ≠ 3 ∧ o.desc = none) :=
  ⟨⟨w_StrandTransmitCompletes_1.1, w_StrandTransmitCompletes_1.2.1, w_StrandTransmitCompletes_1.2.2, by decide +kernel⟩,
  ⟨w_StrandTransmitCompletes_2.1, w_StrandTransmitCompletes_2.2.1, w_StrandTransmitCompletes_2.2.2.1, w_StrandTransmitCompletes_2.2.2.2, by decide +kernel⟩,
  ⟨w_StrandTransmitCompletes_3.1, w_StrandTransmitCompletes_3.2.1, w_StrandTransmitCompletes_3.2.2, by decide +kernel⟩⟩

def w_StrandReceiveCompletes_1 : State × (Fin 8) × NocFlit × StrandOp :=
  let s := State.reset
  let b : Fin 8 := 2
  let p : NocFlit := sp 4 2 9 [(22, 6, 5), (34, 6, 8), (258, 6, 34)]
  let o : StrandOp := { opOf p with map := s.expectMap b (opOf p), clock := s.expectClock b (opOf p) }
  let s : State := withCtl b 0x21 p (idleBraid b (calm s))
  let s : State := { (s.modShape 1 b fun h => { h with op := none }) with cal.run := s.cal.run.put b none }
  let o : StrandOp := { opOf p with map := s.expectMap b (opOf p), clock := s.expectClock b (opOf p) }
  (s, b, p, o)

def w_StrandReceiveCompletes_2 : State × (Fin 8) × Int × StrandOp :=
  let s := State.reset
  let b : Fin 8 := 2
  let a : Int := 100
  let o : StrandOp := { op0 with op := 1, token := 9, dest := 7 }
  let s : State := idleBraid b (calm (ofCls .sc s))
  let s : State := s.modShape 1 b fun h => { h with op := some o, target := 148 }
  (s, b, a, o)

def w_StrandReceiveCompletes_3 : State × (Fin 8) × StrandOp :=
  let s := State.reset
  let b : Fin 8 := 2
  let o : StrandOp := { op0 with op := 4, token := 9 }
  let s : State := s.modShape 1 b fun h => { h with op := some o }
  (s, b, o)

def w_StrandReceiveCompletes_4 : State × (Fin 8) × NocFlit × StrandOp :=
  let s := State.reset
  let b : Fin 8 := 2
  let o : StrandOp := { op0 with op := 4, token := 9, ready := true, map := [1, 2, 3, 4], clock := 34 }
  let p : NocFlit := sp 4 2 9 [(34, 6, 4), (46, 16, 0x1234), (66, 6, 1), (72, 6, 2), (78, 6, 3), (84, 6, 4), (258, 6, 34)]
  let s : State := withCtl b 0x23 p (idleBraid b (calm s))
  let s : State := (s.modShape 1 b fun h => { h with op := some o }).modRx b fun r => { r with expected := 0x1200 }
  (s, b, p, o)

def w_StrandReceiveCompletes_5 : State × (Fin 8) × NocFlit × StrandOp :=
  let s := State.reset
  let b : Fin 8 := 3
  let o : StrandOp := { op0 with op := 1, token := 9, dest := 7 }
  let p : NocFlit := sp 1 2 9 []
  let s : State := withCtl b 0x24 p (idleBraid 2 (calm s))
  let s : State := s.modShape 1 2 fun h => { h with op := some o }
  (s, b, p, o)

def w_StrandReceiveCompletes_6 : State × (Fin 8) × Nat × Nat × Meas :=
  let s := State.reset
  let b : Fin 8 := 2
  let p : Nat := 7
  let s : State := hush { s with link.admits := [] }
  let n : Nat := 2 ^ 63
  let m : Meas := { meas0 with units := 77 }
  let s : State := s.modStrand 0 b p fun x => { x with st := .testing }
  (s, b, p, n, m)

/-- States and operands that meet the premises of StrandReceiveCompletes. -/
theorem premises_StrandReceiveCompletes :
    (∃ (s : State) (b : Fin 8) (p : NocFlit) (o : StrandOp), s.holds b 0x21 p ∧ strandOk p = true ∧ s.braidIdle b
      ∧ strandBraid p = b ∧ o = { opOf p with map := s.expectMap b (opOf p), clock := s.expectClock b (opOf p) } ∧ o.op ≠ 3
      ∧ o.token ≠ 0 ∧ o.requested = false ∧ (s.shape 1 b).op = none ∧ s.cal.run.get b = none ∧ s.prepareOk b o = true)
  ∧ (∃ (s : State) (b : Fin 8) (a : Int) (o : StrandOp), s.still = true ∧ s.braidIdle b ∧ (s.shape 1 b).op = some o
      ∧ o.ready = false ∧ o.switchSeq = none ∧ o.op = 1 ∧ 0 ≤ ((s.shape 1 b).target : Int) - a
      ∧ ((s.shape 1 b).target : Int) - a ≤ s.cls.deskewMax)
  ∧ (∃ (s : State) (b : Fin 8) (o : StrandOp), (s.shape 1 b).op = some o ∧ o.ready = false ∧ o.switchSeq = none
      ∧ (o.op = 4 ∨ o.op = 6))
  ∧ (∃ (s : State) (b : Fin 8) (p : NocFlit) (o : StrandOp), s.holds b 0x23 p ∧ strandOk p = true ∧ s.braidIdle b
      ∧ strandBraid p = b ∧ strandToken p ≠ 0 ∧ bf p 0 4 ≠ 3 ∧ (s.shape 1 b).op = some o ∧ o.token = strandToken p
      ∧ o.ready = true ∧ o.switchSeq = none ∧ s.commitOk b o p = true
      ∧ seqBefore (strandSwitch p) (s.link.rx.get b).expected = false)
  ∧ (∃ (s : State) (b : Fin 8) (p : NocFlit) (o : StrandOp), s.holds b 0x24 p ∧ strandOk p = true
      ∧ s.braidIdle (strandBraid p) ∧ strandToken p ≠ 0 ∧ strandRole p = 0 ∧ (s.shape 1 (strandBraid p)).op = some o
      ∧ o.token = strandToken p ∧ o.desc = none ∧ o.cal = false)
  ∧ (∃ (s : State) (b : Fin 8) (p : Nat) (n : Nat) (m : Meas), s.quiet ∧ (s.strand 0 b p).st = .testing ∧ s.link.admits = []
      ∧ s.admitBits ≤ n ∧ m.errors = 0) :=
  ⟨⟨w_StrandReceiveCompletes_1.1, w_StrandReceiveCompletes_1.2.1, w_StrandReceiveCompletes_1.2.2.1, w_StrandReceiveCompletes_1.2.2.2, by decide +kernel⟩,
  ⟨w_StrandReceiveCompletes_2.1, w_StrandReceiveCompletes_2.2.1, w_StrandReceiveCompletes_2.2.2.1, w_StrandReceiveCompletes_2.2.2.2, by decide +kernel⟩,
  ⟨w_StrandReceiveCompletes_3.1, w_StrandReceiveCompletes_3.2.1, w_StrandReceiveCompletes_3.2.2, by decide +kernel⟩,
  ⟨w_StrandReceiveCompletes_4.1, w_StrandReceiveCompletes_4.2.1, w_StrandReceiveCompletes_4.2.2.1, w_StrandReceiveCompletes_4.2.2.2, by decide +kernel⟩,
  ⟨w_StrandReceiveCompletes_5.1, w_StrandReceiveCompletes_5.2.1, w_StrandReceiveCompletes_5.2.2.1, w_StrandReceiveCompletes_5.2.2.2, by decide +kernel⟩,
  ⟨w_StrandReceiveCompletes_6.1, w_StrandReceiveCompletes_6.2.1, w_StrandReceiveCompletes_6.2.2.1, w_StrandReceiveCompletes_6.2.2.2.1, w_StrandReceiveCompletes_6.2.2.2.2, by decide +kernel⟩⟩

def w_CalTransmitCompletes_1 : State × (Fin 8) × NocFlit :=
  let s := State.reset
  let b : Fin 8 := 3
  let p : NocFlit := pack 576 [(4, 3, 2), (8, 8, 3), (16, 6, 5), (22, 4, 1), (26, 3, 1)]
  let s : State := withCtl b 0x28 p (idleBraid 2 (calm (ofCls .sc s)))
  let s : State := { (s.modStrand 0 2 5 fun x => { x with st := .standby }) with cal.serve := s.cal.serve.put 2 none }
  (s, b, p)

def w_CalTransmitCompletes_2 : State × (Fin 8) × Reg × CalServe :=
  let c : Reg := 5
  let s := State.reset
  let b : Fin 8 := 2
  let v : CalServe := serve0
  let s : State := hush (ofCls .sc { s with cal.serve := s.cal.serve.put b (some v) })
  (s, b, c, v)

def w_CalTransmitCompletes_3 : State × (Fin 8) × NocFlit × CalServe :=
  let s := State.reset
  let b : Fin 8 := 3
  let v : CalServe := serve0
  let p : NocFlit := pack 576 [(4, 3, 2), (8, 8, 3), (16, 6, 5), (29, 4, 3)]
  let s : State := withCtl b 0x2A p (idleBraid 2 (calm { s with cal.serve := s.cal.serve.put 2 (some v) }))
  (s, b, p, v)

/-- States and operands that meet the premises of CalTransmitCompletes. -/
theorem premises_CalTransmitCompletes :
    (∃ (s : State) (b : Fin 8) (p : NocFlit), s.holds b 0x28 p ∧ s.braidIdle (strandBraid p)
      ∧ s.cal.serve.get (strandBraid p) = none ∧ (s.strand 0 (strandBraid p) (calStrand p)).st = .standby
      ∧ s.cls.calSteps.contains (calStepOf p) = true ∧ s.cls.txStep (calStepOf p) = false ∧ calPattern p ≤ 4
      ∧ calStrand p < s.cls.nstrands)
  ∧ (∃ (s : State) (b : Fin 8) (c : Reg) (v : CalServe), s.quiet ∧ s.cls = .sc ∧ s.cal.serve.get b = some v ∧ v.step ≠ 0)
  ∧ (∃ (s : State) (b : Fin 8) (p : NocFlit) (v : CalServe), s.holds b 0x2A p ∧ s.braidIdle (strandBraid p)
      ∧ s.cal.serve.get (strandBraid p) = some v ∧ v.strand = calStrand p ∧ calStatus p ≠ 0 ∧ v.token ≠ 0 ∧ v.strand < 34) :=
  ⟨⟨w_CalTransmitCompletes_1.1, w_CalTransmitCompletes_1.2.1, w_CalTransmitCompletes_1.2.2, by decide +kernel⟩,
  ⟨w_CalTransmitCompletes_2.1, w_CalTransmitCompletes_2.2.1, w_CalTransmitCompletes_2.2.2.1, w_CalTransmitCompletes_2.2.2.2, by decide +kernel⟩,
  ⟨w_CalTransmitCompletes_3.1, w_CalTransmitCompletes_3.2.1, w_CalTransmitCompletes_3.2.2.1, w_CalTransmitCompletes_3.2.2.2, by decide +kernel⟩⟩

def w_CalReceiveCompletes_1 : State × (Fin 8) × Found × CalRun :=
  let f : Found := ⟨1, 2, 3, 4, 5, 6, 7, 8, ⟨1, 2, 3, 4, 5, 6⟩⟩
  let s := State.reset
  let b : Fin 8 := 2
  let r : CalRun := { run0 with stepDone := true }
  let s : State := idleBraid b (calm (ofCls .sc { s with cal.run := s.cal.run.put b (some r) }))
  (s, b, f, r)

def w_CalReceiveCompletes_2 : State × (Fin 8) × NocFlit × CalRun :=
  let s := State.reset
  let b : Fin 8 := 3
  let r : CalRun := run0
  let p : NocFlit := pack 576 [(4, 3, 2), (8, 8, 3), (16, 6, 7), (22, 4, 1)]
  let s : State := withCtl b 0x29 p (idleBraid 2 (calm (ofCls .sc { s with cal.run := s.cal.run.put 2 (some r) })))
  (s, b, p, r)

def w_CalReceiveCompletes_3 : State × (Fin 8) × CalRun :=
  let s := State.reset
  let b : Fin 8 := 2
  let r : CalRun := { run0 with cover := .splice }
  let s : State := idleBraid b (calm { s with cal.run := s.cal.run.put b (some r) })
  (s, b, r)

def w_CalReceiveCompletes_4 : State × (Fin 8) :=
  let s := State.reset
  let b : Fin 8 := 2
  let s : State := opened { s with cal.run := Oct.all (some run0), cal.ctl := 0x34015, cal.sweep := s.cal.sweep.put b [] }
  let s : State := s.modShape 1 b fun h => { h with retired := false }
  (s, b)

/-- States and operands that meet the premises of CalReceiveCompletes. -/
theorem premises_CalReceiveCompletes :
    (∃ (s : State) (b : Fin 8) (f : Found) (r : CalRun), s.still = true ∧ s.braidIdle b ∧ s.cls = .sc
      ∧ s.cal.run.get b = some r ∧ r.phase = .steps ∧ r.stepDone = true ∧ r.step = 1)
  ∧ (∃ (s : State) (b : Fin 8) (p : NocFlit) (r : CalRun), s.holds b 0x29 p ∧ s.braidIdle (strandBraid p)
      ∧ s.cal.run.get (strandBraid p) = some r ∧ r.phase = .steps ∧ r.strand = calStrand p ∧ r.step = calStepOf p
      ∧ r.stepDone = false ∧ s.cls.txStep r.step = false)
  ∧ (∃ (s : State) (b : Fin 8) (r : CalRun), s.still = true ∧ s.braidIdle b ∧ s.cal.run.get b = some r ∧ r.phase = .steps
      ∧ r.stepDone = false ∧ r.cover = .splice)
  ∧ (∃ (s : State) (b : Fin 8), s.still = true ∧ bit s.cal.ctl 0 = true ∧ s.start.st = .openSt
      ∧ (∀ c, (s.cal.run.get c).isSome = true) ∧ (s.shape 1 b).retired = false ∧ s.cal.sweep.get b = []) :=
  ⟨⟨w_CalReceiveCompletes_1.1, w_CalReceiveCompletes_1.2.1, w_CalReceiveCompletes_1.2.2.1, w_CalReceiveCompletes_1.2.2.2, by decide +kernel⟩,
  ⟨w_CalReceiveCompletes_2.1, w_CalReceiveCompletes_2.2.1, w_CalReceiveCompletes_2.2.2.1, w_CalReceiveCompletes_2.2.2.2, by decide +kernel⟩,
  ⟨w_CalReceiveCompletes_3.1, w_CalReceiveCompletes_3.2.1, w_CalReceiveCompletes_3.2.2, by decide +kernel⟩,
  ⟨w_CalReceiveCompletes_4.1, w_CalReceiveCompletes_4.2, by decide +kernel⟩⟩

def w_TrimsComplete_1 : State × Access :=
  let s := State.reset
  let a : Access := acc 0x2010 0x7F
  let s : State := ofCls .sc (opened { s with link.strandIdx := pack 32 [(0, 6, 5), (6, 3, 2)], cal.serve := s.cal.serve.put 2 none })
  let s : State := s.modStrand 0 2 5 fun x => { x with st := .standby }
  (s, a)

def w_TrimsComplete_2 : State × Access :=
  let s := State.reset
  let a : Access := acc 0x2010 0x7F
  let s : State := ofCls .sc (opened { s with link.strandIdx := pack 32 [(0, 6, 5), (6, 3, 2)], cal.serve := s.cal.serve.put 2 none })
  let s : State := s.modStrand 0 2 5 fun x => { x with st := .active }
  (s, a)

def w_TrimsComplete_3 : State × (Fin 8) × Nat × Reg :=
  let s := State.reset
  let b : Fin 8 := 2
  let p : Nat := 3
  let s : State := hush (ofCls .fib { powered s with link.strands := waves.map fun w => (strandKey w.1 w.2.1 w.2.2, { zeroStrand with st := .idle }), cal.ctl := 0x10000 })
  let s : State := s.modStrand 0 b p fun x => { x with st := .active }
  let g : Reg := 0x123456
  let s : State := s.modTrim 0 b p fun x => { x with goal := some g }
  (s, b, p, g)

def w_TrimsComplete_4 : State × (Fin 8) × Nat × Meas :=
  let s := State.reset
  let b : Fin 8 := 2
  let p : Nat := 5
  let m : Meas := ⟨30, 40, 0xFF, 0, 1000, 0⟩
  let s : State := ofCls .sc (opened s)
  let s : State := (s.modTrim 1 b p fun x => { x with perErrs := 0 }).modShape 1 b fun h => { h with retired := false, trained := true }
  (s, b, p, m)

def w_TrimsComplete_5 : State × QualWait :=
  let s := State.reset
  let q : QualWait := ⟨5, 1, 77, none⟩
  let s : State := hush { s with cal.waiting := [q], cal.periodic := [], cal.bucket := ⟨8, s.now⟩ }
  (s, q)

def w_TrimsComplete_6 : State × Meas × ScanJob :=
  let s := State.reset
  let j : ScanJob := ⟨1, 4, 2, 5, 128, 0, false⟩
  let m : Meas := ⟨30, 40, 0xFF, 0, 1000, 0⟩
  let s : State := { s with cal.scans := [j], cal.waiting := [] }
  (s, m, j)

def w_TrimsComplete_7 : State × (BitVec 10) :=
  let s := State.reset
  let v : BitVec 10 := 0x123
  let s : State := hush (calm (ofCls .sc { s with clk.refUp := true }))
  (s, v)

def w_TrimsComplete_8 : State :=
  let s := State.reset
  let s : State := hush { s with clk.refUp := true, cal.stale := false }
  s

def w_TrimsComplete_9 : State :=
  let s := State.reset
  let s : State := hush (calm { s with clk.refUp := true, cal.fault := false })
  s

def w_TrimsComplete_10 : State × (BitVec 10) :=
  let s := State.reset
  let v : BitVec 10 := 500
  let s : State := calm (ofCls .fib { s with clk.refUp := true, cal.ctl := 0, start.st := .train })
  (s, v)

/-- States and operands that meet the premises of TrimsComplete. -/
theorem premises_TrimsComplete :
    (∃ (s : State) (a : Access), s.gate a true = .take ∧ a.off = 0x2010 ∧ s.cls = .sc ∧ idxDir s.link.strandIdx = 0
      ∧ idxStrand s.link.strandIdx < 36 ∧ s.underCal 0 (idxBraid s.link.strandIdx) (idxStrand s.link.strandIdx) = false
      ∧ (s.strand 0 (idxBraid s.link.strandIdx) (idxStrand s.link.strandIdx)).st = .standby)
  ∧ (∃ (s : State) (a : Access), s.gate a true = .take ∧ a.off = 0x2010 ∧ s.cls = .sc ∧ idxDir s.link.strandIdx = 0
      ∧ idxStrand s.link.strandIdx < 36 ∧ s.underCal 0 (idxBraid s.link.strandIdx) (idxStrand s.link.strandIdx) = false
      ∧ (s.strand 0 (idxBraid s.link.strandIdx) (idxStrand s.link.strandIdx)).st = .active)
  ∧ (∃ (s : State) (b : Fin 8) (p : Nat) (g : Reg), s.quiet ∧ s.cls = .fib ∧ bit s.cal.ctl 16 = true ∧ s.mainUp = true
      ∧ waves.filter s.tracked = [(0, b, p)] ∧ (s.trim 0 b p).goal = some g)
  ∧ (∃ (s : State) (b : Fin 8) (p : Nat) (m : Meas), s.still = true ∧ s.asleep = false ∧ s.mainUp = true
      ∧ (s.shape 1 b).retired = false ∧ (s.shape 1 b).trained = true ∧ p < s.cls.nstrands
      ∧ overThreshold s.cls s.link.splCtl (if s.cls.isFibre || p ≥ 34 then m.errors else (s.trim 1 b p).perErrs) m.units m.est = false)
  ∧ (∃ (s : State) (q : QualWait), s.quiet ∧ s.cal.waiting = [q] ∧ q.scan = none ∧ s.cal.periodic = [] ∧ s.qualToken.1 = true)
  ∧ (∃ (s : State) (m : Meas) (j : ScanJob), s.cal.scans = [j] ∧ j.prbs = false ∧ 8 < j.left ∧ s.cal.waiting = [])
  ∧ (∃ (s : State) (v : BitVec 10), s.quiet ∧ s.still = true ∧ s.clk.refUp = true ∧ v ≠ 0x3FF ∧ s.cls ≠ .fib)
  ∧ (∃ (s : State), s.quiet ∧ s.clk.refUp = true ∧ s.cal.stale = false)
  ∧ (∃ (s : State), s.quiet ∧ s.still = true ∧ s.clk.refUp = true ∧ s.cal.fault = false)
  ∧ (∃ (s : State) (v : BitVec 10), s.still = true ∧ s.clk.refUp = true ∧ 376 ≤ v.toNat ∧ v.toNat ≤ 636 ∧ s.cls = .fib
      ∧ bit s.cal.ctl 16 = false ∧ s.start.st ≠ .openSt) :=
  ⟨⟨w_TrimsComplete_1.1, w_TrimsComplete_1.2, by decide +kernel⟩,
  ⟨w_TrimsComplete_2.1, w_TrimsComplete_2.2, by decide +kernel⟩,
  ⟨w_TrimsComplete_3.1, w_TrimsComplete_3.2.1, w_TrimsComplete_3.2.2.1, w_TrimsComplete_3.2.2.2, by decide +kernel⟩,
  ⟨w_TrimsComplete_4.1, w_TrimsComplete_4.2.1, w_TrimsComplete_4.2.2.1, w_TrimsComplete_4.2.2.2, by decide +kernel⟩,
  ⟨w_TrimsComplete_5.1, w_TrimsComplete_5.2, by decide +kernel⟩,
  ⟨w_TrimsComplete_6.1, w_TrimsComplete_6.2.1, w_TrimsComplete_6.2.2, by decide +kernel⟩,
  ⟨w_TrimsComplete_7.1, w_TrimsComplete_7.2, by decide +kernel⟩,
  ⟨w_TrimsComplete_8, by decide +kernel⟩,
  ⟨w_TrimsComplete_9, by decide +kernel⟩,
  ⟨w_TrimsComplete_10.1, w_TrimsComplete_10.2, by decide +kernel⟩⟩

def w_FrameReceiveCompletes_1 : State × (Fin 8) × LineRx × LinkFlit × LinkFlit :=
  let s := State.reset
  let b : Fin 8 := 2
  let s : State := calm { powered s with bight.serving := 0, bight.looped := 0, bight.ready := 0, pwr.rxDoze := 0, pwr.rxLeft := Oct.all 0 }
  let s : State := (s.modShape 1 b fun h => { h with trained := true, retired := false, map := [3, 1, 2, 0] }).modRx b fun r => { r with nakWait := false, scr := 0x5A5A5A5 }
  let f : LinkFlit := 0x123456789
  let bits : LinkFlit := BitVec.ofNat 1280 (f.toNat ^^^ (scrRun 1280 (s.link.rx.get b).scr.toNat).1)
  let rx : LineRx := onPads [3, 1, 2, 0] bits
  (s, b, rx, bits, f)

def w_FrameReceiveCompletes_2 : State × (Fin 8) × LineRx × LinkFlit × LinkFlit :=
  let s := State.reset
  let b : Fin 8 := 2
  let s : State := calm { powered s with bight.serving := 0, bight.looped := 0, bight.ready := 0, pwr.rxDoze := 0, pwr.rxLeft := Oct.all 0 }
  let s : State := (s.modShape 1 b fun h => { h with trained := true, retired := false, op := none, map := [3, 1, 2, 0] }).modRx b fun r => { r with nakWait := (0) = 1, scr := 0x5A5A5A5 }
  let f : LinkFlit := sealed (pack 1280 [(0, 4, 1), (4, 16, (s.link.rx.get b).expected.toNat), (28, 16, (5)), (44, 2, (1)), (46, 8, (255))])
  let bits : LinkFlit := BitVec.ofNat 1280 (f.toNat ^^^ (scrRun 1280 (s.link.rx.get b).scr.toNat).1)
  let rx : LineRx := onPads [3, 1, 2, 0] bits
  (s, b, rx, bits, f)

/-- States and operands that meet the premises of FrameReceiveCompletes. -/
theorem premises_FrameReceiveCompletes :
    (∃ (s : State) (b : Fin 8) (rx : LineRx) (bits : LinkFlit) (f : LinkFlit), s.clocked = true ∧ s.domainUp (.rxw b) = true
      ∧ (s.shape 1 b).trained = true ∧ (s.shape 1 b).retired = false ∧ s.bighted b = false ∧ bit s.pwr.rxDoze b.val = false
      ∧ s.pwr.rxLeft.get b = 0 ∧ (s.takeLine b rx).1 = some bits ∧ (s.takeLine b rx).2.1 = none
      ∧ f = BitVec.ofNat 1280 (bits.toNat ^^^ (scrRun 1280 (s.link.rx.get b).scr.toNat).1) ∧ linkCrcOk f = false
      ∧ (s.link.rx.get b).nakWait = false ∧ s.still = true)
  ∧ (∃ (s : State) (b : Fin 8) (rx : LineRx) (bits : LinkFlit) (f : LinkFlit), s.clocked = true ∧ s.domainUp (.rxw b) = true
      ∧ (s.shape 1 b).trained = true ∧ (s.shape 1 b).retired = false ∧ s.bighted b = false ∧ bit s.pwr.rxDoze b.val = false
      ∧ s.pwr.rxLeft.get b = 0 ∧ (s.takeLine b rx).1 = some bits ∧ (s.takeLine b rx).2.1 = none
      ∧ f = BitVec.ofNat 1280 (bits.toNat ^^^ (scrRun 1280 (s.link.rx.get b).scr.toNat).1) ∧ linkCrcOk f = true
      ∧ (hdrOf f).ftype = 1 ∧ (hdrOf f).ackKind ≠ 3 ∧ (hdrOf f).seq = (s.link.rx.get b).expected
      ∧ s.overrunVc b (legalSlots s.cls (hdrOf f) f).1 = none ∧ (s.shape 1 b).op = none ∧ s.still = true) :=
  ⟨⟨w_FrameReceiveCompletes_1.1, w_FrameReceiveCompletes_1.2.1, w_FrameReceiveCompletes_1.2.2.1, w_FrameReceiveCompletes_1.2.2.2.1, w_FrameReceiveCompletes_1.2.2.2.2, by decide +kernel⟩,
  ⟨w_FrameReceiveCompletes_2.1, w_FrameReceiveCompletes_2.2.1, w_FrameReceiveCompletes_2.2.2.1, w_FrameReceiveCompletes_2.2.2.2.1, w_FrameReceiveCompletes_2.2.2.2.2, by decide +kernel⟩⟩

def w_AcksComplete_1 : State × (Fin 8) × (BitVec 16) × (BitVec 8) :=
  let s : State := powered State.reset
  let b : Fin 8 := 2
  let k : BitVec 16 := 0x1004
  let x : BitVec 8 := 0xF1
  let s : State := idleBraid b (calm { s with link.retrainCmds := [] })
  let s : State := (s.modTx b fun t => { t with oldest := 0x1002, next := 0x1008, ackIn := [(1, k, x)], held := [⟨0x1002, 1, 0, 0, 0, false, false, none, 0, 3⟩, ⟨0x1006, 1, 0, 0, 0, false, false, none, 0, 3⟩] }).modShape 0 b fun h => { h with op := none }
  (s, b, k, x)

def w_AcksComplete_2 : State × (Fin 8) :=
  let s := State.reset
  let b : Fin 8 := 2
  let s : State := hush ((s.modShape 1 b fun h => { h with trained := true }).modTx b fun t => { t with ladder := .up })
  let s : State := s.modRx b fun r => { r with nakWait := true }
  (s, b)

def w_AcksComplete_3 : State × (Fin 8) :=
  let s := State.reset
  let b : Fin 8 := 2
  let s : State := hush (s.modTx b fun t => { t with ladder := .up })
  let s : State := s.modRx b fun r => { r with timer := true, due := .none }
  (s, b)

def w_AcksComplete_4 : State × (Fin 8) :=
  let s := State.reset
  let b : Fin 8 := 2
  let s : State := hush (s.modTx b fun t => { t with ladder := .up, replay := none, held := [⟨0x1002, 1, 0, 0, 0, false, false, none, 0, 3⟩, ⟨0x1006, 1, 0, 0, 0, false, false, none, 3, 3⟩] })
  (s, b)

def w_AcksComplete_5 : State × (Fin 8) :=
  let s := State.reset
  let b : Fin 8 := 2
  let s : State := hush (s.modTx b fun t => { t with ladder := .up })
  (s, b)

/-- States and operands that meet the premises of AcksComplete. -/
theorem premises_AcksComplete :
    (∃ (s : State) (b : Fin 8) (k : BitVec 16) (x : BitVec 8), s.clocked = true ∧ (s.link.tx.get b).ackIn = [(1, k, x)]
      ∧ ackWhere (s.link.tx.get b) k = .inside ∧ (s.shape 0 b).op = none ∧ s.braidIdle b ∧ s.link.retrainCmds = []
      ∧ s.still = true)
  ∧ (∃ (s : State) (b : Fin 8), s.quiet ∧ (s.link.rx.get b).nakWait = true ∧ (s.shape 1 b).trained = true
      ∧ (s.link.tx.get b).ladder = .up)
  ∧ (∃ (s : State) (b : Fin 8), s.quiet ∧ (s.link.rx.get b).timer = true ∧ (s.link.rx.get b).due = .none
      ∧ (s.link.tx.get b).ladder = .up)
  ∧ (∃ (s : State) (b : Fin 8), s.quiet ∧ (s.link.tx.get b).ladder = .up ∧ (s.link.tx.get b).held ≠ []
      ∧ (∀ h ∈ (s.link.tx.get b).held, h.resends < 4))
  ∧ (∃ (s : State) (b : Fin 8), s.quiet ∧ (s.link.tx.get b).ladder = .up) :=
  ⟨⟨w_AcksComplete_1.1, w_AcksComplete_1.2.1, w_AcksComplete_1.2.2.1, w_AcksComplete_1.2.2.2, by decide +kernel⟩,
  ⟨w_AcksComplete_2.1, w_AcksComplete_2.2, by decide +kernel⟩,
  ⟨w_AcksComplete_3.1, w_AcksComplete_3.2, by decide +kernel⟩,
  ⟨w_AcksComplete_4.1, w_AcksComplete_4.2, by decide +kernel⟩,
  ⟨w_AcksComplete_5.1, w_AcksComplete_5.2, by decide +kernel⟩⟩

def w_SendCompletes_1 : State × (Fin 8) × RxFlit :=
  let s : State := powered State.reset
  let b : Fin 8 := 2
  let x : RxFlit := ⟨mkFlit 2 3 1 2 5 6 0 9 false 77, 0x1001, 4, 3, false, false⟩
  let s : State := calm { s with noc.redSent := [], start.opened := false }
  let s : State := s.modRx b fun r => { r with buf := [x] }
  (s, b, x)

def w_SendCompletes_2 : State × (Fin 8) × (BitVec 4) :=
  let s := State.reset
  let b : Fin 8 := 2
  let c : BitVec 4 := 3
  let s : State := hush { powered s with start.reqHeld := false, bight.serving := 0, bight.looped := 0, bight.ready := 0, pwr.burstLeft := Oct.all 0, pwr.dozing := 4 }
  let s : State := (s.modShape 0 b fun h => { h with retired := false }).modTx b fun t => { t with training := { t.training with phase := .trained } }
  (s, b, c)

def w_SendCompletes_3 : State × (Fin 8) × (BitVec 4) :=
  let s := State.reset
  let b : Fin 8 := 2
  let c : BitVec 4 := 3
  let s : State := hush { powered s with start.reqHeld := false, bight.serving := 0, bight.looped := 0, bight.ready := 0, pwr.burstLeft := Oct.all 0, pwr.dozing := 0 }
  let s : State := (s.modShape 0 b fun h => { h with retired := false }).modTx b fun t => { t with ladder := .retraining, training := { t.training with phase := .trained } }
  (s, b, c)

def w_SendCompletes_4 : State × (Fin 8) × (Fin 8) :=
  let s := State.reset
  let b : Fin 8 := 2
  let v : Fin 8 := 2
  let s : State := hush { s with noc.egHeld := s.noc.egHeld.put v 0, noc.egStalled := 0 }
  let s : State := s.modRx b fun r => { r with buf := ⟨mkFlit 2 3 1 2 5 6 0 9 false 77, 0x1001, 4, 3, true, false⟩ :: r.buf }
  (s, b, v)

def w_SendCompletes_5 : State × (BitVec 8) :=
  let s := State.reset
  let i : BitVec 8 := 45
  let s : State := calm { s with noc.live := 0xFF, noc.bightOut := 0, noc.buckets := [(45, ⟨5, 6, true, 0, none⟩)], noc.pool := Oct.all [] }
  let s : State := s.modTx 5 fun t => { t with held := [], ladder := .up, shape := { t.shape with retired := false } }
  (s, i)

def w_SendCompletes_6 : State × (Fin 8) × (Fin 8) :=
  let s := State.reset
  let b : Fin 8 := 2
  let v : Fin 8 := 2
  let s : State := hush (s.modTx b fun t => { t with ladder := .retraining, farXon := 0, stalled := 0 })
  let s : State := { s with noc.pool := s.noc.pool.put v [⟨mkFlit 2 3 1 2 5 6 0 9 false 77, some b, 4, 5, false, false⟩] }
  (s, b, v)

/-- States and operands that meet the premises of SendCompletes. -/
theorem premises_SendCompletes :
    (∃ (s : State) (b : Fin 8) (x : RxFlit), s.clocked = true ∧ (s.link.rx.get b).buf = [x] ∧ x.eligible = false
      ∧ x.fenced = false ∧ s.engineTake true x.flit = none ∧ s.egressOpen = false ∧ s.noc.redSent = [] ∧ s.still = true)
  ∧ (∃ (s : State) (b : Fin 8) (c : BitVec 4), s.quiet ∧ s.clocked = true ∧ (s.link.tx.get b).shape.retired = false
      ∧ s.start.reqHeld = false ∧ s.bighted b = false ∧ (s.link.tx.get b).training.phase.running = false
      ∧ s.pwr.burstLeft.get b = 0 ∧ bit s.pwr.dozing b.val = true)
  ∧ (∃ (s : State) (b : Fin 8) (c : BitVec 4), s.quiet ∧ s.clocked = true ∧ (s.link.tx.get b).shape.retired = false
      ∧ s.start.reqHeld = false ∧ s.bighted b = false ∧ (s.link.tx.get b).training.phase = .trained
      ∧ s.pwr.burstLeft.get b = 0 ∧ bit s.pwr.dozing b.val = false ∧ (s.link.tx.get b).ladder = .retraining
      ∧ (s.link.tx.get b).replay = none ∧ s.ctlReady b = false)
  ∧ (∃ (s : State) (b : Fin 8) (v : Fin 8), s.quiet
      ∧ (s.link.rx.get b).buf.any (fun x => x.eligible && flitVc x.flit == v) = true ∧ s.noc.egHeld.get v = 0
      ∧ bit s.noc.egStalled v.val = false)
  ∧ (∃ (s : State) (i : BitVec 8), (s.bucket i.toNat).moving = true ∧ s.inService (s.bucket i.toNat).braid = true
      ∧ s.quiescent i.toNat = true ∧ s.still = true)
  ∧ (∃ (s : State) (b : Fin 8) (v : Fin 8), s.quiet ∧ (s.srcTurn b v).isSome = true
      ∧ bit (s.link.tx.get b).farXon v.val = false ∧ bit (s.link.tx.get b).stalled v.val = false) :=
  ⟨⟨w_SendCompletes_1.1, w_SendCompletes_1.2.1, w_SendCompletes_1.2.2, by decide +kernel⟩,
  ⟨w_SendCompletes_2.1, w_SendCompletes_2.2.1, w_SendCompletes_2.2.2, by decide +kernel⟩,
  ⟨w_SendCompletes_3.1, w_SendCompletes_3.2.1, w_SendCompletes_3.2.2, by decide +kernel⟩,
  ⟨w_SendCompletes_4.1, w_SendCompletes_4.2.1, w_SendCompletes_4.2.2, by decide +kernel⟩,
  ⟨w_SendCompletes_5.1, w_SendCompletes_5.2, by decide +kernel⟩,
  ⟨w_SendCompletes_6.1, w_SendCompletes_6.2.1, w_SendCompletes_6.2.2, by decide +kernel⟩⟩

def w_LadderCompletes_1 : State × (Fin 8) :=
  let s := State.reset
  let b : Fin 8 := 2
  let s : State := ofCls .fib (inSt .openSt { s with link.retraining := false, bight.serving := 0, bight.looped := 0, bight.ready := 0 })
  let s : State := ((s.modShape 1 b fun h => { h with trained := true }).modShape 0 b fun h => { h with retired := false }).modTx b fun t => { t with ladder := .up, retrainAt := none }
  let s : State := s.modRx b fun r => { r with uncorr := 16 }
  (s, b)

def w_LadderCompletes_2 : State × (Fin 8) :=
  let s := State.reset
  let b : Fin 8 := 2
  let s : State := inSt .openSt { s with link.retraining := false, start.txb := s.start.txb.upd b fun x => { x with ok := false }, start.rxb := s.start.rxb.upd b fun x => { x with ok := false } }
  let s : State := (((s.modShape 1 b fun h => { h with retired := false }).modShape 0 b fun h => { h with retired := false }).modTx b fun t => { t with ladder := .retraining, lastFail := none }).modRx b fun r => { r with lastFail := none }
  (s, b)

def w_LadderCompletes_3 : State × (Fin 8) × NocFlit :=
  let s := State.reset
  let b : Fin 8 := 3
  let p : NocFlit := pack 576 [(0, 3, 2), (8, 16, 0x1234)]
  let s : State := withCtl b 1 p (calm s)
  let s : State := s.modTx 2 fun t => { t with ladder := .retired, finalGot := false, held := [], ctl := [] }
  (s, b, p)

def w_LadderCompletes_4 : State × (Fin 8) :=
  let s := State.reset
  let b : Fin 8 := 2
  let s : State := inSt .openSt { s with link.retraining := false, noc.buckets := [(45, ⟨2, 6, true, 0, none⟩)] }
  let s : State := s.modTx 2 fun t => { t with ladder := .retired, finalGot := false }
  (s, b)

def w_LadderCompletes_5 : State :=
  let s := State.reset
  let s : State := { s with link.retraining := true, start.failed := true, link.retrainCmds := [] }
  s

def w_LadderCompletes_6 : State × (Fin 8) :=
  let s := State.reset
  let b : Fin 8 := 2
  let s : State := ofCls .sb (idleBraid b (opened { s with link.retraining := false, link.retrainCmds := [], link.llCtl := 0, pwr.targetWidth := 0, start.taken := [(trKey 1 b.val, 5)], start.txb := s.start.txb.upd b fun x => { x with ok := true, doneGot := true }, start.rxb := s.start.rxb.upd b fun x => { x with ok := true, doneSent := true } }))
  let s : State := ((s.modShape 1 b fun h => { h with retired := false }).modShape 0 b fun h => { h with retired := false, op := none }).modTx b fun t => { t with ladder := .retraining }
  let s : State := s.modShape 0 b fun h => { h with width := min s.cls.wmax (s.widest 0 b) }
  (s, b)

def w_LadderCompletes_7 : State :=
  let s := State.reset
  let s : State := ofCls .sb (hush (calm { powered s with start.st := .calibrate, start.failed := false, start.calSent := true, start.calGot := true, link.retraining := true, link.retrainCmds := [], pwr.targetWidth := 0, test.alone := false, start.txb := s.start.txb.map fun x => { x with ok := true, doneGot := true }, start.rxb := s.start.rxb.map fun x => { x with ok := true, doneSent := true }, cal.want := Oct.all [], cal.sweep := Oct.all [] }))
  let s : State := { s with link.tx := s.link.tx.map fun t => { t with shape := { t.shape with retired := false, queue := [], op := none } }, link.rx := s.link.rx.map fun t => { t with shape := { t.shape with retired := false } } }
  let s : State := { s with link.tx := Oct.ofFn fun b => { s.link.tx.get b with shape := { (s.link.tx.get b).shape with width := min s.cls.wmax (s.widest 0 b) } } }
  s

/-- States and operands that meet the premises of LadderCompletes. -/
theorem premises_LadderCompletes :
    (∃ (s : State) (b : Fin 8), s.cls = .fib ∧ (s.shape 1 b).trained = true ∧ s.bighted b = false ∧ s.start.st = .openSt
      ∧ (s.link.rx.get b).uncorr ≥ 16 ∧ s.link.retraining = false ∧ (s.link.tx.get b).ladder = .up
      ∧ (s.link.tx.get b).retrainAt = none ∧ (s.shape 0 b).retired = false)
  ∧ (∃ (s : State) (b : Fin 8), s.start.st = .openSt ∧ s.link.retraining = false ∧ (s.link.tx.get b).ladder = .retraining
      ∧ s.dirOk 0 b = false ∧ s.dirOk 1 b = false ∧ (s.shape 0 b).retired = false ∧ (s.shape 1 b).retired = false
      ∧ (s.link.tx.get b).lastFail = none ∧ (s.link.rx.get b).lastFail = none)
  ∧ (∃ (s : State) (b : Fin 8) (p : NocFlit), s.holds b 0x01 p ∧ (s.link.tx.get (oct (bf p 0 3))).ladder = .retired
      ∧ (s.link.tx.get (oct (bf p 0 3))).finalGot = false ∧ (s.link.tx.get (oct (bf p 0 3))).held = []
      ∧ (s.link.tx.get (oct (bf p 0 3))).ctl = [])
  ∧ (∃ (s : State) (b : Fin 8), s.start.st = .openSt ∧ (s.link.tx.get b).ladder = .retired
      ∧ (s.link.tx.get b).finalGot = false ∧ (∃ i, i < 256 ∧ (s.bucket i).braid = b) ∧ s.link.retraining = false)
  ∧ (∃ (s : State), s.link.retraining = true ∧ s.start.failed = true ∧ s.link.retrainCmds = [])
  ∧ (∃ (s : State) (b : Fin 8), s.retrainsOpen b = true ∧ s.dirOk 0 b = true ∧ s.dirOk 1 b = true
      ∧ (s.shape 0 b).retired = false ∧ (s.shape 1 b).retired = false ∧ s.link.retrainCmds = [] ∧ s.leads = false
      ∧ s.still = true ∧ s.braidIdle b
      ∧ s.headedWidth b = min (if s.pwr.targetWidth = 0 then s.cls.wmax else s.pwr.targetWidth) (s.widest 0 b)
      ∧ s.minBraids ≤ s.surviving 0 ∧ s.minBraids ≤ s.surviving 1)
  ∧ (∃ (s : State), s.test.alone = false ∧ s.link.retraining = true ∧ s.start.failed = false ∧ s.start.st = .calibrate
      ∧ s.start.calSent = true ∧ s.start.calGot = true ∧ s.link.retrainCmds = [] ∧ s.leads = false ∧ s.still = true
      ∧ (∀ b, s.dirOk 0 b = true ∧ s.dirOk 1 b = true ∧ (s.shape 0 b).retired = false ∧ (s.shape 1 b).retired = false
      ∧ s.braidIdle b
      ∧ s.headedWidth b = min (if s.pwr.targetWidth = 0 then s.cls.wmax else s.pwr.targetWidth) (s.widest 0 b))) :=
  ⟨⟨w_LadderCompletes_1.1, w_LadderCompletes_1.2, by decide +kernel⟩,
  ⟨w_LadderCompletes_2.1, w_LadderCompletes_2.2, by decide +kernel⟩,
  ⟨w_LadderCompletes_3.1, w_LadderCompletes_3.2.1, w_LadderCompletes_3.2.2, by decide +kernel⟩,
  ⟨w_LadderCompletes_4.1, w_LadderCompletes_4.2, by decide +kernel⟩,
  ⟨w_LadderCompletes_5, by decide +kernel⟩,
  ⟨w_LadderCompletes_6.1, w_LadderCompletes_6.2, by decide +kernel⟩,
  ⟨w_LadderCompletes_7, by decide +kernel⟩⟩

def w_CreditsComplete_1 : State × NocFlit × Bool :=
  let s := State.reset
  let f : NocFlit := mkFlit 2 3 1 2 5 6 0 9 false 77
  let a : Bool := true
  let s : State := calm (ofCls .sc { s with noc.returned := true, noc.inHeld := s.noc.inHeld.put 2 9 })
  (s, f, a)

def w_CreditsComplete_2 : State × NocFlit × Bool :=
  let s := State.reset
  let f : NocFlit := mkFlit 2 3 1 2 5 6 0 9 false 77
  let a : Bool := true
  let s : State := ofCls .sc { s with noc.returned := false }
  (s, f, a)

def w_CreditsComplete_3 : State × (Fin 8) × (BitVec 5) :=
  let s := State.reset
  let v : Fin 8 := 2
  let n : BitVec 5 := 5
  let s : State := calm { s with straps.optical := false, noc.initDone := true, noc.egHeld := s.noc.egHeld.put v 7, noc.redSent := [], noc.qRing := [], noc.qRed := [], noc.qHitch := [], noc.qErr := [], link.rx := s.link.rx.map fun r => { r with buf := [] } }
  (s, v, n)

def w_CreditsComplete_4 : State :=
  let s := State.reset
  let s : State := calm { s with straps.optical := false, noc.crdInit := true }
  s

def w_CreditsComplete_5 : State :=
  let s := State.reset
  let s : State := hush { s with straps.optical := false, noc.crdInit := true, noc.timeoutRaised := false }
  s

def w_CreditsComplete_6 : State :=
  let s := State.reset
  let s : State := hush { s with straps.optical := false, noc.crdInit := true, noc.timeoutRaised := true }
  s

/-- States and operands that meet the premises of CreditsComplete. -/
theorem premises_CreditsComplete :
    (∃ (s : State) (f : NocFlit) (a : Bool), s.isOptical = false ∧ s.noc.returned = true ∧ s.cls.carries (flitVc f) = true
      ∧ 0 < s.noc.inHeld.get (flitVc f) ∧ s.dieOk (flitDstDie f) a = true ∧ s.engineTake false f = none ∧ isFenced f = false
      ∧ s.still = true)
  ∧ (∃ (s : State) (f : NocFlit) (a : Bool), s.isOptical = false
      ∧ (s.noc.returned = false ∨ s.cls.carries (flitVc f) = false))
  ∧ (∃ (s : State) (v : Fin 8) (n : BitVec 5), s.isOptical = false ∧ s.noc.initDone = true ∧ n ≠ 0
      ∧ s.noc.egHeld.get v + n.toNat ≤ 511 ∧ s.still = true ∧ s.noc.redSent = [] ∧ s.noc.qRing = [] ∧ s.noc.qRed = []
      ∧ s.noc.qHitch = [] ∧ s.noc.qErr = [] ∧ (∀ b, (s.link.rx.get b).buf = []))
  ∧ (∃ (s : State), s.isOptical = false ∧ s.noc.crdInit = true ∧ s.still = true)
  ∧ (∃ (s : State), s.quiet ∧ s.isOptical = false ∧ s.noc.crdInit = true ∧ s.noc.timeoutRaised = false)
  ∧ (∃ (s : State), s.quiet ∧ s.isOptical = false ∧ s.noc.crdInit = true ∧ s.noc.timeoutRaised = true) :=
  ⟨⟨w_CreditsComplete_1.1, w_CreditsComplete_1.2.1, w_CreditsComplete_1.2.2, by decide +kernel⟩,
  ⟨w_CreditsComplete_2.1, w_CreditsComplete_2.2.1, w_CreditsComplete_2.2.2, by decide +kernel⟩,
  ⟨w_CreditsComplete_3.1, w_CreditsComplete_3.2.1, w_CreditsComplete_3.2.2, by decide +kernel⟩,
  ⟨w_CreditsComplete_4, by decide +kernel⟩,
  ⟨w_CreditsComplete_5, by decide +kernel⟩,
  ⟨w_CreditsComplete_6, by decide +kernel⟩⟩

def w_AuditsComplete_1 : State × (Fin 8) × Bool :=
  let s := State.reset
  let s : State := hush (ofCls .sc { s with noc.fcCtl := 0x215, start.opened := true, noc.initDone := true, noc.crdInit := false, noc.audit := none, noc.nextAudit := 3 })
  let v : Fin 8 := (s.cls.auditTurn 3).1
  let d : Bool := (s.cls.auditTurn 3).2
  (s, v, d)

def w_AuditsComplete_2 : State × (Fin 8) × Bool × (BitVec 9) :=
  let s := State.reset
  let v : Fin 8 := 2
  let d : Bool := true
  let n : BitVec 9 := 9
  let s : State := hush { s with straps.optical := false, noc.audit := some (v, d, 9) }
  (s, v, d, n)

def w_AuditsComplete_3 : State × (Fin 8) × (BitVec 9) × Nat :=
  let s := State.reset
  let v : Fin 8 := 2
  let n : BitVec 9 := 9
  let k : Nat := 12
  let s : State := hush { s with straps.optical := false, noc.audit := some (v, false, 12), noc.lostIn := s.noc.lostIn.put v 4 }
  (s, v, n, k)

def w_AuditsComplete_4 : State :=
  let s := State.reset
  let s : State := hush { s with straps.optical := false, noc.audit := some (2, false, 12) }
  s

def w_AuditsComplete_5 : State :=
  let s : State := hush { State.reset with straps.cls := .fib, straps.optical := true }
  s

def w_AuditsComplete_6 : State :=
  let s : State := hush { State.reset with straps.cls := .fib, straps.optical := true }
  s

def w_AuditsComplete_7 : State :=
  let s : State := hush { State.reset with straps.cls := .fib, straps.optical := true }
  s

def w_AuditsComplete_8 : State :=
  let s : State := hush { State.reset with straps.cls := .fib, straps.optical := true }
  s

def w_AuditsComplete_9 : State :=
  let s : State := hush { State.reset with straps.cls := .fib, straps.optical := true }
  s

def w_AuditsComplete_10 : State × (BitVec 9) :=
  let s : State := hush { State.reset with straps.cls := .fib, straps.optical := true }
  let n : BitVec 9 := 5
  (s, n)

def w_AuditsComplete_11 : State × (Fin 8) × (BitVec 5) :=
  let s : State := hush { State.reset with straps.cls := .fib, straps.optical := true }
  let v : Fin 8 := 2
  let n : BitVec 5 := 5
  (s, v, n)

def w_AuditsComplete_12 : State × NocFlit × Bool :=
  let s : State := hush { State.reset with straps.cls := .fib, straps.optical := true }
  let f : NocFlit := mkFlit 2 3 1 2 5 6 0 9 false 77
  let a : Bool := true
  (s, f, a)

/-- States and operands that meet the premises of AuditsComplete. -/
theorem premises_AuditsComplete :
    (∃ (s : State) (v : Fin 8) (d : Bool), s.quiet ∧ s.isOptical = false ∧ s.test.alone = false ∧ bit s.noc.fcCtl 0 = true
      ∧ s.start.opened = true ∧ s.noc.initDone = true ∧ s.noc.crdInit = false ∧ s.noc.audit = none
      ∧ s.cls.auditTurn s.noc.nextAudit = (v, d))
  ∧ (∃ (s : State) (v : Fin 8) (d : Bool) (n : BitVec 9), s.quiet ∧ s.isOptical = false ∧ s.noc.audit = some (v, d, n.toNat))
  ∧ (∃ (s : State) (v : Fin 8) (n : BitVec 9) (k : Nat), s.quiet ∧ s.isOptical = false ∧ s.noc.audit = some (v, false, k)
      ∧ n.toNat < k ∧ s.noc.lostIn.get v + (k - n.toNat) < 128)
  ∧ (∃ (s : State), s.quiet ∧ s.isOptical = false ∧ s.noc.audit.isSome = true)
  ∧ (∃ (s : State), s.quiet ∧ s.isOptical = true)
  ∧ (∃ (s : State), s.quiet ∧ s.isOptical = true)
  ∧ (∃ (s : State), s.quiet ∧ s.isOptical = true)
  ∧ (∃ (s : State), s.quiet ∧ s.isOptical = true)
  ∧ (∃ (s : State), s.quiet ∧ s.isOptical = true)
  ∧ (∃ (s : State) (n : BitVec 9), s.quiet ∧ s.isOptical = true)
  ∧ (∃ (s : State) (v : Fin 8) (n : BitVec 5), s.quiet ∧ s.isOptical = true)
  ∧ (∃ (s : State) (f : NocFlit) (a : Bool), s.quiet ∧ s.isOptical = true) :=
  ⟨⟨w_AuditsComplete_1.1, w_AuditsComplete_1.2.1, w_AuditsComplete_1.2.2, by decide +kernel⟩,
  ⟨w_AuditsComplete_2.1, w_AuditsComplete_2.2.1, w_AuditsComplete_2.2.2.1, w_AuditsComplete_2.2.2.2, by decide +kernel⟩,
  ⟨w_AuditsComplete_3.1, w_AuditsComplete_3.2.1, w_AuditsComplete_3.2.2.1, w_AuditsComplete_3.2.2.2, by decide +kernel⟩,
  ⟨w_AuditsComplete_4, by decide +kernel⟩,
  ⟨w_AuditsComplete_5, by decide +kernel⟩,
  ⟨w_AuditsComplete_6, by decide +kernel⟩,
  ⟨w_AuditsComplete_7, by decide +kernel⟩,
  ⟨w_AuditsComplete_8, by decide +kernel⟩,
  ⟨w_AuditsComplete_9, by decide +kernel⟩,
  ⟨w_AuditsComplete_10.1, w_AuditsComplete_10.2, by decide +kernel⟩,
  ⟨w_AuditsComplete_11.1, w_AuditsComplete_11.2.1, w_AuditsComplete_11.2.2, by decide +kernel⟩,
  ⟨w_AuditsComplete_12.1, w_AuditsComplete_12.2.1, w_AuditsComplete_12.2.2, by decide +kernel⟩⟩

def w_StartTimeoutsComplete_1 : State :=
  let s := State.reset
  let s : State := hush { s with start.failed := false, start.st := .calibrate }
  s

def w_StartTimeoutsComplete_2 : State :=
  let s := State.reset
  let s : State := hush { s with start.failed := false, start.st := .detect, test.alone := false, start.txb := s.start.txb.upd 3 fun x => { x with resultGot := false } }
  s

def w_StartTimeoutsComplete_3 : State :=
  let s := State.reset
  let s : State := hush { s with start.failed := false, start.st := .negotiate, aon.parkSpare := false }
  s

def w_StartTimeoutsComplete_4 : State :=
  let s := State.reset
  let s : State := hush { s with start.st := .sideband, start.notUpRaised := false }
  s

def w_StartTimeoutsComplete_5 : State × (Fin 8) × Bool :=
  let s := State.reset
  let b : Fin 8 := 2
  let k : Bool := true
  let s : State := (powered { s with start.st := .openSt, aon.exiting := false }).modTx b fun t => { t with training := { t.training with phase := .align } }
  (s, b, k)

def w_StartTimeoutsComplete_6 : State :=
  let s := State.reset
  let s : State := { s with start.st := .negotiate, aon.parkSpare := true, start.spare := true }
  s

/-- States and operands that meet the premises of StartTimeoutsComplete. -/
theorem premises_StartTimeoutsComplete :
    (∃ (s : State), s.quiet ∧ s.start.failed = false ∧ s.start.st = .calibrate)
  ∧ (∃ (s : State), s.quiet ∧ s.start.failed = false ∧ s.start.st = .detect ∧ s.test.alone = false
      ∧ (∃ b : Fin 8, (s.start.txb.get b).resultGot = false))
  ∧ (∃ (s : State), s.quiet ∧ s.start.failed = false ∧ s.start.st = .negotiate ∧ s.aon.parkSpare = false)
  ∧ (∃ (s : State), s.quiet ∧ s.start.st = .sideband ∧ s.start.notUpRaised = false)
  ∧ (∃ (s : State) (b : Fin 8) (k : Bool), (s.training b).phase = .align ∧ s.start.st ≠ .train ∧ s.aon.exiting = false
      ∧ s.start.failed = false)
  ∧ (∃ (s : State), s.start.st = .negotiate ∧ s.aon.parkSpare = true ∧ s.start.spare = true) :=
  ⟨⟨w_StartTimeoutsComplete_1, by decide +kernel⟩,
  ⟨w_StartTimeoutsComplete_2, by decide +kernel⟩,
  ⟨w_StartTimeoutsComplete_3, by decide +kernel⟩,
  ⟨w_StartTimeoutsComplete_4, by decide +kernel⟩,
  ⟨w_StartTimeoutsComplete_5.1, w_StartTimeoutsComplete_5.2.1, w_StartTimeoutsComplete_5.2.2, by decide +kernel⟩,
  ⟨w_StartTimeoutsComplete_6, by decide +kernel⟩⟩

def w_DetectCompletes_1 : State × SbFrame :=
  let s := State.reset
  let f : SbFrame := sbf 3 (tr 1 2 0 [])
  let s : State := ofCls .sc (inSt .detect (powered { s with start.taken := [] }))
  (s, f)

def w_DetectCompletes_2 : State × SbFrame :=
  let s := State.reset
  let f : SbFrame := sbf 3 (tr 1 2 1 [])
  let s : State := ofCls .sc (inSt .splice (powered { s with start.taken := [], start.rxb := s.start.rxb.upd 2 fun x => { x with attempt := 1 } }))
  (s, f)

def w_DetectCompletes_3 : State × List (Fin 8 × Nat × RxObs) × List (Fin 8 × Nat × TxObs) :=
  let rx : List (Fin 8 × Nat × RxObs) := []
  let tx : List (Fin 8 × Nat × TxObs) := []
  let s := State.reset
  let s : State := { s with start.st := .detect, start.failed := false, start.patterns := 0xFF }
  (s, rx, tx)

def w_DetectCompletes_4 : State × SbFrame :=
  let s := State.reset
  let f : SbFrame := sbf 3 (tr 2 2 0 [(11, 36, 0x3FFCFBFFF)])
  let s : State := ofCls .sc (inSt .detect (powered { s with start.taken := [] }))
  (s, f)

def w_DetectCompletes_5 : State × SbFrame :=
  let s := State.reset
  let f : SbFrame := sbf 3 (tr 3 2 0 [(11, 32, s.ownMapCrc 2)])
  let s : State := ofCls .sc (inSt .splice (powered { s with start.taken := [], start.opened := false }))
  let f : SbFrame := sbf 3 (tr 3 2 0 [(11, 32, s.ownMapCrc 2)])
  (s, f)

def w_DetectCompletes_6 : State × SbFrame :=
  let s := State.reset
  let f : SbFrame := sbf 3 (tr 3 2 0 [(11, 32, 7)])
  let s : State := ofCls .sc (inSt .splice (powered { s with start.taken := [], start.rxb := s.start.rxb.upd 2 fun x => { x with attempt := 0 } }))
  (s, f)

/-- States and operands that meet the premises of DetectCompletes. -/
theorem premises_DetectCompletes :
    (∃ (s : State) (f : SbFrame), s.takesTrain f 1 ∧ s.start.st = .detect ∧ trAttempt f.payload = 0)
  ∧ (∃ (s : State) (f : SbFrame), s.takesTrain f 1 ∧ s.start.st = .splice ∧ trAttempt f.payload = 1
      ∧ (s.start.rxb.get (trBraid f.payload)).attempt = 1)
  ∧ (∃ (s : State) (rx : List (Fin 8 × Nat × RxObs)) (tx : List (Fin 8 × Nat × TxObs)), s.start.st = .detect
      ∧ s.start.failed = false ∧ s.start.patterns ≠ 0)
  ∧ (∃ (s : State) (f : SbFrame), s.takesTrain f 2 ∧ s.start.st = .detect ∧ trAttempt f.payload = 0)
  ∧ (∃ (s : State) (f : SbFrame), s.takesTrain f 3 ∧ s.start.st = .splice ∧ s.start.opened = false
      ∧ s.ownMapCrc (trBraid f.payload) = bf f.payload 11 32)
  ∧ (∃ (s : State) (f : SbFrame), s.takesTrain f 3 ∧ s.start.st = .splice ∧ (s.start.rxb.get (trBraid f.payload)).attempt = 0
      ∧ s.ownMapCrc (trBraid f.payload) ≠ bf f.payload 11 32) :=
  ⟨⟨w_DetectCompletes_1.1, w_DetectCompletes_1.2, by decide +kernel⟩,
  ⟨w_DetectCompletes_2.1, w_DetectCompletes_2.2, by decide +kernel⟩,
  ⟨w_DetectCompletes_3.1, w_DetectCompletes_3.2.1, w_DetectCompletes_3.2.2, by decide +kernel⟩,
  ⟨w_DetectCompletes_4.1, w_DetectCompletes_4.2, by decide +kernel⟩,
  ⟨w_DetectCompletes_5.1, w_DetectCompletes_5.2, by decide +kernel⟩,
  ⟨w_DetectCompletes_6.1, w_DetectCompletes_6.2, by decide +kernel⟩⟩

def w_TrainingCompletes_1 : State × SbFrame :=
  let s := State.reset
  let f : SbFrame := sbf 3 (tr 4 0 0 [(11, 8, 0xFF)])
  let s : State := ofCls .sc (inSt .train (powered { s with start.taken := [], start.trainGoGot := false, start.trainGoSent := true, start.trainMaskSent := 0x0F }))
  (s, f)

def w_TrainingCompletes_2 : State × (Fin 8) × (BitVec 8) × List (Nat × Int) × List (List (Nat × Nat)) × Int :=
  let s := State.reset
  let b : Fin 8 := 2
  let x : BitVec 8 := 9
  let l : List (Nat × Int) := [(3, 100), (4, -200)]
  let d : Int := 512
  let w : List (List (Nat × Nat)) := []
  let s : State := (ofCls .sc (powered s)).modTx b fun t => { t with training := { t.training with phase := .lock } }
  let s : State := { (s.modStrand 1 b 3 fun y => { y with st := .active }) with start.st := .train }
  let d : Int := (deskewTarget s.cls ((l.filter fun y => (s.usable 1 b).contains y.1).map Prod.snd)).getD 0
  (s, b, x, l, w, d)

def w_TrainingCompletes_3 : State × (Fin 8) × LineRx × LinkFlit × (BitVec 4) :=
  let s := State.reset
  let b : Fin 8 := 2
  let k : BitVec 4 := 3
  let f : LinkFlit := BitVec.ofNat 1280 (0x206 + 0xc26c7c85 * 2 ^ 1248)
  let s : State := { powered s with link.tx := s.link.tx.map fun t => { t with training := { t.training with phase := .measure } } }
  let s : State := (s.modTx b fun t => { t with training := { t.training with phase := .align, good := (7) } }).modShape 1 b fun h => { h with map := [3, 1, 2, 0] }
  let rx : LineRx := onPads [3, 1, 2, 0] f
  (s, b, rx, f, k)

def w_TrainingCompletes_4 : State × (Fin 8) × LineRx × LinkFlit × (BitVec 4) :=
  let s := State.reset
  let b : Fin 8 := 2
  let k : BitVec 4 := 3
  let f : LinkFlit := BitVec.ofNat 1280 (0x206 + 0xc26c7c85 * 2 ^ 1248)
  let s : State := { powered s with aon.exiting := false, link.tx := s.link.tx.map fun t => { t with training := { t.training with phase := .measure } } }
  let s : State := (s.modTx b fun t => { t with training := { t.training with phase := .align, good := 15 } }).modShape 0 b fun h => { h with retired := false }
  let s : State := s.modShape 1 b fun h => { h with map := [3, 1, 2, 0] }
  let rx : LineRx := onPads [3, 1, 2, 0] f
  (s, b, rx, f, k)

def w_TrainingCompletes_5 : State × (Fin 8) × LineRx × LinkFlit × (BitVec 4) :=
  let s := State.reset
  let b : Fin 8 := 2
  let k : BitVec 4 := 3
  let f : LinkFlit := 0x600
  let s : State := ((powered s).modTx b fun t => { t with training := { t.training with phase := .align } }).modShape 1 b fun h => { h with map := [3, 1, 2, 0] }
  let rx : LineRx := onPads [3, 1, 2, 0] f
  (s, b, rx, f, k)

def w_TrainingCompletes_6 : State × (Fin 8) × (BitVec 4) :=
  let s := State.reset
  let b : Fin 8 := 2
  let k : BitVec 4 := 3
  let s : State := s.modTx b fun t => { t with training := { t.training with phase := .measure } }
  (s, b, k)

def w_TrainingCompletes_7 : State × SbFrame :=
  let s := State.reset
  let f : SbFrame := sbf 3 (tr 5 2 0 [(11, 1, 1)])
  let s : State := ofCls .sc (inSt .train (powered { s with start.taken := [] }))
  (s, f)

/-- States and operands that meet the premises of TrainingCompletes. -/
theorem premises_TrainingCompletes :
    (∃ (s : State) (f : SbFrame), s.takesTrain f 4 ∧ s.start.st = .train ∧ s.start.trainGoGot = false
      ∧ s.start.trainGoSent = true)
  ∧ (∃ (s : State) (b : Fin 8) (x : BitVec 8) (l : List (Nat × Int)) (w : List (List (Nat × Nat))) (d : Int), (s.training b).phase = .lock
      ∧ s.start.failed = false ∧ s.clocked = true ∧ (s.fibreHub = true → s.wordsLock b w = true)
      ∧ deskewTarget s.cls ((l.filter fun y => (s.usable 1 b).contains y.1).map Prod.snd) = some d)
  ∧ (∃ (s : State) (b : Fin 8) (rx : LineRx) (f : LinkFlit) (k : BitVec 4), (s.training b).phase = .align
      ∧ s.start.failed = false ∧ s.domainUp (.rxw b) = true ∧ (s.trainLine b rx).1 = some f ∧ linkCrcOk f = true
      ∧ bf f 0 4 = 6 ∧ bf f 4 4 = 0 ∧ bf f 8 3 = b.val ∧ (s.training b).good < 15
      ∧ (∀ c : Fin 8, (s.training c).phase ≠ .depth ∧ (s.training c).phase ≠ .done))
  ∧ (∃ (s : State) (b : Fin 8) (rx : LineRx) (f : LinkFlit) (k : BitVec 4), (s.training b).phase = .align
      ∧ s.start.failed = false ∧ s.domainUp (.rxw b) = true ∧ (s.trainLine b rx).1 = some f ∧ linkCrcOk f = true
      ∧ bf f 0 4 = 6 ∧ bf f 4 4 = 0 ∧ bf f 8 3 = b.val ∧ (s.training b).good = 15 ∧ (s.shape 0 b).retired = false
      ∧ s.aon.exiting = false ∧ (∀ c : Fin 8, (s.training c).phase ≠ .depth ∧ (s.training c).phase ≠ .done))
  ∧ (∃ (s : State) (b : Fin 8) (rx : LineRx) (f : LinkFlit) (k : BitVec 4), (s.training b).phase = .align
      ∧ s.start.failed = false ∧ s.domainUp (.rxw b) = true ∧ (s.trainLine b rx).1 = some f ∧ linkCrcOk f = false)
  ∧ (∃ (s : State) (b : Fin 8) (k : BitVec 4), (s.training b).phase = .measure ∧ s.start.failed = false)
  ∧ (∃ (s : State) (f : SbFrame), s.takesTrain f 5 ∧ bit f.payload 11 = true) :=
  ⟨⟨w_TrainingCompletes_1.1, w_TrainingCompletes_1.2, by decide +kernel⟩,
  ⟨w_TrainingCompletes_2.1, w_TrainingCompletes_2.2.1, w_TrainingCompletes_2.2.2.1, w_TrainingCompletes_2.2.2.2.1, w_TrainingCompletes_2.2.2.2.2.1, w_TrainingCompletes_2.2.2.2.2.2, by decide +kernel⟩,
  ⟨w_TrainingCompletes_3.1, w_TrainingCompletes_3.2.1, w_TrainingCompletes_3.2.2.1, w_TrainingCompletes_3.2.2.2.1, w_TrainingCompletes_3.2.2.2.2, by decide +kernel⟩,
  ⟨w_TrainingCompletes_4.1, w_TrainingCompletes_4.2.1, w_TrainingCompletes_4.2.2.1, w_TrainingCompletes_4.2.2.2.1, w_TrainingCompletes_4.2.2.2.2, by decide +kernel⟩,
  ⟨w_TrainingCompletes_5.1, w_TrainingCompletes_5.2.1, w_TrainingCompletes_5.2.2.1, w_TrainingCompletes_5.2.2.2.1, w_TrainingCompletes_5.2.2.2.2, by decide +kernel⟩,
  ⟨w_TrainingCompletes_6.1, w_TrainingCompletes_6.2.1, w_TrainingCompletes_6.2.2, by decide +kernel⟩,
  ⟨w_TrainingCompletes_7.1, w_TrainingCompletes_7.2, by decide +kernel⟩⟩

def w_LateStepsComplete_1 : State × Nat :=
  let s := State.reset
  let iref : Nat := 500
  let s : State := powered { s with start.st := .calibrate, start.failed := false, start.calSent := false, start.calGot := false }
  (s, iref)

def w_LateStepsComplete_2 : State × SbFrame :=
  let s := State.reset
  let f : SbFrame := sbf 3 (tr 6 0 0 [(11, 1, 1)])
  let s : State := ofCls .sc (inSt .calibrate (powered { s with start.taken := [], start.calSent := false }))
  (s, f)

def w_LateStepsComplete_3 : State :=
  let s := State.reset
  let s : State := inSt .discover (powered s)
  s

def w_LateStepsComplete_4 : State × SbFrame :=
  let s := State.reset
  let f : SbFrame := sbf 3 (tr 7 0 0 [(11, 3, 3), (14, 3, 3), (17, 4, 2), (21, 4, 2), (25, 3, 5)])
  let s : State := ofCls .sc (inSt .negotiate (powered { s with start.taken := [], aon.parkSpare := false, start.spare := false, clk.ratio := 40 }))
  (s, f)

def w_LateStepsComplete_5 : State × SbFrame :=
  let s := State.reset
  let f : SbFrame := sbf 3 (tr 7 0 0 [(11, 3, 2), (14, 3, 2), (17, 4, 2), (21, 4, 2), (25, 3, 5)])
  let s : State := hush (ofCls .sc (inSt .negotiate (powered { s with start.taken := [], start.negValid := false })))
  (s, f)

/-- States and operands that meet the premises of LateStepsComplete. -/
theorem premises_LateStepsComplete :
    (∃ (s : State) (iref : Nat), s.start.st = .calibrate ∧ s.start.failed = false ∧ s.start.calSent = false
      ∧ s.start.calGot = false)
  ∧ (∃ (s : State) (f : SbFrame), s.takesTrain f 6 ∧ bit f.payload 11 = true ∧ s.start.st = .calibrate
      ∧ s.start.calSent = false)
  ∧ (∃ (s : State), s.start.st = .discover ∧ s.start.failed = false)
  ∧ (∃ (s : State) (f : SbFrame), s.takesTrain f 7 ∧ s.start.st = .negotiate ∧ s.aon.parkSpare = false ∧ s.start.spare = false
      ∧ 3 ≤ bf f.payload 11 3 ∧ bf f.payload 14 3 ≤ 3
      ∧ topRate ((BitVec.ofNat 4 (bf f.payload 21 4)) &&& s.straps.ownRates).toNat = s.trainedRate)
  ∧ (∃ (s : State) (f : SbFrame), s.quiet ∧ s.takesTrain f 7 ∧ s.start.st = .negotiate ∧ s.start.negValid = false
      ∧ bf f.payload 11 3 < 3) :=
  ⟨⟨w_LateStepsComplete_1.1, w_LateStepsComplete_1.2, by decide +kernel⟩,
  ⟨w_LateStepsComplete_2.1, w_LateStepsComplete_2.2, by decide +kernel⟩,
  ⟨w_LateStepsComplete_3, by decide +kernel⟩,
  ⟨w_LateStepsComplete_4.1, w_LateStepsComplete_4.2, by decide +kernel⟩,
  ⟨w_LateStepsComplete_5.1, w_LateStepsComplete_5.2, by decide +kernel⟩⟩

def w_DiscoveryCompletes_1 : State × SbFrame :=
  let s := State.reset
  let f : SbFrame := sbf 1 0x1234567
  let s : State := ofCls .sc (inSt .discover (powered s))
  (s, f)

def w_DiscoveryCompletes_2 : State × SbFrame × Nat :=
  let s := State.reset
  let n : Nat := 12
  let f : SbFrame := { sbf 1 0x1234567 with proxy := true, destDie := 0, destPort := 0x9F, srcDie := 2, srcPort := 0x45 }
  let s : State := ofCls .lh (inSt .openSt (powered { s with agent.closed := false, agent.revokedUids := [], agent.sites := [] }))
  (s, f, n)

def w_DiscoveryCompletes_3 : State :=
  let s := State.reset
  let s : State := ofCls .lh { s with agent.closed := false }
  s

def w_DiscoveryCompletes_4 : State × SbFrame :=
  let s := State.reset
  let s : State := ofCls .sc (inSt .negotiate (powered s))
  let f : SbFrame := sbf 2 (pack 64 [(0, 8, 0x25), (8, 1, (0)), (16, 48, s.straps.uid.toNat)])
  (s, f)

def w_DiscoveryCompletes_5 : State × SbFrame :=
  let s := State.reset
  let s : State := ofCls .sc (inSt .negotiate (powered s))
  let f : SbFrame := sbf 2 (pack 64 [(0, 8, 0x25), (9, 1, 1), (16, 48, s.straps.uid.toNat)])
  (s, f)

def w_DiscoveryCompletes_6 : State × SbFrame :=
  let s := State.reset
  let s : State := ofCls .sb (inSt .openSt (powered s))
  let f : SbFrame := { sbf 2 (pack 64 [(0, 8, 0x25), (9, 1, 1), (16, 48, s.start.farUid.toNat)]) with destDie := s.sbDie, destPort := s.portCode }
  let s : State := { s with sb.ringBuf := [f] }
  (s, f)

def w_DiscoveryCompletes_7 : State × DieId :=
  let s := State.reset
  let d : DieId := 0x30
  let s : State := hush (ofCls .sb { s with start.failed := true })
  let s : State := s.modSite (7 * s.tile + s.index) fun x => { x with state := 1, opened := true }
  (s, d)

def w_DiscoveryCompletes_8 : State × SiteRead × DieId :=
  let s := State.reset
  let r : SiteRead := ⟨12, 5, true, false, 0, 3, 0, 0⟩
  let d : DieId := 0x30
  let s : State := ofCls .lh { s with agent.closed := false }
  (s, r, d)

/-- States and operands that meet the premises of DiscoveryCompletes. -/
theorem premises_DiscoveryCompletes :
    (∃ (s : State) (f : SbFrame), f.typ = 1 ∧ s.agentHere = false ∧ (s.hear f).1 = true ∧ isLocal f = true
      ∧ s.cls.isFibre = false)
  ∧ (∃ (s : State) (f : SbFrame) (n : Nat), f.typ = 1 ∧ s.agentHere = true ∧ f.proxy = true ∧ f.destDie = 0
      ∧ f.destPort = 0x9F ∧ siteOfFrame f = some n ∧ s.agent.closed = false ∧ s.agent.revokedUids = []
      ∧ (∀ m : Nat, m < 58 → m ≠ n → (s.site m).uid ≠ some f.payload) ∧ (∃ m : Nat, m < 56 ∧ m ≠ n ∧ (s.site m).uid = none
      ∧ (s.site m).state ≠ 3))
  ∧ (∃ (s : State), s.agentHere = true ∧ s.agent.closed = false)
  ∧ (∃ (s : State) (f : SbFrame), f.typ = 2 ∧ isLocal f = true ∧ (s.receive f).1 = true ∧ s.cls = .sc
      ∧ bf f.payload 16 48 = s.straps.uid.toNat % 2 ^ 48 ∧ bit f.payload 9 = false)
  ∧ (∃ (s : State) (f : SbFrame), s.start.failed = false ∧ f.typ = 2 ∧ isLocal f = true ∧ (s.receive f).1 = true ∧ s.cls = .sc
      ∧ bf f.payload 16 48 = s.straps.uid.toNat % 2 ^ 48 ∧ bit f.payload 9 = true)
  ∧ (∃ (s : State) (f : SbFrame), f.typ = 2 ∧ f.proxy = false ∧ isLocal f = false ∧ s.addressed f = true
      ∧ s.sb.ringBuf.contains f = true ∧ s.cls = .sb ∧ bf f.payload 16 48 = s.start.farUid.toNat % 2 ^ 48
      ∧ bit f.payload 9 = true ∧ bit f.payload 8 = false)
  ∧ (∃ (s : State) (d : DieId), s.quiet ∧ s.cls = .sb ∧ s.isOptical = false ∧ (s.site (7 * s.tile + s.index)).state = 1
      ∧ (s.site (7 * s.tile + s.index)).opened = true ∧ s.start.failed = true)
  ∧ (∃ (s : State) (r : SiteRead) (d : DieId), s.agentHere = true ∧ s.agent.closed = false ∧ r.failed = true) :=
  ⟨⟨w_DiscoveryCompletes_1.1, w_DiscoveryCompletes_1.2, by decide +kernel⟩,
  ⟨w_DiscoveryCompletes_2.1, w_DiscoveryCompletes_2.2.1, w_DiscoveryCompletes_2.2.2, by decide +kernel⟩,
  ⟨w_DiscoveryCompletes_3, by decide +kernel⟩,
  ⟨w_DiscoveryCompletes_4.1, w_DiscoveryCompletes_4.2, by decide +kernel⟩,
  ⟨w_DiscoveryCompletes_5.1, w_DiscoveryCompletes_5.2, by decide +kernel⟩,
  ⟨w_DiscoveryCompletes_6.1, w_DiscoveryCompletes_6.2, by decide +kernel⟩,
  ⟨w_DiscoveryCompletes_7.1, w_DiscoveryCompletes_7.2, by decide +kernel⟩,
  ⟨w_DiscoveryCompletes_8.1, w_DiscoveryCompletes_8.2.1, w_DiscoveryCompletes_8.2.2, by decide +kernel⟩⟩

def w_CapsComplete_1 : State × NocFlit :=
  let s := State.reset
  let f : NocFlit := mkFlit 6 0 0 3 1 5 0x3C 0 false (packNat [(0, 16, (300)), (16, 3, [0, 2, 3, 4].getD (1) 0), (19, 6, (8)), (25, 1, 1), (32, 16, 9)])
  let s : State := calm (ofCls .sb { s with noc.taken := (false, f) :: s.noc.taken })
  (s, f)

def w_CapsComplete_2 : State × NocFlit :=
  let s := State.reset
  let f : NocFlit := mkFlit 6 0 0 3 1 5 0x3C 0 false (packNat [(0, 16, 300), (16, 3, 1)])
  let s : State := { s with noc.taken := (false, f) :: s.noc.taken }
  (s, f)

def w_CapsComplete_3 : State × NocFlit :=
  let s := State.reset
  let f : NocFlit := mkFlit 6 0 0 3 1 5 0x3D 0 false (packNat [(0, 9, (25)), (9, 1, 1), (16, 16, 9)])
  let s : State := calm (ofCls .sb { s with noc.taken := (false, f) :: s.noc.taken, pwr.ctl := 0x05CC8032 })
  (s, f)

def w_CapsComplete_4 : State × (Fin 8) × NocFlit × PwrState :=
  let s := State.reset
  let b : Fin 8 := 2
  let p : NocFlit := pack 576 [(0, 3, 3), (3, 6, 8), (9, 16, 77)]
  let st : PwrState := .park
  let s : State := withCtl b 0x30 p (calm (ofCls .sb { s with pwr.capTaken := none }))
  (s, b, p, st)

def w_CapsComplete_5 : State × (Fin 8) × NocFlit × PwrState :=
  let s := State.reset
  let b : Fin 8 := 2
  let p : NocFlit := pack 576 [(0, 3, 0), (3, 6, 8), (9, 16, 77)]
  let st : PwrState := .active
  let s : State := withCtl b 0x31 p (calm (ofCls .sb { s with pwr.goTaken := none, pwr.targetWidth := 8 }))
  (s, b, p, st)

def w_CapsComplete_6 : State × (Fin 8) × NocFlit :=
  let s := State.reset
  let b : Fin 8 := 2
  let p : NocFlit := pack 576 [(0, 3, 3), (3, 6, 8), (9, 16, 77)]
  let s : State := withCtl b 0x31 p (calm (ofCls .sb { s with pwr.goTaken := none }))
  (s, b, p)

/-- States and operands that meet the premises of CapsComplete. -/
theorem premises_CapsComplete :
    (∃ (s : State) (f : NocFlit), s.isTaken false f = true ∧ flitVc f = 6 ∧ flitType f = 0x3C ∧ s.pmSource f = true
      ∧ payBits f 26 6 = 0 ∧ payBits f 48 464 = 0 ∧ payBits f 16 3 ≠ 1 ∧ payBits f 16 3 ≤ 4 ∧ payBits f 25 1 = 1
      ∧ s.still = true ∧ s.leads = false)
  ∧ (∃ (s : State) (f : NocFlit), s.isTaken false f = true ∧ flitVc f = 6 ∧ flitType f = 0x3C ∧ payBits f 16 3 = 1)
  ∧ (∃ (s : State) (f : NocFlit), s.isTaken false f = true ∧ flitVc f = 6 ∧ flitType f = 0x3D ∧ s.pmSource f = true
      ∧ payBits f 10 6 = 0 ∧ payBits f 32 480 = 0 ∧ payBits f 0 9 ≤ 256 ∧ payBits f 9 1 = 1 ∧ bit s.pwr.ctl 22 = true
      ∧ s.still = true ∧ s.leads = false)
  ∧ (∃ (s : State) (b : Fin 8) (p : NocFlit) (st : PwrState), s.holds b 0x30 p ∧ pwrOf (bf p 0 3) = some st
      ∧ s.pwr.capTaken = none ∧ s.leads = false)
  ∧ (∃ (s : State) (b : Fin 8) (p : NocFlit) (st : PwrState), s.holds b 0x31 p ∧ pwrOf (bf p 0 3) = some st
      ∧ s.pwr.goTaken = none ∧ s.leads = false ∧ s.pwr.target = st ∧ s.pwr.targetWidth = bf p 3 6)
  ∧ (∃ (s : State) (b : Fin 8) (p : NocFlit), s.holds b 0x31 p ∧ pwrOf (bf p 0 3) = some .park ∧ s.pwr.goTaken = none
      ∧ s.leads = false ∧ s.pwr.target = .active) :=
  ⟨⟨w_CapsComplete_1.1, w_CapsComplete_1.2, by decide +kernel⟩,
  ⟨w_CapsComplete_2.1, w_CapsComplete_2.2, by decide +kernel⟩,
  ⟨w_CapsComplete_3.1, w_CapsComplete_3.2, by decide +kernel⟩,
  ⟨w_CapsComplete_4.1, w_CapsComplete_4.2.1, w_CapsComplete_4.2.2.1, w_CapsComplete_4.2.2.2, by decide +kernel⟩,
  ⟨w_CapsComplete_5.1, w_CapsComplete_5.2.1, w_CapsComplete_5.2.2.1, w_CapsComplete_5.2.2.2, by decide +kernel⟩,
  ⟨w_CapsComplete_6.1, w_CapsComplete_6.2.1, w_CapsComplete_6.2.2, by decide +kernel⟩⟩

def w_DozeCompletes_1 : State × (Fin 8) × (Fin 8) × NocFlit :=
  let s := State.reset
  let b : Fin 8 := 2
  let c : Fin 8 := 5
  let p : NocFlit := 0
  let s : State := withCtl b 0x32 p { calm s with pwr.target := .doze, aon.pwr := .active }
  let s : State := s.modShape 0 c fun h => { h with retired := false }
  let s : State := { s with pwr.dzAcked := 0 }
  (s, b, c, p)

def w_DozeCompletes_2 : State :=
  let s := State.reset
  let s : State := hush (calm { s with pwr.rxDoze := 5 })
  s

def w_DozeCompletes_3 : State :=
  let s := State.reset
  let s : State := { calm s with pwr.ctl := 0x05CC8032, pwr.target := .doze, aon.pwr := .doze, pwr.dozing := (4) + 1, ht.linkQ := [0] }
  s

def w_DozeCompletes_4 : State :=
  let s := State.reset
  let s : State := hush (calm { s with pwr.ctrlAwake := true })
  s

/-- States and operands that meet the premises of DozeCompletes. -/
theorem premises_DozeCompletes :
    (∃ (s : State) (b : Fin 8) (c : Fin 8) (p : NocFlit), s.ctlWaits b 0x32 p = true ∧ s.pwr.target = .doze
      ∧ s.aon.pwr = .active ∧ s.pwr.draining = .none ∧ s.pwr.flushes = [] ∧ s.pwr.sinking = false ∧ s.lash.switching = false
      ∧ (s.shape 0 c).retired = false ∧ bit s.pwr.dozing c.val = false ∧ bit s.pwr.dzAcked c.val = false)
  ∧ (∃ (s : State), s.quiet ∧ s.still = true ∧ s.pwr.rxDoze ≠ 0)
  ∧ (∃ (s : State), bit s.pwr.ctl 23 = true ∧ s.pwr.target = .doze ∧ s.aon.pwr = .doze ∧ s.ctrlWaiting = true
      ∧ s.pwr.draining = .none ∧ s.pwr.dozing ≠ 0)
  ∧ (∃ (s : State), s.pwr.ctrlAwake = true ∧ s.still = true ∧ s.quiet) :=
  ⟨⟨w_DozeCompletes_1.1, w_DozeCompletes_1.2.1, w_DozeCompletes_1.2.2.1, w_DozeCompletes_1.2.2.2, by decide +kernel⟩,
  ⟨w_DozeCompletes_2, by decide +kernel⟩,
  ⟨w_DozeCompletes_3, by decide +kernel⟩,
  ⟨w_DozeCompletes_4, by decide +kernel⟩⟩

def w_ParkCompletes_1 : State × (Fin 8) × NocFlit :=
  let s := State.reset
  let b : Fin 8 := 2
  let p : NocFlit := 0
  let s : State := withCtl b 0x33 p (calm s)
  (s, b, p)

def w_ParkCompletes_2 : State :=
  let s := State.reset
  let s : State := hush { calm s with pwr.draining := .park, pwr.limits := 0, rings.ring := [], aon.pwr := .active, pwr.pkSent := 0, ht.linkQ := [5] }
  s

def w_ParkCompletes_3 : State :=
  let s := State.reset
  let s : State := ofCls .sb { calm s with pwr.draining := .park, pwr.limits := 1, pwr.target := .park, pwr.nearCap := .park, aon.pwr := .active, pwr.pkSent := 0, ht.linkQ := [5] }
  s

def w_ParkCompletes_4 : State :=
  let s := State.reset
  let s : State := { s with start.st := .park, aon.pwr := .park, aon.exiting := false }
  s

def w_ParkCompletes_5 : State :=
  let s := State.reset
  let s : State := { s with start.st := .park, aon.pwr := .park, aon.exiting := false, aon.parkDur := some 7 }
  s

def w_ParkCompletes_6 : State :=
  let s := State.reset
  let s : State := hush { s with start.st := .park, aon.pwr := .park, aon.exiting := false, pwr.nearCap := .active }
  s

def w_ParkCompletes_7 : State :=
  let s := State.reset
  let s : State := hush { s with start.st := .park, aon.pwr := .park, aon.exiting := false, pwr.nearCap := .park }
  s

def w_ParkCompletes_8 : State :=
  let s := State.reset
  let s : State := hush { powered s with aon.exiting := true, pwr.wakeDrive := true }
  s

def w_ParkCompletes_9 : State :=
  let s := State.reset
  let s : State := { powered s with start.st := .park, aon.exiting := true, aon.parkSpare := true, link.tx := s.link.tx.map fun t => { t with training := { t.training with phase := .trained } } }
  s

def w_ParkCompletes_10 : State × Nat × List NocFlit :=
  let s := State.reset
  let case : Nat := 2
  let l : List NocFlit := [mkFlit 5 3 1 2 5 6 0 9 false 77, mkFlit 7 3 1 2 5 6 0 9 false 77]
  let s : State := hush (calm { s with pwr.belays := (2, 5) :: s.pwr.belays, noc.pool := Oct.all [], ten.linkQ := [], red.linkQ := [], ht.linkQ := l, start.failed := false, start.st := .openSt })
  (s, case, l)

def w_ParkCompletes_11 : State :=
  let s := State.reset
  let s : State := hush (inSt .openSt (powered s))
  s

/-- States and operands that meet the premises of ParkCompletes. -/
theorem premises_ParkCompletes :
    (∃ (s : State) (b : Fin 8) (p : NocFlit), s.holds b 0x33 p)
  ∧ (∃ (s : State), s.quiet ∧ s.pwr.draining = .park ∧ s.pwr.limits = 0 ∧ s.runningDescs = []
      ∧ { s with pwr.draining := .none }.still = true ∧ s.aon.pwr = .active ∧ s.pwr.pkSent = 0 ∧ s.grantedAll = false)
  ∧ (∃ (s : State), s.pwr.draining = .park ∧ s.pwr.limits = 1 ∧ s.leads = false ∧ s.pwr.target = .park
      ∧ { s with pwr.draining := .none }.still = true ∧ s.aon.pwr = .active ∧ s.pwr.pkSent = 0 ∧ s.grantedAll = false
      ∧ s.pwr.nearCap = .park)
  ∧ (∃ (s : State), s.asleep = true ∧ s.aon.exiting = false ∧ s.isOptical = false)
  ∧ (∃ (s : State), s.asleep = true ∧ s.aon.exiting = false ∧ s.aon.pwr = .park ∧ s.aon.parkDur.isSome = true)
  ∧ (∃ (s : State), s.quiet ∧ s.asleep = true ∧ s.aon.exiting = false ∧ s.pwr.nearCap ≠ .park ∧ s.pwr.nearCap ≠ .off)
  ∧ (∃ (s : State), s.quiet ∧ s.asleep = true ∧ s.aon.exiting = false ∧ s.pwr.nearCap = .park)
  ∧ (∃ (s : State), s.quiet ∧ s.aon.exiting = true ∧ s.mainUp = true ∧ s.pwr.wakeDrive = true)
  ∧ (∃ (s : State), s.start.st = .park ∧ s.exitOver = true ∧ s.aon.parkSpare = true)
  ∧ (∃ (s : State) (case : Nat) (l : List NocFlit), s.quiet ∧ s.still = true ∧ s.pwr.flushes = []
      ∧ (∃ x ∈ s.pwr.belays, x.1 = case) ∧ case ≠ 4 ∧ (∀ v : Fin 8, s.noc.pool.get v = []) ∧ s.ten.linkQ = []
      ∧ s.red.linkQ = [] ∧ s.ht.linkQ = l ∧ l.all (fun f => flitVc f != 0) = true ∧ s.start.failed = false
      ∧ s.start.st ≠ .fenced)
  ∧ (∃ (s : State), s.quiet ∧ (s.asleep = false ∨ s.isOptical = true)) :=
  ⟨⟨w_ParkCompletes_1.1, w_ParkCompletes_1.2.1, w_ParkCompletes_1.2.2, by decide +kernel⟩,
  ⟨w_ParkCompletes_2, by decide +kernel⟩,
  ⟨w_ParkCompletes_3, by decide +kernel⟩,
  ⟨w_ParkCompletes_4, by decide +kernel⟩,
  ⟨w_ParkCompletes_5, by decide +kernel⟩,
  ⟨w_ParkCompletes_6, by decide +kernel⟩,
  ⟨w_ParkCompletes_7, by decide +kernel⟩,
  ⟨w_ParkCompletes_8, by decide +kernel⟩,
  ⟨w_ParkCompletes_9, by decide +kernel⟩,
  ⟨w_ParkCompletes_10.1, w_ParkCompletes_10.2.1, w_ParkCompletes_10.2.2, by decide +kernel⟩,
  ⟨w_ParkCompletes_11, by decide +kernel⟩⟩

def w_JobsComplete_1 : State × RingNo × (BitVec 32) × Desc :=
  let s := State.reset
  let r : RingNo := 1
  let i : BitVec 32 := 4
  let d : Desc := mkD 0x20 [(64, 16, 0x55), (192, 4, 8)]
  let s : State := withDescs 1 d { s with red.hold := [], red.jobs := [] }
  (s, r, i, d)

def w_JobsComplete_2 : State × RingNo × (BitVec 32) × Desc :=
  let s := State.reset
  let r : RingNo := 1
  let i : BitVec 32 := 4
  let d : Desc := mkD 0x20 [(64, 16, 0x55), (192, 4, 8)]
  let s : State := withDescs 1 d s
  let s : State := { s with red.jobs := [(3, newJob 5 6 (s.ringOwner 1) (mkD 0x20 [(64, 16, 0x55)]) 0)] }
  (s, r, i, d)

/-- States and operands that meet the premises of JobsComplete. -/
theorem premises_JobsComplete :
    (∃ (s : State) (r : RingNo) (i : BitVec 32) (d : Desc), s.started r i 0x20 d ∧ s.freeJobs ≠ [] ∧ s.red.hold = []
      ∧ (∀ p ∈ s.red.jobs, ¬ (p.2.owner = s.ringOwner r.val ∧ rdJob p.2.desc = rdJob d)))
  ∧ (∃ (s : State) (r : RingNo) (i : BitVec 32) (d : Desc), s.started r i 0x20 d ∧ s.freeJobs ≠ [] ∧ s.cplReady r
      ∧ (∃ p ∈ s.red.jobs, p.2.owner = s.ringOwner r.val ∧ rdJob p.2.desc = rdJob d)) :=
  ⟨⟨w_JobsComplete_1.1, w_JobsComplete_1.2.1, w_JobsComplete_1.2.2.1, w_JobsComplete_1.2.2.2, by decide +kernel⟩,
  ⟨w_JobsComplete_2.1, w_JobsComplete_2.2.1, w_JobsComplete_2.2.2.1, w_JobsComplete_2.2.2.2, by decide +kernel⟩⟩

def w_ContributionsComplete_1 : State × Bool × NocFlit :=
  let s := State.reset
  let rx : Bool := (0) = 1
  let f : NocFlit := mkFlit 4 3 1 2 5 6 0x38 0x3FF ((0) = 1) (packNat [(0, 16, 0x55), (16, 16, 3), (32, 32, 7), (64, 4, 0), (68, 4, 8), (80, 10, 16)])
  let s : State := ofCls .lt { s with noc.taken := (rx, f) :: s.noc.taken, red.streams := [], red.jobs := [], red.ctl := 0x000A0064, red.hold := [], red.mirrorWait := [] }
  (s, rx, f)

def w_ContributionsComplete_2 : State × Bool × NocFlit × Nat × RedJob :=
  let s := State.reset
  let rx : Bool := false
  let k : Nat := 3
  let f : NocFlit := mkFlit 4 3 1 2 5 6 0x38 0x3FF false (packNat [(0, 16, 0x55), (16, 16, 3), (32, 32, 7), (64, 4, 0), (68, 4, 8), (80, 10, imageFlits 0 256)])
  let j : RedJob := newJob 1 4 3 (mkD 0x20 [(64, 16, 0x55), (93, 1, 1), (96, 16, 7), (112, 32, 5), (144, 32, 9), (176, 16, 1), (192, 4, 8)]) 9
  let s : State := ofCls .lt { s with noc.taken := (rx, f) :: s.noc.taken, red.streams := [], red.jobs := [(k, j)], red.hold := [], red.mirrorWait := [] }
  (s, rx, f, k, j)

def w_ContributionsComplete_3 : State × Bool × NocFlit × Nat × PreHeld × Nat :=
  let s := State.reset
  let rx : Bool := false
  let n : Nat := 5
  let q : Nat := 9
  let f : NocFlit := mkFlit 4 3 1 2 5 6 0x39 2 ((0) = 1) 77
  let h : PreHeld := ⟨5, 100, false, 8, [], false⟩
  let s : State := ofCls .lt { s with noc.taken := (rx, f) :: s.noc.taken, red.streams := [⟨rx, flowKey f, .prehold n, flitTag f, q, false, false, []⟩], red.hold := [h] }
  (s, rx, f, n, h, q)

def w_ContributionsComplete_4 : State × Bool × NocFlit × Nat × Nat × Nat × Nat × RedJob × Chunk :=
  let s := State.reset
  let rx : Bool := false
  let k : Nat := 3
  let idx : Nat := 7
  let rank : Nat := 3
  let q : Nat := 16
  let f : NocFlit := mkFlit 4 3 1 2 5 6 0x39 0 false 0x3F8000003F800000
  let c : Chunk := ⟨7, .opened, [3], 0, List.replicate 256 none, [], false, false, 0, 0, 0, [], 0, false, [], [], 0, false, false⟩
  let j : RedJob := { newJob 1 4 3 (mkD 0x20 [(64, 16, 0x55), (93, 1, 1), (96, 16, 7), (112, 32, 5), (144, 32, 9), (176, 16, 1), (192, 4, 8)]) 9 with chunks := [c] }
  let s : State := ofCls .lt { s with noc.taken := (rx, f) :: s.noc.taken, red.streams := [⟨rx, flowKey f, .chunk k idx rank, 0, q, false, false, []⟩], red.jobs := [(k, j)] }
  (s, rx, f, k, idx, rank, q, j, c)

def w_ContributionsComplete_5 : State × PreHeld :=
  let s := State.reset
  let h : PreHeld := ⟨5, 100, false, 8, [], false⟩
  let s : State := ofCls .lt { s with red.hold := [h] }
  (s, h)

/-- States and operands that meet the premises of ContributionsComplete. -/
theorem premises_ContributionsComplete :
    (∃ (s : State) (rx : Bool) (f : NocFlit), s.hasRed = true ∧ s.redTurn rx f = true ∧ flitType f = 0x38 ∧ s.red.streams = []
      ∧ s.red.jobs = [] ∧ bf s.red.ctl 16 8 ≠ 0 ∧ s.holdGrans + imgGrans (hdFlits f) ≤ 64 ∧ imgGrans (hdFlits f) ≤ s.freeGrans
      ∧ 1 ≤ hdFlits f)
  ∧ (∃ (s : State) (rx : Bool) (f : NocFlit) (k : Nat) (j : RedJob), s.hasRed = true ∧ s.redTurn rx f = true
      ∧ flitType f = 0x38 ∧ flitPoison f = false ∧ s.red.streams = [] ∧ s.red.jobs = [(k, j)] ∧ j.owner.toNat = flitTenant f
      ∧ rdJob j.desc = hdJob f ∧ j.cancelling = false ∧ j.chunks = [] ∧ j.doneIdx = [] ∧ j.idleClosed = false
      ∧ rdRank j.desc = false ∧ rdMirror j.desc = false ∧ hdRank f < rdRanks j.desc ∧ (rdPos j.desc (hdChunk f)).isSome = true
      ∧ hdFormat f = rdIn j.desc ∧ hdLog2 f = rdLog2 j.desc ∧ hdFlits f = imageFlits (rdIn j.desc) (rdElems j.desc)
      ∧ accGrans j.desc + mapGrans j.desc ≤ s.freeGrans)
  ∧ (∃ (s : State) (rx : Bool) (f : NocFlit) (n : Nat) (h : PreHeld) (q : Nat), s.hasRed = true ∧ s.redTurn rx f = true
      ∧ flitType f = 0x39 ∧ s.red.streams = [⟨rx, flowKey f, .prehold n, flitTag f, q, false, false, []⟩] ∧ s.red.hold = [h]
      ∧ h.num = n ∧ h.ended = false ∧ flitTag f + 1 < q)
  ∧ (∃ (s : State) (rx : Bool) (f : NocFlit) (k : Nat) (idx : Nat) (rank : Nat) (q : Nat) (j : RedJob) (c : Chunk), s.hasRed = true
      ∧ s.redTurn rx f = true ∧ flitType f = 0x39 ∧ flitPoison f = false ∧ flitTag f = 0 ∧ 1 < q
      ∧ s.red.streams = [⟨rx, flowKey f, .chunk k idx rank, 0, q, false, false, []⟩] ∧ s.red.jobs = [(k, j)] ∧ j.chunks = [c]
      ∧ c.idx = idx ∧ c.st = .opened ∧ c.held = [])
  ∧ (∃ (s : State) (h : PreHeld), s.hasRed = true ∧ s.red.hold = [h]) :=
  ⟨⟨w_ContributionsComplete_1.1, w_ContributionsComplete_1.2.1, w_ContributionsComplete_1.2.2, by decide +kernel⟩,
  ⟨w_ContributionsComplete_2.1, w_ContributionsComplete_2.2.1, w_ContributionsComplete_2.2.2.1, w_ContributionsComplete_2.2.2.2.1, w_ContributionsComplete_2.2.2.2.2, by decide +kernel⟩,
  ⟨w_ContributionsComplete_3.1, w_ContributionsComplete_3.2.1, w_ContributionsComplete_3.2.2.1, w_ContributionsComplete_3.2.2.2.1, w_ContributionsComplete_3.2.2.2.2.1, w_ContributionsComplete_3.2.2.2.2.2, by decide +kernel⟩,
  ⟨w_ContributionsComplete_4.1, w_ContributionsComplete_4.2.1, w_ContributionsComplete_4.2.2.1, w_ContributionsComplete_4.2.2.2.1, w_ContributionsComplete_4.2.2.2.2.1, w_ContributionsComplete_4.2.2.2.2.2.1, w_ContributionsComplete_4.2.2.2.2.2.2.1, w_ContributionsComplete_4.2.2.2.2.2.2.2.1, w_ContributionsComplete_4.2.2.2.2.2.2.2.2, by decide +kernel⟩,
  ⟨w_ContributionsComplete_5.1, w_ContributionsComplete_5.2, by decide +kernel⟩⟩

def w_ChunksComplete_1 : State × Nat × RedJob × Chunk :=
  let s := State.reset
  let k : Nat := 3
  let c : Chunk := ⟨7, .opened, [3], 0, List.replicate 256 none, [], false, false, 0, 0, 0, [], 0, false, [], [], 0, false, false⟩
  let j : RedJob := { newJob 1 4 3 (mkD 0x20 [(64, 16, 0x55), (93, 1, 1), (96, 16, 7), (112, 32, 5), (144, 32, 9), (176, 16, 1), (192, 4, 8)]) 9 with chunks := [c] }
  let s : State := ofCls .lt { s with red.jobs := [(k, j)] }
  (s, k, j, c)

def w_ChunksComplete_2 : State × Nat × RedJob :=
  let s := State.reset
  let k : Nat := 3
  let j : RedJob := newJob 1 4 3 (mkD 0x20 [(64, 16, 0x55), (93, 1, 1), (96, 16, 7), (112, 32, 5), (144, 32, 9), (176, 16, 1), (192, 4, 8)]) 9
  let s : State := ofCls .lt { s with red.jobs := [(k, j)] }
  (s, k, j)

def w_ChunksComplete_3 : State × Nat × RedJob × Chunk :=
  let s := State.reset
  let k : Nat := 3
  let c : Chunk := ⟨7, .spilled, [3], 0, [], [], false, false, 0, 0, 0, [4], 2, false, [], [], 0, false, false⟩
  let j : RedJob := { newJob 1 4 3 (mkD 0x20 [(64, 16, 0x55), (93, 1, 1), (96, 16, 7), (112, 32, 5), (144, 32, 9), (176, 16, 1), (192, 4, 8)]) 9 with chunks := [c] }
  let s : State := hush (ofCls .lt { s with red.jobs := [(k, j)] })
  (s, k, j, c)

def w_ChunksComplete_4 : State × Nat × RedJob × Chunk :=
  let s := State.reset
  let k : Nat := 3
  let c : Chunk := ⟨7, .refilling, [3], 0, [], [], false, false, 0, 0, 0, [4], 2, false, [], [], 0, false, false⟩
  let j : RedJob := { newJob 1 4 3 (mkD 0x20 [(64, 16, 0x55), (93, 1, 1), (96, 16, 7), (112, 32, 5), (144, 32, 9), (176, 16, 1), (192, 4, 8)]) 9 with chunks := [c] }
  let s : State := hush (ofCls .lt { s with red.jobs := [(k, j)] })
  (s, k, j, c)

def w_ChunksComplete_5 : State × Nat × RedJob × Chunk :=
  let s := State.reset
  let k : Nat := 3
  let c : Chunk := ⟨7, .refilling, [3], 0, [], [], false, false, 0, 0, 0, [4], 1, false, [], [], 0, false, false⟩
  let j : RedJob := { newJob 1 4 3 (mkD 0x20 [(64, 16, 0x55), (93, 1, 1), (96, 16, 7), (112, 32, 5), (144, 32, 9), (176, 16, 1), (192, 4, 8)]) 9 with chunks := [c], spillUsed := [4, 5] }
  let s : State := ofCls .lt { s with red.jobs := [(k, j)] }
  (s, k, j, c)

def w_ChunksComplete_6 : State × Nat × RedJob × Chunk :=
  let s := State.reset
  let k : Nat := 3
  let c : Chunk := ⟨7, .closed, [3], 0, [], [], false, false, 0, 0, 0, [], 0, false, [(0x1000, 5), (0x1040, 6)], [], 0, true, false⟩
  let j : RedJob := { newJob 1 4 3 (mkD 0x20 [(64, 16, 0x55), (93, 1, 1), (96, 16, 7), (112, 32, 5), (144, 32, 9), (176, 16, 1), (192, 4, 8)]) 9 with chunks := [c] }
  let s : State := ofCls .lt { s with red.jobs := [(k, j)] }
  (s, k, j, c)

def w_ChunksComplete_7 : State × Nat × RedJob × Chunk :=
  let s := State.reset
  let k : Nat := 3
  let c : Chunk := ⟨7, .closed, [3], 0, [], [], false, false, 0, 0, 0, [], 0, false, [], [], 2, true, true⟩
  let j : RedJob := { newJob 1 4 3 (mkD 0x20 [(64, 16, 0x55), (93, 1, 1), (96, 16, 7), (112, 32, 5), (144, 32, 9), (176, 16, 1), (192, 4, 8)]) 9 with chunks := [c] }
  let s : State := hush (ofCls .lt { s with red.jobs := [(k, j)] })
  (s, k, j, c)

def w_ChunksComplete_8 : State × Nat × RedJob × Chunk :=
  let s := State.reset
  let k : Nat := 3
  let c : Chunk := ⟨7, .closed, [3], 0, [], [], false, false, 0, 0, 0, [], 0, false, [], [], 1, true, true⟩
  let j : RedJob := { newJob 1 4 3 (mkD 0x20 [(64, 16, 0x55), (93, 1, 1), (96, 16, 7), (112, 32, 5), (144, 32, 9), (176, 16, 1), (192, 4, 8)]) 9 with chunks := [c] }
  let s : State := hush (ofCls .lt { s with red.jobs := [(k, j)] })
  (s, k, j, c)

/-- States and operands that meet the premises of ChunksComplete. -/
theorem premises_ChunksComplete :
    (∃ (s : State) (k : Nat) (j : RedJob) (c : Chunk), s.hasRed = true ∧ s.red.jobs = [(k, j)] ∧ j.chunks = [c]
      ∧ c.st = .opened ∧ c.held = [])
  ∧ (∃ (s : State) (k : Nat) (j : RedJob), s.hasRed = true ∧ s.red.jobs = [(k, j)] ∧ j.chunks = [] ∧ j.cancelling = false
      ∧ j.idleClosed = false ∧ j.doneIdx.length < rdChunks j.desc)
  ∧ (∃ (s : State) (k : Nat) (j : RedJob) (c : Chunk), s.quiet ∧ s.hasRed = true ∧ s.red.jobs = [(k, j)] ∧ j.chunks = [c]
      ∧ c.st = .spilled ∧ 1 ≤ c.wait)
  ∧ (∃ (s : State) (k : Nat) (j : RedJob) (c : Chunk), s.quiet ∧ s.hasRed = true ∧ s.red.jobs = [(k, j)] ∧ j.chunks = [c]
      ∧ c.st = .refilling ∧ 2 ≤ c.wait)
  ∧ (∃ (s : State) (k : Nat) (j : RedJob) (c : Chunk), s.hasRed = true ∧ s.red.jobs = [(k, j)] ∧ j.chunks = [c]
      ∧ c.st = .refilling ∧ c.wait = 1 ∧ c.closeAfter = false ∧ c.held = [] ∧ c.ranks.length < rdRanks j.desc)
  ∧ (∃ (s : State) (k : Nat) (j : RedJob) (c : Chunk), s.hasRed = true ∧ s.red.jobs = [(k, j)] ∧ j.chunks = [c]
      ∧ c.st = .closed ∧ c.memLeft ≠ [] ∧ c.fwdLeft = [])
  ∧ (∃ (s : State) (k : Nat) (j : RedJob) (c : Chunk), s.quiet ∧ s.hasRed = true ∧ s.red.jobs = [(k, j)] ∧ j.chunks = [c]
      ∧ c.st = .closed ∧ 2 ≤ c.acks)
  ∧ (∃ (s : State) (k : Nat) (j : RedJob) (c : Chunk), s.quiet ∧ s.hasRed = true ∧ s.red.jobs = [(k, j)] ∧ j.chunks = [c]
      ∧ c.st = .closed ∧ c.acks = 1 ∧ c.begun = true ∧ c.memLeft = [] ∧ c.fwdLeft = [] ∧ c.fwdDone = true
      ∧ j.cancelling = false ∧ j.doneIdx.length + 1 < rdChunks j.desc) :=
  ⟨⟨w_ChunksComplete_1.1, w_ChunksComplete_1.2.1, w_ChunksComplete_1.2.2.1, w_ChunksComplete_1.2.2.2, by decide +kernel⟩,
  ⟨w_ChunksComplete_2.1, w_ChunksComplete_2.2.1, w_ChunksComplete_2.2.2, by decide +kernel⟩,
  ⟨w_ChunksComplete_3.1, w_ChunksComplete_3.2.1, w_ChunksComplete_3.2.2.1, w_ChunksComplete_3.2.2.2, by decide +kernel⟩,
  ⟨w_ChunksComplete_4.1, w_ChunksComplete_4.2.1, w_ChunksComplete_4.2.2.1, w_ChunksComplete_4.2.2.2, by decide +kernel⟩,
  ⟨w_ChunksComplete_5.1, w_ChunksComplete_5.2.1, w_ChunksComplete_5.2.2.1, w_ChunksComplete_5.2.2.2, by decide +kernel⟩,
  ⟨w_ChunksComplete_6.1, w_ChunksComplete_6.2.1, w_ChunksComplete_6.2.2.1, w_ChunksComplete_6.2.2.2, by decide +kernel⟩,
  ⟨w_ChunksComplete_7.1, w_ChunksComplete_7.2.1, w_ChunksComplete_7.2.2.1, w_ChunksComplete_7.2.2.2, by decide +kernel⟩,
  ⟨w_ChunksComplete_8.1, w_ChunksComplete_8.2.1, w_ChunksComplete_8.2.2.1, w_ChunksComplete_8.2.2.2, by decide +kernel⟩⟩

def w_HitchMessagesComplete_1 : State × Bool × NocFlit :=
  let s := State.reset
  let rx : Bool := false
  let f : NocFlit := mkFlit 5 0 1 2 5 6 0x30 0 false (packNat [(0, 12, 9), (12, 2, (1)), (16, 32, (5))])
  let s : State := ofCls .sc { s with lash.prot := [], noc.taken := (rx, f) :: s.noc.taken, ht.intake := [] }
  let s : State := s.modHitch 9 fun h => { h with role := (BitVec.ofNat 2 (0)), barrier := false }
  (s, rx, f)

def w_HitchMessagesComplete_2 : State × Bool × NocFlit :=
  let s := State.reset
  let rx : Bool := false
  let f : NocFlit := mkFlit 5 0 1 2 5 6 0x30 0 false (packNat [(0, 12, 9), (12, 2, 2), (16, 32, 5)])
  let s : State := ofCls .sc { s with lash.prot := [], noc.taken := (rx, f) :: s.noc.taken, ht.intake := [] }
  let s : State := s.modHitch 9 fun h => { h with role := 0, barrier := true, value := 4, target := 256 }
  (s, rx, f)

def w_HitchMessagesComplete_3 : State × Bool × NocFlit :=
  let s := State.reset
  let rx : Bool := false
  let f : NocFlit := mkFlit 5 0 1 2 5 6 0x31 0 false (packNat [(0, 12, 9), (12, 2, 0), (16, 32, 5000), (48, 10, 500), (58, 6, 7)])
  let s : State := ofCls .sc { s with lash.prot := [], noc.taken := (rx, f) :: s.noc.taken, ht.waiters := [], ht.owed := [] }
  let s : State := s.modHitch 9 fun h => { h with value := 4 }
  (s, rx, f)

def w_HitchMessagesComplete_4 : State × Bool × NocFlit :=
  let s := State.reset
  let rx : Bool := false
  let f : NocFlit := mkFlit 5 0 1 2 5 6 0x32 0 false (packNat [(0, 5, 1), (8, 10, 500), (18, 6, 7), (24, 2, 1)])
  let s : State := ofCls .sc { s with noc.taken := (rx, f) :: s.noc.taken, test.alone := false }
  (s, rx, f)

def w_HitchMessagesComplete_5 : State × Bool × NocFlit :=
  let s := State.reset
  let rx : Bool := false
  let f : NocFlit := mkFlit 5 0 4 0x3F0 5 6 0x33 0 false (packNat [(0, 12, 9), (12, 1, 1), (16, 32, 5000), (48, 12, 33)])
  let s : State := ofCls .sc { s with lash.prot := [], noc.taken := (rx, f) :: s.noc.taken }
  let s : State := s.modHitch 9 fun h => { h with role := 2, link0 := BitVec.ofNat 31 (packNat [(0, 1, 1), (1, 8, 4), (9, 10, 0x3F0), (19, 12, 33)]) }
  (s, rx, f)

def w_HitchMessagesComplete_6 : State × NocFlit :=
  let s := State.reset
  let f : NocFlit := mkFlit 0 0 4 0x3F0 5 6 0x34 9 false (packNat [(0, 12, 9)])
  let s : State := ofCls .sc { s with lash.prot := [], noc.taken := (false, f) :: s.noc.taken, noc.qHitch := [] }
  (s, f)

/-- States and operands that meet the premises of HitchMessagesComplete. -/
theorem premises_HitchMessagesComplete :
    (∃ (s : State) (rx : Bool) (f : NocFlit), s.hasHitch = true ∧ s.isTaken rx f = true ∧ flitType f = 0x30
      ∧ flitPoison f = false ∧ htFar f = false ∧ htIdx f < s.cls.hitches ∧ htOp f ≠ 3 ∧ flitTenant f = s.hitchOwner (htIdx f)
      ∧ s.ht.intake = [] ∧ (s.hitch (htIdx f)).role ≠ 2 ∧ (s.hitch (htIdx f)).barrier = false)
  ∧ (∃ (s : State) (rx : Bool) (f : NocFlit), s.hasHitch = true ∧ s.isTaken rx f = true ∧ flitType f = 0x30
      ∧ flitPoison f = false ∧ htFar f = false ∧ htIdx f < s.cls.hitches ∧ htOp f = 2 ∧ flitTenant f = s.hitchOwner (htIdx f)
      ∧ s.ht.intake = [] ∧ (s.hitch (htIdx f)).role ≠ 2 ∧ (s.hitch (htIdx f)).barrier = true
      ∧ (s.hitch (htIdx f)).value.toNat + 1 < (s.hitch (htIdx f)).target.toNat)
  ∧ (∃ (s : State) (rx : Bool) (f : NocFlit), s.hasHitch = true ∧ s.isTaken rx f = true ∧ flitType f = 0x31
      ∧ flitPoison f = false ∧ htFar f = false ∧ htIdx f < s.cls.hitches ∧ htOp f ≠ 3 ∧ flitTenant f = s.hitchOwner (htIdx f)
      ∧ s.ht.waiters = [] ∧ s.ht.owed = [] ∧ meets (s.hitch (htIdx f)) (htOp f) (BitVec.ofNat 32 (htOperand f)) = false)
  ∧ (∃ (s : State) (rx : Bool) (f : NocFlit), s.cls = .sc ∧ s.isTaken rx f = true ∧ flitType f = 0x32 ∧ flitPoison f = false
      ∧ payBits f 0 5 = 1 ∧ payBits f 8 10 ≤ 575 ∧ s.test.alone = false)
  ∧ (∃ (s : State) (rx : Bool) (f : NocFlit), s.hasHitch = true ∧ s.isTaken rx f = true ∧ flitType f = 0x33
      ∧ flitPoison f = false ∧ htIdx f < s.cls.hitches ∧ s.fromHome rx f = true)
  ∧ (∃ (s : State) (f : NocFlit), s.hasHitch = true ∧ s.isTaken false f = true ∧ flitType f = 0x34
      ∧ (s.noc.qHitch.filter fun e => e.vc = 1).length < 16 ∧ htIdx f < s.cls.hitches ∧ flitTenant f = s.hitchOwner (htIdx f)) :=
  ⟨⟨w_HitchMessagesComplete_1.1, w_HitchMessagesComplete_1.2.1, w_HitchMessagesComplete_1.2.2, by decide +kernel⟩,
  ⟨w_HitchMessagesComplete_2.1, w_HitchMessagesComplete_2.2.1, w_HitchMessagesComplete_2.2.2, by decide +kernel⟩,
  ⟨w_HitchMessagesComplete_3.1, w_HitchMessagesComplete_3.2.1, w_HitchMessagesComplete_3.2.2, by decide +kernel⟩,
  ⟨w_HitchMessagesComplete_4.1, w_HitchMessagesComplete_4.2.1, w_HitchMessagesComplete_4.2.2, by decide +kernel⟩,
  ⟨w_HitchMessagesComplete_5.1, w_HitchMessagesComplete_5.2.1, w_HitchMessagesComplete_5.2.2, by decide +kernel⟩,
  ⟨w_HitchMessagesComplete_6.1, w_HitchMessagesComplete_6.2, by decide +kernel⟩⟩

def w_HitchTimersComplete_1 : State × Waiter :=
  let s := State.reset
  let w : Waiter := ⟨5, 9, 4, 500, 7, 0, 77, 100, 3, none⟩
  let s : State := ofCls .sc { s with ht.waiters := [w], aon.pwr := .active }
  (s, w)

def w_HitchTimersComplete_2 : State :=
  let s := State.reset
  let s : State := ofCls .sc { s with start.opened := true, ht.ctl := 0x10064 }
  s

def w_HitchTimersComplete_3 : State × Nat × Nat :=
  let s := State.reset
  let k : Nat := 45
  let o : Nat := 7
  let s : State := { s with ht.fences := [(k, o)], noc.pool := Oct.all [], noc.buckets := [(45, ⟨5, 6, true, 0, none⟩)], link.tx := s.link.tx.map fun t => { t with held := [] } }
  (s, k, o)

def w_HitchTimersComplete_4 : State × (Fin 8) × RxFlit :=
  let s := State.reset
  let b : Fin 8 := 2
  let x : RxFlit := ⟨mkFlit 7 3 1 2 5 6 0x30 9 false 77, 0x1001, 4, 3, false, true⟩
  let s : State := calm { s with noc.redSent := [], start.opened := false, link.rx := s.link.rx.map fun r => { r with buf := [] } }
  let s : State := s.modRx b fun r => { r with buf := [x] }
  (s, b, x)

def w_HitchTimersComplete_5 : State × Reg :=
  let s := State.reset
  let v : Reg := 9
  let s : State := ofCls .sc { s with start.opened := true }
  (s, v)

def w_HitchTimersComplete_6 : State × Reg :=
  let s := State.reset
  let v : Reg := 9
  let s : State := ofCls .sc { s with start.opened := true, ht.waiters := [⟨5, 9, 4, 500, 7, 0, 77, 100, 3, none⟩] }
  (s, v)

def w_HitchTimersComplete_7 : State × Reg × Waiter :=
  let s := State.reset
  let w : Waiter := ⟨5, 9, 4, 500, 7, 0, 77, 100, 3, none⟩
  let v : Reg := 5
  let s : State := ofCls .sc { s with start.opened := true, ht.waiters := [w] }
  (s, v, w)

/-- States and operands that meet the premises of HitchTimersComplete. -/
theorem premises_HitchTimersComplete :
    (∃ (s : State) (w : Waiter), s.hasHitch = true ∧ s.ht.waiters = [w] ∧ w.timeout ≠ 0 ∧ s.aon.pwr ≠ .park ∧ w.desc = none)
  ∧ (∃ (s : State), s.hasHitch = true ∧ s.start.opened = true ∧ bf s.ht.ctl 0 16 ≠ 0)
  ∧ (∃ (s : State) (k : Nat) (o : Nat), s.ht.fences = [(k, o)] ∧ s.fenceClear o = true ∧ (s.bucket k).moving = true)
  ∧ (∃ (s : State) (b : Fin 8) (x : RxFlit), (s.link.rx.get b).buf = [x] ∧ x.fenced = true ∧ s.egFenceClear x.acc = true
      ∧ s.still = true ∧ s.egressOpen = false ∧ x.eligible = false ∧ s.noc.redSent = [])
  ∧ (∃ (s : State) (v : Reg), s.hasHitch = true ∧ s.start.opened = true ∧ bf v 0 12 < s.cls.hitches)
  ∧ (∃ (s : State) (v : Reg), s.hasHitch = true ∧ s.start.opened = true ∧ (∀ w ∈ s.ht.waiters, w.entry ≠ bf v 0 13))
  ∧ (∃ (s : State) (v : Reg) (w : Waiter), s.hasHitch = true ∧ s.start.opened = true ∧ s.ht.waiters = [w]
      ∧ w.entry = bf v 0 13) :=
  ⟨⟨w_HitchTimersComplete_1.1, w_HitchTimersComplete_1.2, by decide +kernel⟩,
  ⟨w_HitchTimersComplete_2, by decide +kernel⟩,
  ⟨w_HitchTimersComplete_3.1, w_HitchTimersComplete_3.2.1, w_HitchTimersComplete_3.2.2, by decide +kernel⟩,
  ⟨w_HitchTimersComplete_4.1, w_HitchTimersComplete_4.2.1, w_HitchTimersComplete_4.2.2, by decide +kernel⟩,
  ⟨w_HitchTimersComplete_5.1, w_HitchTimersComplete_5.2, by decide +kernel⟩,
  ⟨w_HitchTimersComplete_6.1, w_HitchTimersComplete_6.2, by decide +kernel⟩,
  ⟨w_HitchTimersComplete_7.1, w_HitchTimersComplete_7.2.1, w_HitchTimersComplete_7.2.2, by decide +kernel⟩⟩

def w_HitchDescriptorsComplete_1 : State × RingNo × (BitVec 32) × Desc :=
  let s := State.reset
  let r : RingNo := 1
  let i : BitVec 32 := 4
  let d : Desc := mkD 0x30 [(64, 12, 9), (76, 1, 1), (77, 2, 1), (80, 32, 3), (112, 32, 256)]
  let s : State := withDescs 2 d (ofCls .sc { s with lash.prot := [], ht.waiters := [] })
  (s, r, i, d)

def w_HitchDescriptorsComplete_2 : State × RingNo × (BitVec 32) × Desc :=
  let s := State.reset
  let r : RingNo := 1
  let i : BitVec 32 := 4
  let d : Desc := mkD 0x31 [(64, 12, 9)]
  let s : State := withDescs 2 d (ofCls .sc { s with lash.prot := [], ht.waiters := [], ht.owed := [⟨9, 0, false⟩, ⟨8, 0, false⟩] })
  (s, r, i, d)

def w_HitchDescriptorsComplete_3 : State × RingNo × (BitVec 32) × Desc × Waiter :=
  let s := State.reset
  let r : RingNo := 1
  let i : BitVec 32 := 4
  let w : Waiter := ⟨5, 9, 4, 500, 7, 0, 77, 100, 3, none⟩
  let d : Desc := mkD 0x32 [(64, 12, 9)]
  let s : State := withDescs 2 d (ofCls .sc { s with lash.prot := [], ht.waiters := [w] })
  (s, r, i, d, w)

def w_HitchDescriptorsComplete_4 : State × RingNo × (BitVec 32) × Desc × Waiter :=
  let s := State.reset
  let r : RingNo := 1
  let i : BitVec 32 := 4
  let w : Waiter := ⟨5, 9, 4, 500, 7, 0, 77, 100, 3, none⟩
  let d : Desc := mkD 0x33 [(80, 8, 4), (88, 10, 500), (98, 6, 7)]
  let s : State := withDescs 2 d (ofCls .sc { s with lash.prot := [], ht.waiters := [w] })
  (s, r, i, d, w)

def w_HitchDescriptorsComplete_5 : State × RingNo × (BitVec 32) × Desc :=
  let s := State.reset
  let r : RingNo := 1
  let i : BitVec 32 := 4
  let d : Desc := mkD 0x34 [(64, 12, 9)]
  let s : State := withDescs 2 d (ofCls .sc { s with lash.prot := [] })
  (s, r, i, d)

def w_HitchDescriptorsComplete_6 : State × RingNo × (BitVec 32) × Desc :=
  let s := State.reset
  let r : RingNo := 1
  let i : BitVec 32 := 4
  let d : Desc := mkD 0x35 [(64, 12, 9), (76, 2, 1), (80, 32, 3)]
  let s : State := withDescs 2 d (ofCls .sc { s with lash.prot := [], ht.intake := [], ht.waiters := [] })
  let s : State := s.modHitch 9 fun h => { h with role := 0, barrier := false }
  (s, r, i, d)

def w_HitchDescriptorsComplete_7 : State × RingNo × (BitVec 32) × Desc :=
  let s := State.reset
  let r : RingNo := 1
  let i : BitVec 32 := 4
  let d : Desc := mkD 0x36 [(64, 12, 9), (76, 2, 0), (80, 32, 3000)]
  let s : State := withDescs 2 d (ofCls .sc { s with lash.prot := [], ht.waiters := [] })
  let s : State := s.modHitch 9 fun h => { h with value := 3 }
  (s, r, i, d)

/-- States and operands that meet the premises of HitchDescriptorsComplete. -/
theorem premises_HitchDescriptorsComplete :
    (∃ (s : State) (r : RingNo) (i : BitVec 32) (d : Desc), s.started r i 0x30 d ∧ s.cplReady r ∧ s.ringOwner r.val = 0
      ∧ s.waitersOf (bf d 64 12) = [])
  ∧ (∃ (s : State) (r : RingNo) (i : BitVec 32) (d : Desc), s.started r i 0x31 d ∧ s.cplReady r ∧ s.ringOwner r.val = 0
      ∧ s.waitersOf (bf d 64 12) = [])
  ∧ (∃ (s : State) (r : RingNo) (i : BitVec 32) (d : Desc) (w : Waiter), s.started r i 0x32 d ∧ s.cplReady r
      ∧ s.ringOwner r.val = 0 ∧ s.ht.waiters = [w] ∧ w.hitch = bf d 64 12 ∧ w.desc = none)
  ∧ (∃ (s : State) (r : RingNo) (i : BitVec 32) (d : Desc) (w : Waiter), s.started r i 0x33 d ∧ s.cplReady r
      ∧ s.ringOwner r.val = 0 ∧ s.ht.waiters = [w] ∧ w.die = bf d 80 8 ∧ w.core = bf d 88 10 ∧ w.thread = bf d 98 6
      ∧ w.desc = none)
  ∧ (∃ (s : State) (r : RingNo) (i : BitVec 32) (d : Desc), s.started r i 0x34 d ∧ s.cplReady r ∧ s.ringOwner r.val = 0)
  ∧ (∃ (s : State) (r : RingNo) (i : BitVec 32) (d : Desc), s.started r i 0x35 d ∧ s.cplReady r ∧ s.ringOwner r.val = 0
      ∧ s.ht.intake = [] ∧ (s.hitch (bf d 64 12)).role = 0 ∧ (s.hitch (bf d 64 12)).barrier = false ∧ bf d 76 2 = 1
      ∧ s.ht.waiters = [])
  ∧ (∃ (s : State) (r : RingNo) (i : BitVec 32) (d : Desc), s.started r i 0x36 d ∧ s.ringOwner r.val = 0 ∧ s.ht.waiters = []
      ∧ meets (s.hitch (bf d 64 12)) (bf d 76 2) (BitVec.ofNat 32 (bf d 80 32)) = false) :=
  ⟨⟨w_HitchDescriptorsComplete_1.1, w_HitchDescriptorsComplete_1.2.1, w_HitchDescriptorsComplete_1.2.2.1, w_HitchDescriptorsComplete_1.2.2.2, by decide +kernel⟩,
  ⟨w_HitchDescriptorsComplete_2.1, w_HitchDescriptorsComplete_2.2.1, w_HitchDescriptorsComplete_2.2.2.1, w_HitchDescriptorsComplete_2.2.2.2, by decide +kernel⟩,
  ⟨w_HitchDescriptorsComplete_3.1, w_HitchDescriptorsComplete_3.2.1, w_HitchDescriptorsComplete_3.2.2.1, w_HitchDescriptorsComplete_3.2.2.2.1, w_HitchDescriptorsComplete_3.2.2.2.2, by decide +kernel⟩,
  ⟨w_HitchDescriptorsComplete_4.1, w_HitchDescriptorsComplete_4.2.1, w_HitchDescriptorsComplete_4.2.2.1, w_HitchDescriptorsComplete_4.2.2.2.1, w_HitchDescriptorsComplete_4.2.2.2.2, by decide +kernel⟩,
  ⟨w_HitchDescriptorsComplete_5.1, w_HitchDescriptorsComplete_5.2.1, w_HitchDescriptorsComplete_5.2.2.1, w_HitchDescriptorsComplete_5.2.2.2, by decide +kernel⟩,
  ⟨w_HitchDescriptorsComplete_6.1, w_HitchDescriptorsComplete_6.2.1, w_HitchDescriptorsComplete_6.2.2.1, w_HitchDescriptorsComplete_6.2.2.2, by decide +kernel⟩,
  ⟨w_HitchDescriptorsComplete_7.1, w_HitchDescriptorsComplete_7.2.1, w_HitchDescriptorsComplete_7.2.2.1, w_HitchDescriptorsComplete_7.2.2.2, by decide +kernel⟩⟩

def w_AbsentEnginesChangeNothing_1 : State × Bool × NocFlit :=
  let s : State := hush (ofCls .sc State.reset)
  let rx : Bool := true
  let f : NocFlit := mkFlit 4 3 0x20 2 5 6 0 9 false 77
  (s, rx, f)

def w_AbsentEnginesChangeNothing_2 : State × Bool × NocFlit :=
  let s : State := hush (ofCls .sc State.reset)
  let rx : Bool := true
  let f : NocFlit := mkFlit 4 3 0x20 2 5 6 0 9 false 77
  (s, rx, f)

def w_AbsentEnginesChangeNothing_3 : State × List (Bool × NocFlit) :=
  let s : State := hush (ofCls .lt State.reset)
  let l : List (Bool × NocFlit) := [(true, mkFlit 7 3 0x30 2 5 6 0 9 false 77)]
  (s, l)

def w_AbsentEnginesChangeNothing_4 : State × Bool × NocFlit :=
  let s : State := hush (ofCls .lt State.reset)
  let rx : Bool := true
  let f : NocFlit := mkFlit 4 3 0x20 2 5 6 0 9 false 77
  (s, rx, f)

def w_AbsentEnginesChangeNothing_5 : State × Bool × NocFlit :=
  let s : State := hush (ofCls .lt State.reset)
  let rx : Bool := true
  let f : NocFlit := mkFlit 4 3 0x20 2 5 6 0 9 false 77
  (s, rx, f)

def w_AbsentEnginesChangeNothing_6 : State × NocFlit :=
  let s : State := hush (ofCls .lt State.reset)
  let f : NocFlit := mkFlit 4 3 0x20 2 5 6 0 9 false 77
  (s, f)

def w_AbsentEnginesChangeNothing_7 : State :=
  let s : State := hush (ofCls .lt State.reset)
  s

def w_AbsentEnginesChangeNothing_8 : State × Nat × List (BitVec 8) :=
  let s : State := hush (ofCls .sc State.reset)
  let a : Nat := 0x1000
  let l : List (BitVec 8) := List.replicate 4 7
  (s, a, l)

def w_AbsentEnginesChangeNothing_9 : State × Reg × Reg × Reg :=
  let s : State := hush (ofCls .sc State.reset)
  let x : Reg := 1
  let y : Reg := 2
  let z : Reg := 3
  (s, x, y, z)

/-- States and operands that meet the premises of AbsentEnginesChangeNothing. -/
theorem premises_AbsentEnginesChangeNothing :
    (∃ (s : State) (rx : Bool) (f : NocFlit), s.quiet ∧ s.hasRed = false)
  ∧ (∃ (s : State) (rx : Bool) (f : NocFlit), s.quiet ∧ s.hasRed = false)
  ∧ (∃ (s : State) (l : List (Bool × NocFlit)), s.quiet ∧ s.hasHitch = false)
  ∧ (∃ (s : State) (rx : Bool) (f : NocFlit), s.quiet ∧ s.hasHitch = false)
  ∧ (∃ (s : State) (rx : Bool) (f : NocFlit), s.quiet ∧ s.hasHitch = false)
  ∧ (∃ (s : State) (f : NocFlit), s.quiet ∧ s.hasHitch = false)
  ∧ (∃ (s : State), s.quiet ∧ s.hasHitch = false)
  ∧ (∃ (s : State) (a : Nat) (l : List (BitVec 8)), s.quiet ∧ s.agentHere = false)
  ∧ (∃ (s : State) (x : Reg) (y : Reg) (z : Reg), s.quiet ∧ s.cls.isFibre = false) :=
  ⟨⟨w_AbsentEnginesChangeNothing_1.1, w_AbsentEnginesChangeNothing_1.2.1, w_AbsentEnginesChangeNothing_1.2.2, by decide +kernel⟩,
  ⟨w_AbsentEnginesChangeNothing_2.1, w_AbsentEnginesChangeNothing_2.2.1, w_AbsentEnginesChangeNothing_2.2.2, by decide +kernel⟩,
  ⟨w_AbsentEnginesChangeNothing_3.1, w_AbsentEnginesChangeNothing_3.2, by decide +kernel⟩,
  ⟨w_AbsentEnginesChangeNothing_4.1, w_AbsentEnginesChangeNothing_4.2.1, w_AbsentEnginesChangeNothing_4.2.2, by decide +kernel⟩,
  ⟨w_AbsentEnginesChangeNothing_5.1, w_AbsentEnginesChangeNothing_5.2.1, w_AbsentEnginesChangeNothing_5.2.2, by decide +kernel⟩,
  ⟨w_AbsentEnginesChangeNothing_6.1, w_AbsentEnginesChangeNothing_6.2, by decide +kernel⟩,
  ⟨w_AbsentEnginesChangeNothing_7, by decide +kernel⟩,
  ⟨w_AbsentEnginesChangeNothing_8.1, w_AbsentEnginesChangeNothing_8.2.1, w_AbsentEnginesChangeNothing_8.2.2, by decide +kernel⟩,
  ⟨w_AbsentEnginesChangeNothing_9.1, w_AbsentEnginesChangeNothing_9.2.1, w_AbsentEnginesChangeNothing_9.2.2.1, w_AbsentEnginesChangeNothing_9.2.2.2, by decide +kernel⟩⟩

def w_PartialWritesRefused_1 : State × Access :=
  let s := State.reset
  let a : Access := { acc 0x8800 5 with be := 3 }
  let s : State := ofCls .sc (opened s)
  (s, a)

def w_PartialWritesRefused_4 : State × TapJob :=
  let s := State.reset
  let j : TapJob := ⟨2, 0x11, 5⟩
  let s : State := hush { s with test.job := some j }
  (s, j)

/-- States and operands that meet the premises of PartialWritesRefused. -/
theorem premises_PartialWritesRefused :
    (∃ (s : State) (a : Access), s.quiet ∧ a.tap = false ∧ a.be ≠ 0xF ∧ s.aon.pwr ≠ .off)
  ∧ (∃ (s : State) (j : TapJob), s.quiet ∧ s.test.job = some j ∧ j.off % 4 ≠ 0) :=
  ⟨⟨w_PartialWritesRefused_1.1, w_PartialWritesRefused_1.2, by decide +kernel⟩,
  ⟨w_PartialWritesRefused_4.1, w_PartialWritesRefused_4.2, by decide +kernel⟩⟩

def w_JobStatusAnswers_1 : State × RingNo × (BitVec 32) × Desc :=
  let s := State.reset
  let r : RingNo := 1
  let i : BitVec 32 := 4
  let d : Desc := mkD 0x21 [(64, 16, 0x55)]
  let s : State := withDescs 1 d { s with red.jobs := [] }
  (s, r, i, d)

def w_JobStatusAnswers_2 : State × RingNo × (BitVec 32) × Desc × Nat × RedJob :=
  let s := State.reset
  let r : RingNo := 1
  let i : BitVec 32 := 4
  let k : Nat := 3
  let d : Desc := mkD 0x21 [(64, 16, 0x55)]
  let s : State := withDescs 1 d s
  let j : RedJob := { newJob 5 6 (s.ringOwner 1) (mkD 0x20 [(64, 16, 0x55), (144, 32, 2)]) 0 with straggled := (7), doneIdx := [4], missing := some 9 }
  let s : State := { s with red.jobs := [(k, j)] }
  (s, r, i, d, k, j)

/-- States and operands that meet the premises of JobStatusAnswers. -/
theorem premises_JobStatusAnswers :
    (∃ (s : State) (r : RingNo) (i : BitVec 32) (d : Desc), s.started r i 0x21 d ∧ s.cplReady r
      ∧ (∀ p ∈ s.red.jobs, ¬ (p.2.owner = s.ringOwner r.val ∧ rdJob p.2.desc = bf d 64 16)))
  ∧ (∃ (s : State) (r : RingNo) (i : BitVec 32) (d : Desc) (k : Nat) (j : RedJob), s.started r i 0x21 d ∧ s.cplReady r
      ∧ (k, j) ∈ s.red.jobs ∧ j.owner = s.ringOwner r.val ∧ rdJob j.desc = bf d 64 16 ∧ (∀ p ∈ s.red.jobs, p.2.owner = j.owner
      ∧ rdJob p.2.desc = rdJob j.desc → p = (k, j))) :=
  ⟨⟨w_JobStatusAnswers_1.1, w_JobStatusAnswers_1.2.1, w_JobStatusAnswers_1.2.2.1, w_JobStatusAnswers_1.2.2.2, by decide +kernel⟩,
  ⟨w_JobStatusAnswers_2.1, w_JobStatusAnswers_2.2.1, w_JobStatusAnswers_2.2.2.1, w_JobStatusAnswers_2.2.2.2.1, w_JobStatusAnswers_2.2.2.2.2.1, w_JobStatusAnswers_2.2.2.2.2.2, by decide +kernel⟩⟩

def w_PoisonedHitchMessages_1 : State × Bool × NocFlit :=
  let s := State.reset
  let rx : Bool := false
  let f : NocFlit := mkFlit 5 0 1 2 5 6 0x30 0 true 77
  let s : State := hush (ofCls .sc { s with noc.taken := (rx, f) :: s.noc.taken, ht.intake := [], ht.owed := [] })
  (s, rx, f)

def w_PoisonedHitchMessages_2 : State × Bool × NocFlit :=
  let s := State.reset
  let rx : Bool := false
  let f : NocFlit := mkFlit 5 0 1 2 5 6 0x33 0 true 77
  let s : State := hush (ofCls .sc { s with noc.taken := (rx, f) :: s.noc.taken })
  (s, rx, f)

def w_PoisonedHitchMessages_3 : State × Bool × NocFlit :=
  let s := State.reset
  let rx : Bool := false
  let s : State := ofCls .sc s
  let f : NocFlit := mkFlit 5 0 s.ownDie.toNat 2 5 6 0x31 0 true (packNat [(48, 10, 500), (58, 6, 7)])
  let s : State := hush { s with noc.taken := (rx, f) :: s.noc.taken, ht.owed := [], test.alone := false }
  (s, rx, f)

def w_PoisonedHitchMessages_4 : State × Bool × NocFlit :=
  let s := State.reset
  let rx : Bool := false
  let s : State := ofCls .sc { s with start.dieId := 0x15 }
  let f : NocFlit := mkFlit 5 0 1 2 5 6 0x31 0 true (packNat [(48, 10, 500), (58, 6, 7)])
  let s : State := hush { s with noc.taken := (rx, f) :: s.noc.taken, ht.owed := [] }
  (s, rx, f)

def w_PoisonedHitchMessages_5 : State × Bool × NocFlit :=
  let s := State.reset
  let rx : Bool := false
  let f : NocFlit := mkFlit 5 0 1 2 5 6 0x32 0 true 77
  let s : State := hush (ofCls .sc { s with noc.taken := (rx, f) :: s.noc.taken })
  (s, rx, f)

/-- States and operands that meet the premises of PoisonedHitchMessages. -/
theorem premises_PoisonedHitchMessages :
    (∃ (s : State) (rx : Bool) (f : NocFlit), s.quiet ∧ s.hasHitch = true ∧ s.isTaken rx f = true ∧ flitType f = 0x30
      ∧ flitPoison f = true ∧ s.ht.intake = [] ∧ s.ht.owed = [])
  ∧ (∃ (s : State) (rx : Bool) (f : NocFlit), s.quiet ∧ s.hasHitch = true ∧ s.isTaken rx f = true ∧ flitType f = 0x33
      ∧ flitPoison f = true)
  ∧ (∃ (s : State) (rx : Bool) (f : NocFlit), s.quiet ∧ s.cls = .sc ∧ s.isTaken rx f = true ∧ flitType f = 0x31
      ∧ flitPoison f = true ∧ s.ht.owed = [] ∧ flitSrcDie f = s.ownDie.toNat ∧ htCore f ≤ 575 ∧ s.test.alone = false)
  ∧ (∃ (s : State) (rx : Bool) (f : NocFlit), s.quiet ∧ s.hasHitch = true ∧ s.isTaken rx f = true ∧ flitType f = 0x31
      ∧ flitPoison f = true ∧ s.ht.owed = [] ∧ (s.cls = .fib ∨ flitSrcDie f ≠ s.ownDie.toNat))
  ∧ (∃ (s : State) (rx : Bool) (f : NocFlit), s.quiet ∧ s.cls = .sc ∧ s.isTaken rx f = true ∧ flitType f = 0x32
      ∧ flitPoison f = true) :=
  ⟨⟨w_PoisonedHitchMessages_1.1, w_PoisonedHitchMessages_1.2.1, w_PoisonedHitchMessages_1.2.2, by decide +kernel⟩,
  ⟨w_PoisonedHitchMessages_2.1, w_PoisonedHitchMessages_2.2.1, w_PoisonedHitchMessages_2.2.2, by decide +kernel⟩,
  ⟨w_PoisonedHitchMessages_3.1, w_PoisonedHitchMessages_3.2.1, w_PoisonedHitchMessages_3.2.2, by decide +kernel⟩,
  ⟨w_PoisonedHitchMessages_4.1, w_PoisonedHitchMessages_4.2.1, w_PoisonedHitchMessages_4.2.2, by decide +kernel⟩,
  ⟨w_PoisonedHitchMessages_5.1, w_PoisonedHitchMessages_5.2.1, w_PoisonedHitchMessages_5.2.2, by decide +kernel⟩⟩

end Sys2Proof.Tests
end

section
/-!
SUPPORT. What the shared operations of start-up and of the sideband change and what they keep: a fold, a frame received, a frame
sent, a step that fails (R37, R39, R97, R98).
-/
namespace Sys2Proof.Machine

/-- A fold keeps what each of its steps keeps. -/
theorem foldl_keeps {α β : Type} (p : State → β) (g : State → α → State) (l : List α) (s : State)
    (h : ∀ u, ∀ x ∈ l, p (g u x) = p u) : p (l.foldl g s) = p s :=
  List.foldlRecOn (motive := fun u => p u = p s) l g rfl fun u hu x hx => (h u x hx).trans hu

/-- A command that ends in `done` completes as its posted state is. -/
theorem completes_done {c : Instr} {s u : State} {P : State → Prop} (hc : exec c s = done u) (h : P u.flushEvents) :
    Completes c s P := ⟨u.flushEvents, hc.trans (done_eq u), h⟩

/-- Posting with no event raised leaves a quiet state as it is. -/
theorem completes_unchanged {c : Instr} {s : State} (hc : exec c s = done s) (hq : s.quiet) :
    Completes c s fun t => t = s := ⟨s, hc.trans (done_of_quiet s hq), rfl⟩

/-! ### Receiving (R37 to R41) -/

/-- What receiving a frame keeps: the straps, start-up and the agent. -/
def State.heardView (s : State) : Straps × Start × Agent := (s.straps, s.start, s.agent)

theorem raiseLimited_heardView (s : State) (key : Nat) (mk : State → Nat → State)
    (h : ∀ u n, (mk u n).heardView = u.heardView) : (s.raiseLimited key mk).heardView = s.heardView := by
  unfold State.raiseLimited
  split
  · exact h _ _
  · split
    · rfl
    · exact h _ _

@[simp] theorem sbErr_heardView (s : State) : s.sbErr.heardView = s.heardView :=
  raiseLimited_heardView _ _ _ fun _ _ => rfl

@[simp] theorem takeCopies_heardView (s : State) (w : SbWord) : (s.takeCopies w).heardView = s.heardView := by
  unfold State.takeCopies
  split
  · exact foldl_keeps State.heardView _ _ _ fun _ _ _ => rfl
  · rfl

@[simp] theorem noteFrame_heardView (s : State) (f : SbFrame) : (s.noteFrame f).heardView = s.heardView := rfl

@[simp] theorem hear_heardView (s : State) (f : SbFrame) : (s.hear f).2.heardView = s.heardView := by
  have noted : ((s.takeCopies (sbWord f)).noteFrame f).heardView = s.heardView := by simp
  unfold State.hear
  split
  · rfl
  · split
    · simp
    · dsimp only
      split
      · simp
      · split <;> exact noted

@[simp] theorem receive_heardView (s : State) (f : SbFrame) : (s.receive f).2.heardView = s.heardView := by
  unfold State.receive
  split
  · rfl
  · split
    · rfl
    · exact hear_heardView s f

/-! ### Sending (R37, R89, R98) -/

/-- What a copy of a sent frame keeps: start-up, the agent and the record of frames sent on the link. -/
def State.sentView (s : State) : Start × Agent × List SbFrame := (s.start, s.agent, s.out.sbLink)

theorem sendCopy_sentView (s : State) (f : SbFrame) (b : Fin 8) : (s.sendCopy f b).sentView = s.sentView := by
  unfold State.sendCopy
  split
  · rfl
  · split <;> rfl

/-- A change of a transmit braid that keeps its training keeps that of every braid. -/
theorem modTx_training (s : State) (b c : Fin 8) (f : TxBraid → TxBraid) (hf : ∀ t, (f t).training = t.training) :
    (s.modTx b f).training c = s.training c := by
  unfold State.training
  by_cases h : c = b
  · subst h; simp [hf]
  · simp [oct_get_upd_ne _ _ _ _ h]

theorem sendCopy_training (s : State) (f : SbFrame) (b c : Fin 8) : (s.sendCopy f b).training c = s.training c := by
  unfold State.sendCopy
  split
  · exact modTx_training _ _ _ _ fun _ => rfl
  · split <;> rfl

/-- A frame goes out on the link with the next SEQ; start-up and the agent stay. -/
theorem sendLink_sentView (s : State) (f : SbFrame) :
    (s.sendLink f).sentView = (s.start, s.agent, s.out.sbLink ++ [{ f with seq := s.sb.txSeq }]) := by
  unfold State.sendLink
  dsimp only
  split
  · exact foldl_keeps State.sentView _ _ _ fun u b _ => sendCopy_sentView u _ b
  · rfl

@[simp] theorem sendLink_training (s : State) (f : SbFrame) (c : Fin 8) : (s.sendLink f).training c = s.training c := by
  unfold State.sendLink
  dsimp only
  split
  · exact foldl_keeps (fun u => u.training c) _ _ _ fun u b _ => sendCopy_training u _ b c
  · rfl

@[simp] theorem sendLink_start (s : State) (f : SbFrame) : (s.sendLink f).start = s.start :=
  congrArg (·.1) (sendLink_sentView s f)

@[simp] theorem sendLink_agent (s : State) (f : SbFrame) : (s.sendLink f).agent = s.agent :=
  congrArg (·.2.1) (sendLink_sentView s f)

@[simp] theorem sendLink_out_sbLink (s : State) (f : SbFrame) :
    (s.sendLink f).out.sbLink = s.out.sbLink ++ [{ f with seq := s.sb.txSeq }] :=
  congrArg (·.2.2) (sendLink_sentView s f)

section
variable (s : State) (phase braid attempt : Nat) (fields : List (Nat × Nat × Nat))

/-- Of start-up a TRAIN frame sent changes the frames to repeat alone. -/
theorem sendTrain_start : ∃ r, (s.sendTrain phase braid attempt fields).start = { s.start with repeats := r } := by
  unfold State.sendTrain
  dsimp only
  split
  · exact ⟨s.start.repeats, by simp⟩
  · exact ⟨_, by rw [sendLink_start]⟩

@[simp] theorem sendTrain_agent : (s.sendTrain phase braid attempt fields).agent = s.agent := by
  unfold State.sendTrain
  dsimp only
  split <;> simp

@[simp] theorem sendTrain_training (c : Fin 8) : (s.sendTrain phase braid attempt fields).training c = s.training c := by
  unfold State.sendTrain
  dsimp only
  split <;> exact sendLink_training _ _ _

@[simp] theorem sendTrain_out_sbLink : (s.sendTrain phase braid attempt fields).out.sbLink =
    s.out.sbLink ++ [{ s.localFrame 3 (trainPay phase braid attempt fields) with seq := s.sb.txSeq }] := by
  unfold State.sendTrain
  dsimp only
  split <;> simp
end

/-! ### From discovery to negotiation (R109, R113) -/

/-- The end of step 9 is not reached, or NEGOTIATE begins. -/
theorem tryNegotiate_cases (s : State) : s.tryNegotiate = s ∨ s.tryNegotiate = s.enterNegotiate := by
  unfold State.tryNegotiate
  split
  · exact .inl rfl
  · exact (ite_eq_or_eq _ _ _).symm

/-- Of start-up the end of step 9 changes the step and the frames to repeat alone. -/
theorem tryNegotiate_start (s : State) : ∃ st r, s.tryNegotiate.start = { s.start with st := st, repeats := r } := by
  rcases tryNegotiate_cases s with h | h <;> rw [h]
  · exact ⟨s.start.st, s.start.repeats, rfl⟩
  · obtain ⟨r, hr⟩ := sendTrain_start { s with start.st := .negotiate } 7 0 0
      [(11, 3, 3), (14, 3, 3), (17, 4, s.cls.code), (21, 4, s.straps.ownRates.toNat), (25, 16, s.cls.features)]
    exact ⟨.negotiate, r, hr⟩

@[simp] theorem tryNegotiate_agent (s : State) : s.tryNegotiate.agent = s.agent := by
  rcases tryNegotiate_cases s with h | h <;> rw [h]
  exact sendTrain_agent _ _ _ _ _

/-- What follows a DIE_ID frame changes of start-up the step and the frames to repeat alone. -/
theorem afterDieId_start (s : State) : ∃ st r, s.afterDieId.start = { s.start with st := st, repeats := r } := by
  unfold State.afterDieId
  split
  · exact ⟨.lash, s.start.repeats, rfl⟩
  · exact tryNegotiate_start s

/-! ### A belay and a port that goes down (R187, R347) -/

/-- What the failure of a start-up step shows: start-up, the AON island, the receive braids, and the events of START_FAILURE. -/
def State.failView (s : State) : Start × Aon × Oct RxBraid × Tbl (BitVec 32) × Nat :=
  (s.start, s.aon, s.link.rx, s.flt.raised, eventsOf s.flt.queue 0x10)

/-- An event raised is one more of its TYPE. -/
theorem raise_eventsOf (s : State) (typ code a0 a1 a2 b d p v t n : Nat) :
    eventsOf (s.raise typ code a0 a1 a2 b d p v t).flt.queue n = eventsOf s.flt.queue n + if typ = n then 1 else 0 := by
  by_cases h : typ = n <;> simp [State.raise, eventsOf, h]

theorem raise_failView (s : State) (typ code a0 a1 a2 b d p v t : Nat) :
    (s.raise typ code a0 a1 a2 b d p v t).failView =
      (s.start, s.aon, s.link.rx, s.flt.raised, eventsOf s.flt.queue 0x10 + if typ = 0x10 then 1 else 0) :=
  congrArg (fun n => (s.start, s.aon, s.link.rx, s.flt.raised, n)) (raise_eventsOf s typ code a0 a1 a2 b d p v t 0x10)

/-- An event of another TYPE than START_FAILURE does not show. -/
theorem raise_failView_ne (s : State) (typ code a0 a1 a2 b d p v t : Nat) (h : typ ≠ 0x10) :
    (s.raise typ code a0 a1 a2 b d p v t).failView = s.failView := by
  rw [raise_failView, if_neg h]; rfl

@[simp] theorem startBelay_failView (s : State) (case : Nat) : (s.startBelay case).failView = s.failView := by
  unfold State.startBelay
  split
  · rfl
  · exact raise_failView_ne _ _ _ _ _ _ _ _ _ _ _ (by decide)

@[simp] theorem startBelay_start (s : State) (case : Nat) : (s.startBelay case).start = s.start :=
  congrArg (·.1) (startBelay_failView s case)

@[simp] theorem startBelay_agent (s : State) (case : Nat) : (s.startBelay case).agent = s.agent := by
  unfold State.startBelay; split <;> rfl

@[simp] theorem startBelay_lash (s : State) (case : Nat) : (s.startBelay case).lash = s.lash := by
  unfold State.startBelay; split <;> rfl

theorem agentRaise_failView (s : State) (cls : PortClass) (tile index typ code a0 a1 a2 : Nat) (h : typ ≠ 0x10) :
    (s.agentRaise cls tile index typ code a0 a1 a2).failView = s.failView := by
  unfold State.agentRaise
  split
  · exact raise_failView_ne _ _ _ _ _ _ _ _ _ _ _ h
  · rfl

@[simp] theorem lateralDown_failView (s : State) : s.lateralDown.failView = s.failView := by
  unfold State.lateralDown
  split
  · rfl
  · dsimp only
    split
    · exact agentRaise_failView _ _ _ _ _ _ _ _ _ (by decide)
    · rfl

@[simp] theorem portTopo_failView (s : State) : s.portTopo.failView = s.failView := by
  unfold State.portTopo
  split
  · split <;> rfl
  · rfl

@[simp] theorem judgeDown_failView (s : State) : s.judgeDown.failView = s.failView := by
  unfold State.judgeDown
  split
  · rfl
  · split
    · simp only [portTopo_failView, lateralDown_failView, startBelay_failView]
      exact raise_failView_ne _ _ _ _ _ _ _ _ _ _ _ (by decide)
    · rfl

/-! ### Failing a step (R97) -/

/-- Start-up after its step has failed: FAILED, FAIL_CODE, and no frame or pattern that goes on. -/
def Start.fail (x : Start) (code : Nat) : Start :=
  { x with failed := true, failCode := BitVec.ofNat 8 code, repeats := [], patterns := 0 }

/-- A step that fails raises one START_FAILURE; the AON island and the receive braids stay. -/
theorem startFail_failView (s : State) (code : Nat) (hf : s.start.failed = false) :
    (s.startFail code).failView =
      (s.start.fail code, s.aon, s.link.rx, s.flt.raised, eventsOf s.flt.queue 0x10 + 1) := by
  unfold State.startFail
  rw [if_neg (by simp [hf]), judgeDown_failView, startBelay_failView, raise_failView]
  dsimp only
  generalize hu : List.foldl _ _ octs = u
  have hv : u.failView = State.failView { s with start := s.start.fail code } := by
    rw [← hu]
    exact foldl_keeps State.failView _ octs _ fun _ _ _ => rfl
  simp only [State.failView, Prod.mk.injEq] at hv
  obtain ⟨hst, haon, hrx, hraised, hev⟩ := hv
  rw [hst, haon, hrx, hraised, hev]
  rfl

theorem startFail_start (s : State) (code : Nat) (hf : s.start.failed = false) :
    (s.startFail code).start = s.start.fail code := congrArg (·.1) (startFail_failView s code hf)

/-- A step that fails from a state with no event waiting: its FAIL_CODE stands, START_FAILURE is counted once, and the AON
island and the receive braids stay. -/
theorem startFail_posted (s : State) (code : Nat) (hq : s.quiet) (hf : s.start.failed = false) :
    (s.startFail code).flushEvents.start = s.start.fail code ∧ s.counted (s.startFail code).flushEvents 0x10
      ∧ (s.startFail code).flushEvents.aon = s.aon ∧ (s.startFail code).flushEvents.link.rx = s.link.rx := by
  have hv := startFail_failView s code hf
  simp only [State.failView, Prod.mk.injEq] at hv
  obtain ⟨hst, haon, hrx, hraised, hev⟩ := hv
  rw [show s.flt.queue = [] from hq] at hev
  exact ⟨by simp [hst], counted_flush _ _ _ (by decide) hraised hev, by simp [haon], by simp [hrx]⟩

end Sys2Proof.Machine
end

section
/-!
LEMMAS. The timeouts of start-up, of a training attempt and of a parked spare (R15, R44, R70, R97, R107).
-/
namespace Sys2Proof.Machine

/-! ### The step that times out (R97) -/

/-- The far end's answer is missing for a braid in detect, so the step fails with FAIL_CODE 2 (Table 5.4). -/
theorem stepTimeout_detect (s : State) (hf : s.start.failed = false) (hst : s.start.st = .detect)
    (ha : s.test.alone = false) (hb : ∃ b : Fin 8, (s.start.txb.get b).resultGot = false) : s.stepTimeout = s.startFail 2 := by
  have missing : (octs.any fun b => !(s.start.txb.get b).resultGot) = true := by
    obtain ⟨b, hb⟩ := hb
    exact List.any_eq_true.mpr ⟨b, mem_octs b, by simp [hb]⟩
  simp [State.stepTimeout, hf, hst, ha, missing]

/-! ### A training attempt that fails outside step 7 (R107, R185) -/

@[simp] theorem flushEvents_training (s : State) (b : Fin 8) : s.flushEvents.training b = s.training b := by
  simp [State.training]

/-- A change of a braid's training as it reads. -/
@[simp] theorem modTrain_training_self (s : State) (b : Fin 8) (f : Training → Training) :
    (s.modTrain b f).training b = f (s.training b) := by simp [State.modTrain, State.training]

/-- What an end keeps of the TRAIN_DONE it sends: REASON, OK, and whether the receive braid's attempts are over. -/
def State.noteTrainDone (s : State) (b : Fin 8) (ok : Bool) (reason : Nat) : State :=
  { s.modTrain b fun t => { t with reason := reason } with
    start.rxb := s.start.rxb.upd b fun x => { x with ok := ok, doneSent := ok || 2 ≤ (s.training b).attempt } }

/-- Outside PARK's exit TRAIN_DONE goes out once it is noted. -/
theorem sendTrainDone_eq (s : State) (b : Fin 8) (ok : Bool) (reason : Nat) (he : s.aon.exiting = false) :
    s.sendTrainDone b ok reason =
      (s.noteTrainDone b ok reason).sendTrain 5 b.val (s.training b).attempt [(11, 1, b2n ok), (12, 4, reason)] :=
  if_neg (by simp [State.modTrain, he])

@[simp] theorem noteTrainDone_training (s : State) (b : Fin 8) (ok : Bool) (reason : Nat) :
    (s.noteTrainDone b ok reason).training b = { s.training b with reason := reason } :=
  modTrain_training_self s b fun t => { t with reason := reason }

@[simp] theorem noteTrainDone_ok (s : State) (b : Fin 8) (ok : Bool) (reason : Nat) :
    ((s.noteTrainDone b ok reason).start.rxb.get b).ok = ok := by simp [State.noteTrainDone]

/-- An attempt that fails outside step 7 ends at its TRAIN_DONE. -/
theorem trainFailed_outside_train (s : State) (b : Fin 8) (reason : Nat) (hf : s.start.failed = false)
    (hst : s.start.st ≠ .train) (he : s.aon.exiting = false) :
    s.trainFailed b reason = ((s.modTrain b fun t => { t with phase := .failed }).noteTrainDone b false reason).sendTrain
      5 b.val (s.training b).attempt [(11, 1, 0), (12, 4, reason)] := by
  have sent := sendTrainDone_eq (s.modTrain b fun t => { t with phase := .failed }) b false reason he
  rw [modTrain_training_self] at sent
  obtain ⟨r, hr⟩ := sendTrain_start ((s.modTrain b fun t => { t with phase := .failed }).noteTrainDone b false reason)
    5 b.val (s.training b).attempt [(11, 1, b2n false), (12, 4, reason)]
  have hst' : ((s.modTrain b fun t => { t with phase := .failed }).sendTrainDone b false reason).start.st = s.start.st := by
    rw [sent, hr]; rfl
  unfold State.trainFailed
  dsimp only
  rw [if_neg (by simp [hf]), if_pos (by simpa [hst'] using hst), sent]
  rfl

end Sys2Proof.Machine

open Sys2Proof Sys2Proof.Machine

/-- Settles O30: a step that fails does so through `State.startFail`, whose events and start-up state are `startFail_posted`;
an attempt outside step 7 ends at its TRAIN_DONE, and a spare powers down. -/
theorem startTimeoutsComplete : Obligations.StartTimeoutsComplete := by
  unfold Obligations.StartTimeoutsComplete
  refine ⟨?_, ?_, ?_, ?_, ?_, ?_⟩
  · rintro s ⟨hq, hf, hst⟩
    obtain ⟨hs, hc, -, hrx⟩ := startFail_posted s 5 hq hf
    refine completes_done (u := s.startFail 5) ?_ ?_
    · simp [exec, execStartStepTimeout, State.stepTimeout, hf, hst]
    · simp only [hs]
      exact ⟨rfl, rfl, hst, rfl, hc, hrx⟩
  · rintro s ⟨hq, hf, hst, ha, hb⟩
    obtain ⟨hs, hc, -, -⟩ := startFail_posted s 2 hq hf
    refine completes_done (u := s.startFail 2) ?_ ?_
    · simp only [exec, execStartStepTimeout, stepTimeout_detect s hf hst ha hb]
    · simp only [hs]
      exact ⟨rfl, rfl, hst, rfl, hc⟩
  · rintro s ⟨hq, hf, hst, hp⟩
    obtain ⟨hs, hc, haon, -⟩ := startFail_posted s 0xB hq hf
    refine completes_done (u := s.startFail 0xB) ?_ ?_
    · simp [exec, execStartStepTimeout, State.stepTimeout, hf, hst, hp]
    · simp only [hs]
      exact ⟨rfl, rfl, hst, hc, haon⟩
  · rintro s ⟨hq, hst, hn⟩
    refine completes_done (u := State.raise { s with start.notUpRaised := true } 0x0F (arg0 := 10)) ?_ ?_
    · simp [exec, execSidebandNotUp, hst, hn]
    · refine ⟨by simp, counted_flush _ _ _ (by decide) rfl ?_, by simp⟩
      rw [raise_eventsOf, if_pos rfl, show s.flt.queue = [] from hq]; rfl
  · rintro s b k ⟨hp, hst, he, hf⟩
    obtain ⟨r, hr⟩ := sendTrain_start ((s.modTrain b fun t => { t with phase := .failed }).noteTrainDone b false 4)
      5 b.val (s.training b).attempt [(11, 1, 0), (12, 4, 4)]
    refine completes_done (u := s.trainFailed b 4) ?_ ?_
    · simp [exec, execTrainAttemptTimeout, State.timeoutReason, hp, TrainPhase.running]
    · rw [trainFailed_outside_train s b 4 hf hst he]
      refine ⟨?_, ?_, ?_, ?_⟩
      · simp
      · simp
      · simp [hr]
      · simp only [State.flushEvents_out, sendTrain_out_sbLink]; rfl
  · rintro s ⟨hst, hp, hsp⟩
    refine completes_done (u := s.parkSpare) ?_ ?_
    · simp [exec, execSpareDieIdTimeout, hst, hp, hsp]
    · simp only [State.flushEvents_start, State.flushEvents_aon, State.flushEvents_pwr]
      exact ⟨rfl, rfl, rfl, rfl, rfl, rfl, rfl⟩
end

section
/-!
LEMMAS. The commands of an engine or interface the class of the block lacks (R22, R25, assumption log 56).
-/

open Sys2Proof Sys2Proof.Machine

/-- Settles O49: each command asks first for its engine or interface, and leaves a state without it as it is. -/
theorem absentEnginesChangeNothing : Obligations.AbsentEnginesChangeNothing := by
  unfold Obligations.AbsentEnginesChangeNothing
  refine ⟨?_, ?_, ?_, ?_, ?_, ?_, ?_, ?_, ?_⟩
  · rintro s rx f ⟨hq, h⟩
    exact completes_unchanged (by simp [exec, execContribHead, h]) hq
  · rintro s rx f ⟨hq, h⟩
    exact completes_unchanged (by simp [exec, execContribData, h]) hq
  · rintro s l ⟨hq, h⟩
    exact completes_unchanged (by simp [exec, execHitchSignal, h]) hq
  · rintro s rx f ⟨hq, h⟩
    exact completes_unchanged (by simp [exec, execHitchWait, h]) hq
  · rintro s rx f ⟨hq, h⟩
    exact completes_unchanged (by simp [exec, execHitchUpdate, h]) hq
  · rintro s f ⟨hq, h⟩
    exact completes_unchanged (by simp [exec, execHitchRead, h]) hq
  · rintro s ⟨hq, h⟩
    exact completes_unchanged (by simp [exec, execRealignEpoch, h]) hq
  · rintro s a l ⟨hq, h⟩
    exact completes_unchanged (by simp [exec, execSmSlotWrite, h]) hq
  · rintro s x y z ⟨hq, h⟩
    exact completes_unchanged (by simp [exec, execOpticalReport, h]) hq
end

section
/-!
SUPPORT. What the discovery agent's operations keep (R13 to R18, R110 to R112): its work changes its own records, the events that
wait, the frames queued for the ring and the free values alone; and a failed site stays failed when discovery closes.
-/
namespace Sys2Proof.Machine

/-- The state without what the agent's work may change: its records but CLOSED, the events that wait, the frames queued for the
ring and the free values. -/
def State.besidesAgent (s : State) : State :=
  { s with agent := { zeroAgent with closed := s.agent.closed }, flt.queue := [], sb.ringOwn := [], freeCtr := 0 }

@[simp] theorem topo_besidesAgent (s : State) : s.topo.besidesAgent = s.besidesAgent := rfl

@[simp] theorem agentRaise_besidesAgent (s : State) (cls : PortClass) (tile index typ code a0 a1 a2 : Nat) :
    (s.agentRaise cls tile index typ code a0 a1 a2).besidesAgent = s.besidesAgent := by
  unfold State.agentRaise; split <;> rfl

@[simp] theorem sendDieId_besidesAgent (s : State) (n : Nat) (proxy : Bool) (id : DieId) (spare refused : Bool) :
    (s.sendDieId n proxy id spare refused).besidesAgent = s.besidesAgent := by
  unfold State.sendDieId; split <;> rfl

@[simp] theorem giveId_besidesAgent (s : State) (n : Nat) (id : DieId) : (s.giveId n id).besidesAgent = s.besidesAgent := rfl

/-- A change of the agent's records other than CLOSED. -/
theorem setAgent_besidesAgent (s : State) (g : Agent) (h : g.closed = s.agent.closed) :
    State.besidesAgent { s with agent := g } = s.besidesAgent := by
  unfold State.besidesAgent; rw [h]

@[simp] theorem giveGuest_besidesAgent (s : State) (g : Nat) : (s.giveGuest g).besidesAgent = s.besidesAgent :=
  (setAgent_besidesAgent (s.giveId (56 + g) (BitVec.ofNat 8 (0x40 + g))) _ rfl).trans (giveId_besidesAgent s _ _)

/-! ### The records of SPARE (R379) -/

/-- What a write of SPARE keeps of the agent: CLOSED and the sites. -/
def Agent.known (g : Agent) : Bool × Tbl Site := (g.closed, g.sites)

@[simp] theorem finishSlot_known (g : Agent) : (finishSlot g).known = g.known := by
  unfold finishSlot; split <;> rfl

@[simp] theorem writeSpare_known (g : Agent) (n : Nat) (b : Bool) : (writeSpare g n b).known = g.known := by
  have hf := finishSlot_known g
  rw [writeSpare]
  split
  · exact hf
  · split
    · exact hf
    · extract_lets a dest data
      split
      · exact (finishSlot_known (beginSlot (finishSlot g) _ _)).trans hf
      · exact hf

@[simp] theorem writeSpares_known (g : Agent) (x y : Nat) : (writeSpares g x y).known = g.known := by
  simp [writeSpares]

/-- What the choice of a spare keeps: all besides the agent, and the sites. -/
def State.spareView (s : State) : State × Tbl Site := (s.besidesAgent, s.agent.sites)

@[simp] theorem siteRaise_spareView (s : State) (n typ code a0 a1 a2 : Nat) :
    (s.siteRaise n typ code a0 a1 a2).spareView = s.spareView := by
  unfold State.siteRaise State.agentRaise; (repeat' split) <;> rfl

@[simp] theorem agentRaise_spareView (s : State) (cls : PortClass) (tile index typ code a0 a1 a2 : Nat) :
    (s.agentRaise cls tile index typ code a0 a1 a2).spareView = s.spareView := by
  unfold State.agentRaise; split <;> rfl

/-- A change of the agent's records that keeps CLOSED and the sites. -/
theorem setAgent_spareView (s : State) (g : Agent) (h : g.known = s.agent.known) :
    State.spareView { s with agent := g } = s.spareView := by
  obtain ⟨hc, hs⟩ := Prod.mk.inj h
  unfold State.spareView
  rw [setAgent_besidesAgent s g hc, hs]

theorem chooseSpare_spareView (s : State) (t : Nat) : (s.chooseSpare t).2.spareView = s.spareView := by
  unfold State.chooseSpare
  dsimp only
  split
  · rw [siteRaise_spareView, setAgent_spareView _ _ (writeSpare_known _ _ _)]; rfl
  · rename_i r hr
    have cleared : ∀ l : List Nat, (l.foldl (fun g n => writeSpare g n false) s.agent).known = s.agent.known := fun l =>
      List.foldlRecOn (motive := fun g => g.known = s.agent.known) l _ rfl fun g hg n _ => (writeSpare_known g n false).trans hg
    split
    · rw [agentRaise_spareView]; exact setAgent_spareView s _ (cleared _)
    · split
      · rw [siteRaise_spareView]; exact setAgent_spareView s _ ((writeSpares_known _ _ _).trans (cleared _))
      · exact setAgent_spareView s _ (cleared _)

/-! ### Discovery closes (R110) -/

theorem closeTile_besidesAgent (s : State) (t : Nat) : (s.closeTile t).besidesAgent = s.besidesAgent := by
  have chosen : (s.chooseSpare t).2.besidesAgent = s.besidesAgent := congrArg (·.1) (chooseSpare_spareView s t)
  have sites : ∀ l : List Nat, State.besidesAgent (l.foldl (fun a n =>
      if a.siteFailed n then a.modSite n fun x => { x with state := 3 }
      else if n = (s.chooseSpare t).1 then a.modSite n fun x => { x with state := 2 }
      else a.modSite n fun x => { x with state := 1 }) (s.chooseSpare t).2) = s.besidesAgent := fun l =>
    (foldl_keeps State.besidesAgent _ l _ fun u n _ => by (repeat' split) <;> rfl).trans chosen
  unfold State.closeTile
  dsimp only
  split
  · rw [agentRaise_besidesAgent]; exact sites _
  · exact sites _

/-- Discovery that closes changes besides the agent's work CLOSED alone. -/
theorem closeDiscovery_besidesAgent (s : State) (h : s.agent.closed = false) :
    s.closeDiscovery.besidesAgent = State.besidesAgent { s with agent.closed := true } := by
  unfold State.closeDiscovery
  rw [if_neg (by simp [h])]
  dsimp only
  rw [foldl_keeps State.besidesAgent _ _ _ fun u n _ => sendDieId_besidesAgent u n _ _ _ _, topo_besidesAgent,
    foldl_keeps State.besidesAgent _ _ _ fun u g _ => by split <;> simp,
    foldl_keeps State.besidesAgent _ _ _ fun u p _ => giveId_besidesAgent u _ _,
    foldl_keeps State.besidesAgent _ _ _ fun u t _ => closeTile_besidesAgent u t]

theorem closeDiscovery_closed (s : State) (h : s.agent.closed = false) : s.closeDiscovery.agent.closed = true := by
  have hb := congrArg (fun u : State => u.agent.closed) (closeDiscovery_besidesAgent s h)
  exact hb

theorem closeDiscovery_start (s : State) (h : s.agent.closed = false) : s.closeDiscovery.start = s.start := by
  have hb := congrArg State.start (closeDiscovery_besidesAgent s h)
  exact hb

theorem closeDiscovery_link (s : State) (h : s.agent.closed = false) : s.closeDiscovery.link = s.link := by
  have hb := congrArg State.link (closeDiscovery_besidesAgent s h)
  exact hb

/-! ### Sites -/

theorem site_of_sites {s t : State} (h : t.agent.sites = s.agent.sites) (n : Nat) : t.site n = s.site n := by
  unfold State.site; rw [h]

theorem setAgent_site (s : State) (g : Agent) (h : g.sites = s.agent.sites) (n : Nat) :
    State.site { s with agent := g } n = s.site n := site_of_sites (s := s) h n

@[simp] theorem modSite_site_self (s : State) (n : Nat) (f : Site → Site) : (s.modSite n f).site n = f (s.site n) :=
  tget_tupd_self _ _ _ _

theorem modSite_site_ne (s : State) (m n : Nat) (f : Site → Site) (h : n ≠ m) : (s.modSite m f).site n = s.site n :=
  tget_tupd_ne _ _ _ _ _ h

@[simp] theorem agentRaise_site (s : State) (cls : PortClass) (tile index typ code a0 a1 a2 n : Nat) :
    (s.agentRaise cls tile index typ code a0 a1 a2).site n = s.site n :=
  site_of_sites (congrArg (·.2) (agentRaise_spareView s cls tile index typ code a0 a1 a2)) n

@[simp] theorem chooseSpare_site (s : State) (t n : Nat) : (s.chooseSpare t).2.site n = s.site n :=
  site_of_sites (congrArg (·.2) (chooseSpare_spareView s t)) n

@[simp] theorem sendDieId_site (s : State) (m n : Nat) (proxy : Bool) (id : DieId) (spare refused : Bool) :
    (s.sendDieId m proxy id spare refused).site n = s.site n := by
  unfold State.sendDieId; split <;> rfl

@[simp] theorem topo_site (s : State) (n : Nat) : s.topo.site n = s.site n := rfl

theorem giveId_site_ne (s : State) (m n : Nat) (id : DieId) (h : n ≠ m) : (s.giveId m id).site n = s.site n :=
  modSite_site_ne s m n (fun x => { x with state := 1, dieId := id }) h

theorem giveGuest_site_ne (s : State) (g n : Nat) (h : n ≠ 56 + g) : (s.giveGuest g).site n = s.site n :=
  (setAgent_site (s.giveId (56 + g) (BitVec.ofNat 8 (0x40 + g))) _ rfl n).trans (giveId_site_ne s (56 + g) n _ h)

/-! ### A failed site stays failed -/

/-- A tile that closes leaves a failed site failed. -/
theorem closeTile_keeps_failed (s : State) (t n : Nat) (h : (s.site n).state = 3) : ((s.closeTile t).site n).state = 3 := by
  have sites : ∀ l : List Nat, ((l.foldl (fun a m =>
      if a.siteFailed m then a.modSite m fun x => { x with state := 3 }
      else if m = (s.chooseSpare t).1 then a.modSite m fun x => { x with state := 2 }
      else a.modSite m fun x => { x with state := 1 }) (s.chooseSpare t).2).site n).state = 3 := fun l =>
    List.foldlRecOn (motive := fun u : State => (u.site n).state = 3) l _ (by simpa using h) fun u hu m _ => by
      by_cases hm : n = m
      · subst hm
        rw [if_pos (by simp [State.siteFailed, hu])]
        simp
      · (repeat' split) <;> rw [modSite_site_ne _ _ _ _ hm] <;> exact hu
  unfold State.closeTile
  dsimp only
  split
  · rw [agentRaise_site]; exact sites _
  · exact sites _

/-- Discovery that closes leaves a failed site failed: IDs go to the active sites and to guest ports that beaconed. -/
theorem closeDiscovery_keeps_failed (s : State) (n : Nat) (h : (s.site n).state = 3) :
    (s.closeDiscovery.site n).state = 3 := by
  unfold State.closeDiscovery
  split
  · exact h
  · dsimp only
    have tiles : ((List.foldl State.closeTile { s with agent.closed := true } (List.range 8)).site n).state = 3 :=
      List.foldlRecOn (motive := fun u : State => (u.site n).state = 3) _ _ h fun u hu t _ => closeTile_keeps_failed u t n hu
    generalize List.foldl State.closeTile { s with agent.closed := true } (List.range 8) = u at tiles ⊢
    rw [foldl_keeps (fun v : State => v.site n) _ _ _ fun v m _ => sendDieId_site v m n _ _ _ _, topo_site]
    refine List.foldlRecOn (motive := fun v : State => (v.site n).state = 3) _ _ ?_ fun v hv g _ => ?_
    · refine List.foldlRecOn (motive := fun v : State => (v.site n).state = 3) _ _ tiles fun v hv p hp => ?_
      have active : (u.site p.1).state = 1 := by
        simpa using (List.mem_filter.mp (List.of_mem_zip hp).1).2
      have hne : n ≠ p.1 := by rintro rfl; omega
      rw [giveId_site_ne v p.1 n _ hne]; exact hv
    · split
      · rename_i hg
        have hne : n ≠ 56 + g := by rintro rfl; simp [hv] at hg
        rw [giveGuest_site_ne v g n hne]; exact hv
      · exact hv

/-! ### Discovery that may close early (R110) -/

theorem guestDone_state (s : State) (g : Nat) : ∃ k, (s.guestDone g).2 = { s with freeCtr := k } := by
  unfold State.guestDone
  split
  · exact ⟨s.freeCtr, rfl⟩
  · split
    · exact ⟨s.freeCtr, rfl⟩
    · exact ⟨s.freeCtr + 1, rfl⟩

/-- Discovery stays open, or closes, with free values used. -/
theorem tryClose_cases (s : State) :
    ∃ k, s.tryClose = { s with freeCtr := k } ∨
      s.agent.closed = false ∧ s.tryClose = State.closeDiscovery { s with freeCtr := k } := by
  obtain ⟨i, hi⟩ := guestDone_state s 0
  obtain ⟨k, hk⟩ := guestDone_state { s with freeCtr := i } 1
  unfold State.tryClose
  split
  · exact ⟨s.freeCtr, .inl rfl⟩
  · rename_i h
    have opened : s.agent.closed = false := by simp at h; exact h.1
    dsimp only
    rw [hi, hk]
    split
    · exact ⟨k, .inr ⟨opened, rfl⟩⟩
    · exact ⟨k, .inl rfl⟩

/-- Discovery waits for a compute site that has neither beaconed nor failed. -/
theorem tryClose_waits (s : State) (m : Nat) (hm : m < 56) (hu : (s.site m).uid = none) (hs : (s.site m).state ≠ 3) :
    s.tryClose = s := by
  have silent : (List.range 56).all s.heardFrom = false :=
    List.all_eq_false.mpr ⟨m, List.mem_range.mpr hm, by simp [State.heardFrom, hu, hs]⟩
  simp [State.tryClose, silent]

theorem tryClose_link (s : State) : s.tryClose.link = s.link := by
  obtain ⟨k, h | ⟨hc, h⟩⟩ := tryClose_cases s <;> rw [h]
  exact closeDiscovery_link { s with freeCtr := k } hc

theorem tryClose_keeps_failed (s : State) (n : Nat) (h : (s.site n).state = 3) : (s.tryClose.site n).state = 3 := by
  obtain ⟨k, hk | ⟨-, hk⟩⟩ := tryClose_cases s <;> rw [hk]
  · exact h
  · exact closeDiscovery_keeps_failed { s with freeCtr := k } n h

end Sys2Proof.Machine
end

section
/-!
LEMMAS. Discovery, die IDs and dead dies (R15, R39, R109 to R112, R358, R359): what a beacon, a DIE_ID frame, a revocation and a
poll do.
-/
namespace Sys2Proof.Machine

/-! ### Frames received -/

theorem receive_view (s : State) (f : SbFrame) :
    (s.receive f).2.straps = s.straps ∧ (s.receive f).2.start = s.start ∧ (s.receive f).2.agent = s.agent := by
  simpa [State.heardView] using receive_heardView s f

theorem hear_view (s : State) (f : SbFrame) :
    (s.hear f).2.straps = s.straps ∧ (s.hear f).2.start = s.start ∧ (s.hear f).2.agent = s.agent := by
  simpa [State.heardView] using hear_heardView s f

/-! ### Beacons (R109, R110) -/

/-- Away from the hub no topology entry is rewritten. -/
theorem portTopo_of_not_agentHere (s : State) (h : s.agentHere = false) : s.portTopo = s := by
  unfold State.portTopo; split <;> simp [h]

/-- A link-local beacon on a port that is no fibre port is noted, and step 9 may end. -/
theorem beaconHeard_local (s : State) (f : SbFrame) (ha : s.agentHere = false) (hl : isLocal f = true)
    (hc : s.cls.isFibre = false) :
    s.beaconHeard f = State.tryNegotiate { s with start.farUid := f.payload, start.beaconGot := true } := by
  have here : State.portTopo { s with start.farUid := f.payload, start.beaconGot := true }
      = { s with start.farUid := f.payload, start.beaconGot := true } := portTopo_of_not_agentHere _ ha
  simp [State.beaconHeard, hc, hl, here]

/-- Before discovery closes a unique ID no other site beacons with is recorded. -/
theorem agentBeacon_open (s : State) (n : Nat) (uid : BitVec 64) (hc : s.agent.closed = false)
    (hr : s.agent.revokedUids = []) (hu : ∀ m : Nat, m < 58 → m ≠ n → (s.site m).uid ≠ some uid) :
    s.agentBeacon n uid = (s.modSite n fun y => { y with uid := some uid }).tryClose := by
  have alone : ((List.range 58).filter fun m => m ≠ n && (s.site m).uid = some uid && (s.site m).state != 3) = [] := by
    refine List.filter_eq_nil_iff.mpr fun m hm => ?_
    by_cases hn : m = n
    · simp [hn]
    · simp [hu m (List.mem_range.mp hm) hn]
  unfold State.agentBeacon
  rw [hr, List.find?_nil]
  dsimp only
  rw [alone]
  simp [hc]

/-! ### DIE_ID frames (R111) -/

/-- A compute die takes the ID a frame for it gives. -/
theorem takeDieId_start (s : State) (f : SbFrame) (hu : bf f.payload 16 48 = s.straps.uid.toNat % 2 ^ 48)
    (hn : bit f.payload 9 = false) : ∃ st r, (s.takeDieId f).start = { s.start with
      dieId := BitVec.ofNat 8 (bf f.payload 0 8), spare := bit f.payload 8, dieIdGot := true, st := st, repeats := r } := by
  unfold State.takeDieId
  rw [if_neg (by simp [hu])]
  simp only [failedSite, hn, Bool.and_false, Bool.false_eq_true, if_false]
  exact afterDieId_start _

/-- A refused compute die fails its step with FAIL_CODE 9, whether its site is held OFF or not. -/
theorem takeDieId_refused (s : State) (f : SbFrame) (hf : s.start.failed = false)
    (hu : bf f.payload 16 48 = s.straps.uid.toNat % 2 ^ 48) (hr : bit f.payload 9 = true) :
    (s.takeDieId f).start.failed = true ∧ (s.takeDieId f).start.failCode = 9 := by
  have failed := startFail_start { s with
    start.dieId := BitVec.ofNat 8 (bf f.payload 0 8), start.spare := bit f.payload 8, start.dieIdGot := true } 9 hf
  unfold State.takeDieId
  rw [if_neg (by simp [hu])]
  dsimp only
  rw [if_pos hr]
  split <;> exact ⟨congrArg Start.failed failed, congrArg Start.failCode failed⟩

/-! ### Revocations (R358, R359) -/

theorem enterFenced_st (s : State) (traffic : Bool) : (s.enterFenced traffic).start.st = .fenced := by
  unfold State.enterFenced
  split
  · rename_i h; simpa using h
  · dsimp only; split <;> simp

@[simp] theorem enterFenced_agent (s : State) (traffic : Bool) : (s.enterFenced traffic).agent = s.agent := by
  unfold State.enterFenced; dsimp only; (repeat' split) <;> simp

@[simp] theorem enterFenced_lash (s : State) (traffic : Bool) : (s.enterFenced traffic).lash = s.lash := by
  unfold State.enterFenced; dsimp only; (repeat' split) <;> simp

/-- A base end takes a revocation of its far end: it enters FENCED, the fence register says so, and the agent's view of its
site is fenced and lists the unique ID. -/
theorem revoked_accepts (s : State) (f : SbFrame) (hu : bf f.payload 16 48 = s.start.farUid.toNat % 2 ^ 48)
    (h9 : bit f.payload 9 = true) (h8 : bit f.payload 8 = false) :
    (s.revoked f).start.st = .fenced ∧ ((s.revoked f).site (7 * s.tile + s.index)).state = 4
      ∧ tfind (s.revoked f).lash.prot 0x083C = some (pack 32 [(0, 1, 1), (8, 8, bf f.payload 0 8)])
      ∧ (s.revoked f).agent.revokedUids.any (fun x => x.1 == s.start.farUid) = true := by
  unfold State.revoked
  rw [if_neg (by simp [hu, h9, h8])]
  dsimp only
  refine ⟨enterFenced_st _ _, ?_, ?_, ?_⟩
  · simp only [State.site, enterFenced_agent]
    split <;> simp [State.setProt, State.modSite]
  · simp [State.setProt, pack, packNat]
  · rw [enterFenced_agent]
    split
    · rename_i known
      simpa [State.setProt, State.modSite] using known
    · simp [State.setProt]

/-! ### Dead dies (R15, R358) -/

/-- A read of a pair that had been OPEN and has failed gives cause 1. -/
theorem deadCause_noteRead_failed (s : State) (r : SiteRead) (ho : (s.site r.site).opened = true) (hf : r.failed = true) :
    (s.noteRead r).deadCause r = 1 := by
  simp [State.deadCause, State.noteRead, ho, hf]

/-- A base end whose own active site had been OPEN and has failed sees the site declared dead. -/
theorem ownPoll_declares (s : State) (d : DieId) (hs : (s.site (7 * s.tile + s.index)).state = 1)
    (ho : (s.site (7 * s.tile + s.index)).opened = true) (hf : s.start.failed = true) :
    ((s.ownPoll d).site (7 * s.tile + s.index)).state = 5
      ∧ (s.ownPoll d).agent.revokedUids = s.agent.revokedUids ++
        [((s.site (7 * s.tile + s.index)).uid.getD 0, (s.site (7 * s.tile + s.index)).dieId)]
      ∧ (s.ownPoll d).link = s.link ∧ (s.ownPoll d).flt.raised = s.flt.raised
      ∧ eventsOf (s.ownPoll d).flt.queue 0x60 = eventsOf s.flt.queue 0x60 + 1 := by
  have active : ¬ (s.site s.ownRead.site).state ≠ 1 := not_not.mpr hs
  have kept : ((s.noteRead s.ownRead).site s.ownRead.site).uid = (s.site s.ownRead.site).uid
      ∧ ((s.noteRead s.ownRead).site s.ownRead.site).dieId = (s.site s.ownRead.site).dieId := by simp [State.noteRead]
  unfold State.ownPoll
  simp only [if_neg active, deadCause_noteRead_failed s s.ownRead ho hf, one_ne_zero, if_false, kept]
  refine ⟨?_, rfl, rfl, rfl, raise_eventsOf _ _ _ _ _ _ _ _ _ _ _ _⟩
  exact congrArg Site.state (modSite_site_self _ _ _)

/-- Before discovery closes a failed pair is a failed site, and discovery may close. -/
theorem pollSite_failed (s : State) (r : SiteRead) (hc : s.agent.closed = false) (hf : r.failed = true) :
    s.pollSite r = ((s.modSite r.site fun y => { y with gen := r.gen, braids := r.braids }).modSite r.site fun y =>
      { y with state := 3 }).tryClose := by
  unfold State.pollSite
  simp [hc, hf]

end Sys2Proof.Machine

open Sys2Proof Sys2Proof.Machine

/-- Settles O34: beacons, IDs and revocations by the lemmas above, the window's end by what closing discovery keeps
(`closeDiscovery_start`, `closeDiscovery_link`), and a failed pair by the cause its read gives or by `tryClose_keeps_failed`. -/
theorem discoveryCompletes : Obligations.DiscoveryCompletes := by
  unfold Obligations.DiscoveryCompletes
  refine ⟨?_, ?_, ?_, ?_, ?_, ?_, ?_, ?_⟩
  · rintro s f ⟨ht, ha, hh, hl, hc⟩
    obtain ⟨hstraps, -, hagent⟩ := hear_view s f
    have hb := beaconHeard_local (s.hear f).2 f
      (by rw [State.agentHere, State.cls, State.isOptical, hstraps]; exact ha) hl (by rw [State.cls, hstraps]; exact hc)
    obtain ⟨st, r, hst⟩ := tryNegotiate_start { (s.hear f).2 with start.farUid := f.payload, start.beaconGot := true }
    refine completes_done (u := (s.hear f).2.beaconHeard f) ?_ ?_
    · simp [exec, execBeacon, ht, ha, hh]
    · simp only [State.flushEvents_start, State.flushEvents_agent, hb, hst, tryNegotiate_agent, true_and]
      exact hagent
  · rintro s f n ⟨ht, ha, hp, hd, hport, hn, hc, hr, hu, m, hm, hmn, hmu, hms⟩
    have recorded : (s.modSite n fun y => { y with uid := some f.payload }).tryClose
        = s.modSite n fun y => { y with uid := some f.payload } :=
      tryClose_waits _ m hm (by rw [modSite_site_ne _ _ _ _ hmn]; exact hmu) (by rw [modSite_site_ne _ _ _ _ hmn]; exact hms)
    refine completes_done (u := s.modSite n fun y => { y with uid := some f.payload }) ?_ ?_
    · rw [← recorded, ← agentBeacon_open s n f.payload hc hr hu]
      simp [exec, execBeacon, ht, ha, hp, hd, hport, hn]
    · simp [State.site, hc]
  · rintro s ⟨ha, hc⟩
    refine completes_done (u := s.closeDiscovery) ?_ ?_
    · simp [exec, execDiscoveryWindowExpiry, ha]
    · simp [closeDiscovery_closed s hc, closeDiscovery_start s hc, closeDiscovery_link s hc]
  · rintro s f ⟨ht, hl, hr, hc, hu, hn⟩
    obtain ⟨hstraps, -, -⟩ := receive_view s f
    obtain ⟨st, r, hst⟩ := takeDieId_start (s.receive f).2 f (by rw [hstraps]; exact hu) hn
    refine completes_done (u := (s.receive f).2.takeDieId f) ?_ ?_
    · simp [exec, execDieId, ht, hr, hl, hc]
    · simp [hst]
  · rintro s f ⟨hf, ht, hl, hr, hc, hu, hn⟩
    obtain ⟨hstraps, hstart, -⟩ := receive_view s f
    obtain ⟨hfailed, hcode⟩ :=
      takeDieId_refused (s.receive f).2 f (by rw [hstart]; exact hf) (by rw [hstraps]; exact hu) hn
    refine completes_done (u := (s.receive f).2.takeDieId f) ?_ ?_
    · simp [exec, execDieId, ht, hr, hl, hc]
    · simp [hfailed, hcode]
  · rintro s f ⟨ht, hp, hl, had, hbuf, hc, hu, h9, h8⟩
    obtain ⟨hst, hsite, hprot, hrev⟩ := revoked_accepts { s with sb.ringBuf := s.sb.ringBuf.erase f } f hu h9 h8
    have taken : s.receive f = (true, { s with sb.ringBuf := s.sb.ringBuf.erase f }) := if_pos hbuf
    refine completes_done (u := State.revoked { s with sb.ringBuf := s.sb.ringBuf.erase f } f) ?_ ?_
    · simp [exec, execDieIdRevocation, ht, hp, hl, had, taken, hc]
    · simp only [State.site, State.flushEvents_start, State.flushEvents_lash, State.flushEvents_agent]
      exact ⟨hst, hsite, hprot, hrev⟩
  · rintro s d ⟨hq, hc, ho, hs, hop, hf⟩
    obtain ⟨hstate, hrev, hlink, hraised, hev⟩ := ownPoll_declares s d hs hop hf
    rw [show s.flt.queue = [] from hq] at hev
    refine completes_done (u := s.ownPoll d) ?_ ?_
    · simp [exec, execDeadDiePoll, State.agentHere, hc, PortClass.isHub]
    · simp only [State.site, State.flushEvents_link, State.flushEvents_agent]
      exact ⟨hstate, counted_flush _ _ _ (by decide) hraised hev, hlink, hrev⟩
  · rintro s r d ⟨ha, hc, hf⟩
    refine completes_done (u := s.pollSite r) ?_ ?_
    · simp [exec, execDeadDiePoll, ha, insertRead]
    · rw [pollSite_failed s r hc hf]
      simp only [State.site, State.flushEvents_link, State.flushEvents_agent]
      exact ⟨tryClose_keeps_failed _ r.site (congrArg Site.state (modSite_site_self _ _ _)), tryClose_link _⟩
end

section
/-!
LEMMAS. Frames: what an operation leaves as it was, said once for each operation and at its strongest. The operations of the
rings and of the events leave all that O57 names; every other operation leaves the two parts that O60 isolates. First the shared
operations: registers, events, the agent's table, meters and flow control.
-/
namespace Sys2Proof.Machine

/-- The two parts O60 isolates: the test data registers, and the registers for software with the window's answer. -/
inductive Sealed | test | window

/-- What a lemma says an operation leaves as it was: all that O57 names, or one of the parts O60 isolates. -/
inductive Frame | rings | apart (p : Sealed)

def keepApart (p : Sealed) (test : Test) (glob : Glob) : State :=
  match p with
  | .test => { State.resetAs defaultStraps with test := test }
  | .window => { State.resetAs defaultStraps with glob := glob }

def keepFrame (k : Frame) (straps : Straps) (aon : Aon) (clk : Clocks) (sb : Sideband) (test : Test) (start : Start)
    (link : Link) (cal : Cal) (red : Red) (ht : Hitches) (cfg : Cfg) (agent : Agent) (pwr : Power) (lash : Lash)
    (ten : Tenancy) (mtr : Meters) (bight : Bight) (glob : Glob) (out : Outputs) : State :=
  match k with
  | .rings =>
    { State.resetAs straps with
      aon := aon, clk := clk, sb := sb, test := test, start := start, link := link, cal := cal, red := red, ht := ht, cfg := cfg
      agent := agent, pwr := pwr, lash := lash, ten := ten, mtr := mtr, bight := bight, glob := glob, out := out }
  | .apart p => keepApart p test glob

/-- The state with everything but the frame at its reset value: two states that agree on it agree on the frame. -/
def State.keep (k : Frame) (s : State) : State :=
  keepFrame k s.straps s.aon s.clk s.sb s.test s.start s.link s.cal s.red s.ht s.cfg s.agent s.pwr s.lash s.ten s.mtr s.bight
    s.glob s.out

/-! `keep_mk` and the lemmas after it are proved by `id rfl`, so that `simp` rewrites with them: as definitional steps the kernel
would compare whole records. -/

@[simp] theorem keep_mk k f0 f1 f2 f3 f4 f5 f6 f7 f8 f9 f10 f11 f12 f13 f14 f15 f16 f17 f18 f19 f20 f21 f22 f23 :
    State.keep k ⟨f0, f1, f2, f3, f4, f5, f6, f7, f8, f9, f10, f11, f12, f13, f14, f15, f16, f17, f18, f19, f20, f21, f22, f23⟩ =
      keepFrame k f0 f2 f3 f4 f5 f6 f7 f10 f11 f12 f13 f14 f16 f17 f18 f19 f20 f21 f22 := id rfl

@[simp] theorem keepFrame_fold (k : Frame) (s : State) :
    keepFrame k s.straps s.aon s.clk s.sb s.test s.start s.link s.cal s.red s.ht s.cfg s.agent s.pwr s.lash s.ten s.mtr s.bight
      s.glob s.out = s.keep k := id rfl

@[simp] theorem keepFrame_apart (p : Sealed) straps aon clk sb test start link cal red ht cfg agent pwr lash ten mtr bight
    glob out : keepFrame (.apart p) straps aon clk sb test start link cal red ht cfg agent pwr lash ten mtr bight glob out =
      keepApart p test glob := id rfl

@[simp] theorem keepApart_test (s : State) (g : Glob) : keepApart .test s.test g = s.keep (.apart .test) := id rfl

@[simp] theorem keepApart_window (s : State) (t : Test) : keepApart .window t s.glob = s.keep (.apart .window) := id rfl

@[simp] theorem keepApart_fold (p : Sealed) (s : State) : keepApart p s.test s.glob = s.keep (.apart p) := id rfl

@[simp] theorem keep_ite (k : Frame) (c : Prop) [Decidable c] (a b : State) :
    (if c then a else b).keep k = if c then a.keep k else b.keep k := apply_ite (State.keep k) c a b

@[simp] theorem keep_foldl {α : Type} {k : Frame} {g : State → α → State} {l : List α} {s : State}
    (h : ∀ u x, (g u x).keep k = u.keep k) : (l.foldl g s).keep k = s.keep k :=
  foldl_keeps (State.keep k) g l s fun u x _ => h u x

variable (k : Frame) (p : Sealed) (s : State)

/-! ### Ops -/

@[simp] theorem State.modTx_kept (b : Fin 8) (f : TxBraid → TxBraid) :
    (s.modTx b f).keep (.apart p) = s.keep (.apart p) := by simp [State.modTx]
@[simp] theorem State.modRx_kept (b : Fin 8) (f : RxBraid → RxBraid) :
    (s.modRx b f).keep (.apart p) = s.keep (.apart p) := by simp [State.modRx]
@[simp] theorem State.modShape_kept (dir : Nat) (b : Fin 8) (f : Shape → Shape) :
    (s.modShape dir b f).keep (.apart p) = s.keep (.apart p) := by simp [State.modShape]
@[simp] theorem State.modStrand_kept (q : Sealed) (dir : Nat) (b : Fin 8) (p : Nat) (f : Strand → Strand) :
    (s.modStrand dir b p f).keep (.apart q) = s.keep (.apart q) := by simp [State.modStrand]
@[simp] theorem State.modStrands_kept (dir : Nat) (b : Fin 8) (ps : List Nat) (f : Nat → Strand → Strand) :
    (s.modStrands dir b ps f).keep (.apart p) = s.keep (.apart p) := by simp [State.modStrands]
@[simp] theorem State.modTrim_kept (q : Sealed) (dir : Nat) (b : Fin 8) (p : Nat) (f : Trim → Trim) :
    (s.modTrim dir b p f).keep (.apart q) = s.keep (.apart q) := by simp [State.modTrim]
@[simp] theorem State.modRing_kept (r : Nat) (f : Ring → Ring) : (s.modRing r f).keep k = s.keep k := by simp [State.modRing]
@[simp] theorem State.modLine_kept (kf : Frame) (k : Fin 8) (f : Line → Line) :
    (s.modLine k f).keep kf = s.keep kf := by simp [State.modLine]
@[simp] theorem State.free_kept : s.free.2.keep (.apart p) = s.keep (.apart p) := by simp [State.free]
@[simp] theorem State.pick_kept {α : Type} (s : State) (d : α) (l : List α) :
    (State.pick s d l).2.keep (.apart p) = s.keep (.apart p) := by simp [State.pick]
@[simp] theorem State.startPatterns_kept (m : BitVec 8) :
    (s.startPatterns m).keep (.apart p) = s.keep (.apart p) := by simp [State.startPatterns]
@[simp] theorem State.sendCopy_kept (f : SbFrame) (b : Fin 8) :
    (s.sendCopy f b).keep (.apart p) = s.keep (.apart p) := by simp only [State.sendCopy]; (repeat' split) <;> simp
@[simp] theorem State.sendLink_kept (f : SbFrame) :
    (s.sendLink f).keep (.apart p) = s.keep (.apart p) := by simp [State.sendLink]
@[simp] theorem State.sendOpt_kept (f : SbFrame) :
    (s.sendOpt f).keep (.apart p) = s.keep (.apart p) := by simp [State.sendOpt]
@[simp] theorem State.sendLocal_kept (typ payload : Nat) :
    (s.sendLocal typ payload).keep (.apart p) = s.keep (.apart p) := by simp [State.sendLocal]
@[simp] theorem State.sendRing_kept (f : SbFrame) :
    (s.sendRing f).keep (.apart p) = s.keep (.apart p) := by simp [State.sendRing]
@[simp] theorem State.sendRouted_kept (f : SbFrame) :
    (s.sendRouted f).keep (.apart p) = s.keep (.apart p) := by unfold State.sendRouted; (repeat' split) <;> simp
@[simp] theorem State.cntSbProto_kept : s.cntSbProto.keep (.apart p) = s.keep (.apart p) := by simp [State.cntSbProto]
@[simp] theorem State.withholdReset_kept :
    s.withholdReset.keep (.apart p) = s.keep (.apart p) := by simp [State.withholdReset]
@[simp] theorem State.requestReset_kept (cause : BitVec 4) :
    (s.requestReset cause).keep (.apart p) = s.keep (.apart p) := by simp [State.requestReset]
@[simp] theorem State.sendResetPair_kept (cause : Nat) (ack drain rel : Bool) :
    (s.sendResetPair cause ack drain rel).keep (.apart p) = s.keep (.apart p) := by simp [State.sendResetPair]

/-! ### Protected -/

@[simp] theorem State.setProt_kept (off : Nat) (v : Reg) :
    (s.setProt off v).keep (.apart p) = s.keep (.apart p) := by simp [State.setProt]

/-! ### Flags -/

@[simp] theorem State.raise_kept (typ code arg0 arg1 arg2 braid dir strand vc tenant : Nat) :
    (s.raise typ code arg0 arg1 arg2 braid dir strand vc tenant).keep k = s.keep k := by simp [State.raise]
@[simp] theorem State.raiseBody_kept (typ body braid : Nat) :
    (s.raiseBody typ body braid).keep k = s.keep k := by simp [State.raiseBody]
@[simp] theorem State.ringMem_kept (m : MemReq) : (s.ringMem m).keep k = s.keep k := by simp [State.ringMem]
@[simp] theorem State.dirty_kept (kf : Frame) (k : Fin 8) : (s.dirty k).keep kf = s.keep kf := by simp [State.dirty]
@[simp] theorem State.writeEntry_kept (r entry : Nat) (msi : Bool) :
    (s.writeEntry r entry msi).keep k = s.keep k := by simp [State.writeEntry]
@[simp] theorem State.post_kept (e : Event) (seq ts : Nat) :
    (s.post e seq ts).keep k = s.keep k := by unfold State.post; (repeat' split) <;> simp
@[simp] theorem State.countEvent_kept (e : Event) : (s.countEvent e).keep k = s.keep k := by simp [State.countEvent]
@[simp] theorem State.flushEvents_kept : s.flushEvents.keep k = s.keep k := by simp [State.flushEvents]
@[simp] theorem State.raiseLimited_kept (key : Nat) (mk : State → Nat → State)
    (hmk : ∀ u n, (mk u n).keep (.apart p) = u.keep (.apart p)) :
    (s.raiseLimited key mk).keep (.apart p) = s.keep (.apart p) := by unfold State.raiseLimited; (repeat' split) <;> simp_all
@[simp] theorem State.boundaryErr_kept : s.boundaryErr.keep (.apart p) = s.keep (.apart p) := by simp [State.boundaryErr]
@[simp] theorem State.linkErr_kept : s.linkErr.keep (.apart p) = s.keep (.apart p) := by simp [State.linkErr]
@[simp] theorem State.sbErr_kept : s.sbErr.keep (.apart p) = s.keep (.apart p) := by simp [State.sbErr]
@[simp] theorem State.overrunEvent_kept (b v : Fin 8) :
    (s.overrunEvent b v).keep (.apart p) = s.keep (.apart p) := by simp [State.overrunEvent]

/-! ### Topology -/

@[simp] theorem State.modSite_kept (n : Nat) (f : Site → Site) :
    (s.modSite n f).keep (.apart p) = s.keep (.apart p) := by simp [State.modSite]
@[simp] theorem State.topo_kept : s.topo.keep (.apart p) = s.keep (.apart p) := by simp [State.topo]
@[simp] theorem State.portTopo_kept :
    s.portTopo.keep (.apart p) = s.keep (.apart p) := by simp only [State.portTopo]; (repeat' split) <;> simp
@[simp] theorem State.agentRaise_kept (cls : PortClass) (tile index typ code arg0 arg1 arg2 : Nat) :
    (s.agentRaise cls tile index typ code arg0 arg1 arg2).keep (.apart p) = s.keep (.apart p) := by simp [State.agentRaise]
@[simp] theorem State.siteRaise_kept (n typ code arg0 arg1 arg2 : Nat) :
    (s.siteRaise n typ code arg0 arg1 arg2).keep (.apart p) = s.keep (.apart p) := by simp [State.siteRaise]
@[simp] theorem State.lateralDown_kept :
    s.lateralDown.keep (.apart p) = s.keep (.apart p) := by simp only [State.lateralDown]; (repeat' split) <;> simp

/-! ### Tenancy -/

@[simp] theorem State.meter_kept (tenant counter n : Nat) :
    (s.meter tenant counter n).keep (.apart p) = s.keep (.apart p) := by simp [State.meter]
@[simp] theorem State.meterBytes_kept (tenant counter bytes : Nat) :
    (s.meterBytes tenant counter bytes).keep (.apart p) = s.keep (.apart p) := by simp [State.meterBytes]
@[simp] theorem State.closeEpoch_kept (cause closeTs : Nat) :
    (s.closeEpoch cause closeTs).keep (.apart p) = s.keep (.apart p) := by simp [State.closeEpoch]
@[simp] theorem State.raiseDiscard_kept (f : NocFlit) (cause last : Nat) :
    (s.raiseDiscard f cause last).keep (.apart p) = s.keep (.apart p) := by simp [State.raiseDiscard]
@[simp] theorem State.recordDiscard_kept (f : NocFlit) (cause : Nat) :
    (s.recordDiscard f cause).keep (.apart p) = s.keep (.apart p) := by simp [State.recordDiscard]
@[simp] theorem State.answerNoc_kept (f : NocFlit) (cause : Nat) :
    (s.answerNoc f cause).keep (.apart p) = s.keep (.apart p) := by simp [State.answerNoc]
@[simp] theorem State.answerLink_kept (f : NocFlit) (cause : Nat) :
    (s.answerLink f cause).keep (.apart p) = s.keep (.apart p) := by simp [State.answerLink]
@[simp] theorem State.policyDiscardTx_kept (f : NocFlit) :
    (s.policyDiscardTx f).keep (.apart p) = s.keep (.apart p) := by simp [State.policyDiscardTx]
@[simp] theorem State.policyDiscardRx_kept (f : NocFlit) :
    (s.policyDiscardRx f).keep (.apart p) = s.keep (.apart p) := by simp [State.policyDiscardRx]
@[simp] theorem State.firewallDiscard_kept (f : NocFlit) :
    (s.firewallDiscard f).keep (.apart p) = s.keep (.apart p) := by simp [State.firewallDiscard]
@[simp] theorem State.compareDigest_kept (b : Fin 8) (far : Nat) :
    (s.compareDigest b far).keep (.apart p) = s.keep (.apart p) := by simp [State.compareDigest]

/-! ### Flow -/

@[simp] theorem State.returnVc_kept (v : Fin 8) :
    (s.returnVc v).keep (.apart p) = s.keep (.apart p) := by simp [State.returnVc]
@[simp] theorem State.returnCredits_kept :
    s.returnCredits.keep (.apart p) = s.keep (.apart p) := by simp [State.returnCredits]
@[simp] theorem State.freeSlot_kept (v : Fin 8) :
    (s.freeSlot v).keep (.apart p) = s.keep (.apart p) := by simp [State.freeSlot]
@[simp] theorem State.startCreditInit_kept : s.startCreditInit.keep k = s.keep k := by simp [State.startCreditInit]
@[simp] theorem State.zeroCredits_kept : s.zeroCredits.keep (.apart p) = s.keep (.apart p) := by simp [State.zeroCredits]
@[simp] theorem State.setBucket_kept (i : Nat) (b : Bucket) :
    (s.setBucket i b).keep (.apart p) = s.keep (.apart p) := by simp [State.setBucket]
@[simp] theorem State.requeue_kept (i : Nat) (b : Fin 8) :
    (s.requeue i b).keep (.apart p) = s.keep (.apart p) := by simp [State.requeue]
@[simp] theorem State.retarget_kept (i : Nat) (t : Fin 8) :
    (s.retarget i t).keep (.apart p) = s.keep (.apart p) := by simp [State.retarget]
@[simp] theorem State.recomputeTargets_kept : s.recomputeTargets.keep (.apart p) = s.keep (.apart p) := by
  unfold State.recomputeTargets
  refine (keep_foldl fun u i => ?_).trans (by simp)
  split <;> simp
@[simp] theorem State.openBuckets_kept : s.openBuckets.keep (.apart p) = s.keep (.apart p) := by
  unfold State.openBuckets
  refine (keep_foldl fun u i => ?_).trans (by simp)
  (repeat' split) <;> simp
@[simp] theorem State.completeMove_kept (i : Nat) :
    (s.completeMove i).keep (.apart p) = s.keep (.apart p) := by simp [State.completeMove]
@[simp] theorem State.enqueue_kept (f : NocFlit) (fenced : Bool) :
    (s.enqueue f fenced).keep (.apart p) = s.keep (.apart p) := by simp [State.enqueue]
@[simp] theorem State.oweFrame_kept (b : Fin 8) :
    (s.oweFrame b).keep (.apart p) = s.keep (.apart p) := by simp only [State.oweFrame]; (repeat' split) <;> simp
@[simp] theorem State.gatherOwed_kept :
    s.gatherOwed.keep (.apart p) = s.keep (.apart p) := by simp only [State.gatherOwed]; (repeat' split) <;> simp
@[simp] theorem State.updateXon_kept (b : Fin 8) :
    (s.updateXon b).keep (.apart p) = s.keep (.apart p) := by simp only [State.updateXon]; (repeat' split) <;> simp
@[simp] theorem State.takeFlit_kept (rx : Bool) (f : NocFlit) :
    (s.takeFlit rx f).keep (.apart p) = s.keep (.apart p) := by simp [State.takeFlit]
@[simp] theorem State.untake_kept (rx : Bool) (f : NocFlit) :
    (s.untake rx f).keep (.apart p) = s.keep (.apart p) := by simp [State.untake]
@[simp] theorem State.egPop_kept (v : Fin 8) (i : Nat) :
    (s.egPop v i).keep (.apart p) = s.keep (.apart p) := by unfold State.egPop; (repeat' split) <;> simp
@[simp] theorem State.noteReq_kept (i : Nat) (w : EgWhat) :
    (s.noteReq i w).keep (.apart p) = s.keep (.apart p) := by cases w <;> simp [State.noteReq]
@[simp] theorem State.egressOne_kept :
    s.egressOne.keep (.apart p) = s.keep (.apart p) := by simp only [State.egressOne]; (repeat' split) <;> simp
@[simp] theorem State.egressN_kept (n0 : Nat) (s : State) : (State.egressN n0 s).keep (.apart p) = s.keep (.apart p) := by
  induction n0 generalizing s  with
    | zero => simp [State.egressN]
    | succ n ih =>
      simp [State.egressN, ih]
@[simp] theorem State.egressDrive_kept : s.egressDrive.keep (.apart p) = s.keep (.apart p) := by simp [State.egressDrive]

end Sys2Proof.Machine
end

section
/-!
LEMMAS. Frames of the operations of the rings, the strands, calibration, reduction, the ladder and the hitches.
-/
namespace Sys2Proof.Machine

variable (k : Frame) (p : Sealed) (s : State)

/-! ### RingOps -/

@[simp] theorem State.ringEvent_kept (r code : Nat) (config : Bool) (index : Nat) :
    (s.ringEvent r code config index).keep k = s.keep k := by simp [State.ringEvent]
@[simp] theorem State.cfgRefuse_kept (r code : Nat) : (s.cfgRefuse r code).keep k = s.keep k := by simp [State.cfgRefuse]
@[simp] theorem State.watchRead_kept (kf : Frame) (k : Fin 8) :
    (s.watchRead k).keep kf = s.keep kf := by simp [State.watchRead]
@[simp] theorem State.writeShadow_kept (kf : Frame) (k : Fin 8) :
    (s.writeShadow k).keep kf = s.keep kf := by simp [State.writeShadow]
@[simp] theorem State.indexMoved_kept (r : Nat) : (s.indexMoved r).keep k = s.keep k := by simp [State.indexMoved]
@[simp] theorem State.discardFifo_kept (c : Nat) : (s.discardFifo c).keep k = s.keep k := by simp [State.discardFifo]
@[simp] theorem State.haltOne_kept (r code index : Nat) :
    (s.haltOne r code index).keep k = s.keep k := by simp [State.haltOne]
@[simp] theorem State.haltRing_kept (r code index : Nat) :
    (s.haltRing r code index).keep k = s.keep k := by simp [State.haltRing]
@[simp] theorem State.fetchMore_kept (n0 : Nat) (s : State) (i : Nat) : (State.fetchMore n0 s i).keep k = s.keep k := by
  induction n0 generalizing s i with
    | zero => simp [State.fetchMore]
    | succ n ih =>
      simp [State.fetchMore, ih]
@[simp] theorem State.consume_kept (r : Nat) : (s.consume r).keep k = s.keep k := by simp [State.consume]
@[simp] theorem State.applySlot_kept (r : Nat) (v : BitVec 32) :
    (s.applySlot r v).keep k = s.keep k := by simp [State.applySlot]
@[simp] theorem State.modDesc_kept (r : Nat) (i : BitVec 32) (f : RingDesc → RingDesc) :
    (s.modDesc r i f).keep k = s.keep k := by simp [State.modDesc]
@[simp] theorem State.reserve_kept (r : Nat) : (s.reserve r).keep k = s.keep k := by simp [State.reserve]
@[simp] theorem State.loseEntry_kept (c : Nat) : (s.loseEntry c).keep k = s.keep k := by simp [State.loseEntry]
@[simp] theorem State.leaveLine_kept (kf : Frame) (k : Fin 8) :
    (s.leaveLine k).keep kf = s.keep kf := by simp [State.leaveLine]
@[simp] theorem State.drainedRing_kept (r : Nat) : (s.drainedRing r).keep k = s.keep k := by simp [State.drainedRing]
@[simp] theorem State.completeOne_kept (r : Nat) (i : BitVec 32) (status result detail : Nat) :
    (s.completeOne r i status result detail).keep k = s.keep k := by unfold State.completeOne; (repeat' split) <;> simp
@[simp] theorem State.settleCancels_kept (n0 : Nat) (s : State) : (State.settleCancels n0 s).keep k = s.keep k := by
  induction n0 generalizing s  with
    | zero => simp [State.settleCancels]
    | succ n ih =>
      unfold State.settleCancels
      (repeat' split) <;> simp [ih]
@[simp] theorem State.complete_kept (r : Nat) (i : BitVec 32) (status result detail : Nat) :
    (s.complete r i status result detail).keep k = s.keep k := by simp [State.complete]
@[simp] theorem State.completeUnstarted_kept (r : Nat) (i : BitVec 32) (status : Nat) :
    (s.completeUnstarted r i status).keep k = s.keep k := by simp [State.completeUnstarted]
@[simp] theorem State.startDesc_kept (r : Nat) (e : RingDesc) :
    (s.startDesc r e).keep k = s.keep k := by simp [State.startDesc]
@[simp] theorem State.withDesc_kept (r : RingNo) (i : BitVec 32) (op : Nat) (work : Desc → State → State)
    (hwork : ∀ x u, (work x u).keep k = u.keep k) :
    (s.withDesc r i op work).keep k = s.keep k := by unfold State.withDesc; (repeat' split) <;> simp_all
@[simp] theorem State.sendMsi_kept (r : Nat) : (s.sendMsi r).keep k = s.keep k := by simp [State.sendMsi]
@[simp] theorem State.requestMsi_kept (r : Nat) :
    (s.requestMsi r).keep k = s.keep k := by simp only [State.requestMsi]; (repeat' split) <;> simp

/-! ### Trims -/

@[simp] theorem State.retain_kept (q : Sealed) (dir : Nat) (b : Fin 8) (p : Nat) :
    (s.retain dir b p).keep (.apart q) = s.keep (.apart q) := by simp [State.retain]
@[simp] theorem State.settleGoal_kept (q : Sealed) (dir : Nat) (b : Fin 8) (p : Nat) :
    (s.settleGoal dir b p).keep (.apart q) = s.keep (.apart q) := by simp only [State.settleGoal]; (repeat' split) <;> simp
@[simp] theorem State.restoreServe_kept (b : Fin 8) (c : CalServe) :
    (s.restoreServe b c).keep (.apart p) = s.keep (.apart p) := by simp only [State.restoreServe]; (repeat' split) <;> simp
@[simp] theorem State.restoreTrims_kept (b : Fin 8) (r : CalRun) :
    (s.restoreTrims b r).keep (.apart p) = s.keep (.apart p) := by simp [State.restoreTrims]
@[simp] theorem State.dropPending_kept (dir : Nat) (b : Fin 8) :
    (s.dropPending dir b).keep (.apart p) = s.keep (.apart p) := by simp [State.dropPending]
@[simp] theorem State.captureFibre_kept (q : Sealed) (dir : Nat) (b : Fin 8) (p temp1 temp6 : Nat) :
    (s.captureFibre dir b p temp1 temp6).keep (.apart q) = s.keep (.apart q) :=
  by simp only [State.captureFibre]; (repeat' split) <;> simp

/-! ### StrandOps -/

@[simp] theorem State.sendCtl_kept (q : Sealed) (b : Fin 8) (opcode : Nat) (p : NocFlit) :
    (s.sendCtl b opcode p).keep (.apart q) = s.keep (.apart q) := by simp [State.sendCtl]
@[simp] theorem State.quarantine_kept (q : Sealed) (dir : Nat) (b : Fin 8) (p code : Nat) :
    (s.quarantine dir b p code).keep (.apart q) = s.keep (.apart q) := by simp [State.quarantine]
@[simp] theorem State.release_kept (q : Sealed) (dir : Nat) (b : Fin 8) (p disp code : Nat) :
    (s.release dir b p disp code).keep (.apart q) = s.keep (.apart q) := by unfold State.release; (repeat' split) <;> simp
@[simp] theorem State.settleSpares_kept (dir : Nat) (b : Fin 8) :
    (s.settleSpares dir b).keep (.apart p) = s.keep (.apart p) := by simp [State.settleSpares]
@[simp] theorem State.setMap_kept (dir : Nat) (b : Fin 8) (map : List Nat) (clock : Nat) :
    (s.setMap dir b map clock).keep (.apart p) = s.keep (.apart p) := by simp [State.setMap]
@[simp] theorem State.opDone_kept (o : StrandOp) (status result detail : Nat) :
    (s.opDone o status result detail).keep (.apart p) = s.keep (.apart p) := by unfold State.opDone; (repeat' split) <;> simp
@[simp] theorem State.restoreOp_kept (dir : Nat) (b : Fin 8) (o : StrandOp) (code : Nat) :
    (s.restoreOp dir b o code).keep (.apart p) = s.keep (.apart p) := by simp [State.restoreOp]
@[simp] theorem State.refuseReq_kept (b : Fin 8) (o : StrandOp) (code : Nat) :
    (s.refuseReq b o code).keep (.apart p) = s.keep (.apart p) := by simp [State.refuseReq]
@[simp] theorem State.queueOp_kept (b : Fin 8) (o : StrandOp) :
    (s.queueOp b o).keep (.apart p) = s.keep (.apart p) := by simp only [State.queueOp]; (repeat' split) <;> simp
@[simp] theorem State.assignOp_kept (b : Fin 8) (o : StrandOp) :
    (s.assignOp b o).2.keep (.apart p) = s.keep (.apart p) := by simp [State.assignOp]
@[simp] theorem State.sendPrepare_kept (q : Sealed) (b : Fin 8) (p : NocFlit) :
    (s.sendPrepare b p).keep (.apart q) = s.keep (.apart q) := by simp [State.sendPrepare]
@[simp] theorem State.mirrorTo_kept (q : Sealed) (dir : Nat) (b : Fin 8) (p : Nat) :
    (s.mirrorTo dir b p).keep (.apart q) = s.keep (.apart q) := by simp [State.mirrorTo]
@[simp] theorem State.beginReef_kept (b : Fin 8) (o : StrandOp) (width : Nat) :
    (s.beginReef b o width).keep (.apart p) = s.keep (.apart p) := by simp [State.beginReef]
@[simp] theorem State.beginSplice_kept (b : Fin 8) (o : StrandOp) (dest : Nat) :
    (s.beginSplice b o dest).keep (.apart p) = s.keep (.apart p) := by simp [State.beginSplice]
@[simp] theorem State.beginOp_kept (b : Fin 8) (o : StrandOp) (retire : State → State)
    (hretire : ∀ u, (retire u).keep (.apart p) = u.keep (.apart p)) :
    (s.beginOp b o retire).keep (.apart p) = s.keep (.apart p) := by
  unfold State.beginOp
  dsimp only
  (repeat' split) <;> simp [hretire]
@[simp] theorem State.runQueue_kept (retire : Fin 8 → State → State) (n0 : Nat) (s : State) (l : Fin 8)
    (hretire : ∀ b u, (retire b u).keep (.apart p) = u.keep (.apart p)) :
    (State.runQueue retire n0 s l).keep (.apart p) = s.keep (.apart p) := by
  induction n0 generalizing s with
  | zero => rfl
  | succ n ih =>
    unfold State.runQueue
    split
    · rfl
    · dsimp only
      rw [ih]
      simp [hretire]
@[simp] theorem State.countSwitch_kept (dir : Nat) (b : Fin 8) (o : StrandOp) :
    (s.countSwitch dir b o).keep (.apart p) = s.keep (.apart p) := by simp [State.countSwitch]
@[simp] theorem State.moveMap_kept (dir : Nat) (b : Fin 8) (o : StrandOp) :
    (s.moveMap dir b o).keep (.apart p) = s.keep (.apart p) := by simp [State.moveMap]
@[simp] theorem State.dispose_kept (dir : Nat) (b : Fin 8) (o : StrandOp) :
    (s.dispose dir b o).keep (.apart p) = s.keep (.apart p) := by simp [State.dispose]
@[simp] theorem State.switchRx_kept (b : Fin 8) (o : StrandOp) :
    (s.switchRx b o).keep (.apart p) = s.keep (.apart p) := by simp [State.switchRx]
@[simp] theorem State.switchTx_kept (b : Fin 8) (o : StrandOp) :
    (s.switchTx b o).keep (.apart p) = s.keep (.apart p) := by simp [State.switchTx]
@[simp] theorem State.serveDone_kept (b : Fin 8) (v : CalServe) :
    (s.serveDone b v).keep (.apart p) = s.keep (.apart p) := by simp only [State.serveDone]; (repeat' split) <;> simp
@[simp] theorem State.calHold_kept (b : Fin 8) (o : StrandOp) :
    (s.calHold b o).keep (.apart p) = s.keep (.apart p) := by simp only [State.calHold]; (repeat' split) <;> simp
@[simp] theorem State.settleTx_kept (b : Fin 8) (o : StrandOp) :
    (s.settleTx b o).keep (.apart p) = s.keep (.apart p) := by simp [State.settleTx]
@[simp] theorem State.calReturnLost_kept (b : Fin 8) (code : Nat) :
    (s.calReturnLost b code).keep (.apart p) = s.keep (.apart p) := by simp only [State.calReturnLost]; (repeat' split) <;> simp
@[simp] theorem State.abortTx_kept (b : Fin 8) (code : Nat) (tell : Bool) :
    (s.abortTx b code tell).keep (.apart p) = s.keep (.apart p) := by unfold State.abortTx; (repeat' split) <;> simp
@[simp] theorem State.abortRx_kept (b : Fin 8) (code : Nat) (tell : Bool) :
    (s.abortRx b code tell).keep (.apart p) = s.keep (.apart p) := by unfold State.abortRx; (repeat' split) <;> simp
@[simp] theorem State.supersede_kept (dir : Nat) (b : Fin 8) :
    (s.supersede dir b).keep (.apart p) = s.keep (.apart p) := by simp [State.supersede]
@[simp] theorem State.requestFar_kept (b : Fin 8) (o : StrandOp) :
    (s.requestFar b o).keep (.apart p) = s.keep (.apart p) := by simp [State.requestFar]

/-! ### CalOps -/

@[simp] theorem State.qualToken_kept : s.qualToken.2.keep (.apart p) = s.keep (.apart p) := by simp [State.qualToken]
@[simp] theorem State.postQual_kept (q : QualWait) :
    (s.postQual q).keep (.apart p) = s.keep (.apart p) := by simp only [State.postQual]; (repeat' split) <;> simp
@[simp] theorem State.postWaiting_kept (n0 : Nat) (s : State) :
    (State.postWaiting n0 s).keep (.apart p) = s.keep (.apart p) := by
  induction n0 generalizing s  with
    | zero => simp [State.postWaiting]
    | succ n ih =>
      unfold State.postWaiting
      (repeat' split) <;> simp [ih]
@[simp] theorem State.closeQual_kept (q : Sealed) (b : Fin 8) (p kind : Nat) (m : Meas) (status : Nat)
    (scan : Option (RingNo × BitVec 32)) :
    (s.closeQual b p kind m status scan).keep (.apart q) = s.keep (.apart q) := by simp [State.closeQual]
@[simp] theorem State.modRun_kept (b : Fin 8) (f : CalRun → CalRun) :
    (s.modRun b f).keep (.apart p) = s.keep (.apart p) := by simp [State.modRun]
@[simp] theorem State.sendCalStep_kept (b : Fin 8) (r : CalRun) (step : Nat) :
    (s.sendCalStep b r step).keep (.apart p) = s.keep (.apart p) := by simp [State.sendCalStep]
@[simp] theorem State.firstStep_kept (b : Fin 8) :
    (s.firstStep b).keep (.apart p) = s.keep (.apart p) := by unfold State.firstStep; (repeat' split) <;> simp
@[simp] theorem State.calReport_kept (q : Sealed) (b : Fin 8) (p status : Nat) (only : Option (RingNo × BitVec 32)) :
    (s.calReport b p status only).keep (.apart q) = s.keep (.apart q) := by simp [State.calReport]
@[simp] theorem State.finishCal_kept (b : Fin 8) (r : CalRun) (status : Nat) (m : Meas) :
    (s.finishCal b r status m).keep (.apart p) = s.keep (.apart p) := by unfold State.finishCal; (repeat' split) <;> simp
@[simp] theorem State.loadFound_kept (b : Fin 8) (r : CalRun) :
    (s.loadFound b r).keep (.apart p) = s.keep (.apart p) := by simp only [State.loadFound]; (repeat' split) <;> simp
@[simp] theorem State.endSteps_kept (b : Fin 8) (status : Nat) (m : Meas) :
    (s.endSteps b status m).keep (.apart p) = s.keep (.apart p) := by unfold State.endSteps; (repeat' split) <;> simp
@[simp] theorem State.standAside_kept (q : Sealed) (b : Fin 8) (p : Nat) :
    (s.standAside b p).keep (.apart q) = s.keep (.apart q) := by simp [State.standAside]
@[simp] theorem State.beginCal_kept (q : Sealed) (b : Fin 8) (p : Nat) (range : Option Nat) :
    (s.beginCal b p range).keep (.apart q) = s.keep (.apart q) := by simp only [State.beginCal]; (repeat' split) <;> simp
@[simp] theorem State.calRun_kept (n0 : Nat) (s : State) (l : Fin 8) :
    (State.calRun n0 s l).keep (.apart p) = s.keep (.apart p) := by
  induction n0 generalizing s l with
    | zero => simp [State.calRun]
    | succ n ih =>
      unfold State.calRun
      (repeat' split) <;> simp [ih]
@[simp] theorem State.calNext_kept (b : Fin 8) : (s.calNext b).keep (.apart p) = s.keep (.apart p) := by simp [State.calNext]
@[simp] theorem State.calAll_kept : s.calAll.keep (.apart p) = s.keep (.apart p) := by simp [State.calAll]
@[simp] theorem State.refuseCal_kept (q : Sealed) (b : Fin 8) (p status : Nat) (job : Option (RingNo × BitVec 32)) :
    (s.refuseCal b p status job).keep (.apart q) = s.keep (.apart q) := by simp only [State.refuseCal]; (repeat' split) <;> simp
@[simp] theorem State.askCal_kept (q : Sealed) (b : Fin 8) (p : Nat) (job : Option (RingNo × BitVec 32)) :
    (s.askCal b p job).keep (.apart q) = s.keep (.apart q) := by simp [State.askCal]
@[simp] theorem State.askMoves_kept : s.askMoves.keep (.apart p) = s.keep (.apart p) := by simp [State.askMoves]
@[simp] theorem State.calRetrain_kept (dir : Nat) (b : Fin 8) :
    (s.calRetrain dir b).keep (.apart p) = s.keep (.apart p) := by simp only [State.calRetrain]; (repeat' split) <;> simp
@[simp] theorem State.calAborted_kept (b : Fin 8) (o : StrandOp) (code : Nat) :
    (s.calAborted b o code).keep (.apart p) = s.keep (.apart p) := by unfold State.calAborted; (repeat' split) <;> simp
@[simp] theorem State.calSwitched_kept (b : Fin 8) (o : StrandOp) :
    (s.calSwitched b o).keep (.apart p) = s.keep (.apart p) := by unfold State.calSwitched; (repeat' split) <;> simp

/-! ### RedOps -/

@[simp] theorem State.modJob_kept (slot : Nat) (f : RedJob → RedJob) :
    (s.modJob slot f).keep (.apart p) = s.keep (.apart p) := by simp [State.modJob]
@[simp] theorem State.modChunk_kept (slot idx : Nat) (f : Chunk → Chunk) :
    (s.modChunk slot idx f).keep (.apart p) = s.keep (.apart p) := by simp [State.modChunk]
@[simp] theorem State.redEgress_kept (w : EgWhat) (vc : Fin 8) (last : Option (Nat × Nat)) :
    (s.redEgress w vc last).keep (.apart p) = s.keep (.apart p) := by simp [State.redEgress]
@[simp] theorem State.redDiscard_kept (slot : Option Nat) (cause job chunk rank : Nat) :
    (s.redDiscard slot cause job chunk rank).keep (.apart p) = s.keep (.apart p) :=
  by simp only [State.redDiscard]; (repeat' split) <;> simp
@[simp] theorem State.takeHeld_kept (slot : Nat) (d : Desc) (c : Chunk) (h : HeldRank) :
    (s.takeHeld slot d c h).2.keep (.apart p) = s.keep (.apart p) := by simp [State.takeHeld]
@[simp] theorem State.advance_kept (n0 : Nat) (s : State) (i : Nat) (l : Desc) (y : Chunk) :
    (State.advance n0 s i l y).2.keep (.apart p) = s.keep (.apart p) := by
  induction n0 generalizing s i l y with
    | zero => simp [State.advance]
    | succ n ih =>
      unfold State.advance
      (repeat' split) <;> simp [ih]
@[simp] theorem State.combineAll_kept (n0 : Nat) (s : State) (i : Nat) (l : Desc) (y : Chunk) :
    (State.combineAll n0 s i l y).2.keep (.apart p) = s.keep (.apart p) := by
  induction n0 generalizing s i l y with
    | zero => simp [State.combineAll]
    | succ n ih =>
      unfold State.combineAll
      (repeat' split) <;> simp [ih]
@[simp] theorem State.closeWith_kept (slot : Nat) (j : RedJob) (c : Chunk) (vals : List Nat) :
    (s.closeWith slot j c vals).keep (.apart p) = s.keep (.apart p) := by simp [State.closeWith]
@[simp] theorem State.closeChunk_kept (slot : Nat) (j : RedJob) (c : Chunk) :
    (s.closeChunk slot j c).keep (.apart p) = s.keep (.apart p) := by simp [State.closeChunk]
@[simp] theorem State.loseStreams_kept (slot : Nat) (lost : Nat → Bool) :
    (s.loseStreams slot lost).keep (.apart p) = s.keep (.apart p) := by simp [State.loseStreams]
@[simp] theorem State.putChunk_kept (slot : Nat) (c : Chunk) :
    (s.putChunk slot c).keep (.apart p) = s.keep (.apart p) := by unfold State.putChunk; (repeat' split) <;> simp
@[simp] theorem State.startRefill_kept (slot idx : Nat) :
    (s.startRefill slot idx).keep (.apart p) = s.keep (.apart p) := by unfold State.startRefill; (repeat' split) <;> simp
@[simp] theorem State.timerClose_kept (slot idx : Nat) :
    (s.timerClose slot idx).keep (.apart p) = s.keep (.apart p) := by simp only [State.timerClose]; (repeat' split) <;> simp
@[simp] theorem State.spillOut_kept (j : RedJob) (gs : List Nat) (slot idx : Nat) (lines : List Nat) :
    (s.spillOut j gs slot idx lines).keep (.apart p) = s.keep (.apart p) := keep_foldl fun u x => by simp
@[simp] theorem State.spillOne_kept (slot : Nat) (c : Chunk) :
    (s.spillOne slot c).keep (.apart p) = s.keep (.apart p) := by unfold State.spillOne; split <;> simp
@[simp] theorem State.findGrans_kept (n0 : Nat) (s : State) (i j a : Nat) :
    (State.findGrans n0 s i j a).2.keep (.apart p) = s.keep (.apart p) := by
  induction n0 generalizing s i j a with
    | zero => simp [State.findGrans]
    | succ n ih =>
      unfold State.findGrans
      (repeat' split) <;> simp [ih]
@[simp] theorem State.jobHitch_kept (j : RedJob) :
    (s.jobHitch j).keep (.apart p) = s.keep (.apart p) := by simp [State.jobHitch]
@[simp] theorem State.endJob_kept (slot : Nat) :
    (s.endJob slot).keep (.apart p) = s.keep (.apart p) := by unfold State.endJob; (repeat' split) <;> simp
@[simp] theorem State.jobSettle_kept (slot : Nat) :
    (s.jobSettle slot).keep (.apart p) = s.keep (.apart p) := by unfold State.jobSettle; (repeat' split) <;> simp
@[simp] theorem State.chunkSettle_kept (slot idx : Nat) :
    (s.chunkSettle slot idx).keep (.apart p) = s.keep (.apart p) := by unfold State.chunkSettle; (repeat' split) <;> simp
@[simp] theorem State.redSettle_kept : s.redSettle.keep (.apart p) = s.keep (.apart p) := by simp [State.redSettle]
@[simp] theorem State.egressStep_kept : s.egressStep.keep (.apart p) = s.keep (.apart p) := by simp [State.egressStep]
@[simp] theorem State.redFeed_kept : s.redFeed.keep (.apart p) = s.keep (.apart p) := by simp [State.redFeed]
@[simp] theorem State.outputChunk_kept (slot idx : Nat) :
    (s.outputChunk slot idx).keep (.apart p) = s.keep (.apart p) := by unfold State.outputChunk; (repeat' split) <;> simp
@[simp] theorem State.closeJob_kept (slot : Nat) (parked : Bool) :
    (s.closeJob slot parked).keep (.apart p) = s.keep (.apart p) := by unfold State.closeJob; (repeat' split) <;> simp
@[simp] theorem State.redPark_kept : s.redPark.keep (.apart p) = s.keep (.apart p) := by simp [State.redPark]
@[simp] theorem State.cancelJob_kept (slot : Nat) :
    (s.cancelJob slot).keep (.apart p) = s.keep (.apart p) := by simp [State.cancelJob]
@[simp] theorem State.mirrorOut_kept (f : NocFlit) :
    (s.mirrorOut f).2.keep (.apart p) = s.keep (.apart p) := by unfold State.mirrorOut; (repeat' split) <;> simp
@[simp] theorem State.truncate_kept (t : Stream) :
    (s.truncate t).keep (.apart p) = s.keep (.apart p) := by simp only [State.truncate]; (repeat' split) <;> simp
@[simp] theorem State.admitHead_kept (rx : Bool) (key : List Nat) (f : NocFlit) (slot : Nat) (d : Desc) (ch : Chunk)
    (fresh : Bool) :
    (s.admitHead rx key f slot d ch fresh).keep (.apart p) = s.keep (.apart p) :=
  by simp only [State.admitHead]; (repeat' split) <;> simp
@[simp] theorem State.acceptHead_kept (rx : Bool) (key : List Nat) (f : NocFlit) (slot : Nat) (j : RedJob) :
    (s.acceptHead rx key f slot j).keep (.apart p) = s.keep (.apart p) :=
  by simp only [State.acceptHead]; (repeat' split) <;> simp
@[simp] theorem State.joinData_kept (t : Stream) (f : NocFlit) (slot : Nat) (j : RedJob) (c : Chunk) (rank : Nat)
    (img : List (BitVec 512)) (last : Bool) :
    (s.joinData t f slot j c rank img last).keep (.apart p) = s.keep (.apart p) :=
  by simp only [State.joinData]; (repeat' split) <;> simp
@[simp] theorem State.takeData_kept (t : Stream) (f : NocFlit) :
    (s.takeData t f).keep (.apart p) = s.keep (.apart p) := by simp only [State.takeData]; (repeat' split) <;> simp
@[simp] theorem State.takeHead_kept (rx : Bool) (f : NocFlit) :
    (s.takeHead rx f).keep (.apart p) = s.keep (.apart p) := by simp only [State.takeHead]; (repeat' split) <;> simp
@[simp] theorem State.heldFlit_kept (rx : Bool) (key : List Nat) (s : State) (f : NocFlit) :
    (State.heldFlit rx key s f).keep (.apart p) = s.keep (.apart p) := by unfold State.heldFlit; split <;> simp
@[simp] theorem State.applyHeld_kept (slot : Nat) (h : PreHeld) :
    (s.applyHeld slot h).keep (.apart p) = s.keep (.apart p) := by
  have k : ∀ (key : List Nat) (u : State), (h.data.foldl (State.heldFlit h.rx key) u).keep (.apart p) = u.keep (.apart p) :=
    fun key u => keep_foldl fun u x => State.heldFlit_kept ..
  unfold State.applyHeld
  split
  · rfl
  · dsimp only
    (repeat' split) <;> simp [k]

/-! ### Ladder -/

@[simp] theorem State.sendTrain_kept (phase braid attempt : Nat) (fields : List (Nat × Nat × Nat)) :
    (s.sendTrain phase braid attempt fields).keep (.apart p) = s.keep (.apart p) := by simp [State.sendTrain]
@[simp] theorem State.forgetTrain_kept (braid : Nat) (phases : List Nat) :
    (s.forgetTrain braid phases).keep (.apart p) = s.keep (.apart p) := by simp [State.forgetTrain]
@[simp] theorem State.beginDetect_kept (b : Fin 8) (attempt : Nat) :
    (s.beginDetect b attempt).keep (.apart p) = s.keep (.apart p) := by simp [State.beginDetect]
@[simp] theorem State.postRun_kept (b : Fin 8) :
    (s.postRun b).keep (.apart p) = s.keep (.apart p) := by unfold State.postRun; (repeat' split) <;> simp
@[simp] theorem State.quietBraid_kept (b : Fin 8) :
    (s.quietBraid b).keep (.apart p) = s.keep (.apart p) := by simp [State.quietBraid]
@[simp] theorem State.beginRetrain_kept (b : Fin 8) (revive : Bool) :
    (s.beginRetrain b revive).keep (.apart p) = s.keep (.apart p) := by simp [State.beginRetrain]
@[simp] theorem State.startPortRetrain_kept :
    s.startPortRetrain.keep (.apart p) = s.keep (.apart p) := by simp [State.startPortRetrain]
@[simp] theorem State.startBelay_kept (case : Nat) :
    (s.startBelay case).keep (.apart p) = s.keep (.apart p) := by simp [State.startBelay]
@[simp] theorem State.endBelay_kept (case : Nat) :
    (s.endBelay case).keep (.apart p) = s.keep (.apart p) := by simp [State.endBelay]
@[simp] theorem State.judgeDown_kept :
    s.judgeDown.keep (.apart p) = s.keep (.apart p) := by simp only [State.judgeDown]; (repeat' split) <;> simp
@[simp] theorem State.checkDown_kept : s.checkDown.keep (.apart p) = s.keep (.apart p) := by simp [State.checkDown]
@[simp] theorem State.retireStrands_kept (dir : Nat) (b : Fin 8) :
    (s.retireStrands dir b).keep (.apart p) = s.keep (.apart p) := by simp [State.retireStrands]
@[simp] theorem State.retireDir_kept (dir : Nat) (b : Fin 8) : (s.retireDir dir b).keep (.apart p) = s.keep (.apart p) := by
  unfold State.retireDir
  split
  · rfl
  · dsimp only
    (repeat' split) <;> simp
@[simp] theorem State.sendFinal_kept (b : Fin 8) :
    (s.sendFinal b).keep (.apart p) = s.keep (.apart p) := by unfold State.sendFinal; (repeat' split) <;> simp
@[simp] theorem State.sendFinals_kept : s.sendFinals.keep (.apart p) = s.keep (.apart p) := by simp [State.sendFinals]
@[simp] theorem State.failDir_kept (dir : Nat) (b : Fin 8) :
    (s.failDir dir b).keep (.apart p) = s.keep (.apart p) := by simp only [State.failDir]; (repeat' split) <;> simp
@[simp] theorem State.failRetrain_kept (b : Fin 8) (tx rx : Bool) :
    (s.failRetrain b tx rx).keep (.apart p) = s.keep (.apart p) := by simp [State.failRetrain]
@[simp] theorem State.settleRetrains_kept (b : Fin 8) :
    (s.settleRetrains b).keep (.apart p) = s.keep (.apart p) := by simp [State.settleRetrains]
@[simp] theorem State.failEarly_kept (b : Fin 8) :
    (s.failEarly b).keep (.apart p) = s.keep (.apart p) := by simp only [State.failEarly]; (repeat' split) <;> simp
@[simp] theorem State.startRetrain_kept (b : Fin 8) (revive : Bool) :
    (s.startRetrain b revive).keep (.apart p) = s.keep (.apart p) := by simp [State.startRetrain]
@[simp] theorem State.startReplay_kept (b : Fin 8) (frm : BitVec 16) :
    (s.startReplay b frm).keep (.apart p) = s.keep (.apart p) := by simp only [State.startReplay]; (repeat' split) <;> simp
@[simp] theorem State.resendAll_kept (b : Fin 8) :
    (s.resendAll b).keep (.apart p) = s.keep (.apart p) := by simp [State.resendAll]

/-! ### HitchOps -/

@[simp] theorem State.modHitch_kept (i : Nat) (f : Hitch → Hitch) :
    (s.modHitch i f).keep (.apart p) = s.keep (.apart p) := by simp [State.modHitch]
@[simp] theorem State.htEgress_kept (f : NocFlit) :
    (s.htEgress f).keep (.apart p) = s.keep (.apart p) := by simp [State.htEgress]
@[simp] theorem State.busWake_kept (core thread cause : Nat) :
    (s.busWake core thread cause).keep (.apart p) = s.keep (.apart p) := by simp [State.busWake]
@[simp] theorem State.issueWakes_kept (l : List Wake) : (s.issueWakes l).keep (.apart p) = s.keep (.apart p) := by
  unfold State.issueWakes
  refine (keep_foldl fun u w => ?_).trans (by simp)
  split <;> simp
@[simp] theorem State.sendWakes_kept (l : List Wake) :
    (s.sendWakes l).keep (.apart p) = s.keep (.apart p) := by unfold State.sendWakes; split <;> simp
@[simp] theorem State.onePclk_kept (work : State → State)
    (hwork : ∀ u, (work u).keep (.apart p) = u.keep (.apart p)) :
    (s.onePclk work).keep (.apart p) = s.keep (.apart p) := by simp [State.onePclk, hwork]
@[simp] theorem State.evalWaiters_kept (i : Nat) :
    (s.evalWaiters i).keep (.apart p) = s.keep (.apart p) := by simp [State.evalWaiters]
@[simp] theorem State.enterWait_kept (i die core thread op : Nat) (operand : BitVec 32) (timeout : Nat)
    (desc : Option (RingNo × BitVec 32)) :
    (s.enterWait i die core thread op operand timeout desc).keep (.apart p) = s.keep (.apart p) :=
  by unfold State.enterWait; (repeat' split) <;> simp
@[simp] theorem State.owe_kept (i link : Nat) (realign : Bool) :
    (s.owe i link realign).keep (.apart p) = s.keep (.apart p) := by simp [State.owe]
@[simp] theorem State.oweAll_kept (i : Nat) (realign : Bool) :
    (s.oweAll i realign).keep (.apart p) = s.keep (.apart p) := by simp [State.oweAll]
@[simp] theorem State.feedOne_kept :
    s.feedOne.keep (.apart p) = s.keep (.apart p) := by simp only [State.feedOne]; (repeat' split) <;> simp
@[simp] theorem State.htFeed_kept : s.htFeed.keep (.apart p) = s.keep (.apart p) := by simp [State.htFeed]
@[simp] theorem State.hitchChanged_kept (i : Nat) :
    (s.hitchChanged i).keep (.apart p) = s.keep (.apart p) := by simp [State.hitchChanged]
@[simp] theorem State.refuseSig_kept (g : Sig) (code : Nat) :
    (s.refuseSig g code).keep (.apart p) = s.keep (.apart p) := by simp [State.refuseSig]
@[simp] theorem State.signed_kept (l : List Sig) :
    (s.signed l).keep (.apart p) = s.keep (.apart p) := by unfold State.signed; (repeat' split) <;> simp
@[simp] theorem State.counterCycle_kept (i : Nat) (l : List Sig) :
    (s.counterCycle i l).keep (.apart p) = s.keep (.apart p) := by simp only [State.counterCycle]; (repeat' split) <;> simp
@[simp] theorem State.barrierCycle_kept (i : Nat) (l : List Sig) :
    (s.barrierCycle i l).1.keep (.apart p) = s.keep (.apart p) := by simp only [State.barrierCycle]; (repeat' split) <;> simp
@[simp] theorem State.hitchCycle_kept (i : Nat) (l : List Sig) :
    (s.hitchCycle i l).1.keep (.apart p) = s.keep (.apart p) := by simp only [State.hitchCycle]; (repeat' split) <;> simp
@[simp] theorem State.signalCycle_kept (new : List (NocFlit × Bool)) :
    (s.signalCycle new).keep (.apart p) = s.keep (.apart p) := by simp [State.signalCycle]
@[simp] theorem State.abortAll_kept (i : Nat) :
    (s.abortAll i).keep (.apart p) = s.keep (.apart p) := by simp [State.abortAll]
@[simp] theorem State.resetHitch_kept (i : Nat) :
    (s.resetHitch i).keep (.apart p) = s.keep (.apart p) := by simp [State.resetHitch]
@[simp] theorem State.resetGroups_kept (gs : List Nat) :
    (s.resetGroups gs).keep (.apart p) = s.keep (.apart p) := by simp only [State.resetGroups]; (repeat' split) <;> simp
@[simp] theorem State.startSweep_kept : s.startSweep.keep (.apart p) = s.keep (.apart p) := by simp [State.startSweep]
@[simp] theorem State.blockHitch_kept (i : Nat) (f : NocFlit) :
    (s.blockHitch i f).keep (.apart p) = s.keep (.apart p) := by simp [State.blockHitch]
@[simp] theorem State.poisonHitch_kept (f : NocFlit) :
    (s.poisonHitch f).keep (.apart p) = s.keep (.apart p) := by simp [State.poisonHitch]
@[simp] theorem State.badHitch_kept : s.badHitch.keep (.apart p) = s.keep (.apart p) := by simp [State.badHitch]

end Sys2Proof.Machine
end

section
/-!
LEMMAS. Frames of the operations of the link, the power states, start-up, the serial memory and lashing.
-/
namespace Sys2Proof.Machine

variable (k : Frame) (p : Sealed) (s : State)

/-! ### Line -/

@[simp] theorem State.countWord_kept (b : Fin 8) (map : List Nat) (d : Decoded) :
    (s.countWord b map d).keep (.apart p) = s.keep (.apart p) := by simp only [State.countWord]; (repeat' split) <;> simp
@[simp] theorem State.takeWords_kept (b : Fin 8) (words : List (List (Nat × Nat))) :
    (s.takeWords b words).keep (.apart p) = s.keep (.apart p) := by simp [State.takeWords]
@[simp] theorem State.popFlit_kept (b : Fin 8) :
    (s.popFlit b).2.keep (.apart p) = s.keep (.apart p) := by simp only [State.popFlit]; (repeat' split) <;> simp
@[simp] theorem State.takeLine_kept (b : Fin 8) (rx : LineRx) :
    (s.takeLine b rx).2.2.keep (.apart p) = s.keep (.apart p) := by simp only [State.takeLine]; (repeat' split) <;> simp

/-! ### LinkTx -/

@[simp] theorem State.takeAck_kept (r : Fin 8) :
    (s.takeAck r).2.2.keep (.apart p) = s.keep (.apart p) := by simp only [State.takeAck]; (repeat' split) <;> simp
@[simp] theorem State.dueNak_kept (b : Fin 8) : (s.dueNak b).keep (.apart p) = s.keep (.apart p) := by simp [State.dueNak]
@[simp] theorem State.dueAck_kept (b : Fin 8) : (s.dueAck b).keep (.apart p) = s.keep (.apart p) := by simp [State.dueAck]
@[simp] theorem State.driveRaw_kept (b : Fin 8) (bits : LinkFlit) :
    (s.driveRaw b bits).keep (.apart p) = s.keep (.apart p) := by simp [State.driveRaw]
@[simp] theorem State.driveFlit_kept (b : Fin 8) (f : LinkFlit) :
    (s.driveFlit b f).keep (.apart p) = s.keep (.apart p) := by simp [State.driveFlit]
@[simp] theorem State.skipFlit_kept (b : Fin 8) :
    (s.skipFlit b).keep (.apart p) = s.keep (.apart p) := by simp [State.skipFlit]
@[simp] theorem State.sendFrame_kept (b r : Fin 8) (ftype : Nat) (seq : BitVec 16) (opcode : Nat) (s0 s1 : NocFlit)
    (v0 v1 : Bool) (digest : Nat) :
    (s.sendFrame b r ftype seq opcode s0 s1 v0 v1 digest).keep (.apart p) = s.keep (.apart p) := by simp [State.sendFrame]
@[simp] theorem State.srcPop_kept (b v : Fin 8) (src : Nat) :
    (s.srcPop b v src).2.2.keep (.apart p) = s.keep (.apart p) := by unfold State.srcPop; (repeat' split) <;> simp
@[simp] theorem State.fillSlot_kept (n0 : Nat) (s : State) (l : Fin 8) :
    (State.fillSlot n0 s l).2.keep (.apart p) = s.keep (.apart p) := by
  induction n0 generalizing s l with
    | zero => simp [State.fillSlot]
    | succ n ih =>
      unfold State.fillSlot; dsimp only
      (repeat' split) <;> simp_all
@[simp] theorem State.granted_kept (b : Fin 8) (seq : BitVec 16) (two : Bool) (g : Grant) :
    (s.granted b seq two g).keep (.apart p) = s.keep (.apart p) := by simp [State.granted]
@[simp] theorem State.doSwitch_kept (b : Fin 8) :
    (s.doSwitch b).keep (.apart p) = s.keep (.apart p) := by unfold State.doSwitch; (repeat' split) <;> simp
@[simp] theorem State.sendNew_kept (b : Fin 8) (ftype opcode : Nat) (s0 s1 : NocFlit) (v0 v1 : Bool) (ord : Option Nat) :
    (s.sendNew b ftype opcode s0 s1 v0 v1 ord).keep (.apart p) = s.keep (.apart p) := by simp [State.sendNew]
@[simp] theorem State.noteCtl_kept (part : Sealed) (b : Fin 8) (opcode : Nat) (p : NocFlit) (q : BitVec 16) :
    (s.noteCtl b opcode p q).keep (.apart part) = s.keep (.apart part) := by unfold State.noteCtl; (repeat' split) <;> simp
@[simp] theorem State.sendControl_kept (b : Fin 8) :
    (s.sendControl b).keep (.apart p) = s.keep (.apart p) := by simp only [State.sendControl]; (repeat' split) <;> simp
@[simp] theorem State.sendData_kept (b : Fin 8) :
    (s.sendData b).2.keep (.apart p) = s.keep (.apart p) := by simp only [State.sendData]; (repeat' split) <;> simp
@[simp] theorem State.sendIdle_kept (b : Fin 8) :
    (s.sendIdle b).keep (.apart p) = s.keep (.apart p) := by simp [State.sendIdle]
@[simp] theorem State.sendOwed_kept (b r : Fin 8) :
    (s.sendOwed b r).keep (.apart p) = s.keep (.apart p) := by simp [State.sendOwed]
@[simp] theorem State.resendOne_kept (b : Fin 8) (h : Held) :
    (s.resendOne b h).keep (.apart p) = s.keep (.apart p) := by simp [State.resendOne]
@[simp] theorem State.sendFresh_kept (b : Fin 8) :
    (s.sendFresh b).keep (.apart p) = s.keep (.apart p) := by simp only [State.sendFresh]; (repeat' split) <;> simp
@[simp] theorem State.sendPeriod_kept (b : Fin 8) :
    (s.sendPeriod b).keep (.apart p) = s.keep (.apart p) := by simp only [State.sendPeriod]; (repeat' split) <;> simp
@[simp] theorem State.ctlAcked_kept (b : Fin 8) (h : Held) :
    (s.ctlAcked b h).keep (.apart p) = s.keep (.apart p) := by unfold State.ctlAcked; (repeat' split) <;> simp
@[simp] theorem State.freeTo_kept (b : Fin 8) (k : BitVec 16) :
    (s.freeTo b k).keep (.apart p) = s.keep (.apart p) := by simp only [State.freeTo]; (repeat' split) <;> simp
@[simp] theorem State.ackOutside_kept (w : AckAt) :
    (s.ackOutside w).keep (.apart p) = s.keep (.apart p) := by unfold State.ackOutside; (repeat' split) <;> simp
@[simp] theorem State.applyNak_kept (b : Fin 8) (q : BitVec 16) :
    (s.applyNak b q).keep (.apart p) = s.keep (.apart p) := by simp [State.applyNak]
@[simp] theorem State.applyAcks_kept (b : Fin 8) :
    (s.applyAcks b).keep (.apart p) = s.keep (.apart p) := by simp only [State.applyAcks]; (repeat' split) <;> simp

/-! ### LinkRx -/

@[simp] theorem State.deliver_kept (b : Fin 8) (q : BitVec 16) (rel : Time) (bytes : Nat) (f : NocFlit) :
    (s.deliver b q rel bytes f).keep (.apart p) = s.keep (.apart p) := by simp [State.deliver]
@[simp] theorem State.takeCtl_kept (q : Sealed) (b : Fin 8) (h : Hdr) (p : NocFlit) :
    (s.takeCtl b h p).keep (.apart q) = s.keep (.apart q) := by simp [State.takeCtl]
@[simp] theorem State.dropCtl_kept (q : Sealed) (b : Fin 8) (op : Nat) (p : NocFlit) :
    (s.dropCtl b op p).keep (.apart q) = s.keep (.apart q) := by simp [State.dropCtl]
@[simp] theorem State.keepFailed_kept (b : Fin 8) (q : BitVec 16) (f : LinkFlit) :
    (s.keepFailed b q f).keep (.apart p) = s.keep (.apart p) := by simp [State.keepFailed]
@[simp] theorem State.compareFailed_kept (b : Fin 8) (q : BitVec 16) (f : LinkFlit) :
    (s.compareFailed b q f).keep (.apart p) = s.keep (.apart p) := by
  unfold State.compareFailed
  refine keep_foldl fun a c => ?_
  refine keep_foldl (s := a) fun u x => ?_
  dsimp only
  split <;> simp
@[simp] theorem State.switchAt_kept (b : Fin 8) (q : BitVec 16) :
    (s.switchAt b q).keep (.apart p) = s.keep (.apart p) := by unfold State.switchAt; (repeat' split) <;> simp
@[simp] theorem State.accept_kept (b : Fin 8) (h : Hdr) (f : LinkFlit) (slots : List NocFlit) (bad : Nat) :
    (s.accept b h f slots bad).keep (.apart p) = s.keep (.apart p) := by simp [State.accept]
@[simp] theorem State.startWait_kept (b : Fin 8) (tentative : Bool) :
    (s.startWait b tentative).keep (.apart p) = s.keep (.apart p) := by simp [State.startWait]
@[simp] theorem State.seen_kept (b : Fin 8) (q : BitVec 16) :
    (s.seen b q).keep (.apart p) = s.keep (.apart p) := by simp [State.seen]
@[simp] theorem State.crcFailed_kept (b : Fin 8) (f : LinkFlit) :
    (s.crcFailed b f).keep (.apart p) = s.keep (.apart p) := by simp [State.crcFailed]
@[simp] theorem State.useHeader_kept (b : Fin 8) (h : Hdr) :
    (s.useHeader b h).keep (.apart p) = s.keep (.apart p) := by simp [State.useHeader]
@[simp] theorem State.takeUnsequenced_kept (b : Fin 8) (h : Hdr) (f : LinkFlit) :
    (s.takeUnsequenced b h f).keep (.apart p) = s.keep (.apart p) := by simp [State.takeUnsequenced]
@[simp] theorem State.takeDuplicate_kept (b : Fin 8) (h : Hdr) :
    (s.takeDuplicate b h).keep (.apart p) = s.keep (.apart p) := by simp [State.takeDuplicate]
@[simp] theorem State.takeSequenced_kept (b : Fin 8) (h : Hdr) (f : LinkFlit) :
    (s.takeSequenced b h f).keep (.apart p) = s.keep (.apart p) := by simp only [State.takeSequenced]; (repeat' split) <;> simp
@[simp] theorem State.takeFrame_kept (b : Fin 8) (f : LinkFlit) :
    (s.takeFrame b f).keep (.apart p) = s.keep (.apart p) := by simp [State.takeFrame]
@[simp] theorem State.receiveFlit_kept (b : Fin 8) (bits : LinkFlit) (alt : Option LinkFlit) :
    (s.receiveFlit b bits alt).keep (.apart p) = s.keep (.apart p) := by simp only [State.receiveFlit]; (repeat' split) <;> simp

/-! ### PowerOps -/

@[simp] theorem State.applyWidth_kept (b : Fin 8) :
    (s.applyWidth b).keep (.apart p) = s.keep (.apart p) := by simp [State.applyWidth]
@[simp] theorem State.applyWidths_kept : s.applyWidths.keep (.apart p) = s.keep (.apart p) := by simp [State.applyWidths]
@[simp] theorem State.runStrands_kept (b : Fin 8) :
    (s.runStrands b).keep (.apart p) = s.keep (.apart p) := by simp [State.runStrands]
@[simp] theorem State.clearDoze_kept : s.clearDoze.keep (.apart p) = s.keep (.apart p) := by simp [State.clearDoze]
@[simp] theorem State.startBurst_kept : s.startBurst.keep (.apart p) = s.keep (.apart p) := by simp [State.startBurst]
@[simp] theorem State.dozeBraid_kept (b : Fin 8) :
    (s.dozeBraid b).keep (.apart p) = s.keep (.apart p) := by simp [State.dozeBraid]
@[simp] theorem State.dozeEnter_kept : s.dozeEnter.keep (.apart p) = s.keep (.apart p) := by simp [State.dozeEnter]
@[simp] theorem State.dozeLeave_kept : s.dozeLeave.keep (.apart p) = s.keep (.apart p) := by simp [State.dozeLeave]
@[simp] theorem State.parkDone_kept (status result : Nat) :
    (s.parkDone status result).keep (.apart p) = s.keep (.apart p) := by unfold State.parkDone; (repeat' split) <;> simp
@[simp] theorem State.startDrain_kept (why : DrainFor) :
    (s.startDrain why).keep (.apart p) = s.keep (.apart p) := by simp [State.startDrain]
@[simp] theorem State.stopDrain_kept : s.stopDrain.keep (.apart p) = s.keep (.apart p) := by simp [State.stopDrain]
@[simp] theorem State.powerDown_kept : s.powerDown.keep (.apart p) = s.keep (.apart p) := by simp [State.powerDown]
@[simp] theorem State.switchOff_kept :
    s.switchOff.keep (.apart p) = s.keep (.apart p) := by simp only [State.switchOff]; (repeat' split) <;> simp
@[simp] theorem State.enterOff_kept : s.enterOff.keep (.apart p) = s.keep (.apart p) := by simp [State.enterOff]
@[simp] theorem State.parkNow_kept : s.parkNow.keep (.apart p) = s.keep (.apart p) := by simp [State.parkNow]
@[simp] theorem State.sendReset_kept (cause : BitVec 4) (drain : Bool) :
    (s.sendReset cause drain).keep (.apart p) = s.keep (.apart p) := by simp [State.sendReset]
@[simp] theorem State.resetAfterDrain_kept :
    s.resetAfterDrain.keep (.apart p) = s.keep (.apart p) := by simp [State.resetAfterDrain]
@[simp] theorem State.askReset_kept (cause : BitVec 4) (drain : Bool) :
    (s.askReset cause drain).keep (.apart p) = s.keep (.apart p) := by simp [State.askReset]
@[simp] theorem State.parkBraid_kept (b : Fin 8) :
    (s.parkBraid b).keep (.apart p) = s.keep (.apart p) := by simp [State.parkBraid]
@[simp] theorem State.drainStep_kept : s.drainStep.keep (.apart p) = s.keep (.apart p) := by simp [State.drainStep]
@[simp] theorem State.applyTarget_kept (st : PwrState) (w : Nat) :
    (s.applyTarget st w).keep (.apart p) = s.keep (.apart p) := by unfold State.applyTarget; (repeat' split) <;> simp
@[simp] theorem State.leadTarget_kept : s.leadTarget.keep (.apart p) = s.keep (.apart p) := by simp [State.leadTarget]
@[simp] theorem State.sendCap_kept : s.sendCap.keep (.apart p) = s.keep (.apart p) := by simp [State.sendCap]
@[simp] theorem State.setCap_kept (c : PwrState × Nat) :
    (s.setCap c).keep (.apart p) = s.keep (.apart p) := by simp [State.setCap]
@[simp] theorem State.recap_kept : s.recap.keep (.apart p) = s.keep (.apart p) := by simp [State.recap]
@[simp] theorem State.capStep_kept :
    s.capStep.keep (.apart p) = s.keep (.apart p) := by simp only [State.capStep]; (repeat' split) <;> simp
@[simp] theorem State.capAtOpen_kept : s.capAtOpen.keep (.apart p) = s.keep (.apart p) := by simp [State.capAtOpen]
@[simp] theorem State.abandonPark_kept : s.abandonPark.keep (.apart p) = s.keep (.apart p) := by simp [State.abandonPark]
@[simp] theorem State.flushOne_kept (case : Nat) (f : NocFlit) :
    (s.flushOne case f).keep (.apart p) = s.keep (.apart p) := by simp [State.flushOne]
@[simp] theorem State.flushPool_kept (case : Nat) (v : Fin 8) :
    (s.flushPool case v).keep (.apart p) = s.keep (.apart p) := by simp [State.flushPool]
@[simp] theorem State.flushLinks_kept (case : Nat) :
    (s.flushLinks case).keep (.apart p) = s.keep (.apart p) := by simp [State.flushLinks]
@[simp] theorem State.flushHeld_kept (case : Nat) (b : Fin 8) :
    (s.flushHeld case b).keep (.apart p) = s.keep (.apart p) := by simp [State.flushHeld]
@[simp] theorem State.flushCase_kept (case : Nat) :
    (s.flushCase case).keep (.apart p) = s.keep (.apart p) := by simp [State.flushCase]
@[simp] theorem State.flushStep_kept : s.flushStep.keep (.apart p) = s.keep (.apart p) := by simp [State.flushStep]
@[simp] theorem State.resumeStep_kept :
    s.resumeStep.keep (.apart p) = s.keep (.apart p) := by simp only [State.resumeStep]; (repeat' split) <;> simp
@[simp] theorem State.powerStep_kept : s.powerStep.keep (.apart p) = s.keep (.apart p) := by simp [State.powerStep]

/-! ### StartOps -/

@[simp] theorem State.startFail_kept (code : Nat) :
    (s.startFail code).keep (.apart p) = s.keep (.apart p) := by simp [State.startFail]
@[simp] theorem State.reportCode_kept (q : Sealed) (dir : Nat) (b : Fin 8) (p k : Nat) (retired : Bool) :
    (s.reportCode dir b p k retired).keep (.apart q) = s.keep (.apart q) := by simp [State.reportCode]
@[simp] theorem State.lapseDetect_kept (q : Sealed) (dir : Nat) (b : Fin 8) (p : Nat) :
    (s.lapseDetect dir b p).keep (.apart q) = s.keep (.apart q) := by simp only [State.lapseDetect]; (repeat' split) <;> simp
@[simp] theorem State.classRx_kept (q : Sealed) (l : Heards) (tile b : Fin 8) (p : Nat) :
    (s.classRx l tile b p).keep (.apart q) = s.keep (.apart q) := by simp [State.classRx]
@[simp] theorem State.endObserve_kept (l : Heards) (b : Fin 8) (attempt : Nat) :
    (s.endObserve l b attempt).keep (.apart p) = s.keep (.apart p) := by unfold State.endObserve; (repeat' split) <;> simp
@[simp] theorem State.classTx_kept (l : List (Fin 8 × Nat × TxObs)) (b : Fin 8) :
    (s.classTx l b).keep (.apart p) = s.keep (.apart p) := by simp [State.classTx]
@[simp] theorem State.loadMap_kept (dir : Nat) (b : Fin 8) (m : Nat) :
    (s.loadMap dir b m).keep (.apart p) = s.keep (.apart p) := by simp [State.loadMap]
@[simp] theorem State.excludeTx_kept (q : Sealed) (b : Fin 8) (p : Nat) :
    (s.excludeTx b p).keep (.apart q) = s.keep (.apart q) := by simp only [State.excludeTx]; (repeat' split) <;> simp
@[simp] theorem State.useResult_kept (b : Fin 8) :
    (s.useResult b).keep (.apart p) = s.keep (.apart p) := by simp [State.useResult]
@[simp] theorem State.noteResult_kept (b : Fin 8) (far attempt : Nat) :
    (s.noteResult b far attempt).keep (.apart p) = s.keep (.apart p) := by simp [State.noteResult]
@[simp] theorem State.observeTx_kept (l : List (Fin 8 × Nat × TxObs)) (b : Fin 8) :
    (s.observeTx l b).keep (.apart p) = s.keep (.apart p) := by simp [State.observeTx]
@[simp] theorem State.sendMap_kept (b : Fin 8) : (s.sendMap b).keep (.apart p) = s.keep (.apart p) := by simp [State.sendMap]
@[simp] theorem State.retireStart_kept (dir : Nat) (b : Fin 8) :
    (s.retireStart dir b).keep (.apart p) = s.keep (.apart p) := by simp [State.retireStart]
@[simp] theorem State.dropEmpty_kept (b : Fin 8) :
    (s.dropEmpty b).keep (.apart p) = s.keep (.apart p) := by simp [State.dropEmpty]
@[simp] theorem State.beginTraining_kept (b : Fin 8) (attempt : Nat) :
    (s.beginTraining b attempt).keep (.apart p) = s.keep (.apart p) := by
  unfold State.beginTraining
  simp only [State.modTx_kept, State.modRx_kept]
  refine keep_foldl fun u q => ?_
  (repeat' split) <;> simp
@[simp] theorem State.enterTrain_kept : s.enterTrain.keep (.apart p) = s.keep (.apart p) := by simp [State.enterTrain]
@[simp] theorem State.tryTrain_kept : s.tryTrain.keep (.apart p) = s.keep (.apart p) := by simp [State.tryTrain]
@[simp] theorem State.trySplice_kept : s.trySplice.keep (.apart p) = s.keep (.apart p) := by simp [State.trySplice]
@[simp] theorem State.enterDetect_kept : s.enterDetect.keep (.apart p) = s.keep (.apart p) := by simp [State.enterDetect]
@[simp] theorem State.enterCalibrate_kept :
    s.enterCalibrate.keep (.apart p) = s.keep (.apart p) := by simp [State.enterCalibrate]
@[simp] theorem State.tryCalibrate_kept : s.tryCalibrate.keep (.apart p) = s.keep (.apart p) := by simp [State.tryCalibrate]
@[simp] theorem State.sendBeacon_kept : s.sendBeacon.keep (.apart p) = s.keep (.apart p) := by simp [State.sendBeacon]
@[simp] theorem State.classFail_kept (code : Nat) :
    (s.classFail code).keep (.apart p) = s.keep (.apart p) := by simp [State.classFail]
@[simp] theorem State.enterNegotiate_kept :
    s.enterNegotiate.keep (.apart p) = s.keep (.apart p) := by simp [State.enterNegotiate]
@[simp] theorem State.tryNegotiate_kept : s.tryNegotiate.keep (.apart p) = s.keep (.apart p) := by simp [State.tryNegotiate]
@[simp] theorem State.enterDiscover_kept :
    s.enterDiscover.keep (.apart p) = s.keep (.apart p) := by simp [State.enterDiscover]
@[simp] theorem State.metersAtOpen_kept : s.metersAtOpen.keep (.apart p) = s.keep (.apart p) := by simp [State.metersAtOpen]
@[simp] theorem State.enterOpen_kept : s.enterOpen.keep (.apart p) = s.keep (.apart p) := by simp [State.enterOpen]
@[simp] theorem State.parkSpare_kept : s.parkSpare.keep (.apart p) = s.keep (.apart p) := by simp [State.parkSpare]
@[simp] theorem State.enterLash_kept : s.enterLash.keep (.apart p) = s.keep (.apart p) := by simp [State.enterLash]
@[simp] theorem State.announce_kept (ack : Bool) :
    (s.announce ack).keep (.apart p) = s.keep (.apart p) := by simp [State.announce]

/-! ### SerialOps -/

@[simp] theorem State.sendSmRead_kept (tag addr len : Nat) :
    (s.sendSmRead tag addr len).keep (.apart p) = s.keep (.apart p) := by simp [State.sendSmRead]
@[simp] theorem State.smRead_kept (slot : Nat) (whole : Bool) (addr len reissues : Nat) :
    (s.smRead slot whole addr len reissues).keep (.apart p) = s.keep (.apart p) := by simp [State.smRead]
@[simp] theorem State.applyProfile_kept :
    s.applyProfile.keep (.apart p) = s.keep (.apart p) := by unfold State.applyProfile; (repeat' split) <;> simp
@[simp] theorem State.applyMapRec_kept :
    s.applyMapRec.keep (.apart p) = s.keep (.apart p) := by unfold State.applyMapRec; (repeat' split) <;> simp
@[simp] theorem State.applyParties_kept :
    s.applyParties.keep (.apart p) = s.keep (.apart p) := by unfold State.applyParties; (repeat' split) <;> simp
@[simp] theorem State.checkParties_kept : s.checkParties.keep (.apart p) = s.keep (.apart p) := by simp [State.checkParties]
@[simp] theorem State.stageValue_kept (off : Nat) (v : Reg) :
    (s.stageValue off v).keep (.apart p) = s.keep (.apart p) := by simp [State.stageValue]
@[simp] theorem State.applyStaging_kept (j : Nat) :
    (s.applyStaging j).keep (.apart p) = s.keep (.apart p) := by unfold State.applyStaging; (repeat' split) <;> simp
@[simp] theorem State.applyTset_kept :
    s.applyTset.keep (.apart p) = s.keep (.apart p) := by unfold State.applyTset; (repeat' split) <;> simp
@[simp] theorem State.loadFibreTrims_kept :
    s.loadFibreTrims.keep (.apart p) = s.keep (.apart p) := by simp [State.loadFibreTrims]
@[simp] theorem State.applyHeader_kept :
    s.applyHeader.keep (.apart p) = s.keep (.apart p) := by unfold State.applyHeader; (repeat' split) <;> simp
@[simp] theorem State.finishConfig_kept : s.finishConfig.keep (.apart p) = s.keep (.apart p) := by simp [State.finishConfig]
@[simp] theorem State.setSlot_kept (j v : Nat) :
    (s.setSlot j v).keep (.apart p) = s.keep (.apart p) := by simp [State.setSlot]
@[simp] theorem State.reject_kept : s.reject.keep (.apart p) = s.keep (.apart p) := by simp [State.reject]
@[simp] theorem State.startHeads_kept (j : Nat) :
    (s.startHeads j).keep (.apart p) = s.keep (.apart p) := by simp [State.startHeads]
@[simp] theorem State.startType_kept (n0 : Nat) (s : State) (i : Nat) :
    (State.startType n0 s i).keep (.apart p) = s.keep (.apart p) := by
  induction n0 generalizing s i with
    | zero => simp [State.startType]
    | succ n ih =>
      unfold State.startType
      (repeat' split) <;> simp [ih]
@[simp] theorem State.nextType_kept (j : Nat) :
    (s.nextType j).keep (.apart p) = s.keep (.apart p) := by simp [State.nextType]
@[simp] theorem State.tryNext_kept (j : Nat) :
    (s.tryNext j).keep (.apart p) = s.keep (.apart p) := by unfold State.tryNext; (repeat' split) <;> simp
@[simp] theorem State.judgeHead_kept (j : Nat) (head : Option (List (BitVec 8))) :
    (s.judgeHead j head).2.keep (.apart p) = s.keep (.apart p) := by simp only [State.judgeHead]; (repeat' split) <;> simp
@[simp] theorem State.headsDone_kept (j : Nat) :
    (s.headsDone j).keep (.apart p) = s.keep (.apart p) := by simp [State.headsDone]
@[simp] theorem State.wholeDone_kept (j slot : Nat) (bytes : Option (List (BitVec 8))) :
    (s.wholeDone j slot bytes).keep (.apart p) = s.keep (.apart p) := by unfold State.wholeDone; (repeat' split) <;> simp
@[simp] theorem State.readDone_kept (r : SmRead) (bytes : Option (List (BitVec 8))) :
    (s.readDone r bytes).keep (.apart p) = s.keep (.apart p) := by simp only [State.readDone]; (repeat' split) <;> simp
@[simp] theorem State.enterConfig_kept : s.enterConfig.keep (.apart p) = s.keep (.apart p) := by simp [State.enterConfig]
@[simp] theorem State.completeSideband_kept :
    s.completeSideband.keep (.apart p) = s.keep (.apart p) := by simp [State.completeSideband]
@[simp] theorem State.trySideband_kept : s.trySideband.keep (.apart p) = s.keep (.apart p) := by simp [State.trySideband]
@[simp] theorem State.readPartiesEarly_kept :
    s.readPartiesEarly.keep (.apart p) = s.keep (.apart p) := by simp [State.readPartiesEarly]
@[simp] theorem State.tryIdent_kept : s.tryIdent.keep (.apart p) = s.keep (.apart p) := by simp [State.tryIdent]

/-! ### Hitch -/

@[simp] theorem State.screenSignal_kept (rx : Bool) (f : NocFlit) :
    (s.screenSignal rx f).1.keep (.apart p) = s.keep (.apart p) := by simp only [State.screenSignal]; (repeat' split) <;> simp
@[simp] theorem State.screenAll_kept (l : List (Bool × NocFlit)) (s : State) :
    (State.screenAll l s).1.keep (.apart p) = s.keep (.apart p) := by
  induction l generalizing s with
  | nil => rfl
  | cons p l ih =>
    obtain ⟨rx, f⟩ := p
    unfold State.screenAll
    split
    · simp [ih]
    · exact ih _
@[simp] theorem State.takeWait_kept (rx : Bool) (f : NocFlit) :
    (s.takeWait rx f).keep (.apart p) = s.keep (.apart p) := by simp [State.takeWait]
@[simp] theorem State.takeUpdate_kept (rx : Bool) (f : NocFlit) :
    (s.takeUpdate rx f).keep (.apart p) = s.keep (.apart p) := by simp [State.takeUpdate]
@[simp] theorem State.htDesc_kept (r : RingNo) (i : BitVec 32) (op : Nat) (work : Nat → Desc → State → State)
    (hwork : ∀ x y u, (work x y u).keep (.apart p) = u.keep (.apart p)) :
    (s.htDesc r i op work).keep (.apart p) = s.keep (.apart p) := by simp_all [State.htDesc]
@[simp] theorem State.latch_kept (l : List (Nat × Nat)) :
    (s.latch l).keep (.apart p) = s.keep (.apart p) := by simp [State.latch]
@[simp] theorem State.copyHitch_kept (v : Reg) :
    (s.copyHitch v).keep (.apart p) = s.keep (.apart p) := by simp [State.copyHitch]
@[simp] theorem State.copyWaiter_kept (v : Reg) :
    (s.copyWaiter v).keep (.apart p) = s.keep (.apart p) := by simp only [State.copyWaiter]; (repeat' split) <;> simp

/-! ### LashOps -/

@[simp] theorem State.logViolation_kept (a : Access) (off : Nat) (value : Reg) (cause : Nat) :
    (s.logViolation a off value cause).keep (.apart p) = s.keep (.apart p) := by simp [State.logViolation]
@[simp] theorem State.fenceDone_kept (status detail : Nat) :
    (s.fenceDone status detail).keep (.apart p) = s.keep (.apart p) := by simp [State.fenceDone]
@[simp] theorem State.endLash_kept (code : Nat) :
    (s.endLash code).keep (.apart p) = s.keep (.apart p) := by simp [State.endLash]
@[simp] theorem State.lashTouched_kept : s.lashTouched.keep (.apart p) = s.keep (.apart p) := by simp [State.lashTouched]
@[simp] theorem State.enterFenced_kept (traffic : Bool) :
    (s.enterFenced traffic).keep (.apart p) = s.keep (.apart p) := by simp [State.enterFenced]
@[simp] theorem State.leaveFenced_kept : s.leaveFenced.keep (.apart p) = s.keep (.apart p) := by simp [State.leaveFenced]
@[simp] theorem State.applyOverride_kept (b : Fin 8) :
    (s.applyOverride b).keep (.apart p) = s.keep (.apart p) := by simp [State.applyOverride]
@[simp] theorem State.applyItems_kept (items : Tbl Reg) :
    (s.applyItems items).keep (.apart p) = s.keep (.apart p) := by simp [State.applyItems]
@[simp] theorem State.applyLocal_kept : s.applyLocal.keep (.apart p) = s.keep (.apart p) := by simp [State.applyLocal]
@[simp] theorem State.withdraw_kept (cause : Nat) :
    (s.withdraw cause).keep (.apart p) = s.keep (.apart p) := by simp [State.withdraw]
@[simp] theorem State.lashSwitch_kept : s.lashSwitch.keep (.apart p) = s.keep (.apart p) := by simp [State.lashSwitch]
@[simp] theorem State.lashStep_kept : s.lashStep.keep (.apart p) = s.keep (.apart p) := by simp [State.lashStep]
@[simp] theorem State.tryMatch_kept :
    s.tryMatch.keep (.apart p) = s.keep (.apart p) := by unfold State.tryMatch; (repeat' split) <;> simp
@[simp] theorem State.linkStart_kept : s.linkStart.keep (.apart p) = s.keep (.apart p) := by simp [State.linkStart]
@[simp] theorem State.takeCommit_kept : s.takeCommit.keep (.apart p) = s.keep (.apart p) := by simp [State.takeCommit]
@[simp] theorem State.portStep_kept : s.portStep.keep (.apart p) = s.keep (.apart p) := by simp [State.portStep]

end Sys2Proof.Machine
end

section
/-!
LEMMAS. Frames of the operations the commands are built from. An access of the window leaves the test registers, the pins of test
access leave the window (R48, R359, R382).
-/
namespace Sys2Proof.Machine

variable (k : Frame) (p : Sealed) (s : State)

/-! ### NocCmds -/

@[simp] theorem State.ringTake_kept (f : NocFlit) :
    (s.ringTake f).keep (.apart p) = s.keep (.apart p) := by simp [State.ringTake]
@[simp] theorem State.redTake_kept (rx : Bool) (f : NocFlit) :
    (s.redTake rx f).keep (.apart p) = s.keep (.apart p) := by simp [State.redTake]
@[simp] theorem State.htTake_kept (rx : Bool) (f : NocFlit) :
    (s.htTake rx f).keep (.apart p) = s.keep (.apart p) := by simp [State.htTake]
@[simp] theorem State.engineTake_kept (rx : Bool) (f : NocFlit) (t : State) (h : s.engineTake rx f = some t) :
    t.keep (.apart p) = s.keep (.apart p) := by
  unfold State.engineTake at h
  dsimp only at h
  split at h
  · cases h; simp
  · split at h
    · cases h; simp
    · split at h
      · cases h; rfl
      · split at h <;> cases h
        simp
@[simp] theorem State.takeEligible_kept (b : Fin 8) : (s.takeEligible b).keep (.apart p) = s.keep (.apart p) := by
  refine keep_foldl fun u x => ?_
  split
  · split
    · rename_i t h
      simp [State.engineTake_kept p u true x.flit t h]
    · rfl
  · rfl
@[simp] theorem State.endFence_kept (b : Fin 8) (x : RxFlit) :
    (s.endFence b x).keep (.apart p) = s.keep (.apart p) := by simp [State.endFence]
@[simp] theorem State.learnRevoked_kept (d : Nat) :
    (s.learnRevoked d).keep (.apart p) = s.keep (.apart p) := by simp only [State.learnRevoked]; (repeat' split) <;> simp
@[simp] theorem State.ingress_kept (f : NocFlit) (assigned : Bool) :
    (s.ingress f assigned).keep (.apart p) = s.keep (.apart p) := by
  unfold State.ingress
  dsimp only
  split
  · simp
  · split
    · simp
    · split
      · rename_i t h
        simpa using State.engineTake_kept p _ false f t h
      · simp
@[simp] theorem State.takeCredits_kept (v : Fin 8) (n : Nat) :
    (s.takeCredits v n).keep (.apart p) = s.keep (.apart p) := by simp [State.takeCredits]
@[simp] theorem State.creditAck_kept : s.creditAck.keep (.apart p) = s.keep (.apart p) := by simp [State.creditAck]
@[simp] theorem State.auditStart_kept : s.auditStart.keep k = s.keep k := by simp [State.auditStart]
@[simp] theorem State.auditIn_kept (v : Fin 8) (snap cnt : Nat) :
    (s.auditIn v snap cnt).keep k = s.keep k := by simp [State.auditIn]
@[simp] theorem State.auditEg_kept (v : Fin 8) (snap cnt : Nat) :
    (s.auditEg v snap cnt).keep k = s.keep k := by simp [State.auditEg]
@[simp] theorem State.auditAnswer_kept (cnt : Nat) :
    (s.auditAnswer cnt).keep k = s.keep k := by unfold State.auditAnswer; (repeat' split) <;> simp

/-! ### TrainOps -/

@[simp] theorem State.modTrain_kept (b : Fin 8) (f : Training → Training) :
    (s.modTrain b f).keep (.apart p) = s.keep (.apart p) := by simp [State.modTrain]
@[simp] theorem State.sendTrainDone_kept (b : Fin 8) (ok : Bool) (reason : Nat) :
    (s.sendTrainDone b ok reason).keep (.apart p) = s.keep (.apart p) := by simp [State.sendTrainDone]
@[simp] theorem State.startStream_kept (b : Fin 8) :
    (s.startStream b).keep (.apart p) = s.keep (.apart p) := by simp [State.startStream]
@[simp] theorem State.trainedNow_kept (b : Fin 8) :
    (s.trainedNow b).keep (.apart p) = s.keep (.apart p) := by simp [State.trainedNow]
@[simp] theorem State.trainFailed_kept (b : Fin 8) (reason : Nat) :
    (s.trainFailed b reason).keep (.apart p) = s.keep (.apart p) := by simp [State.trainFailed]
@[simp] theorem State.growF_kept (flight : Nat) :
    (s.growF flight).keep (.apart p) = s.keep (.apart p) := by simp [State.growF]
@[simp] theorem State.setPad_kept (b : Fin 8) : (s.setPad b).keep (.apart p) = s.keep (.apart p) := by simp [State.setPad]
@[simp] theorem State.settleTrain_kept : s.settleTrain.keep (.apart p) = s.keep (.apart p) := by simp [State.settleTrain]
@[simp] theorem State.sendTraining_kept (b : Fin 8) (at_ : Nat) :
    (s.sendTraining b at_).keep (.apart p) = s.keep (.apart p) := by simp [State.sendTraining]
@[simp] theorem State.sendMeasure_kept (b : Fin 8) (at_ : Nat) :
    (s.sendMeasure b at_).keep (.apart p) = s.keep (.apart p) := by simp [State.sendMeasure]
@[simp] theorem State.takeEcho_kept (b : Fin 8) (f : LinkFlit) (at_ : Nat) :
    (s.takeEcho b f at_).keep (.apart p) = s.keep (.apart p) := by simp only [State.takeEcho]; (repeat' split) <;> simp
@[simp] theorem State.alignAlone_kept (b : Fin 8) :
    (s.alignAlone b).keep (.apart p) = s.keep (.apart p) := by simp [State.alignAlone]
@[simp] theorem State.takeTrainFrame_kept (b : Fin 8) (f : LinkFlit) (at_ : Nat) :
    (s.takeTrainFrame b f at_).keep (.apart p) = s.keep (.apart p) :=
  by simp only [State.takeTrainFrame]; (repeat' split) <;> simp
@[simp] theorem State.findFlit_kept (b : Fin 8) :
    (s.findFlit b).keep (.apart p) = s.keep (.apart p) := State.modRx_kept _ _ _ _
@[simp] theorem State.trainLine_kept (b : Fin 8) (rx : LineRx) :
    (s.trainLine b rx).2.keep (.apart p) = s.keep (.apart p) := by simp only [State.trainLine]; (repeat' split) <;> simp
@[simp] theorem State.trainLink_kept (b : Fin 8) (rx : LineRx) (at_ : Nat) :
    (s.trainLink b rx at_).keep (.apart p) = s.keep (.apart p) := by simp only [State.trainLink]; (repeat' split) <;> simp

/-! ### BightOps -/

@[simp] theorem State.bightCount_kept (k errors bits : Nat) :
    (s.bightCount k errors bits).keep (.apart p) = s.keep (.apart p) := by simp [State.bightCount]
@[simp] theorem State.turnBack_kept (b : Fin 8) :
    (s.turnBack b).keep (.apart p) = s.keep (.apart p) := by simp only [State.turnBack]; (repeat' split) <;> simp
@[simp] theorem State.sendPattern_kept (b : Fin 8) :
    (s.sendPattern b).keep (.apart p) = s.keep (.apart p) := by simp [State.sendPattern]
@[simp] theorem State.freezeCounts_kept (counts : List (Fin 8 × Nat × Nat × Nat)) :
    (s.freezeCounts counts).keep (.apart p) = s.keep (.apart p) := by
  unfold State.freezeCounts
  simp only [keep_mk, keepFrame_apart, keepApart_fold, keep_ite]
  split
  · rfl
  · exact keep_foldl fun u c => by split <;> simp
@[simp] theorem State.takeOut_kept (m : BitVec 8) :
    (s.takeOut m).keep (.apart p) = s.keep (.apart p) := by simp [State.takeOut]
@[simp] theorem State.putBack_kept (b : Fin 8) : (s.putBack b).keep (.apart p) = s.keep (.apart p) := by simp [State.putBack]
@[simp] theorem State.sendBightReq_kept (b : Fin 8) (enter : Bool) :
    (s.sendBightReq b enter).keep (.apart p) = s.keep (.apart p) := by simp [State.sendBightReq]
@[simp] theorem State.sendBightAck_kept (b : Fin 8) (enter refused : Bool) :
    (s.sendBightAck b enter refused).keep (.apart p) = s.keep (.apart p) := by simp [State.sendBightAck]
@[simp] theorem State.bightStep_kept : s.bightStep.keep (.apart p) = s.keep (.apart p) := by simp [State.bightStep]
@[simp] theorem State.bightRun_kept (v : Reg) :
    (s.bightRun v).keep (.apart p) = s.keep (.apart p) := by simp [State.bightRun]
@[simp] theorem State.bightEnds_kept (b : Fin 8) :
    (s.bightEnds b).keep (.apart p) = s.keep (.apart p) := by simp [State.bightEnds]
@[simp] theorem State.bightStop_kept (counts : List (Fin 8 × Nat × Nat × Nat)) :
    (s.bightStop counts).keep (.apart p) = s.keep (.apart p) := by simp [State.bightStop]
@[simp] theorem State.bightDrop_kept (b : Fin 8) :
    (s.bightDrop b).keep (.apart p) = s.keep (.apart p) := by simp only [State.bightDrop]; (repeat' split) <;> simp

/-! ### Link -/

@[simp] theorem State.loopBack_kept (b : Fin 8) (rx : LineRx) :
    (s.loopBack b rx).keep (.apart p) = s.keep (.apart p) := by simp only [State.loopBack]; (repeat' split) <;> simp
@[simp] theorem State.frameIn_kept (b : Fin 8) (rx : LineRx) :
    (s.frameIn b rx).keep (.apart p) = s.keep (.apart p) := by simp only [State.frameIn]; (repeat' split) <;> simp
@[simp] theorem State.sendTrained_kept (b : Fin 8) :
    (s.sendTrained b).keep (.apart p) = s.keep (.apart p) := by simp only [State.sendTrained]; (repeat' split) <;> simp
@[simp] theorem State.flitPeriod_kept (b : Fin 8) (at_ : Nat) :
    (s.flitPeriod b at_).keep (.apart p) = s.keep (.apart p) := by simp [State.flitPeriod]
@[simp] theorem State.comeUp_kept (b : Fin 8) : (s.comeUp b).keep (.apart p) = s.keep (.apart p) := by simp [State.comeUp]
@[simp] theorem State.afterRetrain_kept (b : Fin 8) :
    (s.afterRetrain b).keep (.apart p) = s.keep (.apart p) := by simp [State.afterRetrain]
@[simp] theorem State.retrainTimeout_kept (b : Fin 8) :
    (s.retrainTimeout b).keep (.apart p) = s.keep (.apart p) := by simp [State.retrainTimeout]
@[simp] theorem State.handover_kept (b : Fin 8) (last : BitVec 16) :
    (s.handover b last).keep (.apart p) = s.keep (.apart p) := by
  unfold State.handover
  refine (keep_foldl fun u i => by simp).trans ?_
  rw [State.modTx_kept]
  refine (keep_foldl fun u c => ?_).trans (by simp)
  split <;> simp
@[simp] theorem State.settlePortRetrain_kept :
    s.settlePortRetrain.keep (.apart p) = s.keep (.apart p) := by simp [State.settlePortRetrain]
@[simp] theorem State.portReturns_kept : s.portReturns.keep (.apart p) = s.keep (.apart p) := by simp [State.portReturns]

/-! ### SidebandOps -/

@[simp] theorem State.takeCopies_kept (w : SbWord) :
    (s.takeCopies w).keep (.apart p) = s.keep (.apart p) := by simp only [State.takeCopies]; (repeat' split) <;> simp
@[simp] theorem State.noteFrame_kept (f : SbFrame) :
    (s.noteFrame f).keep (.apart p) = s.keep (.apart p) := by simp [State.noteFrame]
@[simp] theorem State.hear_kept (f : SbFrame) :
    (s.hear f).2.keep (.apart p) = s.keep (.apart p) := by simp only [State.hear]; (repeat' split) <;> simp
@[simp] theorem State.receive_kept (f : SbFrame) :
    (s.receive f).2.keep (.apart p) = s.keep (.apart p) := by unfold State.receive; (repeat' split) <;> simp
@[simp] theorem State.takeTrain_kept (f : SbFrame) (phase : Nat) (work : State → State)
    (hwork : ∀ u, (work u).keep (.apart p) = u.keep (.apart p)) :
    (s.takeTrain f phase work).keep (.apart p) = s.keep (.apart p) := by unfold State.takeTrain; (repeat' split) <;> simp_all

/-! ### AgentOps -/

@[simp] theorem State.sendDieId_kept (n : Nat) (proxy : Bool) (id : DieId) (spare refused : Bool) :
    (s.sendDieId n proxy id spare refused).keep (.apart p) = s.keep (.apart p) := by simp [State.sendDieId]
@[simp] theorem State.giveId_kept (n : Nat) (id : DieId) :
    (s.giveId n id).keep (.apart p) = s.keep (.apart p) := by simp [State.giveId]
@[simp] theorem State.giveGuest_kept (g : Nat) :
    (s.giveGuest g).keep (.apart p) = s.keep (.apart p) := by simp [State.giveGuest]
@[simp] theorem State.takeId_kept : s.takeId.keep (.apart p) = s.keep (.apart p) := by simp [State.takeId]
@[simp] theorem State.admitNow_kept (n : Nat) :
    (s.admitNow n).keep (.apart p) = s.keep (.apart p) := by unfold State.admitNow; (repeat' split) <;> simp
@[simp] theorem State.makeSpare_kept (n : Nat) :
    (s.makeSpare n).keep (.apart p) = s.keep (.apart p) := by simp [State.makeSpare]
@[simp] theorem State.chooseSpare_kept (t : Nat) :
    (s.chooseSpare t).2.keep (.apart p) = s.keep (.apart p) := by simp only [State.chooseSpare]; (repeat' split) <;> simp
@[simp] theorem State.closeTile_kept (t : Nat) :
    (s.closeTile t).keep (.apart p) = s.keep (.apart p) := by simp [State.closeTile]
@[simp] theorem State.closeDiscovery_kept :
    s.closeDiscovery.keep (.apart p) = s.keep (.apart p) := by simp [State.closeDiscovery]
@[simp] theorem State.guestDone_kept (g : Nat) :
    (s.guestDone g).2.keep (.apart p) = s.keep (.apart p) := by simp only [State.guestDone]; (repeat' split) <;> simp
@[simp] theorem State.tryClose_kept :
    s.tryClose.keep (.apart p) = s.keep (.apart p) := by simp only [State.tryClose]; (repeat' split) <;> simp
@[simp] theorem State.fencedBeacon_kept (n : Nat) (uid : BitVec 64) (id : BitVec 8) :
    (s.fencedBeacon n uid id).keep (.apart p) = s.keep (.apart p) := by simp [State.fencedBeacon]
@[simp] theorem State.nextGuest_kept (n : Nat) :
    (s.nextGuest n).keep (.apart p) = s.keep (.apart p) := by simp [State.nextGuest]
@[simp] theorem State.lateBeacon_kept (n : Nat) :
    (s.lateBeacon n).keep (.apart p) = s.keep (.apart p) := by simp [State.lateBeacon]
@[simp] theorem State.refuseDie_kept (n : Nat) :
    (s.refuseDie n).keep (.apart p) = s.keep (.apart p) := by simp [State.refuseDie]
@[simp] theorem State.agentBeacon_kept (n : Nat) (uid : BitVec 64) :
    (s.agentBeacon n uid).keep (.apart p) = s.keep (.apart p) := by simp only [State.agentBeacon]; (repeat' split) <;> simp
@[simp] theorem State.noteRead_kept (r : SiteRead) :
    (s.noteRead r).keep (.apart p) = s.keep (.apart p) := by simp [State.noteRead]
@[simp] theorem State.declareDead_kept (r : SiteRead) (cause : Nat) :
    (s.declareDead r cause).keep (.apart p) = s.keep (.apart p) := by simp only [State.declareDead]; (repeat' split) <;> simp
@[simp] theorem State.pollSite_kept (r : SiteRead) :
    (s.pollSite r).keep (.apart p) = s.keep (.apart p) := by simp [State.pollSite]

/-! ### Start -/

@[simp] theorem State.stepTimeout_kept :
    s.stepTimeout.keep (.apart p) = s.keep (.apart p) := by unfold State.stepTimeout; (repeat' split) <;> simp
@[simp] theorem State.dropOpen_kept (dir : Nat) (b : Fin 8) :
    (s.dropOpen dir b).keep (.apart p) = s.keep (.apart p) := by simp [State.dropOpen]
@[simp] theorem State.mapOpen_kept (b : Fin 8) : (s.mapOpen b).keep (.apart p) = s.keep (.apart p) := by simp [State.mapOpen]
@[simp] theorem State.goOpen_kept (b : Fin 8) : (s.goOpen b).keep (.apart p) = s.keep (.apart p) := by simp [State.goOpen]
@[simp] theorem State.trainOpen_kept (b : Fin 8) :
    (s.trainOpen b).keep (.apart p) = s.keep (.apart p) := by simp [State.trainOpen]
@[simp] theorem State.stepOpen_kept (b : Fin 8) :
    (s.stepOpen b).keep (.apart p) = s.keep (.apart p) := by simp [State.stepOpen]
@[simp] theorem State.beginTesting_kept (b : Fin 8) :
    (s.beginTesting b).keep (.apart p) = s.keep (.apart p) := by simp [State.beginTesting]
@[simp] theorem State.settleAdmits_kept : s.settleAdmits.keep (.apart p) = s.keep (.apart p) := by
  unfold State.settleAdmits
  refine (keep_foldl fun u c => ?_).trans (by simp)
  split <;> simp
@[simp] theorem State.testObserved_kept (b : Fin 8) (rx : Heards) (tx : List (Fin 8 × Nat × TxObs)) :
    (s.testObserved b rx tx).keep (.apart p) = s.keep (.apart p) := by
  unfold State.testObserved
  dsimp only
  rw [State.settleAdmits_kept, State.sendTrain_kept]
  refine (keep_foldl fun u p => ?_).trans ((keep_foldl fun u p => ?_).trans rfl)
  · split <;> simp
  · split <;> simp
@[simp] theorem State.testResult_kept (b : Fin 8) (far : Nat) :
    (s.testResult b far).keep (.apart p) = s.keep (.apart p) := by simp [State.testResult]
@[simp] theorem State.startPattern_kept (b : Fin 8) :
    (s.startPattern b).keep (.apart p) = s.keep (.apart p) := by simp only [State.startPattern]; (repeat' split) <;> simp
@[simp] theorem State.startAllPatterns_kept :
    s.startAllPatterns.keep (.apart p) = s.keep (.apart p) := by simp only [State.startAllPatterns]; (repeat' split) <;> simp
@[simp] theorem State.backToSplice_kept :
    s.backToSplice.keep (.apart p) = s.keep (.apart p) := by simp only [State.backToSplice]; (repeat' split) <;> simp
@[simp] theorem State.detectAgain_kept (b : Fin 8) :
    (s.detectAgain b).keep (.apart p) = s.keep (.apart p) := by simp only [State.detectAgain]; (repeat' split) <;> simp
@[simp] theorem State.detectGo_kept (b : Fin 8) (attempt : Nat) (payload : BitVec 64) :
    (s.detectGo b attempt payload).keep (.apart p) = s.keep (.apart p) := by simp [State.detectGo]
@[simp] theorem State.observeGroup_kept (bs : List (Fin 8)) (rx : Heards) (tx : List (Fin 8 × Nat × TxObs)) :
    (s.observeGroup bs rx tx).keep (.apart p) = s.keep (.apart p) := by simp [State.observeGroup]
@[simp] theorem State.observeAll_kept (rx : Heards) (tx : List (Fin 8 × Nat × TxObs)) :
    (s.observeAll rx tx).keep (.apart p) = s.keep (.apart p) := by simp [State.observeAll]
@[simp] theorem State.padsAgain_kept (b : Fin 8) (tx : List (Fin 8 × Nat × TxObs)) :
    (s.padsAgain b tx).keep (.apart p) = s.keep (.apart p) := by simp [State.padsAgain]
@[simp] theorem State.mapAgain_kept (b : Fin 8) :
    (s.mapAgain b).keep (.apart p) = s.keep (.apart p) := by simp only [State.mapAgain]; (repeat' split) <;> simp
@[simp] theorem State.observeOne_kept (b : Fin 8) (rx : Heards) (tx : List (Fin 8 × Nat × TxObs)) :
    (s.observeOne b rx tx).keep (.apart p) = s.keep (.apart p) := by simp [State.observeOne]
@[simp] theorem State.detectResult_kept (b : Fin 8) (far attempt : Nat) :
    (s.detectResult b far attempt).keep (.apart p) = s.keep (.apart p) := by simp [State.detectResult]
@[simp] theorem State.mapAgree_kept (b : Fin 8) (far : Nat) :
    (s.mapAgree b far).keep (.apart p) = s.keep (.apart p) := by simp [State.mapAgree]
@[simp] theorem State.trainAll_kept : s.trainAll.keep (.apart p) = s.keep (.apart p) := by simp [State.trainAll]
@[simp] theorem State.trainGo_kept (b : Fin 8) (mask : BitVec 8) :
    (s.trainGo b mask).keep (.apart p) = s.keep (.apart p) := by simp [State.trainGo]
@[simp] theorem State.setArrivals_kept (b : Fin 8) (d : Int) (l : List (Nat × Int)) :
    (s.setArrivals b d l).keep (.apart p) = s.keep (.apart p) := by simp [State.setArrivals]
@[simp] theorem State.lockAchieved_kept (b : Fin 8) (cross : Nat) (arrivals : List (Nat × Int))
    (words : List (List (Nat × Nat))) :
    (s.lockAchieved b cross arrivals words).keep (.apart p) = s.keep (.apart p) :=
  by simp only [State.lockAchieved]; (repeat' split) <;> simp
@[simp] theorem State.timeoutReason_kept (b : Fin 8) (noClock : Bool) :
    (s.timeoutReason b noClock).2.keep (.apart p) = s.keep (.apart p) := by unfold State.timeoutReason; (repeat' split) <;> simp
@[simp] theorem State.farTrained_kept (b : Fin 8) :
    (s.farTrained b).keep (.apart p) = s.keep (.apart p) := by simp [State.farTrained]
@[simp] theorem State.farFailed_kept (b : Fin 8) (attempt reason : Nat) :
    (s.farFailed b attempt reason).keep (.apart p) = s.keep (.apart p) := by simp [State.farFailed]
@[simp] theorem State.firstResult_kept (q : Sealed) (dir : Nat) (b : Fin 8) (p : Nat) (x : Found) :
    (s.firstResult dir b p x).keep (.apart q) = s.keep (.apart q) := by
  unfold State.firstResult
  dsimp only
  (repeat' split) <;> simp
@[simp] theorem State.proxyUp_kept (f : SbFrame) :
    (s.proxyUp f).keep (.apart p) = s.keep (.apart p) := by simp [State.proxyUp]
@[simp] theorem State.beaconHeard_kept (f : SbFrame) :
    (s.beaconHeard f).keep (.apart p) = s.keep (.apart p) := by simp only [State.beaconHeard]; (repeat' split) <;> simp
@[simp] theorem State.afterDieId_kept : s.afterDieId.keep (.apart p) = s.keep (.apart p) := by simp [State.afterDieId]
@[simp] theorem State.holdOff_kept : s.holdOff.keep (.apart p) = s.keep (.apart p) := by simp [State.holdOff]
@[simp] theorem State.forwardDieId_kept (f : SbFrame) :
    (s.forwardDieId f).keep (.apart p) = s.keep (.apart p) := by simp [State.forwardDieId]
@[simp] theorem State.takeDieId_kept (f : SbFrame) :
    (s.takeDieId f).keep (.apart p) = s.keep (.apart p) := by simp [State.takeDieId]
@[simp] theorem State.revoked_kept (f : SbFrame) :
    (s.revoked f).keep (.apart p) = s.keep (.apart p) := by simp [State.revoked]
@[simp] theorem State.negotiated_kept (q : Sealed) (p : BitVec 64) :
    (s.negotiated p).keep (.apart q) = s.keep (.apart q) := by simp [State.negotiated]

/-! ### RegGate -/

@[simp] theorem State.accDone_kept (data : Reg) :
    (s.accDone data).keep (.apart .test) = s.keep (.apart .test) := by simp [State.accDone]
@[simp] theorem State.accRefused_kept :
    s.accRefused.keep (.apart .test) = s.keep (.apart .test) := by simp [State.accRefused]
@[simp] theorem State.refuseWrite_kept (a : Access) (cause : Nat) :
    (s.refuseWrite a cause).keep (.apart .test) = s.keep (.apart .test) := by simp [State.refuseWrite]
@[simp] theorem State.gateWrite_kept (a : Access) (g : Gate) :
    (s.gateWrite a g).keep (.apart .test) = s.keep (.apart .test) := by unfold State.gateWrite; (repeat' split) <;> simp
@[simp] theorem State.gateRead_kept (g : Gate) :
    (s.gateRead g).keep (.apart .test) = s.keep (.apart .test) := by unfold State.gateRead; (repeat' split) <;> simp
@[simp] theorem State.regWrite_kept (a : Access) (act : State → State)
    (hact : ∀ u, (act u).keep (.apart .test) = u.keep (.apart .test)) :
    (s.regWrite a act).keep (.apart .test) = s.keep (.apart .test) := by unfold State.regWrite; (repeat' split) <;> simp_all

/-! ### Lash -/

@[simp] theorem State.lashStage_kept (a : Access) :
    (s.lashStage a).keep (.apart .test) = s.keep (.apart .test) := by simp [State.lashStage]
@[simp] theorem State.lashUnstage_kept (a : Access) :
    (s.lashUnstage a).keep (.apart .test) = s.keep (.apart .test) := by simp [State.lashUnstage]
@[simp] theorem State.lashPropose_kept (a : Access) :
    (s.lashPropose a).keep (.apart .test) = s.keep (.apart .test) := by simp [State.lashPropose]
@[simp] theorem State.lashCommit_kept (a : Access) :
    (s.lashCommit a).keep (.apart .test) = s.keep (.apart .test) := by unfold State.lashCommit; (repeat' split) <;> simp
@[simp] theorem State.lashAbort_kept (a : Access) :
    (s.lashAbort a).keep (.apart .test) = s.keep (.apart .test) := by simp [State.lashAbort]
@[simp] theorem State.takeSwitch_kept (b : Fin 8) :
    (s.takeSwitch b).keep (.apart p) = s.keep (.apart p) := by simp [State.takeSwitch]
@[simp] theorem State.takeWithdraw_kept (cause : Nat) :
    (s.takeWithdraw cause).keep (.apart p) = s.keep (.apart p) := by simp [State.takeWithdraw]
@[simp] theorem State.partyWrite_kept (a : Access) :
    (s.partyWrite a).keep (.apart .test) = s.keep (.apart .test) := by simp [State.partyWrite]

/-! ### Bight -/

@[simp] theorem State.writeBight_kept (v : Reg) (counts : List (Fin 8 × Nat × Nat × Nat)) :
    (s.writeBight v counts).keep (.apart p) = s.keep (.apart p) := by simp only [State.writeBight]; (repeat' split) <;> simp
@[simp] theorem State.bightReq_kept (b : Fin 8) (enter : Bool) :
    (s.bightReq b enter).keep (.apart p) = s.keep (.apart p) := by simp [State.bightReq]
@[simp] theorem State.takeBight_kept (f : SbFrame) (phase : Nat) (work : State → State)
    (hwork : ∀ u, (work u).keep (.apart p) = u.keep (.apart p)) :
    (s.takeBight f phase work).keep (.apart p) = s.keep (.apart p) := by unfold State.takeBight; (repeat' split) <;> simp_all
@[simp] theorem State.bightAck_kept (b : Fin 8) (enter refused : Bool) :
    (s.bightAck b enter refused).keep (.apart p) = s.keep (.apart p) := by simp [State.bightAck]

/-! ### CancelOps -/

@[simp] theorem State.dropRequests_kept (dir : Nat) (b : Fin 8) (k : RingNo × BitVec 32) :
    (s.dropRequests dir b k).keep (.apart p) = s.keep (.apart p) := by simp [State.dropRequests]
@[simp] theorem State.cancelStrand_kept (k : RingNo × BitVec 32) (d : Desc) :
    (s.cancelStrand k d).keep (.apart p) = s.keep (.apart p) := by simp only [State.cancelStrand]; (repeat' split) <;> simp
@[simp] theorem State.cancelCal_kept (k : RingNo × BitVec 32) : (s.cancelCal k).keep (.apart p) = s.keep (.apart p) := by
  unfold State.cancelCal
  split
  · simp
  · dsimp only
    rw [State.complete_kept]
    refine (keep_foldl fun u b => ?_).trans (by simp)
    split
    · split <;> simp
    · rfl
@[simp] theorem State.cancelScan_kept (k : RingNo × BitVec 32) :
    (s.cancelScan k).keep (.apart p) = s.keep (.apart p) := by unfold State.cancelScan; (repeat' split) <;> simp
@[simp] theorem State.cancelBight_kept (k : RingNo × BitVec 32) :
    (s.cancelBight k).keep (.apart p) = s.keep (.apart p) := by simp [State.cancelBight]
@[simp] theorem State.endPark_kept : s.endPark.keep (.apart p) = s.keep (.apart p) := by simp [State.endPark]
@[simp] theorem State.cancelFence_kept (k : RingNo × BitVec 32) :
    (s.cancelFence k).keep (.apart p) = s.keep (.apart p) := by simp [State.cancelFence]
@[simp] theorem State.cancelWait_kept (k : RingNo × BitVec 32) :
    (s.cancelWait k).keep (.apart p) = s.keep (.apart p) := by simp [State.cancelWait]
@[simp] theorem State.cancelRunning_kept (k : RingNo × BitVec 32) (d : Desc) :
    (s.cancelRunning k d).2.keep (.apart p) = s.keep (.apart p) := by unfold State.cancelRunning; (repeat' split) <;> simp
@[simp] theorem State.endRunning_kept : s.endRunning.keep (.apart p) = s.keep (.apart p) := by simp [State.endRunning]

/-! ### Rings -/

@[simp] theorem State.watchFailed_kept (kf : Frame) (k : Fin 8) :
    (s.watchFailed k).keep kf = s.keep kf := by simp [State.watchFailed]
@[simp] theorem State.watchTaken_kept (kf : Frame) (k : Fin 8) (data : BitVec 512) :
    (s.watchTaken k data).keep kf = s.keep kf := by simp [State.watchTaken]
@[simp] theorem State.wakeLines_kept : s.wakeLines.keep (.apart p) = s.keep (.apart p) := by simp [State.wakeLines]
@[simp] theorem State.takeDesc_kept (r : RingNo) (i : BitVec 32) (e : RingDesc) (data : Desc) :
    (s.takeDesc r i e data).keep k = s.keep k := by simp only [State.takeDesc]; (repeat' split) <;> simp
@[simp] theorem State.startHead_kept (r : Nat) :
    (s.startHead r).keep k = s.keep k := by unfold State.startHead; (repeat' split) <;> simp
@[simp] theorem State.settleUnstarted_kept (r : Nat) :
    (s.settleUnstarted r).keep k = s.keep k := by simp [State.settleUnstarted]
@[simp] theorem State.dispatchKind_kept (kind ptr : Nat) :
    (s.dispatchKind kind ptr).1.keep k = s.keep k := by simp only [State.dispatchKind]; (repeat' split) <;> simp
@[simp] theorem State.dispatch_kept : s.dispatch.keep k = s.keep k := by simp [State.dispatch]
@[simp] theorem State.issueMsi_kept (r : Nat) : (s.issueMsi r).keep k = s.keep k := by simp [State.issueMsi]
@[simp] theorem State.writeCpl_kept (c : Nat) :
    (s.writeCpl c).keep k = s.keep k := by unfold State.writeCpl; (repeat' split) <;> simp
@[simp] theorem State.entryAcked_kept (r : Nat) (i : BitVec 32) :
    (s.entryAcked r i).keep k = s.keep k := by unfold State.entryAcked; (repeat' split) <;> simp
@[simp] theorem State.enableRing_kept (r : Nat) (v : Reg) :
    (s.enableRing r v).keep k = s.keep k := by simp only [State.enableRing]; (repeat' split) <;> simp
@[simp] theorem State.ringOff_kept (r : Nat) : (s.ringOff r).keep k = s.keep k := by simp [State.ringOff]
@[simp] theorem State.cancelFetched_kept (r : Nat) : (s.cancelFetched r).keep k = s.keep k := by simp [State.cancelFetched]
@[simp] theorem State.disableRing_kept (r : Nat) : (s.disableRing r).keep k = s.keep k := by simp [State.disableRing]
@[simp] theorem State.writeRingCfg_kept (r : Nat) (v : Reg) :
    (s.writeRingCfg r v).keep k = s.keep k := by simp [State.writeRingCfg]

/-! ### ResetOps -/

@[simp] theorem State.faultReset_kept (cause : BitVec 4) :
    (s.faultReset cause).keep (.apart p) = s.keep (.apart p) := by simp [State.faultReset]
@[simp] theorem State.startExit_kept : s.startExit.keep (.apart p) = s.keep (.apart p) := by simp [State.startExit]
@[simp] theorem State.releaseCap_kept : s.releaseCap.keep (.apart p) = s.keep (.apart p) := by simp [State.releaseCap]
@[simp] theorem State.exitBraid_kept (b : Fin 8) :
    (s.exitBraid b).keep (.apart p) = s.keep (.apart p) := by simp [State.exitBraid]
@[simp] theorem State.exitTrain_kept : s.exitTrain.keep (.apart p) = s.keep (.apart p) := by simp [State.exitTrain]
@[simp] theorem State.closeNoted_kept :
    s.closeNoted.keep (.apart p) = s.keep (.apart p) := by unfold State.closeNoted; (repeat' split) <;> simp
@[simp] theorem State.exitEnd_kept (b : Fin 8) : (s.exitEnd b).keep (.apart p) = s.keep (.apart p) := by simp [State.exitEnd]
@[simp] theorem State.resumeWaits_kept :
    s.resumeWaits.keep (.apart p) = s.keep (.apart p) := by simp only [State.resumeWaits]; (repeat' split) <;> simp
@[simp] theorem State.exitDone_kept : s.exitDone.keep (.apart p) = s.keep (.apart p) := by simp [State.exitDone]

/-! ### Power -/

@[simp] theorem State.pmDrop_kept : s.pmDrop.keep (.apart p) = s.keep (.apart p) := by simp [State.pmDrop]
@[simp] theorem State.pmBudget_kept (f : NocFlit) :
    (s.pmBudget f).keep (.apart p) = s.keep (.apart p) := by simp [State.pmBudget]
@[simp] theorem State.pmRamp_kept (f : NocFlit) : (s.pmRamp f).keep (.apart p) = s.keep (.apart p) := by simp [State.pmRamp]
@[simp] theorem State.withCtl_kept (q : Sealed) (b : Fin 8) (op : Nat) (p : NocFlit) (work : State → State)
    (hwork : ∀ u, (work u).keep (.apart q) = u.keep (.apart q)) :
    (s.withCtl b op p work).keep (.apart q) = s.keep (.apart q) := by unfold State.withCtl; (repeat' split) <;> simp_all
@[simp] theorem State.pwrCap_kept (q : Sealed) (p : NocFlit) :
    (s.pwrCap p).keep (.apart q) = s.keep (.apart q) := by unfold State.pwrCap; (repeat' split) <;> simp
@[simp] theorem State.pwrGo_kept (q : Sealed) (p : NocFlit) :
    (s.pwrGo p).keep (.apart q) = s.keep (.apart q) := by unfold State.pwrGo; (repeat' split) <;> simp
@[simp] theorem State.wakeBurst_kept : s.wakeBurst.keep (.apart p) = s.keep (.apart p) := by simp [State.wakeBurst]
@[simp] theorem State.drainLimit_kept :
    s.drainLimit.keep (.apart p) = s.keep (.apart p) := by unfold State.drainLimit; (repeat' split) <;> simp

/-! ### Clocks -/

@[simp] theorem State.toIdent_kept : s.toIdent.keep (.apart p) = s.keep (.apart p) := by simp [State.toIdent]
@[simp] theorem State.pairRelease_kept : s.pairRelease.keep (.apart p) = s.keep (.apart p) := by simp [State.pairRelease]
@[simp] theorem State.switchTimeout_kept :
    s.switchTimeout.keep (.apart p) = s.keep (.apart p) := by simp [State.switchTimeout]
@[simp] theorem State.rootLocks_kept : s.rootLocks.keep (.apart p) = s.keep (.apart p) := by simp [State.rootLocks]
@[simp] theorem State.rootLost_kept : s.rootLost.keep (.apart p) = s.keep (.apart p) := by simp [State.rootLost]
@[simp] theorem State.nclkBack_kept : s.nclkBack.keep (.apart p) = s.keep (.apart p) := by simp [State.nclkBack]
@[simp] theorem State.nclkWindow_kept (count : Nat) (locked : Bool) :
    (s.nclkWindow count locked).keep (.apart p) = s.keep (.apart p) := by simp [State.nclkWindow]
@[simp] theorem State.refWindow_kept (l : List (Fin 8 × Int)) :
    (s.refWindow l).keep (.apart p) = s.keep (.apart p) := by simp [State.refWindow]
@[simp] theorem State.tsStep_kept (old new : BitVec 64) :
    (s.tsStep old new).keep (.apart p) = s.keep (.apart p) := by simp [State.tsStep]

/-! ### Sideband -/

@[simp] theorem State.takeHeartbeat_kept (f : SbFrame) :
    (s.takeHeartbeat f).keep (.apart p) = s.keep (.apart p) := by simp [State.takeHeartbeat]
@[simp] theorem State.bightLost_kept : s.bightLost.keep (.apart p) = s.keep (.apart p) := by simp [State.bightLost]
@[simp] theorem State.testsLost_kept :
    s.testsLost.keep (.apart p) = s.keep (.apart p) := by simp [State.testsLost]
@[simp] theorem State.loseSideband_kept : s.loseSideband.keep (.apart p) = s.keep (.apart p) := by simp [State.loseSideband]
@[simp] theorem State.resetPairFresh_kept (ack rel : Bool) :
    (s.resetPairFresh ack rel).keep (.apart p) = s.keep (.apart p) := by simp [State.resetPairFresh]
@[simp] theorem State.resetPairAsked_kept (ack drain rel : Bool) :
    (s.resetPairAsked ack drain rel).keep (.apart p) = s.keep (.apart p) := by simp [State.resetPairAsked]
@[simp] theorem State.takeResetPair_kept (f : SbFrame) :
    (s.takeResetPair f).keep (.apart p) = s.keep (.apart p) := by simp [State.takeResetPair]
@[simp] theorem State.writeReset_kept (v : Reg) :
    (s.writeReset v).keep (.apart p) = s.keep (.apart p) := by simp [State.writeReset]
@[simp] theorem State.dropReserved_kept (f : SbFrame) :
    (s.dropReserved f).keep (.apart p) = s.keep (.apart p) := by simp only [State.dropReserved]; (repeat' split) <;> simp
@[simp] theorem State.proxyDown_kept (f : SbFrame) :
    (s.proxyDown f).keep (.apart p) = s.keep (.apart p) := by simp [State.proxyDown]
@[simp] theorem State.ringGap_kept :
    s.ringGap.keep (.apart p) = s.keep (.apart p) := by unfold State.ringGap; (repeat' split) <;> simp
@[simp] theorem State.ringFrame_kept (f : SbFrame) (uplink : Bool) :
    (s.ringFrame f uplink).keep (.apart p) = s.keep (.apart p) := by simp [State.ringFrame]
@[simp] theorem State.sendOn_kept (f : SbFrame) : (s.sendOn f).keep (.apart p) = s.keep (.apart p) := by simp [State.sendOn]
@[simp] theorem State.frameReserved_kept (f : SbFrame) :
    (s.frameReserved f).keep (.apart p) = s.keep (.apart p) := by simp [State.frameReserved]
@[simp] theorem State.selects_kept (wdr acc : Bool) :
    (s.selects wdr acc).keep (.apart .window) = s.keep (.apart .window) := by simp [State.selects]
@[simp] theorem State.soLow_kept :
    s.soLow.keep (.apart .window) = s.keep (.apart .window) := by simp only [State.soLow]; (repeat' split) <;> simp
@[simp] theorem State.tapUpdate_kept :
    s.tapUpdate.keep (.apart .window) = s.keep (.apart .window) := by simp [State.tapUpdate]
@[simp] theorem State.tapCapture_kept :
    s.tapCapture.keep (.apart .window) = s.keep (.apart .window) := by simp [State.tapCapture]

/-! ### Strands -/

@[simp] theorem State.strandWork_kept (q : Sealed) (b : Fin 8) (opcode : Nat) (p : NocFlit) (work : State → State)
    (hwork : ∀ u, (work u).keep (.apart q) = u.keep (.apart q)) :
    (s.strandWork b opcode p work).keep (.apart q) = s.keep (.apart q) :=
  by unfold State.strandWork; (repeat' split) <;> simp_all
@[simp] theorem State.strandRequest_kept (q : Sealed) (p : NocFlit) :
    (s.strandRequest p).keep (.apart q) = s.keep (.apart q) := by simp [State.strandRequest]
@[simp] theorem State.strandReady_kept (q : Sealed) (p : NocFlit) :
    (s.strandReady p).keep (.apart q) = s.keep (.apart q) := by simp only [State.strandReady]; (repeat' split) <;> simp
@[simp] theorem State.unswitch_kept (b : Fin 8) (o : StrandOp) :
    (s.unswitch b o).keep (.apart p) = s.keep (.apart p) := by simp [State.unswitch]
@[simp] theorem State.abortFromRx_kept (b : Fin 8) (o : StrandOp) (code : Nat) :
    (s.abortFromRx b o code).keep (.apart p) = s.keep (.apart p) := by simp [State.abortFromRx]
@[simp] theorem State.takeRequest_kept (b : Fin 8) (ok : StrandOp → Bool) :
    (s.takeRequest b ok).2.keep (.apart p) = s.keep (.apart p) := by simp only [State.takeRequest]; (repeat' split) <;> simp
@[simp] theorem State.rejectOp_kept (b : Fin 8) (o : StrandOp) (code : Nat) :
    (s.rejectOp b o code).keep (.apart p) = s.keep (.apart p) := by simp [State.rejectOp]
@[simp] theorem State.abandonCal_kept (b : Fin 8) (o : StrandOp) :
    (s.abandonCal b o).keep (.apart p) = s.keep (.apart p) := by unfold State.abandonCal; (repeat' split) <;> simp
@[simp] theorem State.strandPrepare_kept (q : Sealed) (b : Fin 8) (p : NocFlit) :
    (s.strandPrepare b p).keep (.apart q) = s.keep (.apart q) := by simp only [State.strandPrepare]; (repeat' split) <;> simp
@[simp] theorem State.sendReady_kept (b : Fin 8) (o : StrandOp) :
    (s.sendReady b o).keep (.apart p) = s.keep (.apart p) := by simp [State.sendReady]
@[simp] theorem State.alignFail_kept (b : Fin 8) (o : StrandOp) :
    (s.alignFail b o).keep (.apart p) = s.keep (.apart p) := by simp [State.alignFail]
@[simp] theorem State.alignDone_kept (b : Fin 8) (arrival : Int) (pass : Option (Fin 3)) :
    (s.alignDone b arrival pass).keep (.apart p) = s.keep (.apart p) := by unfold State.alignDone; (repeat' split) <;> simp
@[simp] theorem State.armSwitch_kept (b : Fin 8) (o : StrandOp) (q : BitVec 16) :
    (s.armSwitch b o q).keep (.apart p) = s.keep (.apart p) := by simp [State.armSwitch]
@[simp] theorem State.strandCommit_kept (q : Sealed) (b : Fin 8) (p : NocFlit) :
    (s.strandCommit b p).keep (.apart q) = s.keep (.apart q) := by simp only [State.strandCommit]; (repeat' split) <;> simp
@[simp] theorem State.requestRefused_kept (q : Sealed) (p : NocFlit) :
    (s.requestRefused p).keep (.apart q) = s.keep (.apart q) := by simp only [State.requestRefused]; (repeat' split) <;> simp
@[simp] theorem State.strandAbort_kept (q : Sealed) (p : NocFlit) :
    (s.strandAbort p).keep (.apart q) = s.keep (.apart q) := by simp only [State.strandAbort]; (repeat' split) <;> simp
@[simp] theorem State.admitDone_kept (q : Sealed) (dir : Nat) (b : Fin 8) (p : Nat) (pass : Bool) (m : Meas) :
    (s.admitDone dir b p pass m).keep (.apart q) = s.keep (.apart q) := by simp [State.admitDone]

/-! ### Calib -/

@[simp] theorem State.calWork_kept (q : Sealed) (b : Fin 8) (opcode : Nat) (p : NocFlit) (work : State → State)
    (hwork : ∀ u, (work u).keep (.apart q) = u.keep (.apart q)) :
    (s.calWork b opcode p work).keep (.apart q) = s.keep (.apart q) := by simp_all [State.calWork]
@[simp] theorem State.stepDone_kept (b : Fin 8) (v : CalServe) (step : Nat) :
    (s.stepDone b v step).keep (.apart p) = s.keep (.apart p) := by simp [State.stepDone]
@[simp] theorem State.calStep_kept (q : Sealed) (p : NocFlit) :
    (s.calStep p).keep (.apart q) = s.keep (.apart q) := by simp [State.calStep]
@[simp] theorem State.txStepDone_kept (b : Fin 8) (codes : Reg) :
    (s.txStepDone b codes).keep (.apart p) = s.keep (.apart p) := by unfold State.txStepDone; (repeat' split) <;> simp
@[simp] theorem State.calEnd_kept (q : Sealed) (p : NocFlit) :
    (s.calEnd p).keep (.apart q) = s.keep (.apart q) := by simp only [State.calEnd]; (repeat' split) <;> simp
@[simp] theorem State.afterStep_kept (b : Fin 8) (r : CalRun) (m : Meas) :
    (s.afterStep b r m).keep (.apart p) = s.keep (.apart p) := by unfold State.afterStep; (repeat' split) <;> simp
@[simp] theorem State.stepFound_kept (b : Fin 8) (r : CalRun) (f : Found) :
    (s.stepFound b r f).keep (.apart p) = s.keep (.apart p) := by unfold State.stepFound; (repeat' split) <;> simp
@[simp] theorem State.calStepOver_kept (b : Fin 8) (f : Found) (iref : Nat) :
    (s.calStepOver b f iref).keep (.apart p) = s.keep (.apart p) := by unfold State.calStepOver; (repeat' split) <;> simp
@[simp] theorem State.calStepDone_kept (q : Sealed) (p : NocFlit) :
    (s.calStepDone p).keep (.apart q) = s.keep (.apart q) := by simp only [State.calStepDone]; (repeat' split) <;> simp
@[simp] theorem State.sweepDue_kept : s.sweepDue.keep (.apart p) = s.keep (.apart p) := by simp [State.sweepDue]
@[simp] theorem State.trend_kept (q : Sealed) (b : Fin 8) (p est n : Nat) :
    (s.trend b p est n).keep (.apart q) = s.keep (.apart q) := by simp [State.trend]
@[simp] theorem State.judge_kept (q : Sealed) (b : Fin 8) (p errs units est : Nat) :
    (s.judge b p errs units est).keep (.apart q) = s.keep (.apart q) := by simp [State.judge]
@[simp] theorem State.closePeriodic_kept (q : Sealed) (b : Fin 8) (p : Nat) (m : Meas) :
    (s.closePeriodic b p m).keep (.apart q) = s.keep (.apart q) := by simp [State.closePeriodic]
@[simp] theorem State.eyePoints_kept (q : Sealed) (b : Fin 8) (p : Nat) (m : Meas) :
    (s.eyePoints b p m).keep (.apart q) = s.keep (.apart q) := by unfold State.eyePoints; (repeat' split) <;> simp
@[simp] theorem State.retrack_kept :
    s.retrack.keep (.apart p) = s.keep (.apart p) := by simp [State.retrack]
@[simp] theorem State.fibreTemp_kept : s.fibreTemp.keep (.apart p) = s.keep (.apart p) := by simp [State.fibreTemp]
@[simp] theorem State.newTemp_kept (v : BitVec 10) :
    (s.newTemp v).keep (.apart p) = s.keep (.apart p) := by simp [State.newTemp]
@[simp] theorem State.trackOne_kept (w : Nat × Fin 8 × Nat) :
    (s.trackOne w).keep (.apart p) = s.keep (.apart p) := by simp only [State.trackOne]; (repeat' split) <;> simp
@[simp] theorem State.writeTrim_kept (off : Nat) (v : Reg) :
    (s.writeTrim off v).keep (.apart p) = s.keep (.apart p) := by simp [State.writeTrim]

/-! ### Commands -/

@[simp] theorem State.linkCmd_kept (r : RingNo) (i : BitVec 32) (op : Nat) (work : Desc → State → State)
    (hwork : ∀ x u, (work x u).keep (.apart p) = u.keep (.apart p)) :
    (s.linkCmd r i op work).keep (.apart p) = s.keep (.apart p) := by unfold State.linkCmd; (repeat' split) <;> simp_all
@[simp] theorem State.braidCmd_kept (r : RingNo) (i : BitVec 32) (op : Nat) (work : Desc → State → State)
    (hwork : ∀ x u, (work x u).keep (.apart p) = u.keep (.apart p)) :
    (s.braidCmd r i op work).keep (.apart p) = s.keep (.apart p) := by unfold State.braidCmd; (repeat' split) <;> simp_all
@[simp] theorem State.admitBraid_kept (b : Fin 8) :
    (s.admitBraid b).keep (.apart p) = s.keep (.apart p) := by simp [State.admitBraid]
@[simp] theorem State.cmdRetrain_kept (r : RingNo) (i : BitVec 32) (d : Desc) :
    (s.cmdRetrain r i d).keep (.apart p) = s.keep (.apart p) := by simp [State.cmdRetrain]
@[simp] theorem State.cmdStrand_kept (r : RingNo) (i : BitVec 32) (d : Desc) (o : StrandOp) :
    (s.cmdStrand r i d o).keep (.apart p) = s.keep (.apart p) := by simp [State.cmdStrand]
@[simp] theorem State.cmdCalibrate_kept (r : RingNo) (i : BitVec 32) (d : Desc) :
    (s.cmdCalibrate r i d).keep (.apart p) = s.keep (.apart p) := by simp [State.cmdCalibrate]
@[simp] theorem State.cmdEyeScan_kept (r : RingNo) (i : BitVec 32) (d : Desc) :
    (s.cmdEyeScan r i d).keep (.apart p) = s.keep (.apart p) := by simp [State.cmdEyeScan]
@[simp] theorem State.cmdPrbs_kept (r : RingNo) (i : BitVec 32) (d : Desc) :
    (s.cmdPrbs r i d).keep (.apart p) = s.keep (.apart p) := by simp [State.cmdPrbs]
@[simp] theorem State.cmdBight_kept (r : RingNo) (i : BitVec 32) (d : Desc) :
    (s.cmdBight r i d).keep (.apart p) = s.keep (.apart p) := by simp [State.cmdBight]
@[simp] theorem State.cmdResume_kept (r : RingNo) (i : BitVec 32) :
    (s.cmdResume r i).keep (.apart p) = s.keep (.apart p) := by simp [State.cmdResume]
@[simp] theorem State.cancelOne_kept (t : RingNo × BitVec 32) :
    (s.cancelOne t).keep (.apart p) = s.keep (.apart p) := by simp only [State.cancelOne]; (repeat' split) <;> simp
@[simp] theorem State.cancelAll_kept (r : RingNo) (i : BitVec 32) (targets : List (RingNo × BitVec 32)) :
    (s.cancelAll r i targets).keep (.apart p) = s.keep (.apart p) := by simp [State.cancelAll]
@[simp] theorem State.cancelNone_kept (r : RingNo) (i : BitVec 32) (detail : Nat) :
    (s.cancelNone r i detail).keep (.apart p) = s.keep (.apart p) := by simp [State.cancelNone]
@[simp] theorem State.cancelIndex_kept (r : RingNo) (i : BitVec 32) (q : RingNo) (x : BitVec 32) :
    (s.cancelIndex r i q x).keep (.apart p) = s.keep (.apart p) := by simp [State.cancelIndex]
@[simp] theorem State.cancelThrough_kept (r : RingNo) (i : BitVec 32) (q : RingNo) (x : BitVec 32) :
    (s.cancelThrough r i q x).keep (.apart p) = s.keep (.apart p) := by simp [State.cancelThrough]
@[simp] theorem State.cmdCancel_kept (r : RingNo) (i : BitVec 32) (d : Desc) :
    (s.cmdCancel r i d).keep (.apart p) = s.keep (.apart p) := by simp [State.cmdCancel]
@[simp] theorem State.cmdFence_kept (r : RingNo) (i : BitVec 32) (d : Desc) (fence : Bool) :
    (s.cmdFence r i d fence).keep (.apart p) = s.keep (.apart p) := by simp [State.cmdFence]

/-! ### RegRead -/

@[simp] theorem State.readEffect_kept (off : Nat) :
    (s.readEffect off).keep (.apart p) = s.keep (.apart p) := by simp [State.readEffect]
@[simp] theorem State.regRead_kept (a : Access) :
    (s.regRead a).keep (.apart .test) = s.keep (.apart .test) := by unfold State.regRead; (repeat' split) <;> simp

/-! ### RegWrite -/

@[simp] theorem State.writeGlobal_kept (off : Nat) (v : Reg) :
    (s.writeGlobal off v).keep (.apart .test) = s.keep (.apart .test) := by unfold State.writeGlobal; (repeat' split) <;> simp
@[simp] theorem State.writeLash_kept (a : Access) :
    (s.writeLash a).keep (.apart .test) = s.keep (.apart .test) := by unfold State.writeLash; (repeat' split) <;> simp
@[simp] theorem State.writeTset_kept (v : Reg) :
    (s.writeTset v).keep (.apart p) = s.keep (.apart p) := by simp [State.writeTset]
@[simp] theorem State.writeCal_kept (off : Nat) (v : Reg) :
    (s.writeCal off v).keep (.apart p) = s.keep (.apart p) := by unfold State.writeCal; (repeat' split) <;> simp
@[simp] theorem State.writeLlCtl_kept (v : Reg) :
    (s.writeLlCtl v).keep (.apart p) = s.keep (.apart p) := by simp [State.writeLlCtl]
@[simp] theorem State.writeFlow_kept (off : Nat) (v : Reg) :
    (s.writeFlow off v).keep (.apart p) = s.keep (.apart p) := by unfold State.writeFlow; (repeat' split) <;> simp
@[simp] theorem State.writeLine_kept (k : Fin 8) (off : Nat) (v : Reg) :
    (s.writeLine k off v).keep (.apart p) = s.keep (.apart p) := by unfold State.writeLine; (repeat' split) <;> simp
@[simp] theorem State.writeRingField_kept (r : Nat) (f : Ring → Ring) :
    (s.writeRingField r f).keep (.apart p) = s.keep (.apart p) := by simp [State.writeRingField]
@[simp] theorem State.writeRings_kept (off : Nat) (v : Reg) :
    (s.writeRings off v).keep (.apart p) = s.keep (.apart p) := by unfold State.writeRings; (repeat' split) <;> simp
@[simp] theorem State.writeRed_kept (off : Nat) (v : Reg) :
    (s.writeRed off v).keep (.apart p) = s.keep (.apart p) := by unfold State.writeRed; (repeat' split) <;> simp
@[simp] theorem State.writeHitch_kept (off : Nat) (v : Reg) :
    (s.writeHitch off v).keep (.apart p) = s.keep (.apart p) := by unfold State.writeHitch; (repeat' split) <;> simp
@[simp] theorem State.writeClose_kept (v : Reg) :
    (s.writeClose v).keep (.apart p) = s.keep (.apart p) := by simp [State.writeClose]
@[simp] theorem State.writeMeter_kept (off : Nat) (v : Reg) :
    (s.writeMeter off v).keep (.apart p) = s.keep (.apart p) := by unfold State.writeMeter; (repeat' split) <;> simp
@[simp] theorem State.writeFault_kept (off : Nat) (v : Reg) :
    (s.writeFault off v).keep (.apart p) = s.keep (.apart p) := by unfold State.writeFault; (repeat' split) <;> simp
@[simp] theorem State.writeDebug_kept (off : Nat) (v : Reg) :
    (s.writeDebug off v).keep (.apart p) = s.keep (.apart p) := by unfold State.writeDebug; (repeat' split) <;> simp
@[simp] theorem State.writePlain_kept (a : Access) :
    (s.writePlain a).keep (.apart .test) = s.keep (.apart .test) := by simp [State.writePlain]
@[simp] theorem State.writeReg_kept (a : Access) :
    (s.writeReg a).keep (.apart .test) = s.keep (.apart .test) := by simp [State.writeReg]
@[simp] theorem State.regStore_kept (a : Access) :
    (s.regStore a).keep (.apart .test) = s.keep (.apart .test) := by simp [State.regStore]

/-! ### Serial -/

@[simp] theorem State.takeReply_kept (f : SbFrame) (typ : BitVec 4) (work : State → State)
    (hwork : ∀ u, (work u).keep (.apart p) = u.keep (.apart p)) :
    (s.takeReply f typ work).keep (.apart p) = s.keep (.apart p) := by unfold State.takeReply; (repeat' split) <;> simp_all
@[simp] theorem State.smData_kept (f : SbFrame) :
    (s.smData f).keep (.apart p) = s.keep (.apart p) := by simp only [State.smData]; (repeat' split) <;> simp
@[simp] theorem State.smError_kept (f : SbFrame) :
    (s.smError f).keep (.apart p) = s.keep (.apart p) := by simp only [State.smError]; (repeat' split) <;> simp
@[simp] theorem State.smTimeout_kept (tag : Nat) :
    (s.smTimeout tag).keep (.apart p) = s.keep (.apart p) := by simp only [State.smTimeout]; (repeat' split) <;> simp
@[simp] theorem State.relayReply_kept (f : SbFrame) :
    (s.relayReply f).keep (.apart p) = s.keep (.apart p) := by simp [State.relayReply]

/-! ### Registers -/

@[simp] theorem State.epochDue_kept : s.epochDue.keep (.apart p) = s.keep (.apart p) := by simp [State.epochDue]
@[simp] theorem State.ownPoll_kept (repl : DieId) :
    (s.ownPoll repl).keep (.apart p) = s.keep (.apart p) := by simp [State.ownPoll]

/-! ### Reduce -/

@[simp] theorem State.startJob_kept (r : RingNo) (i : BitVec 32) (d : Desc) :
    (s.startJob r i d).keep (.apart p) = s.keep (.apart p) := by simp [State.startJob]
@[simp] theorem State.redTaken_kept (rx : Bool) (f : NocFlit) :
    (s.redTaken rx f).keep (.apart p) = s.keep (.apart p) := by simp [State.redTaken]
@[simp] theorem State.spillFailed_kept (slot idx : Nat) :
    (s.spillFailed slot idx).keep (.apart p) = s.keep (.apart p) := by simp [State.spillFailed]
@[simp] theorem State.closeRefilled_kept (slot idx : Nat) :
    (s.closeRefilled slot idx).keep (.apart p) = s.keep (.apart p) := by unfold State.closeRefilled; (repeat' split) <;> simp
@[simp] theorem State.refilled_kept (slot idx : Nat) :
    (s.refilled slot idx).keep (.apart p) = s.keep (.apart p) := by unfold State.refilled; (repeat' split) <;> simp

end Sys2Proof.Machine
end

section
/-!
LEMMAS. Frames of the commands: one lemma for each, by its operations (R33, R48, R49, R63, R205, R219 to R241, R359, R382, R395 to
R397).
-/
namespace Sys2Proof.Machine

variable (k : Frame) (p : Sealed) (s : State)

/-- The frame of the state a command answers. -/
def keepOut (k : Frame) (o : Host.Outcome State Fault Refusal) : State :=
  match o with
  | .next t => t.keep k
  | _ => State.reset

@[simp] theorem keepOut_done : keepOut k (done s) = s.keep k := by rw [done_eq]; exact State.flushEvents_kept k s

@[simp] theorem keepOut_ite (c : Prop) [Decidable c] (a b : Host.Outcome State Fault Refusal) :
    keepOut k (if c then a else b) = if c then keepOut k a else keepOut k b := apply_ite (keepOut k) c a b

@[simp] theorem execPowerOnRelease_kept :
    keepOut (.apart p) (execPowerOnRelease s) = s.keep (.apart p) := by simp [execPowerOnRelease]
@[simp] theorem execPairResetRelease_kept :
    keepOut (.apart p) (execPairResetRelease s) = s.keep (.apart p) := by simp [execPairResetRelease]
@[simp] theorem execPowerSwitchTimeout_kept :
    keepOut (.apart p) (execPowerSwitchTimeout s) = s.keep (.apart p) := by simp [execPowerSwitchTimeout]
@[simp] theorem execPowerSwitchRetry_kept :
    keepOut (.apart p) (execPowerSwitchRetry s) = s.keep (.apart p) := by simp [execPowerSwitchRetry]
@[simp] theorem execPmResume_kept : keepOut (.apart p) (execPmResume s) = s.keep (.apart p) := by simp [execPmResume]
@[simp] theorem execPmPwrRefresh_kept :
    keepOut (.apart p) (execPmPwrRefresh s) = s.keep (.apart p) := by simp [execPmPwrRefresh]
@[simp] theorem execRootLock_kept : keepOut (.apart p) (execRootLock s) = s.keep (.apart p) := by simp [execRootLock]
@[simp] theorem execRootLockLost_kept :
    keepOut (.apart p) (execRootLockLost s) = s.keep (.apart p) := by simp [execRootLockLost]
@[simp] theorem execNclkMonitorWindow_kept (count : Nat) (locked : Bool) :
    keepOut (.apart p) (execNclkMonitorWindow count locked s) = s.keep (.apart p) := by simp [execNclkMonitorWindow]
@[simp] theorem execRefOffsetWindow_kept (l : List (Fin 8 × Int)) :
    keepOut (.apart p) (execRefOffsetWindow l s) = s.keep (.apart p) := by simp [execRefOffsetWindow]
@[simp] theorem execTscCheck_kept (v : BitVec 64) :
    keepOut (.apart p) (execTscCheck v s) = s.keep (.apart p) := by simp [execTscCheck]
@[simp] theorem execTimestampStep_kept (new : BitVec 64) :
    keepOut (.apart p) (execTimestampStep new s) = s.keep (.apart p) := by simp [execTimestampStep]
@[simp] theorem execCrossingSlip_kept (which : Slip) :
    keepOut (.apart p) (execCrossingSlip which s) = s.keep (.apart p) := by
  simp only [execCrossingSlip, keepOut_done]; (repeat' split) <;> simp
@[simp] theorem execTempValue_kept (v : BitVec 10) :
    keepOut (.apart p) (execTempValue v s) = s.keep (.apart p) := by simp [execTempValue]
@[simp] theorem execStaleTemp_kept : keepOut (.apart p) (execStaleTemp s) = s.keep (.apart p) := by simp [execStaleTemp]
@[simp] theorem execHeartbeatTimer_kept :
    keepOut (.apart p) (execHeartbeatTimer s) = s.keep (.apart p) := by simp [execHeartbeatTimer]
@[simp] theorem execHeartbeat_kept (f : SbFrame) :
    keepOut (.apart p) (execHeartbeat f s) = s.keep (.apart p) := by simp [execHeartbeat]
@[simp] theorem execSidebandLoss_kept :
    keepOut (.apart p) (execSidebandLoss s) = s.keep (.apart p) := by simp [execSidebandLoss]
@[simp] theorem execResetPair_kept (f : SbFrame) :
    keepOut (.apart p) (execResetPair f s) = s.keep (.apart p) := by simp [execResetPair]
@[simp] theorem execResetPairAnnounce_kept :
    keepOut (.apart p) (execResetPairAnnounce s) = s.keep (.apart p) := by simp [execResetPairAnnounce]
@[simp] theorem execPairedResetRequest_kept (a : Access) :
    keepOut (.apart .test) (execPairedResetRequest a s) = s.keep (.apart .test) := by simp [execPairedResetRequest]
@[simp] theorem execResetAckLimit_kept :
    keepOut (.apart p) (execResetAckLimit s) = s.keep (.apart p) := by simp [execResetAckLimit]
@[simp] theorem execResetReqTimeout_kept :
    keepOut (.apart p) (execResetReqTimeout s) = s.keep (.apart p) := by simp [execResetReqTimeout]
@[simp] theorem execSidebandProxy_kept (f : SbFrame) :
    keepOut (.apart p) (execSidebandProxy f s) = s.keep (.apart p) := by simp [execSidebandProxy]
@[simp] theorem execRingFrameForward_kept (f : Option SbFrame) (uplink : Bool) :
    keepOut (.apart p) (execRingFrameForward f uplink s) = s.keep (.apart p) := by
  simp only [execRingFrameForward, keepOut_done]; (repeat' split) <;> simp
@[simp] theorem execTstAloneChange_kept (v : Bool) :
    keepOut (.apart .window) (execTstAloneChange v s) = s.keep (.apart .window) := by simp [execTstAloneChange]
@[simp] theorem execTestLogicReset_kept :
    keepOut (.apart .window) (execTestLogicReset s) = s.keep (.apart .window) := by simp [execTestLogicReset]
@[simp] theorem execTapUpdate_kept (wdr acc : Bool) :
    keepOut (.apart .window) (execTapUpdate wdr acc s) = s.keep (.apart .window) := by simp [execTapUpdate]
@[simp] theorem execTapCapture_kept (wdr acc : Bool) (cells : BitVec 38) :
    keepOut (.apart .window) (execTapCapture wdr acc cells s) = s.keep (.apart .window) := by simp [execTapCapture]
@[simp] theorem execNocIngressFlit_kept (f : NocFlit) (assigned : Bool) :
    keepOut (.apart p) (execNocIngressFlit f assigned s) = s.keep (.apart p) := by simp [execNocIngressFlit]
@[simp] theorem execNocEgressCredit_kept (v : Fin 8) (n : BitVec 5) :
    keepOut (.apart p) (execNocEgressCredit v n s) = s.keep (.apart p) := by simp [execNocEgressCredit]
@[simp] theorem execCreditInitAck_kept :
    keepOut (.apart p) (execCreditInitAck s) = s.keep (.apart p) := by simp [execCreditInitAck]
@[simp] theorem execCreditInitTimeout_kept :
    keepOut k (execCreditInitTimeout s) = s.keep k := by simp [execCreditInitTimeout]
@[simp] theorem execCreditInitRetry_kept : keepOut k (execCreditInitRetry s) = s.keep k := by simp [execCreditInitRetry]
@[simp] theorem execCreditAuditStart_kept : keepOut k (execCreditAuditStart s) = s.keep k := by simp [execCreditAuditStart]
@[simp] theorem execCreditAuditAnswer_kept (cnt : BitVec 9) :
    keepOut k (execCreditAuditAnswer cnt s) = s.keep k := by simp [execCreditAuditAnswer]
@[simp] theorem execCreditAuditAbandon_kept :
    keepOut k (execCreditAuditAbandon s) = s.keep k := by simp [execCreditAuditAbandon]
@[simp] theorem execSmRelayFrame_kept (reply : Bool) (f : SbFrame) :
    keepOut (.apart p) (execSmRelayFrame reply f s) = s.keep (.apart p) := by simp [execSmRelayFrame]
@[simp] theorem execSmData_kept (f : SbFrame) :
    keepOut (.apart p) (execSmData f s) = s.keep (.apart p) := by simp [execSmData]
@[simp] theorem execSmError_kept (f : SbFrame) :
    keepOut (.apart p) (execSmError f s) = s.keep (.apart p) := by simp [execSmError]
@[simp] theorem execSmReadTimeout_kept (tag : BitVec 4) :
    keepOut (.apart p) (execSmReadTimeout tag s) = s.keep (.apart p) := by simp [execSmReadTimeout]
@[simp] theorem execSmQueueFullReissue_kept (tag : BitVec 4) :
    keepOut (.apart p) (execSmQueueFullReissue tag s) = s.keep (.apart p) := by
  simp only [execSmQueueFullReissue, keepOut_done]; (repeat' split) <;> simp
@[simp] theorem execStartStepTimeout_kept :
    keepOut (.apart p) (execStartStepTimeout s) = s.keep (.apart p) := by simp [execStartStepTimeout]
@[simp] theorem execSidebandNotUp_kept :
    keepOut (.apart p) (execSidebandNotUp s) = s.keep (.apart p) := by simp [execSidebandNotUp]
@[simp] theorem execDetectGo_kept (f : SbFrame) :
    keepOut (.apart p) (execDetectGo f s) = s.keep (.apart p) := by simp [execDetectGo]
@[simp] theorem execDetectObservationEnd_kept (b : Option (Fin 8)) (rx : List (Fin 8 × Nat × RxObs))
    (tx : List (Fin 8 × Nat × TxObs)) : keepOut (.apart p) (execDetectObservationEnd b rx tx s) = s.keep (.apart p) := by
  simp only [execDetectObservationEnd, keepOut_done]; (repeat' split) <;> simp
@[simp] theorem execDetectResult_kept (f : SbFrame) :
    keepOut (.apart p) (execDetectResult f s) = s.keep (.apart p) := by simp [execDetectResult]
@[simp] theorem execMapAgree_kept (f : SbFrame) :
    keepOut (.apart p) (execMapAgree f s) = s.keep (.apart p) := by simp [execMapAgree]
@[simp] theorem execTrainGo_kept (f : SbFrame) :
    keepOut (.apart p) (execTrainGo f s) = s.keep (.apart p) := by simp [execTrainGo]
@[simp] theorem execTrainLinkFrame_kept (b : Fin 8) (rx : LineRx) (frac : BitVec 4) :
    keepOut (.apart p) (execTrainLinkFrame b rx frac s) = s.keep (.apart p) := by simp [execTrainLinkFrame]
@[simp] theorem execBraidLockAchieved_kept (b : Fin 8) (cross : BitVec 8) (seen : LockSeen) :
    keepOut (.apart p) (execBraidLockAchieved b cross seen s) = s.keep (.apart p) := by simp [execBraidLockAchieved]
@[simp] theorem execMeasureTimer_kept (b : Fin 8) (frac : BitVec 4) :
    keepOut (.apart p) (execMeasureTimer b frac s) = s.keep (.apart p) := by simp [execMeasureTimer]
@[simp] theorem execTrainAttemptTimeout_kept (b : Fin 8) (noClock : Bool) :
    keepOut (.apart p) (execTrainAttemptTimeout b noClock s) = s.keep (.apart p) := by simp [execTrainAttemptTimeout]
@[simp] theorem execTrainDone_kept (f : SbFrame) :
    keepOut (.apart p) (execTrainDone f s) = s.keep (.apart p) := by simp [execTrainDone]
@[simp] theorem execFirstCalibrationComplete_kept (results : List (Bool × Fin 8 × Nat × Found)) (iref : Nat) :
    keepOut (.apart p) (execFirstCalibrationComplete results iref s) = s.keep (.apart p) := by simp [execFirstCalibrationComplete]
@[simp] theorem execCalDone_kept (f : SbFrame) :
    keepOut (.apart p) (execCalDone f s) = s.keep (.apart p) := by simp [execCalDone]
@[simp] theorem execBeaconTimer_kept :
    keepOut (.apart p) (execBeaconTimer s) = s.keep (.apart p) := by simp [execBeaconTimer]
@[simp] theorem execBeacon_kept (f : SbFrame) :
    keepOut (.apart p) (execBeacon f s) = s.keep (.apart p) := by
  simp only [execBeacon, keepOut_done]; (repeat' split) <;> simp
@[simp] theorem execDiscoveryWindowExpiry_kept :
    keepOut (.apart p) (execDiscoveryWindowExpiry s) = s.keep (.apart p) := by simp [execDiscoveryWindowExpiry]
@[simp] theorem execDieId_kept (f : SbFrame) : keepOut (.apart p) (execDieId f s) = s.keep (.apart p) := by simp [execDieId]
@[simp] theorem execDieIdRevocation_kept (f : SbFrame) :
    keepOut (.apart p) (execDieIdRevocation f s) = s.keep (.apart p) := by simp [execDieIdRevocation]
@[simp] theorem execNegotiate_kept (f : SbFrame) :
    keepOut (.apart p) (execNegotiate f s) = s.keep (.apart p) := by simp [execNegotiate]
@[simp] theorem execSpareDieIdTimeout_kept :
    keepOut (.apart p) (execSpareDieIdTimeout s) = s.keep (.apart p) := by simp [execSpareDieIdTimeout]
@[simp] theorem execBightRun_kept (a : Access) (counts : List (Fin 8 × Nat × Nat × Nat)) :
    keepOut (.apart .test) (execBightRun a counts s) = s.keep (.apart .test) := by simp [execBightRun]
@[simp] theorem execBightReq_kept (f : SbFrame) :
    keepOut (.apart p) (execBightReq f s) = s.keep (.apart p) := by simp [execBightReq]
@[simp] theorem execBightAck_kept (f : SbFrame) :
    keepOut (.apart p) (execBightAck f s) = s.keep (.apart p) := by simp [execBightAck]
@[simp] theorem execStrandRequest_kept (q : Sealed) (b : Fin 8) (p : NocFlit) :
    keepOut (.apart q) (execStrandRequest b p s) = s.keep (.apart q) := by simp [execStrandRequest]
@[simp] theorem execStrandPrepare_kept (q : Sealed) (b : Fin 8) (p : NocFlit) :
    keepOut (.apart q) (execStrandPrepare b p s) = s.keep (.apart q) := by simp [execStrandPrepare]
@[simp] theorem execAlignmentComplete_kept (b : Fin 8) (arrival : Int) (pass : Option (Fin 3)) :
    keepOut (.apart p) (execAlignmentComplete b arrival pass s) = s.keep (.apart p) := by simp [execAlignmentComplete]
@[simp] theorem execStandinLockComplete_kept (b : Fin 8) :
    keepOut (.apart p) (execStandinLockComplete b s) = s.keep (.apart p) := by
  simp only [execStandinLockComplete, keepOut_done]; (repeat' split) <;> simp
@[simp] theorem execStrandReady_kept (q : Sealed) (b : Fin 8) (p : NocFlit) :
    keepOut (.apart q) (execStrandReady b p s) = s.keep (.apart q) := by simp [execStrandReady]
@[simp] theorem execStrandCommit_kept (q : Sealed) (b : Fin 8) (p : NocFlit) :
    keepOut (.apart q) (execStrandCommit b p s) = s.keep (.apart q) := by simp [execStrandCommit]
@[simp] theorem execStrandAbort_kept (q : Sealed) (b : Fin 8) (p : NocFlit) :
    keepOut (.apart q) (execStrandAbort b p s) = s.keep (.apart q) := by simp [execStrandAbort]
@[simp] theorem execReadyTimeout_kept (b : Fin 8) :
    keepOut (.apart p) (execReadyTimeout b s) = s.keep (.apart p) := by
  simp only [execReadyTimeout, keepOut_done]; (repeat' split) <;> simp
@[simp] theorem execAdmitPrbsComplete_kept (q : Sealed) (rx : Bool) (b : Fin 8) (p : Nat) (seen : PrbsSeen) (m : Meas) :
    keepOut (.apart q) (execAdmitPrbsComplete rx b p seen m s) = s.keep (.apart q) := by simp [execAdmitPrbsComplete]
@[simp] theorem execQualityRecordClose_kept (q : Sealed) (b : Fin 8) (p : Nat) (m : Meas) :
    keepOut (.apart q) (execQualityRecordClose b p m s) = s.keep (.apart q) := by simp [execQualityRecordClose]
@[simp] theorem execQualityRecordPost_kept :
    keepOut (.apart p) (execQualityRecordPost s) = s.keep (.apart p) := by simp [execQualityRecordPost]
@[simp] theorem execCalSweepTimer_kept :
    keepOut (.apart p) (execCalSweepTimer s) = s.keep (.apart p) := by simp [execCalSweepTimer]
@[simp] theorem execCalStep_kept (q : Sealed) (b : Fin 8) (p : NocFlit) :
    keepOut (.apart q) (execCalStep b p s) = s.keep (.apart q) := by simp [execCalStep]
@[simp] theorem execCalStepComplete_kept (b : Fin 8) (f : Found) (iref : Nat) :
    keepOut (.apart p) (execCalStepComplete b f iref s) = s.keep (.apart p) := by simp [execCalStepComplete]
@[simp] theorem execCalStepDone_kept (q : Sealed) (b : Fin 8) (p : NocFlit) :
    keepOut (.apart q) (execCalStepDone b p s) = s.keep (.apart q) := by simp [execCalStepDone]
@[simp] theorem execCalStepDoneTimeout_kept (b : Fin 8) :
    keepOut (.apart p) (execCalStepDoneTimeout b s) = s.keep (.apart p) := by
  simp only [execCalStepDoneTimeout, keepOut_done]; (repeat' split) <;> simp
@[simp] theorem execCalEnd_kept (q : Sealed) (b : Fin 8) (p : NocFlit) :
    keepOut (.apart q) (execCalEnd b p s) = s.keep (.apart q) := by simp [execCalEnd]
@[simp] theorem execTrimTrackTick_kept :
    keepOut (.apart p) (execTrimTrackTick s) = s.keep (.apart p) := by simp [execTrimTrackTick]
@[simp] theorem execTrimWrite_kept (a : Access) :
    keepOut (.apart .test) (execTrimWrite a s) = s.keep (.apart .test) := by simp [execTrimWrite]
@[simp] theorem execEyeScanPointSetComplete_kept (q : Sealed) (b : Fin 8) (p : Nat) (m : Meas) :
    keepOut (.apart q) (execEyeScanPointSetComplete b p m s) = s.keep (.apart q) := by simp [execEyeScanPointSetComplete]
@[simp] theorem execLinkFrameReceive_kept (b : Fin 8) (pads : List (Nat × Nat)) (words : List (List (Nat × Nat))) :
    keepOut (.apart p) (execLinkFrameReceive b pads words s) = s.keep (.apart p) := by simp [execLinkFrameReceive]
@[simp] theorem execAckApply_kept (b : Fin 8) :
    keepOut (.apart p) (execAckApply b s) = s.keep (.apart p) := by simp [execAckApply]
@[simp] theorem execNakRepeat_kept (b : Fin 8) :
    keepOut (.apart p) (execNakRepeat b s) = s.keep (.apart p) := by simp [execNakRepeat]
@[simp] theorem execAckTimerExpiry_kept (b : Fin 8) :
    keepOut (.apart p) (execAckTimerExpiry b s) = s.keep (.apart p) := by simp [execAckTimerExpiry]
@[simp] theorem execReplayTimeout_kept (b : Fin 8) :
    keepOut (.apart p) (execReplayTimeout b s) = s.keep (.apart p) := by simp [execReplayTimeout]
@[simp] theorem execFlitRelease_kept (b : Fin 8) :
    keepOut (.apart p) (execFlitRelease b s) = s.keep (.apart p) := by
  simp only [execFlitRelease, keepOut_done]; (repeat' split) <;> simp
@[simp] theorem execIdleDue_kept (b : Fin 8) :
    keepOut (.apart p) (execIdleDue b s) = s.keep (.apart p) := by simp [execIdleDue]
@[simp] theorem execTransmitFlitPeriod_kept (b : Fin 8) (frac : BitVec 4) :
    keepOut (.apart p) (execTransmitFlitPeriod b frac s) = s.keep (.apart p) := by simp [execTransmitFlitPeriod]
@[simp] theorem execBraidRetrainComplete_kept (b : Fin 8) :
    keepOut (.apart p) (execBraidRetrainComplete b s) = s.keep (.apart p) := by simp [execBraidRetrainComplete]
@[simp] theorem execBraidRetrainTimeout_kept (b : Fin 8) :
    keepOut (.apart p) (execBraidRetrainTimeout b s) = s.keep (.apart p) := by simp [execBraidRetrainTimeout]
@[simp] theorem execBraidFinal_kept (q : Sealed) (b : Fin 8) (p : NocFlit) :
    keepOut (.apart q) (execBraidFinal b p s) = s.keep (.apart q) := by simp [execBraidFinal]
@[simp] theorem execBraidFinalTimeout_kept (b : Fin 8) :
    keepOut (.apart p) (execBraidFinalTimeout b s) = s.keep (.apart p) := by simp [execBraidFinalTimeout]
@[simp] theorem execPortRetrainEnd_kept :
    keepOut (.apart p) (execPortRetrainEnd s) = s.keep (.apart p) := by simp [execPortRetrainEnd]
@[simp] theorem execMinBraidsWrite_kept (a : Access) :
    keepOut (.apart .test) (execMinBraidsWrite a s) = s.keep (.apart .test) := by simp [execMinBraidsWrite]
@[simp] theorem execVcStall_kept (b v : Fin 8) (egress : Bool) :
    keepOut (.apart p) (execVcStall b v egress s) = s.keep (.apart p) := by simp [execVcStall]
@[simp] theorem execBucketQuiescent_kept (i : BitVec 8) :
    keepOut (.apart p) (execBucketQuiescent i s) = s.keep (.apart p) := by simp [execBucketQuiescent]
@[simp] theorem execDoorbellNotification_kept (kf : Frame) (k : Fin 8) :
    keepOut kf (execDoorbellNotification k s) = s.keep kf := by
  simp only [execDoorbellNotification, keepOut_done]; (repeat' split) <;> simp
@[simp] theorem execWatchReadResponse_kept (kf : Frame) (k : Fin 8) (data : BitVec 512) (err : Bool) :
    keepOut kf (execWatchReadResponse k data err s) = s.keep kf := by simp [execWatchReadResponse]
@[simp] theorem execWatchReadRetry_kept (kf : Frame) (k : Fin 8) :
    keepOut kf (execWatchReadRetry k s) = s.keep kf := by simp [execWatchReadRetry]
@[simp] theorem execDoorbellPoll_kept : keepOut k (execDoorbellPoll s) = s.keep k := by simp [execDoorbellPoll]
@[simp] theorem execDescriptorFetchResponse_kept (r : RingNo) (i : BitVec 32) (data : Desc) (err : Bool) :
    keepOut k (execDescriptorFetchResponse r i data err s) = s.keep k := by
  simp only [execDescriptorFetchResponse, keepOut_done]; (repeat' split) <;> simp
@[simp] theorem execDescriptorReread_kept (r : RingNo) (i : BitVec 32) :
    keepOut k (execDescriptorReread r i s) = s.keep k := by
  simp only [execDescriptorReread, keepOut_done]; (repeat' split) <;> simp
@[simp] theorem execDescriptorDispatch_kept :
    keepOut k (execDescriptorDispatch s) = s.keep k := by simp [execDescriptorDispatch]
@[simp] theorem execShadowWriteDue_kept (kf : Frame) (k : Fin 8) :
    keepOut kf (execShadowWriteDue k s) = s.keep kf := by simp [execShadowWriteDue]
@[simp] theorem execShadowWriteResponse_kept (kf : Frame) (k : Fin 8) (err : Bool) :
    keepOut kf (execShadowWriteResponse k err s) = s.keep kf := by simp [execShadowWriteResponse]
@[simp] theorem execCompletionWrite_kept (c : RingNo) :
    keepOut k (execCompletionWrite c s) = s.keep k := by simp [execCompletionWrite]
@[simp] theorem execEntryWriteResponse_kept (r : RingNo) (i : BitVec 32) (err : Bool) :
    keepOut k (execEntryWriteResponse r i err s) = s.keep k := by simp [execEntryWriteResponse]
@[simp] theorem execMsiHoldoffExpiry_kept (r : RingNo) :
    keepOut k (execMsiHoldoffExpiry r s) = s.keep k := by simp [execMsiHoldoffExpiry]
@[simp] theorem execRingEnable_kept (r : RingNo) (v : Reg) :
    keepOut k (execRingEnable r v s) = s.keep k := by simp [execRingEnable]
@[simp] theorem execRingDisable_kept (r : RingNo) :
    keepOut (.apart p) (execRingDisable r s) = s.keep (.apart p) := by simp [execRingDisable]
@[simp] theorem execNop_kept (r : RingNo) (i : BitVec 32) : keepOut k (execNop r i s) = s.keep k := by simp [execNop]
@[simp] theorem execRetrain_kept (r : RingNo) (i : BitVec 32) :
    keepOut (.apart p) (execRetrain r i s) = s.keep (.apart p) := by simp [execRetrain]
@[simp] theorem execReef_kept (r : RingNo) (i : BitVec 32) :
    keepOut (.apart p) (execReef r i s) = s.keep (.apart p) := by simp [execReef]
@[simp] theorem execUnreef_kept (r : RingNo) (i : BitVec 32) :
    keepOut (.apart p) (execUnreef r i s) = s.keep (.apart p) := by simp [execUnreef]
@[simp] theorem execSplice_kept (r : RingNo) (i : BitVec 32) :
    keepOut (.apart p) (execSplice r i s) = s.keep (.apart p) := by simp [execSplice]
@[simp] theorem execUnsplice_kept (r : RingNo) (i : BitVec 32) :
    keepOut (.apart p) (execUnsplice r i s) = s.keep (.apart p) := by simp [execUnsplice]
@[simp] theorem execCalibrate_kept (r : RingNo) (i : BitVec 32) :
    keepOut (.apart p) (execCalibrate r i s) = s.keep (.apart p) := by simp [execCalibrate]
@[simp] theorem execEyeScan_kept (r : RingNo) (i : BitVec 32) :
    keepOut (.apart p) (execEyeScan r i s) = s.keep (.apart p) := by simp [execEyeScan]
@[simp] theorem execPrbsTest_kept (r : RingNo) (i : BitVec 32) :
    keepOut (.apart p) (execPrbsTest r i s) = s.keep (.apart p) := by simp [execPrbsTest]
@[simp] theorem execPrbsTestDone_kept (r : RingNo) (i : BitVec 32) (errors : Nat) :
    keepOut (.apart p) (execPrbsTestDone r i errors s) = s.keep (.apart p) := by
  simp only [execPrbsTestDone, keepOut_done]; (repeat' split) <;> simp
@[simp] theorem execBight_kept (r : RingNo) (i : BitVec 32) :
    keepOut (.apart p) (execBight r i s) = s.keep (.apart p) := by simp [execBight]
@[simp] theorem execBightDurationEnd_kept (counts : List (Fin 8 × Nat × Nat × Nat)) :
    keepOut (.apart p) (execBightDurationEnd counts s) = s.keep (.apart p) := by simp [execBightDurationEnd]
@[simp] theorem execPark_kept (r : RingNo) (i : BitVec 32) :
    keepOut (.apart p) (execPark r i s) = s.keep (.apart p) := by simp [execPark]
@[simp] theorem execResume_kept (r : RingNo) (i : BitVec 32) :
    keepOut (.apart p) (execResume r i s) = s.keep (.apart p) := by simp [execResume]
@[simp] theorem execDigest_kept (r : RingNo) (i : BitVec 32) :
    keepOut k (execDigest r i s) = s.keep k := by simp [execDigest]
@[simp] theorem execCancel_kept (r : RingNo) (i : BitVec 32) :
    keepOut (.apart p) (execCancel r i s) = s.keep (.apart p) := by simp [execCancel]
@[simp] theorem execFenceDie_kept (r : RingNo) (i : BitVec 32) :
    keepOut (.apart p) (execFenceDie r i s) = s.keep (.apart p) := by simp [execFenceDie]
@[simp] theorem execUnfenceDie_kept (r : RingNo) (i : BitVec 32) :
    keepOut (.apart p) (execUnfenceDie r i s) = s.keep (.apart p) := by simp [execUnfenceDie]
@[simp] theorem execReduce_kept (r : RingNo) (i : BitVec 32) :
    keepOut (.apart p) (execReduce r i s) = s.keep (.apart p) := by simp [execReduce]
@[simp] theorem execJobStatus_kept (r : RingNo) (i : BitVec 32) :
    keepOut (.apart p) (execJobStatus r i s) = s.keep (.apart p) := by
  rw [execJobStatus, keepOut_done]
  exact State.withDesc_kept (.apart p) s r i 0x21 _ fun d u => by split <;> simp
@[simp] theorem execContribHead_kept (rx : Bool) (f : NocFlit) :
    keepOut (.apart p) (execContribHead rx f s) = s.keep (.apart p) := by simp [execContribHead]
@[simp] theorem execContribData_kept (rx : Bool) (f : NocFlit) :
    keepOut (.apart p) (execContribData rx f s) = s.keep (.apart p) := by
  simp only [execContribData]; (repeat' split) <;> simp
@[simp] theorem execChunkTimer_kept (slot chunk : Nat) :
    keepOut (.apart p) (execChunkTimer slot chunk s) = s.keep (.apart p) := by simp [execChunkTimer]
@[simp] theorem execJobIdleTimer_kept (slot : Nat) :
    keepOut (.apart p) (execJobIdleTimer slot s) = s.keep (.apart p) := by
  simp only [execJobIdleTimer]; (repeat' split) <;> simp
@[simp] theorem execPreholdExpiry_kept (num : Nat) :
    keepOut (.apart p) (execPreholdExpiry num s) = s.keep (.apart p) := by
  simp only [execPreholdExpiry]; (repeat' split) <;> simp
@[simp] theorem execSpillWriteResponse_kept (slot chunk : Nat) (err : Bool) :
    keepOut (.apart p) (execSpillWriteResponse slot chunk err s) = s.keep (.apart p) := by
  simp only [execSpillWriteResponse]; (repeat' split) <;> simp
@[simp] theorem execRefillResponse_kept (slot chunk : Nat) (err : Bool) :
    keepOut (.apart p) (execRefillResponse slot chunk err s) = s.keep (.apart p) := by
  simp only [execRefillResponse]; (repeat' split) <;> simp
@[simp] theorem execChunkOutput_kept (slot chunk : Nat) :
    keepOut (.apart p) (execChunkOutput slot chunk s) = s.keep (.apart p) := by
  simp only [execChunkOutput]; (repeat' split) <;> simp
@[simp] theorem execResultWriteResponse_kept (slot chunk : Nat) (err : Bool) :
    keepOut (.apart p) (execResultWriteResponse slot chunk err s) = s.keep (.apart p) := by
  simp only [execResultWriteResponse]; (repeat' split) <;> simp
@[simp] theorem execHitchSignal_kept (l : List (Bool × NocFlit)) :
    keepOut (.apart p) (execHitchSignal l s) = s.keep (.apart p) := by simp [execHitchSignal]
@[simp] theorem execHitchWait_kept (rx : Bool) (f : NocFlit) :
    keepOut (.apart p) (execHitchWait rx f s) = s.keep (.apart p) := by simp [execHitchWait]
@[simp] theorem execHitchWake_kept (rx : Bool) (f : NocFlit) :
    keepOut (.apart p) (execHitchWake rx f s) = s.keep (.apart p) := by
  simp only [execHitchWake]; (repeat' split) <;> simp
@[simp] theorem execHitchUpdate_kept (rx : Bool) (f : NocFlit) :
    keepOut (.apart p) (execHitchUpdate rx f s) = s.keep (.apart p) := by simp [execHitchUpdate]
@[simp] theorem execHitchRead_kept (f : NocFlit) :
    keepOut (.apart p) (execHitchRead f s) = s.keep (.apart p) := by simp [execHitchRead]
@[simp] theorem execWaiterTimeout_kept (entry : Nat) :
    keepOut (.apart p) (execWaiterTimeout entry s) = s.keep (.apart p) := by
  simp only [execWaiterTimeout]; (repeat' split) <;> simp
@[simp] theorem execRealignEpoch_kept :
    keepOut (.apart p) (execRealignEpoch s) = s.keep (.apart p) := by simp [execRealignEpoch]
@[simp] theorem execFenceRelease_kept (bucket : Nat) :
    keepOut (.apart p) (execFenceRelease bucket s) = s.keep (.apart p) := by
  simp only [execFenceRelease, keepOut_done]; (repeat' split) <;> simp
@[simp] theorem execEgressFenceRelease_kept (b : Fin 8) :
    keepOut (.apart p) (execEgressFenceRelease b s) = s.keep (.apart p) := by
  simp only [execEgressFenceRelease, keepOut_done]; (repeat' split) <;> simp
@[simp] theorem execHtConfig_kept (r : RingNo) (i : BitVec 32) :
    keepOut (.apart p) (execHtConfig r i s) = s.keep (.apart p) := by simp [execHtConfig]
@[simp] theorem execHtReset_kept (r : RingNo) (i : BitVec 32) :
    keepOut (.apart p) (execHtReset r i s) = s.keep (.apart p) := by simp [execHtReset]
@[simp] theorem execHtAbort_kept (r : RingNo) (i : BitVec 32) :
    keepOut (.apart p) (execHtAbort r i s) = s.keep (.apart p) := by simp [execHtAbort]
@[simp] theorem execHtAbortThread_kept (r : RingNo) (i : BitVec 32) :
    keepOut (.apart p) (execHtAbortThread r i s) = s.keep (.apart p) := by
  rw [execHtAbortThread, keepOut_done]
  refine State.withDesc_kept (.apart p) s r i 0x33 _ fun d u => ?_
  dsimp only
  (repeat' split) <;> simp
@[simp] theorem execHtRead_kept (r : RingNo) (i : BitVec 32) :
    keepOut (.apart p) (execHtRead r i s) = s.keep (.apart p) := by simp [execHtRead]
@[simp] theorem execHtSignal_kept (r : RingNo) (i : BitVec 32) :
    keepOut (.apart p) (execHtSignal r i s) = s.keep (.apart p) := by simp [execHtSignal]
@[simp] theorem execHtWait_kept (r : RingNo) (i : BitVec 32) :
    keepOut (.apart p) (execHtWait r i s) = s.keep (.apart p) := by simp [execHtWait]
@[simp] theorem execHitchDebugCopy_kept (v : Reg) :
    keepOut (.apart p) (execHitchDebugCopy v s) = s.keep (.apart p) := by simp [execHitchDebugCopy]
@[simp] theorem execWaiterDebugCopy_kept (v : Reg) :
    keepOut (.apart p) (execWaiterDebugCopy v s) = s.keep (.apart p) := by simp [execWaiterDebugCopy]
@[simp] theorem execLashStage_kept (a : Access) :
    keepOut (.apart .test) (execLashStage a s) = s.keep (.apart .test) := by simp [execLashStage]
@[simp] theorem execLashUnstage_kept (a : Access) :
    keepOut (.apart .test) (execLashUnstage a s) = s.keep (.apart .test) := by simp [execLashUnstage]
@[simp] theorem execLashPropose_kept (a : Access) :
    keepOut (.apart .test) (execLashPropose a s) = s.keep (.apart .test) := by simp [execLashPropose]
@[simp] theorem execLashDigestReady_kept :
    keepOut (.apart p) (execLashDigestReady s) = s.keep (.apart p) := by
  simp only [execLashDigestReady, keepOut_done]; (repeat' split) <;> simp
@[simp] theorem execLashCommit_kept (a : Access) :
    keepOut (.apart .test) (execLashCommit a s) = s.keep (.apart .test) := by simp [execLashCommit]
@[simp] theorem execLashAbort_kept (a : Access) :
    keepOut (.apart .test) (execLashAbort a s) = s.keep (.apart .test) := by simp [execLashAbort]
@[simp] theorem execLashWindowExpiry_kept :
    keepOut (.apart p) (execLashWindowExpiry s) = s.keep (.apart p) := by simp [execLashWindowExpiry]
@[simp] theorem execLashOffer_kept (q : Sealed) (b : Fin 8) (p : NocFlit) :
    keepOut (.apart q) (execLashOffer b p s) = s.keep (.apart q) := by simp [execLashOffer]
@[simp] theorem execLashSwitch_kept (q : Sealed) (b : Fin 8) (p : NocFlit) :
    keepOut (.apart q) (execLashSwitch b p s) = s.keep (.apart q) := by simp [execLashSwitch]
@[simp] theorem execLashWithdraw_kept (q : Sealed) (b : Fin 8) (p : NocFlit) :
    keepOut (.apart q) (execLashWithdraw b p s) = s.keep (.apart q) := by simp [execLashWithdraw]
@[simp] theorem execLeaderLinkTimeout_kept :
    keepOut (.apart p) (execLeaderLinkTimeout s) = s.keep (.apart p) := by simp [execLeaderLinkTimeout]
@[simp] theorem execFollowerLinkTimeout_kept :
    keepOut (.apart p) (execFollowerLinkTimeout s) = s.keep (.apart p) := by simp [execFollowerLinkTimeout]
@[simp] theorem execPartyWrite_kept (a : Access) :
    keepOut (.apart .test) (execPartyWrite a s) = s.keep (.apart .test) := by simp [execPartyWrite]
@[simp] theorem execEpochClose_kept : keepOut (.apart p) (execEpochClose s) = s.keep (.apart p) := by simp [execEpochClose]
@[simp] theorem execEpochCloseCommand_kept (a : Access) :
    keepOut (.apart .test) (execEpochCloseCommand a s) = s.keep (.apart .test) := by simp [execEpochCloseCommand]
@[simp] theorem execMeterRead_kept (a : Access) :
    keepOut (.apart .test) (execMeterRead a s) = s.keep (.apart .test) := by simp [execMeterRead]
@[simp] theorem execPmBudget_kept (f : NocFlit) :
    keepOut (.apart p) (execPmBudget f s) = s.keep (.apart p) := by simp [execPmBudget]
@[simp] theorem execPmRamp_kept (f : NocFlit) :
    keepOut (.apart p) (execPmRamp f s) = s.keep (.apart p) := by simp [execPmRamp]
@[simp] theorem execPwrCap_kept (q : Sealed) (b : Fin 8) (p : NocFlit) :
    keepOut (.apart q) (execPwrCap b p s) = s.keep (.apart q) := by simp [execPwrCap]
@[simp] theorem execPwrGo_kept (q : Sealed) (b : Fin 8) (p : NocFlit) :
    keepOut (.apart q) (execPwrGo b p s) = s.keep (.apart q) := by simp [execPwrGo]
@[simp] theorem execDozeEnter_kept (q : Sealed) (b : Fin 8) (p : NocFlit) :
    keepOut (.apart q) (execDozeEnter b p s) = s.keep (.apart q) := by simp [execDozeEnter]
@[simp] theorem execWakeBurst_kept : keepOut (.apart p) (execWakeBurst s) = s.keep (.apart p) := by simp [execWakeBurst]
@[simp] theorem execControlWake_kept :
    keepOut (.apart p) (execControlWake s) = s.keep (.apart p) := by simp [execControlWake]
@[simp] theorem execDozeHoldExpiry_kept :
    keepOut (.apart p) (execDozeHoldExpiry s) = s.keep (.apart p) := by simp [execDozeHoldExpiry]
@[simp] theorem execParkReady_kept (q : Sealed) (b : Fin 8) (p : NocFlit) :
    keepOut (.apart q) (execParkReady b p s) = s.keep (.apart q) := by simp [execParkReady]
@[simp] theorem execDrainLimit_kept : keepOut (.apart p) (execDrainLimit s) = s.keep (.apart p) := by simp [execDrainLimit]
@[simp] theorem execParkDurationEnd_kept :
    keepOut (.apart p) (execParkDurationEnd s) = s.keep (.apart p) := by simp [execParkDurationEnd]
@[simp] theorem execSidebandWake_kept :
    keepOut (.apart p) (execSidebandWake s) = s.keep (.apart p) := by simp [execSidebandWake]
@[simp] theorem execFarParkedTimeout_kept :
    keepOut (.apart p) (execFarParkedTimeout s) = s.keep (.apart p) := by simp [execFarParkedTimeout]
@[simp] theorem execParkExitTrained_kept :
    keepOut (.apart p) (execParkExitTrained s) = s.keep (.apart p) := by simp [execParkExitTrained]
@[simp] theorem execBelayExpiry_kept (case : Nat) :
    keepOut (.apart p) (execBelayExpiry case s) = s.keep (.apart p) := by simp [execBelayExpiry]
@[simp] theorem execFlagClear_kept (a : Access) :
    keepOut (.apart .test) (execFlagClear a s) = s.keep (.apart .test) := by simp [execFlagClear]
@[simp] theorem execDeadDiePoll_kept (reads : List SiteRead) (repl : DieId) :
    keepOut (.apart p) (execDeadDiePoll reads repl s) = s.keep (.apart p) := by simp [execDeadDiePoll]
@[simp] theorem execSmSlotWrite_kept (addr : Nat) (data : List (BitVec 8)) :
    keepOut (.apart p) (execSmSlotWrite addr data s) = s.keep (.apart p) := by simp [execSmSlotWrite]
@[simp] theorem execOpticalReport_kept (id site clk : Reg) :
    keepOut (.apart .test) (execOpticalReport id site clk s) = s.keep (.apart .test) := by simp [execOpticalReport]
@[simp] theorem execRcRead_kept (a : Access) :
    keepOut (.apart .test) (execRcRead a s) = s.keep (.apart .test) := by simp [execRcRead]
@[simp] theorem execRegisterWrite_kept (a : Access) :
    keepOut (.apart .test) (execRegisterWrite a s) = s.keep (.apart .test) := by simp [execRegisterWrite]
@[simp] theorem execCodewordLockLoss_kept (b : Fin 8) :
    keepOut (.apart p) (execCodewordLockLoss b s) = s.keep (.apart p) := by simp [execCodewordLockLoss]
@[simp] theorem execTrainFrameRepeat_kept :
    keepOut (.apart p) (execTrainFrameRepeat s) = s.keep (.apart p) := by simp [execTrainFrameRepeat]
@[simp] theorem execSidebandFrameDiscard_kept (w : SbWord) :
    keepOut (.apart p) (execSidebandFrameDiscard w s) = s.keep (.apart p) := by simp [execSidebandFrameDiscard]
@[simp] theorem execSidebandFrameForward_kept (f : SbFrame) :
    keepOut (.apart p) (execSidebandFrameForward f s) = s.keep (.apart p) := by simp [execSidebandFrameForward]
@[simp] theorem execTapShift_kept (wdr acc si : Bool) :
    keepOut (.apart .window) (execTapShift wdr acc si s) = s.keep (.apart .window) := by simp [execTapShift]
@[simp] theorem execCheckerLock_kept (b : Fin 8) (seen : CheckerSeen) :
    keepOut (.apart p) (execCheckerLock b seen s) = s.keep (.apart p) := by simp [execCheckerLock]
@[simp] theorem execCheckerLockLoss_kept (q : Sealed) (b : Fin 8) (p : Nat) (run : CheckerRun) (window : BitVec 256) :
    keepOut (.apart q) (execCheckerLockLoss b p run window s) = s.keep (.apart q) := by simp [execCheckerLockLoss]
@[simp] theorem execMsiWriteResponse_kept (_r : RingNo) (err : Bool) :
    keepOut k (execMsiWriteResponse _r err s) = s.keep k := by simp [execMsiWriteResponse]
@[simp] theorem execTransmitCalStepComplete_kept (b : Fin 8) (codes : Reg) :
    keepOut (.apart p) (execTransmitCalStepComplete b codes s) = s.keep (.apart p) := by simp [execTransmitCalStepComplete]

/-- A command that answers a next state keeps the frame its outcome keeps. -/
theorem keep_of_next {k : Frame} {c : Instr} {s t : State} (h : keepOut k (exec c s) = s.keep k) (hx : exec c s = .next t) :
    t.keep k = s.keep k := by rw [hx] at h; exact h

theorem exec_keeps_test (c : Instr) (h : c.ofTestAccess = false) :
    keepOut (.apart .test) (exec c s) = s.keep (.apart .test) := by
  cases c
  case powerOnReset | pairResetAssert | mainPowerGood | tstAloneChange | testLogicReset | tapUpdate | tapCapture |
    tapShift | tapAccessComplete => cases h
  all_goals simp [exec]

theorem exec_keeps_window (c : Instr) (h : c.ofWindow = false) :
    keepOut (.apart .window) (exec c s) = s.keep (.apart .window) := by
  cases c
  case pairedResetRequest | trimWrite | minBraidsWrite | lashStage | lashUnstage | lashPropose | lashCommit | lashAbort
    | partyWrite | epochCloseCommand | meterRead | flagClear | rcRead | registerWrite | bightRun | tapAccessComplete |
    opticalReport | powerOnReset | pairResetAssert | mainPowerGood => cases h
  all_goals simp [exec]

theorem exec_keeps_rings (c : Instr) (h : c.ofRings = true) : keepOut .rings (exec c s) = s.keep .rings := by
  cases c
  case doorbellNotification | watchReadResponse | watchReadRetry | doorbellPoll | descriptorFetchResponse |
    descriptorReread | descriptorDispatch | shadowWriteDue | shadowWriteResponse | completionWrite | entryWriteResponse
    | msiHoldoffExpiry | msiWriteResponse | ringEnable | nop | digest | creditInitTimeout | creditInitRetry |
    creditAuditStart | creditAuditAnswer | creditAuditAbandon =>
    simp [exec]
  all_goals cases h

end Sys2Proof.Machine

open Sys2Proof Sys2Proof.Machine

/-- Settles O60: no command outside the group named changes the part it isolates (`exec_keeps_test`, `exec_keeps_window`). -/
theorem testAndWindowAreIsolated : Obligations.TestAndWindowAreIsolated :=
  ⟨fun s _ c ⟨hc, hx⟩ => (congrArg State.test (keep_of_next (exec_keeps_test s c hc) hx) :),
    fun s _ c ⟨hc, hx⟩ => (congrArg State.glob (keep_of_next (exec_keeps_window s c hc) hx) :)⟩

/-- Settles O57: the commands of the rings, their memory accesses and the credit audits keep the frame `Frame.rings`. -/
theorem ringCommandsFrame : Obligations.RingCommandsFrame := by
  rintro s t c ⟨hc, hx⟩
  have h := keep_of_next (exec_keeps_rings s c hc) hx
  exact ⟨(congrArg State.straps h :), (congrArg State.aon h :), (congrArg State.clk h :), (congrArg State.sb h :),
    (congrArg State.test h :), (congrArg State.start h :), (congrArg State.link h :), (congrArg State.cal h :),
    (congrArg State.red h :), (congrArg State.ht h :), (congrArg State.cfg h :), (congrArg State.agent h :),
    (congrArg State.pwr h :), (congrArg State.lash h :), (congrArg State.ten h :), (congrArg State.mtr h :),
    (congrArg State.bight h :), (congrArg State.glob h :), (congrArg State.out h :)⟩
end

section
/-!
LEMMAS. What the commands of the clocks, the timestamps, the power switch, the limits of a reset and test access leave as it was
(R44, R49, R53, R60 to R63, R96, R138, R325, R359).
-/
namespace Sys2Proof.Machine

/-- The state without what those commands and the posting of their events may change. -/
def State.besidesClocks (s : State) : State :=
  { State.resetAs s.straps with
    link := s.link, cal := s.cal, red := s.red, ht := s.ht, cfg := s.cfg, pwr := s.pwr, lash := s.lash, ten := s.ten
    out := s.out, noc := { s.noc with whReset := false, qRing := [] } }

theorem countEvent_besidesClocks (s : State) (e : Event) : (s.countEvent e).besidesClocks = s.besidesClocks := by
  have posted : ∀ (u : State) (seq ts : Nat), (u.post e seq ts).besidesClocks = u.besidesClocks := fun u seq ts => by
    unfold State.post; split <;> rfl
  unfold State.countEvent
  dsimp only
  split
  · exact posted _ _ _
  · split
    · exact posted _ _ _
    · rfl

@[simp] theorem flushEvents_besidesClocks (s : State) : s.flushEvents.besidesClocks = s.besidesClocks := by
  unfold State.flushEvents
  rw [foldl_countEvent State.besidesClocks countEvent_besidesClocks]
  rfl

theorem switchTimeout_besidesClocks (s : State) : s.switchTimeout.besidesClocks = s.besidesClocks := by
  unfold State.switchTimeout; dsimp only; (repeat' split) <;> rfl

theorem refWindow_besidesClocks (s : State) (l : List (Fin 8 × Int)) : (s.refWindow l).besidesClocks = s.besidesClocks := by
  unfold State.refWindow; dsimp only; (repeat' split) <;> rfl

theorem epochDue_besidesClocks (s : State) : s.epochDue.besidesClocks = s.besidesClocks := by
  unfold State.epochDue; (repeat' split) <;> rfl

theorem soLow_besidesClocks (s : State) : s.soLow.besidesClocks = s.besidesClocks := by
  unfold State.soLow; split <;> rfl

theorem tapUpdate_besidesClocks (s : State) : s.tapUpdate.besidesClocks = s.besidesClocks := by
  unfold State.tapUpdate; dsimp only; split <;> rfl

/-- A sideband that is lost ends the tests of strands and changes nothing else of what the clocks leave alone. -/
theorem loseSideband_besidesClocks (s : State) :
    s.loseSideband.besidesClocks = s.besidesClocks ∨ s.loseSideband.besidesClocks = s.testsLost.besidesClocks := by
  unfold State.loseSideband
  split
  · exact .inl rfl
  · refine .inr ?_
    dsimp only
    (repeat' split) <;> rfl

/-- A command of the group completes by posting its events, and but for the tests a sideband loss ends it leaves the rest. -/
theorem clockCommand_done (s : State) (c : Instr) (h : c.ofClocks = true) : ∃ u, exec c s = done u ∧
    (u.besidesClocks = s.besidesClocks ∨ c = .sidebandLoss ∧ u.besidesClocks = s.testsLost.besidesClocks) := by
  cases c
  case powerOnRelease => exact ⟨_, rfl, .inl (by split <;> rfl)⟩
  case powerSwitchTimeout => exact ⟨_, rfl, .inl (switchTimeout_besidesClocks s)⟩
  case powerSwitchRetry => exact ⟨_, rfl, .inl (by split <;> rfl)⟩
  case pmPwrRefresh => exact ⟨_, rfl, .inl (by split <;> rfl)⟩
  case resetAckLimit => exact ⟨_, rfl, .inl (by split <;> rfl)⟩
  case resetReqTimeout => exact ⟨_, rfl, .inl (by split <;> rfl)⟩
  case refOffsetWindow l => exact ⟨_, rfl, .inl (by split; exacts [refWindow_besidesClocks s l, rfl])⟩
  case tscCheck v => exact ⟨_, rfl, .inl (by (repeat' split) <;> rfl)⟩
  case timestampStep v => exact ⟨_, rfl, .inl (by (repeat' split) <;> rfl)⟩
  case epochClose => exact ⟨_, rfl, .inl (epochDue_besidesClocks s)⟩
  case sidebandLoss => exact ⟨_, rfl, (loseSideband_besidesClocks s).imp_right fun k => ⟨rfl, k⟩⟩
  case sidebandNotUp => exact ⟨_, rfl, .inl (by split <;> rfl)⟩
  case tstAloneChange v => exact ⟨_, rfl, .inl (by dsimp only; (repeat' split) <;> rfl)⟩
  case testLogicReset => exact ⟨_, rfl, .inl rfl⟩
  case tapUpdate w a =>
    refine ⟨_, rfl, .inl ?_⟩
    split
    · rw [tapUpdate_besidesClocks, soLow_besidesClocks]; rfl
    · exact soLow_besidesClocks (s.selects w a)
  case tapCapture w a x =>
    refine ⟨_, rfl, .inl ?_⟩
    (repeat' split) <;> exact soLow_besidesClocks (s.selects w a)
  case tapShift w a b => exact ⟨_, rfl, .inl (by (repeat' split) <;> rfl)⟩
  case smSlotWrite a l =>
    simp only [exec, execSmSlotWrite]
    split <;> exact ⟨_, rfl, .inl rfl⟩
  case opticalReport i k x =>
    simp only [exec, execOpticalReport]
    split
    · exact ⟨_, rfl, .inl rfl⟩
    · exact ⟨_, rfl, .inl (by split <;> rfl)⟩
  all_goals cases h

end Sys2Proof.Machine

open Sys2Proof Sys2Proof.Machine

/-- Settles O54: what the group leaves alone is `State.besidesClocks`, and the tests a sideband loss ends are those of
`State.testsLost`. -/
theorem clockCommandsFrame : Obligations.ClockCommandsFrame := by
  rintro s t c ⟨hc, hx⟩
  obtain ⟨u, hu, hkeep⟩ := clockCommand_done s c hc
  obtain rfl : u.flushEvents = t := by rw [hu, done_eq] at hx; injection hx
  rw [← flushEvents_besidesClocks u] at hkeep
  have hlink : u.flushEvents.link = { s.link with
      strands := u.flushEvents.link.strands, admits := u.flushEvents.link.admits }
      ∧ (c ≠ .sidebandLoss → u.flushEvents.link = s.link) := by
    rcases hkeep with h | ⟨rfl, h⟩
    · have same : u.flushEvents.link = s.link := (congrArg State.link h :)
      exact ⟨by rw [same], fun _ => same⟩
    · have same : u.flushEvents.link = s.testsLost.link := (congrArg State.link h :)
      exact ⟨by rw [same]; rfl, fun h => absurd rfl h⟩
  have hrest : { u.flushEvents.besidesClocks with link := s.link } = s.besidesClocks := by
    rcases hkeep with h | ⟨-, h⟩ <;> rw [h] <;> rfl
  refine ⟨(congrArg State.straps hrest :), hlink.1, (congrArg State.cal hrest :), (congrArg State.red hrest :),
    (congrArg State.ht hrest :), (congrArg State.ten hrest :), (congrArg State.lash hrest :), (congrArg State.pwr hrest :),
    (congrArg State.cfg hrest :), (congrArg State.out hrest :), hlink.2, ?_⟩
  exact (congrArg (fun x : State => { x.noc with
    whReset := u.flushEvents.noc.whReset, qRing := u.flushEvents.noc.qRing }) hrest :)
end

section
/-!
LEMMAS. Stand-alone mode and the test data registers (R48, R49, R63), and the state after reset (R391).
-/
namespace Sys2Proof.Machine

/-- A command that leaves no event waiting ends in the state it made. -/
theorem completes_quiet {c : Instr} {s u : State} {P : State → Prop} (hc : exec c s = done u) (hq : u.quiet) (h : P u) :
    Completes c s P :=
  ⟨u, hc.trans (done_of_quiet u hq), h⟩

/-- The three fields of a captured register-access register. -/
theorem bf_captured (op addr data : Nat) :
    let acc : BitVec 50 := pack 50 [(0, 2, op), (2, 16, addr), (18, 32, data)]
    bf acc 0 2 = op % 2 ^ 2 ∧ bf acc 2 16 = addr % 2 ^ 16 ∧ bf acc 18 32 = data % 2 ^ 32 := by
  simp only [bf, bitsOf, pack, packNat, BitVec.toNat_ofNat]
  omega

/-- A field is narrower than its length in bits. -/
theorem bf_mod_self {n : Nat} (w : BitVec n) (lo len : Nat) : bf w lo len % 2 ^ len = bf w lo len := by
  simp [bf, bitsOf]

/-- An aligned access at the address of FX_ID reads it. -/
theorem tapDone_read_id (s : State) (j : TapJob) (hop : j.op = 1) (hoff : j.off = 0)
    (hg : s.gate j.access false = .take) :
    s.tapDone j = { s with
      test := { s.test with job := none, resOp := 0, resData := s.regValue 0 }
      glob := { s.glob with readData := s.regValue 0, refusedAcc := false } } := by
  have hz : j.access.off.toNat = 0 := by simp [TapJob.access, hoff]
  have hgate : ({ s with test.job := none } : State).gate j.access false = .take := hg
  simp only [State.tapDone, hoff, hop, Nat.zero_mod, ne_eq, not_true, if_false, if_true, State.regRead, hgate, hz]
  rfl

end Sys2Proof.Machine

open Sys2Proof Sys2Proof.Machine

/-- Settles O5, command by command. -/
theorem testAccessCompletes : Obligations.TestAccessCompletes := by
  refine ⟨?_, ?_, ?_, ?_, ?_, ?_, ?_, ?_, ?_, ?_, ?_, ?_⟩
  · rintro s v ⟨hq, hv, hp, hr⟩
    refine completes_quiet (u := { s with test.alone := v, noc.whReset := true, aon.reqN := false, aon.reqCause := some 6 })
      ?_ hq rfl
    simp [exec, execTstAloneChange, hv, hp, hr, State.withholdReset, State.requestReset]
  · intro s hq
    exact completes_quiet rfl hq ⟨rfl, rfl, rfl, rfl, rfl⟩
  · rintro s ⟨hq, hj, hop⟩
    refine completes_quiet (u := { s with test := { s.test with
      selWdr := false, selAcc := true
      job := some ⟨bf s.test.acc 0 2, bf s.test.acc 2 16, BitVec.ofNat 32 (bf s.test.acc 18 32)⟩ } }) ?_ hq ⟨rfl, rfl⟩
    rcases hop with hop | hop <;>
      simp [exec, execTapUpdate, State.selects, State.soLow, State.tapUpdate, hj, hop]
  · intro s c hq
    exact completes_quiet rfl hq ⟨rfl, rfl, rfl⟩
  · rintro s c ⟨hq, hj⟩
    obtain ⟨hop, haddr, hdata⟩ := bf_captured 1 (bf s.test.acc 2 16) 0
    refine completes_quiet (u := (s.selects false true).tapCapture) rfl hq ⟨rfl, ?_⟩
    simp only [State.selects, State.tapCapture, hj, if_true]
    exact ⟨hop, hdata, haddr.trans (bf_mod_self _ 2 16)⟩
  · intro s b hq
    exact completes_quiet rfl hq ⟨rfl, rfl, rfl, rfl⟩
  · intro s b hq
    exact completes_quiet rfl hq ⟨rfl, rfl, rfl, rfl⟩
  · rintro s j ⟨hj, hoff⟩
    have hc : exec .tapAccessComplete s = done { s with test := { s.test with job := none, resOp := 2, resData := 0 } } := by
      simp [exec, execTapAccessComplete, hj, State.tapDone, hoff]
    exact completes_done hc (by simp)
  · rintro s j ⟨hq, hj, hop, hoff, hg⟩
    have hc : exec .tapAccessComplete s = done (s.tapDone j) := by simp [exec, execTapAccessComplete, hj]
    rw [tapDone_read_id s j hop hoff hg] at hc
    exact completes_quiet hc hq ⟨rfl, rfl, rfl, rfl⟩
  · rintro s ⟨hq, hj⟩
    refine completes_quiet (u := { s with test := { s.test with selWdr := false, selAcc := true } }) ?_ hq rfl
    simp [exec, execTapUpdate, State.selects, State.soLow, State.tapUpdate, hj]
  · rintro s c ⟨hq, hj⟩
    obtain ⟨hop, haddr, hdata⟩ := bf_captured s.test.resOp (bf s.test.acc 2 16) s.test.resData.toNat
    refine completes_quiet (u := (s.selects false true).tapCapture) rfl hq ⟨rfl, ?_⟩
    simp only [State.selects, State.tapCapture, hj, Option.isSome_none, Bool.false_eq_true, if_false]
    exact ⟨hop, hdata.trans (Nat.mod_eq_of_lt s.test.resData.isLt), haddr.trans (bf_mod_self _ 2 16)⟩
  · intro s b hq
    exact completes_quiet rfl hq rfl

/-- Settles O48: every value is the one `State.resetAs` writes, and the memory after reset is canonical. -/
theorem resetState : Obligations.ResetState :=
  ⟨rfl, reset_mem_wf _, rfl, fun st =>
    ⟨rfl, rfl, rfl, rfl, rfl, rfl, rfl, rfl, rfl, rfl, rfl, rfl, rfl, rfl, rfl, rfl, rfl, rfl, reset_mem_wf st⟩⟩
end

section
/-!
LEMMAS. Credit audits (R33, R205, R206), and the NoC interface an optical end does not have (R25).
-/
namespace Sys2Proof.Machine

/-- The credits an audit answer below the snapshot takes out of an ingress count (Table 9.4). -/
def State.loseIn (s : State) (v : Fin 8) (lost : Nat) : State :=
  { s with
    noc.audit := none, noc.audits := s.noc.audits + 1, noc.mismatch := s.noc.mismatch + 1
    noc.lostIn := s.noc.lostIn.upd v (· + lost), noc.inHeld := s.noc.inHeld.upd v (· - lost) }

/-- While the window is not exhausted a lower answer raises CREDIT_LOSS alone. -/
theorem auditAnswer_lower_in (s : State) (v : Fin 8) (k n : Nat) (ha : s.noc.audit = some (v, false, k)) (hn : n < k)
    (hw : s.noc.lostIn.get v + (k - n) < 128) :
    s.auditAnswer n = (s.loseIn v (k - n)).raise 0x31 (code := 0) (arg0 := k) (arg1 := n) (vc := v.val) := by
  have hne : n ≠ k := Nat.ne_of_lt hn
  have hw' : ¬ 128 ≤ (s.noc.lostIn.upd v (· + (k - n))).get v := by rw [oct_get_upd_self]; omega
  simp only [State.auditAnswer, ha, hne, if_false, Bool.false_eq_true, State.auditIn, hn, if_true, State.raise_noc]
  exact if_neg hw'

/-- The NoC commands an optical end does not have: none of the credit handshake, the credit audit and the flits. -/
theorem optical_noc_unchanged (s : State) (hq : s.quiet) (ho : s.isOptical = true) (c : Instr)
    (hc : c = .creditInitAck ∨ c = .creditInitTimeout ∨ c = .creditInitRetry ∨ c = .creditAuditStart ∨ c = .creditAuditAbandon
      ∨ (∃ n, c = .creditAuditAnswer n) ∨ (∃ v n, c = .nocEgressCredit v n) ∨ ∃ f a, c = .nocIngressFlit f a) :
    Completes c s fun t => t = s := by
  refine completes_unchanged ?_ hq
  rcases hc with rfl | rfl | rfl | rfl | rfl | ⟨n, rfl⟩ | ⟨v, n, rfl⟩ | ⟨f, a, rfl⟩ <;> exact if_pos ho

end Sys2Proof.Machine

open Sys2Proof Sys2Proof.Machine

/-- Settles O29: an audit is decided by its snapshot, and each command of the NoC interface asks first whether the end is
optical. -/
theorem auditsComplete : Obligations.AuditsComplete := by
  have absent := optical_noc_unchanged
  refine ⟨?_, ?_, ?_, ?_, fun s h => absent s h.1 h.2 _ (by simp), fun s h => absent s h.1 h.2 _ (by simp),
    fun s h => absent s h.1 h.2 _ (by simp), fun s h => absent s h.1 h.2 _ (by simp), fun s h => absent s h.1 h.2 _ (by simp),
    fun s n h => absent s h.1 h.2 _ (by simp), fun s v n h => absent s h.1 h.2 _ (by simp),
    fun s f a h => absent s h.1 h.2 _ (by simp)⟩
  · rintro s v d ⟨hq, ho, ht, hctl, hop, hi, hc, ha, hturn⟩
    refine completes_quiet ?_ (u := { s with
      noc.audit := some (v, d, if d then s.noc.egHeld.get v else s.noc.inHeld.get v)
      noc.nextAudit := (s.noc.nextAudit + 1) % (2 * s.cls.vcs.length) }) hq rfl
    simp [exec, execCreditAuditStart, ho, State.auditStart, ht, hctl, hop, hi, hc, ha, hturn]
  · rintro s v d n ⟨hq, ho, ha⟩
    refine completes_quiet ?_ (u := { s with noc.audit := none, noc.audits := s.noc.audits + 1 }) hq rfl
    simp [exec, execCreditAuditAnswer, ho, State.auditAnswer, ha]
  · rintro s v n k ⟨hq, ho, ha, hn, hw⟩
    have hc : exec (.creditAuditAnswer n) s = done (s.auditAnswer n.toNat) := if_neg (by simp [ho])
    rw [auditAnswer_lower_in s v k n.toNat ha hn hw] at hc
    refine completes_done hc ⟨?_, ?_, ?_, ?_, counted_flush _ _ _ (by decide) rfl ?_⟩
    · simp [State.loseIn]
    · simp [State.loseIn]
    · simp [State.loseIn]
    · simp [State.loseIn]
    · rw [raise_eventsOf]; simp [State.loseIn, hq, eventsOf]
  · rintro s ⟨hq, ho, ha⟩
    refine completes_quiet ?_ (u := { s with noc.audit := none, noc.abandoned := s.noc.abandoned + 1 }) hq rfl
    simp [exec, execCreditAuditAbandon, ho, ha]
end

section
/-!
LEMMAS. Stand-alone mode holds the credit handshake at its reset value (R49): noc_crd_init does not rise again after a timeout.
-/
namespace Sys2Proof.Machine

/-- A stack port alone, with counts returned and a handshake that has timed out. -/
def aloneTimedOut : State :=
  { State.reset with test.alone := true, noc.crdInit := true, noc.timeoutRaised := true, noc.returned := true }

theorem creditInitRetry_alone (s : State) (ha : s.test.alone = true) (ho : s.isOptical = false) (hq : s.quiet) :
    exec .creditInitRetry s = .next s := by
  have hc : exec .creditInitRetry s = done s := by simp [exec, execCreditInitRetry, ho, State.startCreditInit, ha]
  rw [hc, done_of_quiet s hq]

end Sys2Proof.Machine

open Sys2Proof Sys2Proof.Machine

/-- Refutes O28: its clause on CREDIT_INIT_RETRY has no premise that the port is not alone, and a port in stand-alone mode
starts no handshake (R49), so that `returned` stands where the clause says it falls. -/
theorem not_creditsComplete : ¬ Obligations.CreditsComplete := by
  rintro ⟨-, -, -, -, -, hretry⟩
  obtain ⟨t, hstep, ht⟩ := hretry aloneTimedOut ⟨rfl, rfl, rfl, rfl⟩
  rw [creditInitRetry_alone aloneTimedOut rfl rfl rfl, Host.Outcome.next.injEq] at hstep
  have hreturned : aloneTimedOut.noc.returned = false := by rw [hstep, ht]
  exact absurd hreturned (by decide)
end

section
/-!
LEMMAS. A fibre hub block that hears a frame takes the frame's in-band copies out of the CONTROL FIFOs of its receive braids
(R90, R169): hearing a HEARTBEAT is not without effect on the link.
-/
namespace Sys2Proof.Machine

/-- A HEARTBEAT of an optical end in step 2, class 0. -/
def heartbeatCopied : SbFrame := ⟨0, 0, false, 0xFF, 0, 0xFF, 0, 0⟩

/-- An OPEN fibre hub block whose receive braid 0 holds an in-band copy of the frame. -/
def fibreHubWithCopy : State :=
  let s := State.resetAs { defaultStraps with cls := .fib }
  { s with
    aon := { s.aon with mainGood := true, isoN := true, pairN := true }
    clk := { s.clk with refUp := true }
    start := { s.start with st := .openSt }
    link := { s.link with rx := s.link.rx.upd 0 fun r =>
      { r with ctlIn := [(0x10, BitVec.ofNat 576 (sbWord heartbeatCopied).toNat, 0)] } } }

/-- What a state holds in the CONTROL FIFO of receive braid 0. -/
def ctlWaiting (s : State) : Nat := (s.link.rx.get 0).ctlIn.length

theorem ctlWaiting_fibreHubWithCopy : ctlWaiting fibreHubWithCopy = 1 := by decide

theorem hear_heartbeatCopied : (fibreHubWithCopy.hear heartbeatCopied).1 = true := by decide

/-- The HEARTBEAT is heard, and the copy is gone. -/
theorem heartbeat_takes_copy (t : State) (h : exec (.heartbeat heartbeatCopied) fibreHubWithCopy = .next t) :
    ctlWaiting t = 0 := by
  have hrun : exec (.heartbeat heartbeatCopied) fibreHubWithCopy =
      done ((fibreHubWithCopy.hear heartbeatCopied).2.takeHeartbeat heartbeatCopied) := by
    have hheard := hear_heartbeatCopied
    simp only [exec, execHeartbeat, hheard, if_true]
    rfl
  rw [hrun, done_eq, Host.Outcome.next.injEq] at h
  rw [← h, ctlWaiting, State.flushEvents_link]
  decide +kernel

end Sys2Proof.Machine

open Sys2Proof Sys2Proof.Machine

/-- Refutes O4: a fibre hub block in OPEN hears a HEARTBEAT whose in-band copy waits at a receive braid, and takes the copy out
of that braid (R90), where the second clause says that the link stays as it was. -/
theorem not_sidebandCompletes : ¬ Obligations.SidebandCompletes := by
  rintro ⟨-, hheard, -⟩
  obtain ⟨t, hstep, -, -, -, -, -, -, hlink, -⟩ := hheard fibreHubWithCopy heartbeatCopied
    ⟨rfl, rfl, hear_heartbeatCopied, by decide, rfl⟩
  have hkept : ctlWaiting t = ctlWaiting fibreHubWithCopy := congrArg (fun l => (l.rx.get 0).ctlIn.length) hlink
  rw [heartbeat_takes_copy t hstep, ctlWaiting_fibreHubWithCopy] at hkept
  exact absurd hkept (by decide)
end

section
/-!
LEMMAS. A drain waits for a RETRAIN command that runs, however often DRAIN_LIMIT passes (R340).
-/
namespace Sys2Proof.Machine

/-- A later DRAIN_LIMIT leaves a drain that can go no further to a RETRAIN that runs. -/
theorem drainLimit_of_retrainRuns (s : State) (hd : s.pwr.draining = .park) (hl : s.pwr.limits ≠ 0)
    (hidle : s.portStep = s) (hr : s.retrainRuns = true) : s.drainLimit = s := by
  simp [State.drainLimit, hd, hl, hidle, hr]

/-- A draining base end past its first DRAIN_LIMIT, with a RETRAIN running in ring 0. -/
def drainBehindRetrain : State :=
  let s := State.resetAs { defaultStraps with cls := .sb }
  { s with
    pwr := { s.pwr with draining := .park, limits := 1, target := .park, nearCap := .park }
    aon := { s.aon with pwr := .active }
    rings := { s.rings with ring := [(0, { zeroRing with descs := [⟨0, .started, 1, 0, false, none⟩] })] } }

theorem drainBehindRetrain_idle : drainBehindRetrain.portStep = drainBehindRetrain := by decide +kernel

theorem drainLimit_drainBehindRetrain : exec .drainLimit drainBehindRetrain = .next drainBehindRetrain := by
  have hstay : drainBehindRetrain.drainLimit = drainBehindRetrain :=
    drainLimit_of_retrainRuns _ rfl (by decide) drainBehindRetrain_idle (by decide +kernel)
  have hrun : exec .drainLimit drainBehindRetrain = done drainBehindRetrain.drainLimit := rfl
  rw [hrun, hstay, done_of_quiet _ rfl]

end Sys2Proof.Machine

open Sys2Proof Sys2Proof.Machine

/-- Refutes O37: its clause on the second DRAIN_LIMIT has no premise that no RETRAIN runs, and a RETRAIN that runs keeps the drain
waiting (R340), so that the park is not abandoned. -/
theorem not_parkCompletes : ¬ Obligations.ParkCompletes := by
  rintro ⟨-, -, hlimit, -⟩
  obtain ⟨t, hstep, hcount, -⟩ := hlimit drainBehindRetrain (by decide +kernel)
  rw [drainLimit_drainBehindRetrain, Host.Outcome.next.injEq] at hstep
  rw [← hstep] at hcount
  exact absurd hcount (by decide)
end

section
/-!
LEMMAS. The serial memory relay and the replies of its controller (R42, R364, R370 to R372): what hearing a frame that is acted on
changes, and what the reads and the relay do with it.
-/
namespace Sys2Proof.Machine

/-! ### A frame that is acted on -/

/-- The merge of copies reaches the receive braids alone. -/
theorem takeCopies_eq (s : State) (w : SbWord) : ∃ rx, s.takeCopies w = { s with link.rx := rx } := by
  have hfold : ∀ (l : List (Fin 8)) (g : RxBraid → RxBraid) (u : State),
      ∃ rx, l.foldl (fun a b => a.modRx b g) u = { u with link.rx := rx } := by
    intro l g
    induction l with
    | nil => exact fun u => ⟨_, rfl⟩
    | cons b l ih => exact fun u => ih (u.modRx b g)
  unfold State.takeCopies
  split
  · exact hfold _ _ s
  · exact ⟨_, rfl⟩

/-- Hearing a frame to be acted on takes its copies and notes it. -/
theorem hear_eq (s : State) (f : SbFrame) (h : (s.hear f).1 = true) :
    ∃ rx, (s.hear f).2 = ({ s with link.rx := rx } : State).noteFrame f := by
  obtain ⟨rx, hrx⟩ := takeCopies_eq s (sbWord f)
  refine ⟨rx, ?_⟩
  unfold State.hear at h ⊢
  rw [hrx] at h ⊢
  revert h
  dsimp only
  split_ifs <;> simp

theorem hear_out (s : State) (f : SbFrame) (h : (s.hear f).1 = true) : (s.hear f).2.out = s.out := by
  obtain ⟨rx, hrx⟩ := hear_eq s f h
  rw [hrx]
  rfl

theorem receive_cfg (s : State) (f : SbFrame) (h : (s.receive f).1 = true) : (s.receive f).2.cfg = s.cfg := by
  unfold State.receive at h ⊢
  split
  · rfl
  · next hbuf =>
    rw [if_neg hbuf] at h
    split
    · rfl
    · next hrelay =>
      rw [if_neg hrelay] at h
      obtain ⟨rx, hrx⟩ := hear_eq s f h
      rw [hrx]
      rfl

theorem receive_start (s : State) (f : SbFrame) : (s.receive f).2.start = s.start :=
  congrArg (·.2.1) (receive_heardView s f)

/-- A reply of a port's own is worked on once it is received. -/
theorem takeReply_eq (s : State) (f : SbFrame) (typ : BitVec 4) (work : State → State) (htyp : f.typ = typ)
    (hmine : s.myReply f = true) (hrec : (s.receive f).1 = true) : s.takeReply f typ work = work (s.receive f).2 := by
  simp [State.takeReply, htyp, hmine, hrec]

/-! ### The one outstanding read -/

theorem readOf_single (s : State) (r : SmRead) (h : s.cfg.reads = [r]) : s.readOf r.tag.toNat = some r := by
  simp [State.readOf, h]

/-- A frame that fills a read in part is placed by its INDEX. -/
theorem smData_partial (s : State) (f : SbFrame) (r : SmRead) (hreads : s.cfg.reads = [r]) (htag : r.tag.toNat = bf f.payload 60 4)
    (hgot : r.got = []) (hindex : bf f.payload 48 12 < readFrames r.len) (hlen : 1 < readFrames r.len) :
    s.smData f = { s with
      cfg.reads := [{ r with got := [(bf f.payload 48 12, BitVec.ofNat 48 (bf f.payload 0 48))] }] } := by
  have hread : s.readOf (bf f.payload 60 4) = some r := htag ▸ readOf_single s r hreads
  have hput : tput r.got (bf f.payload 48 12) (BitVec.ofNat 48 (bf f.payload 0 48)) =
      [(bf f.payload 48 12, BitVec.ofNat 48 (bf f.payload 0 48))] := by rw [hgot]; rfl
  have hnone : tfind r.got (bf f.payload 48 12) = none := by rw [hgot]; rfl
  simp only [State.smData, hread, hnone, hput, hreads, List.length_singleton]
  rw [if_neg (by simpa using hindex), if_neg (Nat.ne_of_lt hlen)]
  simp

/-- An SM_ERROR of a full queue makes the read wait for its reissue. -/
theorem smError_queueFull (s : State) (f : SbFrame) (r : SmRead) (hreads : s.cfg.reads = [r]) (htag : r.tag.toNat = bf f.payload 0 4)
    (hcode : bf f.payload 4 4 = 3) :
    s.smError f = { s with cfg.smErrors := s.cfg.smErrors + 1, cfg.reads := [{ r with waiting := true, got := [] }] } := by
  have hread : ({ s with cfg.smErrors := s.cfg.smErrors + 1 } : State).readOf (bf f.payload 0 4) = some r :=
    htag ▸ readOf_single _ r hreads
  unfold State.smError
  dsimp only at hread ⊢
  rw [hcode, hread, hreads]
  simp

/-- Sending a frame on the link reaches the transmit braids that carry copies, the sideband and the outputs. -/
theorem sendLink_eq (s : State) (f : SbFrame) : ∃ tx out, s.sendLink f = { s with
    link.tx := tx, sb := { s.sb with txSeq := s.sb.txSeq + 1, lastTx := s.now }, out := out } := by
  have hcopies : ∀ (l : List (Fin 8)) (g : SbFrame) (u : State),
      ∃ tx out, l.foldl (fun a b => a.sendCopy g b) u = { u with link.tx := tx, out := out } := by
    intro l g
    induction l with
    | nil => exact fun u => ⟨_, _, rfl⟩
    | cons b l ih =>
      intro u
      obtain ⟨tx, out, h⟩ := ih (u.sendCopy g b)
      rw [List.foldl_cons, h]
      unfold State.sendCopy
      (repeat' split) <;> exact ⟨tx, out, rfl⟩
  unfold State.sendLink
  dsimp only
  split
  · obtain ⟨tx, out, h⟩ := hcopies octs { f with seq := s.sb.txSeq } { s with
      sb.txSeq := s.sb.txSeq + 1, sb.lastTx := s.now, out.sbLink := s.out.sbLink ++ [{ f with seq := s.sb.txSeq }] }
    exact ⟨tx, out, h⟩
  · exact ⟨_, _, rfl⟩

/-- Sending an SM_READ keeps the port's reads and its start. -/
theorem sendSmRead_keeps (s : State) (tag addr len : Nat) :
    (s.sendSmRead tag addr len).cfg = s.cfg ∧ (s.sendSmRead tag addr len).start = s.start := by
  unfold State.sendSmRead State.sendRouted
  dsimp only
  split
  · exact ⟨rfl, rfl⟩
  · split
    · obtain ⟨tx, out, h⟩ := sendLink_eq s _
      rw [h]
      exact ⟨rfl, rfl⟩
    · exact ⟨rfl, rfl⟩

/-- A read that has timed out, reissued under a new TAG. -/
def SmRead.reissued (r : SmRead) (tag : BitVec 4) : SmRead := { r with tag := tag, got := [], reissues := r.reissues + 1 }

/-- A read that times out goes out again under another TAG. -/
theorem smTimeout_reissue (s : State) (r : SmRead) (hreads : s.cfg.reads = [r]) (hwait : r.waiting = false)
    (hcount : r.reissues < 3) : ∃ tag, (s.smTimeout r.tag.toNat).cfg = { s.cfg with
      reissues := s.cfg.reissues + 1, reads := [r.reissued tag] } ∧ (s.smTimeout r.tag.toNat).start = s.start := by
  unfold State.smTimeout
  rw [readOf_single s r hreads]
  dsimp only
  rw [if_neg (by simp [hwait]), if_neg (by omega)]
  obtain ⟨hcfg, hstart⟩ := sendSmRead_keeps _ _ r.addr r.len
  exact ⟨_, hcfg.trans (by simp [State.pick, State.free, hreads]; rfl), hstart⟩

/-- A read that waits goes out again under its own TAG. -/
theorem queueFull_reissue (s : State) (r : SmRead) (hreads : s.cfg.reads = [r]) (hwait : r.waiting = true) :
    ∃ u, exec (.smQueueFullReissue r.tag) s = done u ∧ u.cfg = { s.cfg with reads := [{ r with waiting := false }] }
      ∧ u.start = s.start := by
  obtain ⟨hcfg, hstart⟩ := sendSmRead_keeps
    { s with cfg.reads := s.cfg.reads.map fun x => if x = r then { r with waiting := false } else x } r.tag.toNat r.addr r.len
  refine ⟨_, ?_, hcfg.trans (by simp [hreads]), hstart⟩
  simp only [exec, execSmQueueFullReissue, readOf_single s r hreads, hwait, if_true]

/-! ### The relay -/

theorem sendOn_controller (s : State) (f : SbFrame) (ha : s.agentHere = true) (hd : f.destDie = 0) (hp : f.destPort = 0) :
    s.sendOn f = { s with out.smReq := s.out.smReq ++ [f], agent.answers := s.agent.answers ++ smReply s.agent f } := by
  simp [State.sendOn, ha, hd, hp]

/-- A slot write that finds nothing under way is checked at once. -/
theorem takeSlot_of_idle (g : Agent) (a : Nat) (d : List (BitVec 8)) (h : g.busy = none) :
    takeSlot g a d = if slotWriteOk g a d then beginSlot g a d else g := by
  simp [takeSlot, finishSlot, h]

end Sys2Proof.Machine

open Sys2Proof Sys2Proof.Machine

/-- Settles O6, command by command. -/
theorem relayCompletes : Obligations.RelayCompletes := by
  refine ⟨?_, ?_, ?_, ?_, ?_, ?_, ?_, ?_, ?_, ?_, ?_, ?_⟩
  · rintro s f ⟨hq, ha, hrun, hroom, hmine⟩
    refine completes_quiet ?_ (u := { s with sb.relay := s.sb.relay ++ [f] }) hq rfl
    simp [exec, execSmRelayFrame, ha, hrun, hroom, State.relayReply, hmine]
  · rintro s f ⟨ha, hd, hp, hsrc, hheard⟩
    obtain ⟨hstraps, -, hagent⟩ : _ ∧ _ ∧ _ := by simpa [State.heardView] using hear_heardView s f
    have ha' : (s.hear f).2.agentHere = true := by rw [← ha]; simp [State.agentHere, State.cls, State.isOptical, hstraps]
    have hc : exec (.smRelayFrame false f) s = done ((s.hear f).2.sendOn f) := by
      show (if _ then _ else done _) = _
      rw [if_neg (by simp [ha]), if_neg (by simp), if_neg (by simp [hd, hp]), if_neg (by simp [hheard]), if_neg hsrc]
    rw [sendOn_controller _ f ha' hd hp] at hc
    exact completes_done hc (by simp [hear_out s f hheard, hagent])
  · rintro s b f ⟨hq, ha⟩
    exact completes_unchanged (by simp [exec, execSmRelayFrame, ha]) hq
  · rintro s f r ⟨htyp, hmine, hrec, hreads, htag, hgot, hindex, hlen⟩
    have hcfg := receive_cfg s f hrec
    have h := takeReply_eq s f 6 (·.smData f) htyp hmine hrec
    rw [smData_partial _ f r (by rw [hcfg, hreads]) htag hgot hindex hlen] at h
    exact completes_done (congrArg done h) (by simp [receive_start])
  · rintro s f r ⟨htyp, hmine, hrec, hreads, htag, hcode⟩
    have hcfg := receive_cfg s f hrec
    have h := takeReply_eq s f 7 (·.smError f) htyp hmine hrec
    rw [smError_queueFull _ f r (by rw [hcfg, hreads]) htag hcode] at h
    exact completes_done (congrArg done h) (by simp [receive_start, hcfg])
  · rintro s r ⟨hreads, hwait, hcount⟩
    obtain ⟨tag, hcfg, hstart⟩ := smTimeout_reissue s r hreads hwait hcount
    exact completes_done (u := s.smTimeout r.tag.toNat) rfl (by simp [hcfg, hstart, SmRead.reissued])
  · rintro s r ⟨hreads, hwait⟩
    obtain ⟨u, hc, hcfg, hstart⟩ := queueFull_reissue s r hreads hwait
    exact completes_done hc (by simp [hcfg, hstart])
  · rintro s a d ⟨hq, ha, hbusy, hok⟩
    refine completes_quiet ?_ (u := { s with agent := beginSlot s.agent a d }) hq rfl
    simp [exec, execSmSlotWrite, ha, takeSlot_of_idle s.agent a d hbusy, hok]
  · rintro s a d ⟨hq, ha, hbusy, hok⟩
    refine completes_unchanged ?_ hq
    simp [exec, execSmSlotWrite, ha, takeSlot_of_idle s.agent a d hbusy, hok]
  · rintro s a d ⟨hq, ha⟩
    exact completes_unchanged (by simp [exec, execSmSlotWrite, ha]) hq
  · rintro s i k c ⟨hq, hcls, ho, hawake, hrun⟩
    refine completes_quiet ?_ (u := { s with glob.optId := i, glob.optSite := k, glob.optClk := c }) hq rfl
    simp [exec, execOpticalReport, PortClass.isFibre, hcls, ho, hawake, hrun]
  · rintro s i k c ⟨hq, habsent⟩
    refine completes_unchanged ?_ hq
    rcases habsent with h | h <;> simp [exec, execOpticalReport, PortClass.isFibre, h]
end

section
/-!
LEMMAS. What the work that ends when a braid leaves UP leaves of its own and of every other braid: the ladder, and whether each
direction is trained (R183 to R187).
-/
namespace Sys2Proof.Machine

/-- The ladder of a braid and whether its transmit and its receive direction are trained. -/
def trainOf (tx : Oct TxBraid) (rx : Oct RxBraid) (c : Fin 8) : Ladder × Bool × Bool :=
  ((tx.get c).ladder, (tx.get c).shape.trained, (rx.get c).shape.trained)

/-- The same of the braids of a state. -/
def State.trainView (s : State) : Fin 8 → Ladder × Bool × Bool := trainOf s.link.tx s.link.rx

/-! As for `keep`, the first lemmas are proved by `id rfl`, so that `simp` rewrites with them. -/

@[simp] theorem trainView_mk f0 f1 f2 f3 f4 f5 f6 (f7 : Link) f8 f9 f10 f11 f12 f13 f14 f15 f16 f17 f18 f19 f20 f21 f22 f23 :
    State.trainView ⟨f0, f1, f2, f3, f4, f5, f6, f7, f8, f9, f10, f11, f12, f13, f14, f15, f16, f17, f18, f19, f20, f21, f22, f23⟩ =
      trainOf f7.tx f7.rx := id rfl

@[simp] theorem trainOf_fold (s : State) : trainOf s.link.tx s.link.rx = s.trainView := id rfl

@[simp] theorem trainView_ite (c : Prop) [Decidable c] (a b : State) :
    (if c then a else b).trainView = if c then a.trainView else b.trainView := apply_ite State.trainView c a b

@[simp] theorem trainView_foldl {α : Type} {g : State → α → State} {l : List α} {s : State}
    (h : ∀ u x, (g u x).trainView = u.trainView) : (l.foldl g s).trainView = s.trainView :=
  foldl_keeps State.trainView g l s fun u x _ => h u x

variable (s : State)

@[simp] theorem State.modTx_trainView (b : Fin 8) (f : TxBraid → TxBraid) (hladder : ∀ t, (f t).ladder = t.ladder)
    (htrained : ∀ t, (f t).shape.trained = t.shape.trained) : (s.modTx b f).trainView = s.trainView := by
  funext c
  by_cases h : c = b
  · subst h; simp [State.trainView, trainOf, State.modTx, hladder, htrained]
  · simp [State.trainView, trainOf, State.modTx, oct_get_upd_ne _ _ _ _ h]
@[simp] theorem State.modRx_trainView (b : Fin 8) (f : RxBraid → RxBraid)
    (htrained : ∀ r, (f r).shape.trained = r.shape.trained) : (s.modRx b f).trainView = s.trainView := by
  funext c
  by_cases h : c = b
  · subst h; simp [State.trainView, trainOf, State.modRx, htrained]
  · simp [State.trainView, trainOf, State.modRx, oct_get_upd_ne _ _ _ _ h]
@[simp] theorem State.modShape_trainView (dir : Nat) (b : Fin 8) (f : Shape → Shape)
    (htrained : ∀ x, (f x).trained = x.trained) : (s.modShape dir b f).trainView = s.trainView := by
  simp [State.modShape, htrained]

/-- Completing a descriptor leaves the whole of the link. -/
@[simp] theorem State.complete_trainView (r : Nat) (i : BitVec 32) (status result detail : Nat) :
    (s.complete r i status result detail).trainView = s.trainView := by
  have hlink : (s.complete r i status result detail).link = s.link :=
    (congrArg State.link (State.complete_kept .rings s r i status result detail) :)
  exact congrArg (fun l : Link => trainOf l.tx l.rx) hlink
@[simp] theorem State.sendCtl_trainView (b : Fin 8) (opcode : Nat) (p : NocFlit) :
    (s.sendCtl b opcode p).trainView = s.trainView := by simp [State.sendCtl]
@[simp] theorem State.modStrand_trainView (dir : Nat) (b : Fin 8) (p : Nat) (f : Strand → Strand) :
    (s.modStrand dir b p f).trainView = s.trainView := by simp [State.modStrand]
@[simp] theorem State.modTrim_trainView (dir : Nat) (b : Fin 8) (p : Nat) (f : Trim → Trim) :
    (s.modTrim dir b p f).trainView = s.trainView := by simp [State.modTrim]
@[simp] theorem State.free_trainView : s.free.2.trainView = s.trainView := by simp [State.free]
@[simp] theorem State.sendCopy_trainView (f : SbFrame) (b : Fin 8) :
    (s.sendCopy f b).trainView = s.trainView := by simp only [State.sendCopy]; (repeat' split) <;> simp
@[simp] theorem State.sendLink_trainView (f : SbFrame) :
    (s.sendLink f).trainView = s.trainView := by simp [State.sendLink]
@[simp] theorem State.raise_trainView (typ code arg0 arg1 arg2 braid dir strand vc tenant : Nat) :
    (s.raise typ code arg0 arg1 arg2 braid dir strand vc tenant).trainView = s.trainView := by simp [State.raise]
@[simp] theorem State.raiseBody_trainView (typ body braid : Nat) :
    (s.raiseBody typ body braid).trainView = s.trainView := by simp [State.raiseBody]
@[simp] theorem State.topo_trainView : s.topo.trainView = s.trainView := by simp [State.topo]
@[simp] theorem State.portTopo_trainView :
    s.portTopo.trainView = s.trainView := by simp only [State.portTopo]; (repeat' split) <;> simp
@[simp] theorem State.agentRaise_trainView (cls : PortClass) (tile index typ code arg0 arg1 arg2 : Nat) :
    (s.agentRaise cls tile index typ code arg0 arg1 arg2).trainView = s.trainView := by simp [State.agentRaise]
@[simp] theorem State.lateralDown_trainView :
    s.lateralDown.trainView = s.trainView := by simp only [State.lateralDown]; (repeat' split) <;> simp
@[simp] theorem State.retain_trainView (dir : Nat) (b : Fin 8) (p : Nat) :
    (s.retain dir b p).trainView = s.trainView := by simp [State.retain]
@[simp] theorem State.settleGoal_trainView (dir : Nat) (b : Fin 8) (p : Nat) :
    (s.settleGoal dir b p).trainView = s.trainView := by simp only [State.settleGoal]; (repeat' split) <;> simp
@[simp] theorem State.restoreServe_trainView (b : Fin 8) (c : CalServe) :
    (s.restoreServe b c).trainView = s.trainView := by simp only [State.restoreServe]; (repeat' split) <;> simp
@[simp] theorem State.restoreTrims_trainView (b : Fin 8) (r : CalRun) :
    (s.restoreTrims b r).trainView = s.trainView := by simp [State.restoreTrims]
@[simp] theorem State.dropPending_trainView (dir : Nat) (b : Fin 8) :
    (s.dropPending dir b).trainView = s.trainView := by simp [State.dropPending]
@[simp] theorem State.captureFibre_trainView (dir : Nat) (b : Fin 8) (p temp1 temp6 : Nat) :
    (s.captureFibre dir b p temp1 temp6).trainView = s.trainView :=
  by simp only [State.captureFibre]; (repeat' split) <;> simp
@[simp] theorem State.opDone_trainView (o : StrandOp) (status result detail : Nat) :
    (s.opDone o status result detail).trainView = s.trainView := by unfold State.opDone; (repeat' split) <;> simp
@[simp] theorem State.restoreOp_trainView (dir : Nat) (b : Fin 8) (o : StrandOp) (code : Nat) :
    (s.restoreOp dir b o code).trainView = s.trainView := by simp [State.restoreOp]
@[simp] theorem State.calReturnLost_trainView (b : Fin 8) (code : Nat) :
    (s.calReturnLost b code).trainView = s.trainView := by simp only [State.calReturnLost]; (repeat' split) <;> simp
@[simp] theorem State.abortTx_trainView (b : Fin 8) (code : Nat) (tell : Bool) :
    (s.abortTx b code tell).trainView = s.trainView := by unfold State.abortTx; (repeat' split) <;> simp
@[simp] theorem State.abortRx_trainView (b : Fin 8) (code : Nat) (tell : Bool) :
    (s.abortRx b code tell).trainView = s.trainView := by unfold State.abortRx; (repeat' split) <;> simp
@[simp] theorem State.supersede_trainView (dir : Nat) (b : Fin 8) :
    (s.supersede dir b).trainView = s.trainView := by simp [State.supersede]
@[simp] theorem State.qualToken_trainView : s.qualToken.2.trainView = s.trainView := by simp [State.qualToken]
@[simp] theorem State.postQual_trainView (q : QualWait) :
    (s.postQual q).trainView = s.trainView := by simp only [State.postQual]; (repeat' split) <;> simp
@[simp] theorem State.postWaiting_trainView (n0 : Nat) (s : State) :
    (State.postWaiting n0 s).trainView = s.trainView := by
  induction n0 generalizing s  with
    | zero => simp [State.postWaiting]
    | succ n ih =>
      unfold State.postWaiting
      (repeat' split) <;> simp [ih]
@[simp] theorem State.closeQual_trainView (b : Fin 8) (p kind : Nat) (m : Meas) (status : Nat)
    (scan : Option (RingNo × BitVec 32)) :
    (s.closeQual b p kind m status scan).trainView = s.trainView := by simp [State.closeQual]
@[simp] theorem State.calReport_trainView (b : Fin 8) (p status : Nat) (only : Option (RingNo × BitVec 32)) :
    (s.calReport b p status only).trainView = s.trainView := by simp [State.calReport]
@[simp] theorem State.finishCal_trainView (b : Fin 8) (r : CalRun) (status : Nat) (m : Meas) :
    (s.finishCal b r status m).trainView = s.trainView := by unfold State.finishCal; (repeat' split) <;> simp
@[simp] theorem State.calRetrain_trainView (dir : Nat) (b : Fin 8) :
    (s.calRetrain dir b).trainView = s.trainView := by simp only [State.calRetrain]; (repeat' split) <;> simp
@[simp] theorem State.sendTrain_trainView (phase braid attempt : Nat) (fields : List (Nat × Nat × Nat)) :
    (s.sendTrain phase braid attempt fields).trainView = s.trainView := by simp [State.sendTrain]
@[simp] theorem State.forgetTrain_trainView (braid : Nat) (phases : List Nat) :
    (s.forgetTrain braid phases).trainView = s.trainView := by simp [State.forgetTrain]
@[simp] theorem State.beginDetect_trainView (b : Fin 8) (attempt : Nat) :
    (s.beginDetect b attempt).trainView = s.trainView := by simp [State.beginDetect]
@[simp] theorem State.postRun_trainView (b : Fin 8) :
    (s.postRun b).trainView = s.trainView := by unfold State.postRun; (repeat' split) <;> simp [-State.modRx_link]
@[simp] theorem State.startBelay_trainView (case : Nat) :
    (s.startBelay case).trainView = s.trainView := by simp [State.startBelay]
@[simp] theorem State.sendFinal_trainView (b : Fin 8) :
    (s.sendFinal b).trainView = s.trainView := by unfold State.sendFinal; (repeat' split) <;> simp
@[simp] theorem State.sendFinals_trainView : s.sendFinals.trainView = s.trainView := by simp [State.sendFinals]
@[simp] theorem State.oweFrame_trainView (b : Fin 8) : (s.oweFrame b).trainView = s.trainView := by
  simp only [State.oweFrame]; split <;> simp
@[simp] theorem State.gatherOwed_trainView : s.gatherOwed.trainView = s.trainView := by
  simp only [State.gatherOwed]; split <;> simp
@[simp] theorem State.judgeDown_trainView : s.judgeDown.trainView = s.trainView := by
  simp only [State.judgeDown]; (repeat' split) <;> simp

/-! ### A braid that retrains -/

/-- A braid that retrains: its ladder says so, and neither direction is trained. -/
def State.retrains (s : State) (b : Fin 8) : Prop := s.trainView b = (.retraining, false, false)

theorem retrains_iff (b : Fin 8) : s.retrains b ↔
    (s.link.tx.get b).ladder = .retraining ∧ (s.shape 0 b).trained = false ∧ (s.shape 1 b).trained = false := by
  simp [State.retrains, State.trainView, trainOf, State.shape]

/-- Neither direction of the braid is trained any more, and no other braid is touched. -/
theorem untrain_trainView (b c : Fin 8) :
    ((s.modShape 0 b fun x => { x with trained := false }).modShape 1 b fun x => { x with trained := false }).trainView c =
      if c = b then ((s.trainView b).1, false, false) else s.trainView c := by
  by_cases h : c = b
  · subst h; simp [State.trainView, trainOf, State.modShape]
  · simp [State.trainView, trainOf, State.modShape, oct_get_upd_ne _ _ _ _ h, h]

theorem quietBraid_trainView (b c : Fin 8) :
    (s.quietBraid b).trainView c = if c = b then ((s.trainView b).1, false, false) else s.trainView c := by
  unfold State.quietBraid
  dsimp only
  rw [untrain_trainView]
  simp [-State.modRx_link, -State.modTx_link]

/-- The ladder of a braid that begins to retrain. -/
theorem ladderDown_trainView (b c : Fin 8) (revive : Bool)
    (hup : (s.trainView b).1 ≠ .retired ∨ revive = true) :
    (s.modTx b fun t => if t.ladder = .retired && !revive then t
      else { t with ladder := .retraining, retrains := t.retrains + 1, retrainAt := some s.now }).trainView c =
      if c = b then (.retraining, (s.trainView b).2) else s.trainView c := by
  by_cases h : c = b
  · subst h
    have hcond : ¬ ((s.link.tx.get c).ladder = .retired ∧ revive = false) := by
      rintro ⟨hretired, hno⟩
      rcases hup with h | h
      · exact h hretired
      · simp [h] at hno
    simp [State.trainView, trainOf, if_neg hcond]
  · simp [State.trainView, trainOf, oct_get_upd_ne _ _ _ _ h, h]

/-- A braid that is not retired, or that is revived, retrains, and no other braid is touched. -/
theorem beginRetrain_trainView (b c : Fin 8) (revive : Bool) (hup : (s.trainView b).1 ≠ .retired ∨ revive = true) :
    (s.beginRetrain b revive).trainView c = if c = b then (.retraining, false, false) else s.trainView c := by
  have hquiet := fun c => quietBraid_trainView s b c
  unfold State.beginRetrain
  generalize s.quietBraid b = u at hquiet ⊢
  dsimp only
  have hrevived : (if revive then (u.modShape 0 b fun x => { x with retired := false }).modShape 1 b fun x =>
      { x with retired := false } else u).trainView = u.trainView := by split <;> simp
  generalize (if revive then _ else u : State) = w at hrevived ⊢
  have hw : (w.trainView b).1 = (s.trainView b).1 := by rw [hrevived, hquiet b, if_pos rfl]
  have hrx : ∀ r : RxBraid, (if r.shape.retired then r else { r with draining := false, finalSent := false }).shape.trained =
      r.shape.trained := fun r => by split <;> rfl
  rw [State.gatherOwed_trainView, trainView_ite, State.oweFrame_trainView, ite_self, State.modRx_trainView _ _ _ hrx,
    ladderDown_trainView w b c revive (by rw [hw]; exact hup), hrevived, hquiet b, hquiet c]
  split <;> simp

/-- A braid that retrains still does when another begins, or itself anew. -/
theorem beginRetrain_retrains (b c : Fin 8) (h : s.retrains b) : (s.beginRetrain c true).retrains b := by
  unfold State.retrains at h ⊢
  rw [beginRetrain_trainView s c b true (.inr rfl), h, ite_self]

theorem startPortRetrain_retrains (b : Fin 8) (h : s.retrains b) : s.startPortRetrain.retrains b := by
  have hall : (octs.foldl (fun a c => a.beginRetrain c true) s).retrains b :=
    List.foldlRecOn (motive := fun u => u.retrains b) octs _ h fun u hu c _ => beginRetrain_retrains u b c hu
  unfold State.startPortRetrain
  split
  · exact h
  · unfold State.retrains at hall ⊢
    simpa using hall

theorem checkDown_retrains (b : Fin 8) (h : s.retrains b) : s.checkDown.retrains b := by
  have hjudged : s.judgeDown.retrains b := by
    unfold State.retrains at h ⊢
    simpa using h
  unfold State.checkDown
  dsimp only
  split
  · exact startPortRetrain_retrains _ b hjudged
  · exact hjudged

/-- A braid that is UP in an OPEN port retrains when it is told to, whatever becomes of the port. -/
theorem startRetrain_retrains (b : Fin 8) (hopen : s.start.st = .openSt) (hport : s.link.retraining = false)
    (hnew : (s.link.tx.get b).retrainAt = none) (hup : (s.link.tx.get b).ladder = .up) (hlive : (s.shape 0 b).retired = false) :
    (s.startRetrain b).retrains b := by
  have hfail : s.failEarly b = s := by simp [State.failEarly, hnew]
  have hnotRetired : (s.trainView b).1 ≠ .retired := by
    rw [show (s.trainView b).1 = .up from hup]
    decide
  have hbegun : ((s.beginRetrain b false).beginDetect b 0).retrains b := by
    unfold State.retrains
    rw [State.beginDetect_trainView, beginRetrain_trainView s b b false (.inl hnotRetired)]
    simp
  have hladder : ((((s.beginRetrain b false).beginDetect b 0).link.tx.get b).ladder) = .retraining :=
    ((retrains_iff _ b).1 hbegun).1
  have hsettle : ((s.beginRetrain b false).beginDetect b 0).settleRetrains b = (s.beginRetrain b false).beginDetect b 0 := by
    simp [State.settleRetrains, hladder]
  have hfinal : ((s.beginRetrain b false).beginDetect b 0).sendFinals.retrains b := by
    unfold State.retrains at hbegun ⊢
    rw [State.sendFinals_trainView, hbegun]
  simp only [State.startRetrain, hopen, hport, hfail, hlive, bne_self_eq_false, Bool.or_self, Bool.false_eq_true, if_false,
    Bool.false_and, hsettle]
  exact checkDown_retrains _ b hfinal

end Sys2Proof.Machine
end

section
/-!
LEMMAS. Root lock, its loss, the clock monitors and the timestamp (R46, R53, R54, R60 to R62).
-/
namespace Sys2Proof.Machine

/-! ### Root lock -/

/-- Root lock at an identified port that may go on and has not announced its release. -/
theorem rootLocks_ident (s : State) (hup : s.mainUp = true) (hpair : s.aon.pairN = true) (hunlocked : s.clk.rootLock = false)
    (hst : s.start.st = .ident) (hguest : s.guestOn = true) (hsent : s.start.sentRel = false) :
    s.rootLocks = { s with
      aon := { s.aon with isoN := true }
      clk := { s.clk with rootLock := true, pclkUp := true, tsc := s.clk.tsVal }
      start := { s.start with st := .sideband }
      cfg := { s.cfg with at_ := none, reads := [] } } := by
  have hgood : s.aon.mainGood = true := by
    simp only [State.mainUp, Bool.and_eq_true] at hup
    exact hup.1
  have hguest' : ∀ (a : Aon) (c : Clocks), ({ s with aon := a, clk := c } : State).guestOn = true := fun _ _ => hguest
  simp [State.rootLocks, hgood, hpair, hunlocked, hst, State.tryIdent, State.mainUp, hguest', State.trySideband, hsent]

/-- The state once root lock is lost, before a reset is asked for. -/
def State.lockLost (s : State) : State :=
  (State.faultReset { s with clk.rootLock := false, clk.pclkUp := false } 4).raise 0x08 (code := 1)
    (arg0 := ({ s with clk.rootLock := false, clk.pclkUp := false, noc.whReset := true, aon.cause := 4 } : State).clkstat)

/-- A reset asked for on loss of lock reaches the start, the request's cause, and what sends the frame. -/
theorem rootLost_eq (s : State) (hlock : s.clk.rootLock = true) (hst : s.start.st ≠ .park) :
    ∃ start cause tx sb out, s.rootLost = { s.lockLost with
      start := start, aon.reqCause := cause, link.tx := tx, sb := sb, out := out } := by
  have hpark : (s.start.st == .park) = false := by simpa using hst
  simp only [State.rootLost, hlock, hpark, Bool.not_true, Bool.or_self, Bool.false_eq_true, if_false]
  split
  · exact ⟨_, _, _, _, _, rfl⟩
  · simp only [State.sendReset, State.sendResetPair, State.sendLocal]
    obtain ⟨tx, out, h⟩ := sendLink_eq _ _
    rw [h]
    exact ⟨_, _, _, _, _, rfl⟩

/-! ### Clock monitors -/

theorem nclkWindow_good (s : State) (n : Nat) (hup : s.clk.refUp = true) (hlo : 1440 ≤ n) (hhi : n ≤ 1760)
    (hn : s.clk.nclkUp = true) (hhere : s.clk.nclkGone = false) :
    s.nclkWindow n true = { s with clk := { s.clk with nclkOk := true, nclkAsync := false } } := by
  simp [State.nclkWindow, hup, hlo, hhi, State.nclkBack, hn, hhere]

/-- A window outside its limits while NCLK was there: its credits stop and the event is raised. -/
theorem nclkWindow_bad (s : State) (n : Nat) (k : Bool) (hup : s.clk.refUp = true) (hout : n < 1440 ∨ 1760 < n)
    (hhere : s.clk.nclkGone = false) : ∃ arg0, s.nclkWindow n k =
      State.raise { s with
        clk := { s.clk with nclkOk := false, nclkAsync := false, nclkGone := true }, noc.whNclk := true } 0x08 (code := 3)
        (arg0 := arg0) := by
  have hin : ¬ (1440 ≤ n ∧ n ≤ 1760) := by omega
  exact ⟨_, by simp [State.nclkWindow, hup, hin, hhere]; rfl⟩

/-- A window of the receive clocks shows those that run within the tolerance, and raises at most an event. -/
theorem refWindow_view (s : State) (l : List (Fin 8 × Int)) : (s.refWindow l).link = s.link ∧ (s.refWindow l).clk =
    { s.clk with
      rxwOk := BitVec.ofNat 8 (maskOf ((l.filter fun x => lockedTo x.2).map fun x => x.1.val))
      rxwUp := s.clk.rxwUp ||| BitVec.ofNat 8 (maskOf (l.map fun x => x.1.val))
      refOffset := if s.cls.isFibre then
        BitVec.ofNat 8 (ofInt 8 (max (-127) (min 127 (worstOffset (l.map Prod.snd))))) else 0 } := by
  have hraise : ∀ (p : Bool) (u : State) (n : Nat),
      (if p then u.raise 0x0A (arg0 := n) else u).link = u.link ∧ (if p then u.raise 0x0A (arg0 := n) else u).clk = u.clk := by
    intro p u n
    split <;> exact ⟨rfl, rfl⟩
  exact hraise _ _ _

/-! ### Slips -/

/-- A slip toward a braid in OPEN retrains it. -/
theorem raised_startRetrain_retrains (s : State) (code b dir : Nat) (k : Fin 8) (hopen : s.start.st = .openSt)
    (hport : s.link.retraining = false) (hnew : (s.link.tx.get k).retrainAt = none) (hup : (s.link.tx.get k).ladder = .up)
    (hlive : (s.shape 0 k).retired = false) :
    ((s.raise 0x09 (code := code) (arg0 := b) (braid := b) (dir := dir)).startRetrain k).flushEvents.retrains k := by
  have h := startRetrain_retrains (s.raise 0x09 (code := code) (arg0 := b) (braid := b) (dir := dir)) k hopen hport hnew hup hlive
  exact (congrArg (fun l : Link => trainOf l.tx l.rx k) (State.flushEvents_link _)).trans h

/-- A TRAIN frame sent leaves the step, the NoC interface and the port's retrain as they were. -/
theorem sendTrain_port (s : State) (phase braid attempt : Nat) (fields : List (Nat × Nat × Nat)) :
    let t := s.sendTrain phase braid attempt fields
    t.link.retraining = s.link.retraining ∧ t.start.st = s.start.st ∧ t.noc = s.noc := by
  unfold State.sendTrain
  dsimp only
  obtain ⟨tx, out, h⟩ := sendLink_eq s (s.localFrame 3 (trainPay phase braid attempt fields))
  rw [h]
  split <;> exact ⟨rfl, rfl, rfl⟩

/-- The port back at strand detect, for a port retrain (R187). -/
def State.redetecting (s : State) : State :=
  { s with
    link.retraining := true, link.retrains := s.link.retrains + 1, noc.whRetrain := true
    start.st := .detect, start.patterns := 0, start.goSent := true
    start.trainMaskSent := 0, start.trainGoSent := false, start.trainMaskGot := 0, start.trainGoGot := false
    start.calSent := false, start.calGot := false
    start.txb := Oct.all braid0, start.rxb := Oct.all braid0 }

theorem startPortRetrain_eq (s : State) (h : s.link.retraining = false) :
    ∃ u : State, s.startPortRetrain = u.redetecting.sendTrain 1 0 0xF [] :=
  ⟨_, if_neg (by simp [h])⟩

theorem startPortRetrain_port (s : State) (h : s.link.retraining = false) :
    s.startPortRetrain.link.retraining = true ∧ s.startPortRetrain.start.st = .detect
      ∧ s.startPortRetrain.noc.whRetrain = true := by
  obtain ⟨u, hu⟩ := startPortRetrain_eq s h
  obtain ⟨hretraining, hst, hnoc⟩ := sendTrain_port u.redetecting 1 0 0xF []
  rw [hu]
  exact ⟨hretraining, hst, congrArg Noc.whRetrain hnoc⟩

/-! ### The timestamp -/

/-- What a timestamp step logs. -/
theorem completes_tsStep {c : Instr} {s : State} (old new : BitVec 64) (hc : exec c s = done (s.tsStep old new)) (hq : s.quiet) :
    Completes c s fun t =>
      t.clk.tsc = (if s.clk.pclkUp then new else s.clk.tsc) ∧ t.clk.tsVal = new ∧ t.clk.tsOld = old ∧ t.clk.tsNew = new
        ∧ t.clk.steps = s.clk.steps + 1 ∧ t.clk.back = (if new.toNat < old.toNat then s.clk.back + 1 else s.clk.back)
        ∧ s.counted t 0x51 := by
  refine completes_done hc ?_
  have hclk : (s.tsStep old new).flushEvents.clk = (s.tsStep old new).clk := State.flushEvents_clk _
  refine ⟨?_, ?_, ?_, ?_, ?_, ?_, counted_flush _ _ _ (by decide) rfl ?_⟩
  case refine_7 => rw [State.tsStep, raise_eventsOf]; simp [hq, eventsOf]
  all_goals rw [hclk]
  case refine_6 => simp [State.tsStep]
  all_goals rfl

end Sys2Proof.Machine

open Sys2Proof Sys2Proof.Machine

/-- Settles O3, command by command; that a slip leaves its braid retraining, whatever becomes of the port, is
`startRetrain_retrains`. -/
theorem clocksComplete : Obligations.ClocksComplete := by
  refine ⟨?_, ?_, ?_, ?_, ?_, ?_, ?_, ?_, ?_, ?_, ?_, ?_, ?_, ?_, ?_, ?_⟩
  · rintro s ⟨hup, hpair, hunlocked, hst, hguest, hsent⟩
    have hc : exec .rootLock s = done s.rootLocks := rfl
    rw [rootLocks_ident s hup hpair hunlocked hst hguest hsent] at hc
    exact completes_done hc (by simp)
  · rintro s ⟨hq, hlock, hst⟩
    obtain ⟨start, cause, tx, sb, out, h⟩ := rootLost_eq s hlock hst
    refine completes_done (congrArg done h) ⟨?_, ?_, ?_, ?_, counted_flush _ _ _ (by decide) rfl ?_, ?_⟩
    case refine_5 =>
      show eventsOf s.lockLost.flt.queue 0x08 = 1
      rw [State.lockLost, raise_eventsOf]
      simp [State.faultReset, State.withholdReset, hq, eventsOf]
    all_goals simp [State.lockLost, State.faultReset, State.withholdReset]
  · rintro s n ⟨ho, hup, hlo, hhi, hn, hhere⟩
    have hc : exec (.nclkMonitorWindow n true) s = done (s.nclkWindow n true) := if_neg (by simp [ho])
    rw [nclkWindow_good s n hup hlo hhi hn hhere] at hc
    exact completes_done hc (by simp)
  · rintro s n k ⟨hq, ho, hup, hout, hhere⟩
    have hc : exec (.nclkMonitorWindow n k) s = done (s.nclkWindow n k) := if_neg (by simp [ho])
    obtain ⟨arg0, h⟩ := nclkWindow_bad s n k hup hout hhere
    rw [h] at hc
    refine completes_done hc ⟨by simp, by simp, counted_flush _ _ _ (by decide) rfl ?_⟩
    rw [raise_eventsOf]
    simp [hq, eventsOf]
  · rintro s l hrun
    have hc : exec (.refOffsetWindow l) s = done (s.refWindow l) := congrArg done (if_pos hrun)
    obtain ⟨hlink, hclk⟩ := refWindow_view s l
    exact completes_done hc (by simp [hlink, hclk])
  · rintro s ⟨hq, hrun, hst⟩
    have hc : exec (.crossingSlip .noc) s = done (s.raise 0x09 (code := 3)) := by
      simp [exec, execCrossingSlip, hrun, hst]
    refine completes_done hc ⟨counted_flush _ _ _ (by decide) rfl ?_, by simp, by simp⟩
    rw [raise_eventsOf]
    simp [hq, eventsOf]
  · rintro s v ⟨hq, ho, hsame⟩
    refine completes_quiet ?_ (u := { s with clk.tsVal := v }) hq rfl
    rcases hsame with h | h <;> simp [exec, execTscCheck, ho, h]
  · rintro s v ⟨hq, ho, hrun, hne⟩
    have hc : exec (.tscCheck v) s = done (s.tsStep s.clk.tsc v) := by simp [exec, execTscCheck, ho, hrun, hne]
    simpa [hrun] using completes_tsStep s.clk.tsc v hc hq
  · rintro s v ⟨hq, ho, hpor, hne⟩
    have hc : exec (.timestampStep v) s = done (s.tsStep s.clk.tsVal v) :=
      congrArg done ((if_neg (by simp [ho])).trans (if_neg (by simpa [hpor] using hne)))
    exact completes_tsStep s.clk.tsVal v hc hq
  · rintro s v ⟨hq, ho, hsame⟩
    refine completes_quiet ?_ (u := { s with clk.tsVal := v }) hq rfl
    simp [exec, execTimestampStep, ho, hsame]
  · rintro s v ⟨hq, ho⟩
    exact completes_unchanged (by simp [exec, execTscCheck, ho]) hq
  · rintro s v ⟨hq, ho⟩
    exact completes_unchanged (by simp [exec, execTimestampStep, ho]) hq
  · rintro s n k ⟨hq, ho⟩
    exact completes_unchanged (if_pos ho) hq
  · rintro s b ⟨hrun, hopen, hport, hnew, hup, hlive⟩
    have hc : exec (.crossingSlip (.tx b)) s = done ((s.raise 0x09 (code := 1) (arg0 := b.val) (braid := b.val)).startRetrain b) := by
      simp [exec, execCrossingSlip, hrun]
    obtain ⟨hladder, htx, hrx⟩ := (retrains_iff _ b).1 (raised_startRetrain_retrains s 1 b.val 0 b hopen hport hnew hup hlive)
    exact completes_done hc ⟨hladder, hrx, htx⟩
  · rintro s b ⟨hrun, hopen, hport, hnew, hup, hlive⟩
    have hc : exec (.crossingSlip (.rx b)) s =
        done ((s.raise 0x09 (code := 2) (arg0 := b.val) (braid := b.val) (dir := 1)).startRetrain b) := by
      simp [exec, execCrossingSlip, hrun]
    obtain ⟨hladder, htx, hrx⟩ := (retrains_iff _ b).1 (raised_startRetrain_retrains s 2 b.val 1 b hopen hport hnew hup hlive)
    exact completes_done hc ⟨hladder, hrx, htx⟩
  · rintro s ⟨hrun, hopen, hport⟩
    have hc : exec (.crossingSlip .noc) s = done (s.raise 0x09 (code := 3)).startPortRetrain := by
      simp [exec, execCrossingSlip, hrun, hopen]
    exact completes_done hc (by simpa using startPortRetrain_port (s.raise 0x09 (code := 3)) hport)
end

section
/-!
LEMMAS. The figure of a receive wavelength's period is the errors its FEC has counted, not those of the record (R130, R154).
-/
namespace Sys2Proof.Machine

/-- A record without errors, of one unit of bits. -/
def cleanRecord : Meas := { meas0 with units := 1, errors := 0 }

/-- A powered fibre block: receive braid 0 is trained, its wavelength 0 is ACTIVE and has counted one error. -/
def fibreWithErrors : State :=
  let s := State.resetAs { defaultStraps with cls := .fib }
  let s : State := { s with
    aon := { s.aon with mainGood := true, isoN := true, pairN := true, pwr := .active } }
  ((s.modShape 1 0 fun x => { x with trained := true }).modStrand 1 0 0 fun x => { x with st := .active }).modTrim 1 0 0
    fun t => { t with perErrs := 1 }

/-- The run of records over the threshold after a command. -/
def oversAfter (c : Instr) (s : State) : Option Nat :=
  match exec c s with
  | .next t => some (t.trim 1 0 0).overs
  | _ => none

theorem oversAfter_cleanRecord : oversAfter (.qualityRecordClose 0 0 cleanRecord) fibreWithErrors = some 1 := by
  decide +kernel

end Sys2Proof.Machine

open Sys2Proof Sys2Proof.Machine

/-- Refutes O23: its clause on QUALITY_RECORD_CLOSE judges a wavelength by the errors of the record, where the model judges it by
those counted over its period: with none in the record and one counted, the run of records over the threshold begins. -/
theorem not_trimsComplete : ¬ Obligations.TrimsComplete := by
  rintro ⟨-, -, -, hclose, -⟩
  obtain ⟨t, hstep, -, hovers, -⟩ := hclose fibreWithErrors 0 0 cleanRecord (by decide +kernel)
  have hafter := oversAfter_cleanRecord
  simp only [oversAfter, hstep, hovers] at hafter
  exact absurd hafter (by decide)
end

section
/-!
SUPPORT. What the sideband sends and hears of a paired reset (R67, R68, R89, R98), what a port at rest does of itself (R335,
R339, R348), and what a drain that starts keeps (R272).
-/
namespace Sys2Proof.Machine

/-! ### Sending RESET_PAIR -/

/-- A frame sent on the link changes no shape: copies wait in the CONTROL FIFOs alone. -/
theorem sendLink_shape (s : State) (f : SbFrame) (dir : Nat) (c : Fin 8) : (s.sendLink f).shape dir c = s.shape dir c := by
  have copied : ∀ (u : State) (g : SbFrame) (b : Fin 8), (u.sendCopy g b).shape dir c = u.shape dir c := by
    intro u g b
    unfold State.sendCopy
    split
    · by_cases h : c = b
      · subst h; simp [State.shape]
      · simp [State.shape, oct_get_upd_ne _ _ _ _ h]
    · split <;> rfl
  unfold State.sendLink
  dsimp only
  split
  · exact foldl_keeps (fun u => u.shape dir c) _ _ _ fun u b _ => copied u _ b
  · rfl

/-- A RESET_PAIR frame of this block, as the link carries it. -/
def State.resetPairFrame (s : State) (cause : Nat) (ack drain rel : Bool) : SbFrame :=
  { s.localFrame 4 (resetPairPayload cause ack drain rel s.aon.count.toNat) with seq := s.sb.txSeq }

/-- RESET_PAIR sent reaches what sends frames alone, and is the last frame on the link. -/
theorem sendResetPair_eq (s : State) (cause : Nat) (ack drain rel : Bool) : ∃ tx out,
    s.sendResetPair cause ack drain rel = { s with
      link.tx := tx, sb := { s.sb with txSeq := s.sb.txSeq + 1, lastTx := s.now }, out := out }
      ∧ out.sbLink = s.out.sbLink ++ [s.resetPairFrame cause ack drain rel] := by
  obtain ⟨tx, out, h⟩ := sendLink_eq s (s.localFrame 4 (resetPairPayload cause ack drain rel s.aon.count.toNat))
  have hout := sendLink_out_sbLink s (s.localFrame 4 (resetPairPayload cause ack drain rel s.aon.count.toNat))
  rw [h] at hout
  exact ⟨tx, out, h, hout⟩

/-- A release announced is a RESET_PAIR sent that the port has noted. -/
theorem announce_eq (s : State) (ack : Bool) : ∃ tx out,
    s.announce ack = { s with
      link.tx := tx, sb := { s.sb with txSeq := s.sb.txSeq + 1, lastTx := s.now }, out := out, start.sentRel := true }
      ∧ out.sbLink = s.out.sbLink ++ [s.resetPairFrame s.aon.cause.toNat ack false true] := by
  obtain ⟨tx, out, h, hout⟩ := sendResetPair_eq s s.aon.cause.toNat ack false true
  exact ⟨tx, out, by rw [State.announce, h], hout⟩

/-! ### Hearing RESET_PAIR -/

/-- The port once it has heard a RESET_PAIR: the frame and its cause are noted, its in-band copies are taken. -/
def State.resetHeard (s : State) (f : SbFrame) (rx : Oct RxBraid) : State :=
  { State.noteFrame { s with link.rx := rx } f with aon.farCause := BitVec.ofNat 4 (bf f.payload 0 4) }

@[simp] theorem resetHeard_start (s : State) (f : SbFrame) (rx : Oct RxBraid) : (s.resetHeard f rx).start = s.start := rfl
@[simp] theorem resetHeard_aon (s : State) (f : SbFrame) (rx : Oct RxBraid) :
    (s.resetHeard f rx).aon = { s.aon with farCause := BitVec.ofNat 4 (bf f.payload 0 4) } := rfl
@[simp] theorem resetHeard_out (s : State) (f : SbFrame) (rx : Oct RxBraid) : (s.resetHeard f rx).out = s.out := rfl

/-- A RESET_PAIR heard is answered by Table 3.5. -/
theorem execResetPair_heard (s : State) (f : SbFrame) (htyp : f.typ = 4) (hlocal : isLocal f = true)
    (hheard : (s.hear f).1 = true) : ∃ rx, exec (.resetPair f) s = done
      (let u := s.resetHeard f rx
       if s.start.fresh then u.resetPairFresh (bit f.payload 4) (bit f.payload 6)
       else if s.start.reqSent then (if s.aon.reqN then u.requestReset u.ownReqCause else u)
       else u.resetPairAsked (bit f.payload 4) (bit f.payload 5) (bit f.payload 6)) := by
  obtain ⟨rx, hrx⟩ := hear_eq s f hheard
  refine ⟨rx, ?_⟩
  show (done (if _ then s else if _ then (s.hear f).2.takeResetPair f else _)) = _
  rw [if_neg (by simp [htyp, hlocal]), if_pos hheard, hrx]
  rfl

/-- A class 1 port that has heard no HEARTBEAT stays in SIDEBAND. -/
theorem trySideband_unheard (s : State) (hcls : s.cls = .sc) (hhb : s.sb.hbSeen = false) : s.trySideband = s := by
  simp [State.trySideband, hcls, hhb]

/-! ### A port at rest -/

theorem powerStep_of_idle (s : State) (h : s.powerIdle = true) : s.powerStep = s := by
  simp only [State.powerIdle, Bool.and_eq_true, bne_iff_ne, beq_iff_eq, Bool.not_eq_true', Bool.or_eq_true,
    List.isEmpty_iff] at h
  obtain ⟨⟨⟨⟨⟨⟨⟨⟨⟨htarget, hpwr⟩, hsent⟩, hdozing⟩, hgot⟩, hdrain⟩, hflush⟩, hsink⟩, hresume⟩, hcap⟩ := h
  have hcapped : s.capStep = s := by
    simp only [State.capStep]
    rw [if_neg]
    rcases hcap with h | h <;> simp [h]
  have hasked : s.dozeAsked = false := by simp [State.dozeAsked, htarget, hsent, hdozing, hgot]
  have hbraid : ∀ b, s.dozeBraid b = s := fun b => by
    have hb : bit s.pwr.dzSent b.val = false := by rw [hsent, bit_eq_getLsbD]; simp
    simp [State.dozeBraid, hb, hasked]
  have hbraids : s.keptTx.foldl State.dozeBraid s = s :=
    List.foldlRecOn (motive := fun u => u = s) _ _ rfl fun u hu b _ => by rw [hu, hbraid b]
  have henter : s.dozeEnter = s := by simp [State.dozeEnter, hdozing]
  have hleave : s.dozeLeave = s := by simp [State.dozeLeave, hpwr]
  have hresumed : s.resumeStep = s := by
    have hnone : ({ s with pwr.resumeCmds := [] } : State) = s := by rw [← hresume]
    simp [State.resumeStep, hresume, hnone]
  have hdrained : s.drainStep = s := by simp [State.drainStep, hdrain]
  have hflushed : s.flushStep = s := by simp [State.flushStep, hflush, hsink]
  simp [State.powerStep, hcapped, hbraids, henter, hleave, hresumed, hdrained, hflushed]

/-- A port with nothing under way of itself does nothing of itself. -/
theorem portStep_of_still (s : State) (h : s.still = true) : s.portStep = s := by
  obtain ⟨hidle, hswitch⟩ : s.powerIdle = true ∧ s.lash.switching = false := by simpa [State.still] using h
  rw [State.portStep, powerStep_of_idle s hidle]
  simp [State.lashStep, hswitch]

theorem retiredMask_congr {s t : State} (h : ∀ dir b, t.shape dir b = s.shape dir b) : t.retiredMask = s.retiredMask := by
  simp only [State.retiredMask, h]

/-- A request of a paired reset is noted with its CAUSE, withholds credits and goes out on the link. -/
theorem sendReset_eq (s : State) (cause : BitVec 4) (drain : Bool) : ∃ tx sb out, s.sendReset cause drain =
    { s with
      start.reqSent := true, aon.reqCause := some cause, noc.whReset := true, link.tx := tx, sb := sb, out := out } := by
  obtain ⟨tx, out, h, -⟩ := sendResetPair_eq
    { s.withholdReset with start.reqSent := true, aon.reqCause := some cause } cause.toNat false drain false
  exact ⟨tx, _, out, h⟩

/-- Asking for a paired reset leaves a port at rest at rest. -/
theorem sendReset_still (s : State) (cause : BitVec 4) (drain : Bool) : (s.sendReset cause drain).still = s.still := by
  have hmask : (s.sendReset cause drain).retiredMask = s.retiredMask :=
    retiredMask_congr fun dir b => sendLink_shape _ _ dir b
  obtain ⟨tx, sb, out, h⟩ := sendReset_eq s cause drain
  unfold State.still State.powerIdle
  rw [hmask, h]

/-! ### The drain's end of reduction -/

/-- The state without what the closing of reduction chunks may change: the engine, its egress queue and the free values. -/
def State.besidesRed (s : State) : State := { s with red := zeroRed, noc.qRed := [], freeCtr := 0 }

theorem takeHeld_besidesRed (s : State) (slot : Nat) (d : Desc) (c : Chunk) (h : HeldRank) :
    (s.takeHeld slot d c h).2.besidesRed = s.besidesRed := by
  unfold State.takeHeld; dsimp only; split <;> rfl

theorem combineAll_besidesRed (n : Nat) (s : State) (slot : Nat) (d : Desc) (c : Chunk) :
    (State.combineAll n s slot d c).2.besidesRed = s.besidesRed := by
  induction n generalizing s c with
  | zero => rfl
  | succ n ih =>
    unfold State.combineAll
    split
    · rfl
    · exact (ih _ _).trans (takeHeld_besidesRed s slot d c _)

theorem closeChunk_besidesRed (s : State) (slot : Nat) (j : RedJob) (c : Chunk) :
    (s.closeChunk slot j c).besidesRed = s.besidesRed := rfl

theorem startRefill_besidesRed (s : State) (slot idx : Nat) : (s.startRefill slot idx).besidesRed = s.besidesRed := by
  have reads : ∀ (l : List Nat) (g : Nat → Nat → MemReq) (u : State),
      (l.foldl (fun a x => (List.range 16).foldl (fun a k => a.redEgress (.mem (g x k)) 0 none) a) u).besidesRed
        = u.besidesRed := fun l g u =>
    foldl_keeps State.besidesRed _ _ _ fun v x _ => foldl_keeps State.besidesRed _ _ _ fun _ _ _ => rfl
  unfold State.startRefill
  split
  · rfl
  · split
    · rfl
    · exact reads _ _ s

theorem timerClose_besidesRed (s : State) (slot idx : Nat) : (s.timerClose slot idx).besidesRed = s.besidesRed := by
  unfold State.timerClose
  split
  · rfl
  · split
    · rfl
    · dsimp only
      split
      · rw [closeChunk_besidesRed]
        exact combineAll_besidesRed _ _ _ _ _
      · rfl
      · exact startRefill_besidesRed _ _ _
      · rfl

theorem redPark_besidesRed (s : State) : s.redPark.besidesRed = s.besidesRed := by
  refine foldl_keeps State.besidesRed _ _ _ fun u k _ => ?_
  unfold State.closeJob
  split
  · rfl
  · exact foldl_keeps State.besidesRed _ _ _ fun v i _ => timerClose_besidesRed v k i

/-- A drain that starts leaves start-up, the AON island and what withholds credits for a reset as they were. -/
theorem startDrain_keeps (s : State) (why : DrainFor) :
    (s.startDrain why).start = s.start ∧ (s.startDrain why).aon = s.aon ∧ (s.startDrain why).noc.whReset = s.noc.whReset := by
  unfold State.startDrain
  split
  · exact ⟨rfl, rfl, rfl⟩
  · have h := redPark_besidesRed
      { s with pwr.draining := why, pwr.limits := 0, noc.whDrain := true, pwr.ctrlAwake := false }
    exact ⟨(congrArg State.start h :), (congrArg State.aon h :), (congrArg (fun u : State => u.noc.whReset) h :)⟩

end Sys2Proof.Machine
end

section
/-!
LEMMAS. What the commands of a paired reset do (R64, R65, R67, R68, R72).
-/
namespace Sys2Proof.Machine

/-- The power switch that is about to open reaches three fields of the AON island. -/
theorem switchOff_eq (s : State) : ∃ at_ on good, s.switchOff =
    { s with aon := { s.aon with downAt := at_, mainOn := on, mainGood := good } } := by
  unfold State.switchOff
  split
  · exact ⟨_, _, _, rfl⟩
  · exact ⟨s.aon.downAt, s.aon.mainOn, s.aon.mainGood, rfl⟩

/-- The start of a port whose root has not locked goes on from RESET to IDENT at most. -/
theorem toIdent_unlocked (s : State) (hlock : s.clk.rootLock = false) : ∃ st pwr up, s.toIdent =
    { s with start := { s.start with st := st }, aon := { s.aon with pwr := pwr }, clk := { s.clk with refUp := up } } := by
  have hwait : ∀ u : State, u.clk.rootLock = false → u.tryIdent = u := fun u h => by simp [State.tryIdent, h]
  unfold State.toIdent
  dsimp only
  split
  · split <;> exact ⟨_, _, _, hwait _ hlock⟩
  · exact ⟨s.start.st, s.aon.pwr, s.clk.refUp, rfl⟩

/-- A request with DRAIN makes a port that carries traffic drain first. -/
theorem resetPairAsked_drains (s : State) (hpin : s.aon.reqN = true) (hdrains : s.drains = true) :
    (s.resetPairAsked false true false).start = { s.start with reqDrain := true }
      ∧ (s.resetPairAsked false true false).aon = { s.aon with reqCause := some 2 }
      ∧ (s.resetPairAsked false true false).noc.whReset = true := by
  have h : s.resetPairAsked false true false =
      State.startDrain { s.withholdReset with start.reqDrain := true, aon.reqCause := some 2 } .reset := by
    simp [State.resetPairAsked, hpin, hdrains]
  rw [h]
  exact startDrain_keeps _ .reset

/-- A write of PAIR without DRAIN at a port that meters nothing sends the request. -/
theorem writeReset_pair (s : State) (hrefused : s.pairRefused = false) (hmtr : s.mtr.running = false)
    (hstill : s.still = true) : s.writeReset 1 = State.sendReset { s with start.drainBit := false } 1 false := by
  have hpair : bit (1 : Reg) 0 = true := by decide
  have hdrain : bit (1 : Reg) 1 = false := by decide
  have hfree : ({ s with start.drainBit := false } : State).pairRefused = false := hrefused
  simp only [State.writeReset, hpair, hdrain, hfree, hmtr, State.askReset, Bool.not_true, Bool.false_eq_true, if_false,
    Bool.false_and]
  exact portStep_of_still _ ((sendReset_still _ _ _).trans hstill)

end Sys2Proof.Machine

open Sys2Proof Sys2Proof.Machine

/-- Settles O2, command by command. -/
theorem pairResetCompletes : Obligations.PairResetCompletes := by
  refine ⟨?_, ?_, ?_, ?_, ?_, ?_, ?_, ?_, ?_, ?_, ?_⟩
  · rintro s ⟨hpor, hpair⟩
    have hc : exec .pairResetAssert s = done s.pairAssert := rfl
    obtain ⟨at_, on, good, hoff⟩ := switchOff_eq s
    rw [State.pairAssert, if_neg (by simp [hpor, hpair]), hoff] at hc
    exact completes_quiet hc rfl
      ⟨rfl, rfl, rfl, rfl, rfl, rfl, rfl, rfl, rfl, rfl, rfl, rfl, rfl, rfl, rfl, rfl, rfl, rfl, rfl⟩
  · rintro s ⟨hpor, hpair, hlock⟩
    have hc : exec .pairResetRelease s = done s.pairRelease := rfl
    obtain ⟨at_, on, good, hoff⟩ := switchOff_eq s
    obtain ⟨st, pwr, up, hident⟩ := toIdent_unlocked
      { s.switchOff with aon.pairN := true, start.fresh := true, aon.mainOn := true } (by rw [hoff]; exact hlock)
    rw [State.pairRelease, if_neg (by simp [hpor, hpair]), hident, hoff] at hc
    exact completes_done hc (by simp)
  · rintro s ⟨hsent, hreq, hpair⟩
    have hc : exec .resetAckLimit s = done (s.requestReset s.ownReqCause) := congrArg done (if_pos (by simp [hsent, hreq, hpair]))
    exact completes_done hc (by simp [State.requestReset, State.ownReqCause])
  · rintro s ⟨hq, hreq, hpair, hheld⟩
    have hc : exec .resetReqTimeout s = done (State.raise { s with start.reqHeld := true } 0x0C) :=
      congrArg done (if_pos (by simp [hreq, hpair, hheld]))
    refine completes_done hc ⟨by simp, by simp, counted_flush _ _ _ (by decide) rfl ?_⟩
    rw [raise_eventsOf]
    simp [hq, eventsOf]
  · rintro s ⟨hfresh, hrun, hgot, hguest⟩
    have hc : exec .resetPairAnnounce s = done (s.announce false) :=
      congrArg done (if_pos (by simp [hfresh, hrun, hgot, hguest]))
    obtain ⟨tx, out, h, hout⟩ := announce_eq s false
    rw [h] at hc
    exact completes_done hc (by simp [hout, State.resetPairFrame])
  · rintro s f ⟨htyp, hlocal, hheard, hfresh, hrel, hst, hcls, hhb⟩
    obtain ⟨rx, hc⟩ := execResetPair_heard s f htyp hlocal hheard
    simp only [hfresh, if_true, State.resetPairFresh, hrel] at hc
    obtain ⟨tx, out, h, -⟩ := announce_eq { s.resetHeard f rx with start.gotRel := true } true
    rw [h, trySideband_unheard] at hc
    · refine completes_done hc ?_
      split <;> simp [hst]
    · split <;> exact hcls
    · split <;> exact hhb
  · rintro s f ⟨htyp, hlocal, hheard, hfresh, hsent, hreq, hack, hdrain⟩
    obtain ⟨rx, hc⟩ := execResetPair_heard s f htyp hlocal hheard
    obtain ⟨tx, out, h, hout⟩ := sendResetPair_eq (s.resetHeard f rx).withholdReset 2 true false false
    have hpin : (s.resetHeard f rx).aon.reqN = true := hreq
    simp only [hfresh, hsent, hack, hdrain, hpin, State.resetPairAsked, Bool.false_eq_true, if_false, Bool.not_true,
      Bool.false_and, h] at hc
    refine completes_done hc ⟨?_, ?_, ?_, ?_, ?_⟩
    case refine_5 => simp only [State.flushEvents_out]; exact hout
    all_goals simp [State.requestReset, State.withholdReset]
  · rintro s a ⟨hoff, hgate, hdata, hrefused, hstill, hmtr⟩
    have hc : exec (.pairedResetRequest a) s = done (s.accDone.writeReset 1) := by
      simp [exec, execPairedResetRequest, State.regWrite, hoff, hgate, hdata]
    obtain ⟨tx, sb, out, h⟩ := sendReset_eq { s.accDone with start.drainBit := false } 1 false
    rw [writeReset_pair s.accDone hrefused hmtr hstill, h] at hc
    exact completes_done hc (by simp [State.accDone])
  · rintro s f ⟨htyp, hlocal, hheard, hfresh, hrel, hack⟩
    obtain ⟨rx, hc⟩ := execResetPair_heard s f htyp hlocal hheard
    obtain ⟨tx, out, h, hout⟩ := announce_eq (s.resetHeard f rx) false
    simp only [hfresh, if_true, State.resetPairFresh, hrel, hack, Bool.false_eq_true, if_false, Bool.not_false, h] at hc
    refine completes_done hc ⟨?_, ?_, ?_, ?_⟩
    case refine_4 => simp only [State.flushEvents_out]; exact hout
    all_goals simp
  · rintro s f ⟨htyp, hlocal, hheard, hfresh, hsent, hreq⟩
    obtain ⟨rx, hc⟩ := execResetPair_heard s f htyp hlocal hheard
    simp only [hfresh, hsent, hreq, Bool.false_eq_true, if_false, if_true] at hc
    exact completes_done hc (by simp [State.requestReset, State.ownReqCause])
  · rintro s f ⟨htyp, hlocal, hheard, hfresh, hsent, hreq, hack, hdrain, hrel, hdrains⟩
    obtain ⟨rx, hc⟩ := execResetPair_heard s f htyp hlocal hheard
    obtain ⟨hstart, haon, hnoc⟩ := resetPairAsked_drains (s.resetHeard f rx) hreq hdrains
    simp only [hfresh, hsent, hack, hdrain, hrel, Bool.false_eq_true, if_false] at hc
    exact completes_done hc (by simp [hstart, haon, hnoc, hreq])
end

section
/-!
SUPPORT. What the operations of training change and what they keep (R98, R107, R188 to R192).
-/
namespace Sys2Proof.Machine

/-! ### TRAIN frames taken (R98) -/

/-- The port once it has taken a TRAIN frame: it is heard, it is among the frames taken, and its own repeats end. -/
def State.trainTaken (s : State) (f : SbFrame) (phase : Nat) (rx : Oct RxBraid) : State :=
  { State.noteFrame { s with link.rx := rx } f with
    start.taken := tput s.start.taken (trKey phase (trBraid f.payload).val) f.payload
    start.repeats := tdel s.start.repeats (trKey phase (trBraid f.payload).val) }

theorem takeTrain_takes (s : State) (f : SbFrame) (phase : Nat) (work : State → State) (h : s.takesTrain f phase) :
    ∃ rx, s.takeTrain f phase work = work (s.trainTaken f phase rx) := by
  obtain ⟨htyp, hphase, hlocal, hheard, hnew, hhere, hgoes⟩ := h
  obtain ⟨rx, hrx⟩ := hear_eq s f hheard
  refine ⟨rx, ?_⟩
  have hstep : ¬ (!s.phaseHere phase) = true := by simp [hhere]
  unfold State.takeTrain
  rw [if_neg (by simp [htyp, hphase, hlocal])]
  dsimp only
  rw [hrx, if_neg (by simp [hheard])]
  exact (if_neg hnew).trans ((if_neg hstep).trans (if_neg (ne_true_of_eq_false hgoes)))

/-! ### An attempt begins (R107, R189) -/

/-- The training of every braid after a change of one. -/
theorem modTx_training_upd (s : State) (b c : Fin 8) (g : TxBraid → TxBraid) :
    (s.modTx b g).training c = if c = b then (g (s.link.tx.get b)).training else s.training c := by
  by_cases h : c = b
  · subst h; simp [State.training]
  · simp [State.training, oct_get_upd_ne _ _ _ _ h, h]

/-- A braid that begins an attempt is in LOCK, and no other braid is touched. -/
theorem beginTraining_training (s : State) (b c : Fin 8) (n : Nat) : (s.beginTraining b n).training c =
    if c = b then { zeroTraining with phase := .lock, attempt := n } else s.training c := by
  have load : ∀ (u : State) (dir p : Nat), (match tfind u.aon.trims (strandKey dir b p) with
      | some t => if bit u.aon.retained (8 * dir + b.val) then
          u.modTrim dir b p fun x => { x with rx := t.rx, dfe := t.dfe, tx := t.tx } else u
      | none => u).training c = u.training c := by
    intro u dir p
    (repeat' split) <;> rfl
  unfold State.beginTraining
  dsimp only
  rw [modTx_training_upd]
  congr 1
  show State.training _ c = _
  exact foldl_keeps (fun u => u.training c) _ _ _ fun u p _ => (load _ 1 p).trans (load u 0 p)

theorem beginTraining_start (s : State) (b : Fin 8) (n : Nat) : (s.beginTraining b n).start = s.start :=
  foldl_keeps State.start _ (List.range s.cls.nstrands) s fun u p _ => by
    dsimp only
    (repeat' split) <;> rfl

/-- Every braid of a list that begins its first attempt is in LOCK. -/
theorem foldl_beginTraining_lock (l : List (Fin 8)) (s : State) (b : Fin 8)
    (h : b ∈ l ∨ ((s.training b).phase = .lock ∧ (s.training b).attempt = 0)) :
    ((l.foldl (fun a c => a.beginTraining c 0) s).training b).phase = .lock
      ∧ ((l.foldl (fun a c => a.beginTraining c 0) s).training b).attempt = 0 := by
  induction l generalizing s with
  | nil => exact h.resolve_left (by simp)
  | cons c l ih =>
    refine ih _ ?_
    rw [beginTraining_training]
    by_cases hc : b = c
    · exact .inr (by simp [hc])
    · exact (h.imp_left fun hb => (List.mem_cons.mp hb).resolve_left hc).imp_right fun hl => by simpa [hc] using hl

/-! ### What the line brings, and what waits (R83, R88, R191) -/

/-- The port once a receive braid has taken in what the line brought: receive braids and the records of strand errors. -/
def State.lineTaken (s : State) (rx : Oct RxBraid) (cal : Cal) : State := { s with link.rx := rx, cal := cal }

@[simp] theorem lineTaken_training (s : State) (rx : Oct RxBraid) (cal : Cal) (b : Fin 8) :
    (s.lineTaken rx cal).training b = s.training b := rfl
@[simp] theorem lineTaken_start (s : State) (rx : Oct RxBraid) (cal : Cal) : (s.lineTaken rx cal).start = s.start := rfl

/-- Counting a codeword reaches the receive braids and the records of strand errors. -/
theorem countWord_eq (s : State) (b : Fin 8) (map : List Nat) (d : Decoded) :
    ∃ rx cal, s.countWord b map d = s.lineTaken rx cal := by
  have counted : ∀ (l : List (Nat × Nat)) (g : Nat × Nat → Trim → Trim) (u : State),
      ∃ cal, l.foldl (fun a q => a.modTrim 1 b q.1 (g q)) u = { u with cal := cal } := by
    intro l g
    induction l with
    | nil => exact fun u => ⟨_, rfl⟩
    | cons q l ih => exact fun u => ih (u.modTrim 1 b q.1 (g q))
  obtain ⟨cal, h⟩ := counted map.zipIdx (fun q t =>
    let n := (d.fixed.filter fun j => j % max 1 map.length == q.2).length
    { t with perErrs := t.perErrs + n, perCrc := t.perCrc + b2n d.bad })
    (s.modRx b fun r => { r with uncorr := if d.bad then r.uncorr + 1 else 0 })
  exact ⟨_, cal, h⟩

theorem takeWords_eq (s : State) (b : Fin 8) (words : List (List (Nat × Nat))) :
    ∃ rx cal, s.takeWords b words = s.lineTaken rx cal := by
  have counted : ∀ (l : List (List (Nat × Nat))) (map : List Nat) (u : State), ∃ rx cal,
      l.foldl (fun a w => a.countWord b map (decodeWord (a.gather b map w))) u = u.lineTaken rx cal := by
    intro l map
    induction l with
    | nil => exact fun u => ⟨_, _, rfl⟩
    | cons w l ih =>
      intro u
      obtain ⟨rx, cal, h⟩ := countWord_eq u b map (decodeWord (u.gather b map w))
      rw [List.foldl_cons, h]
      exact ih _
  obtain ⟨rx, cal, h⟩ := counted words (s.shape 1 b).map s
  rw [State.takeWords, h]
  exact ⟨_, cal, rfl⟩

/-- Taking a flit of training off the line reaches the receive braids and the records of strand errors. -/
theorem trainLine_eq (s : State) (b : Fin 8) (line : LineRx) :
    ∃ rx cal, (s.trainLine b line).2 = s.lineTaken rx cal := by
  have popped : ∀ u : State, ∃ rx, (u.popFlit b).2 = { u with link.rx := rx } := fun u => by
    unfold State.popFlit
    dsimp only
    split <;> exact ⟨_, rfl⟩
  unfold State.trainLine
  split
  · dsimp only
    obtain ⟨rx, cal, h⟩ := takeWords_eq s b line.words
    rw [h]
    split
    · obtain ⟨rx', h'⟩ := popped ((s.lineTaken rx cal).findFlit b)
      exact ⟨rx', cal, h'⟩
    · obtain ⟨rx', h'⟩ := popped (s.lineTaken rx cal)
      exact ⟨rx', cal, h'⟩
  · exact ⟨s.link.rx, s.cal, rfl⟩

/-- The training of every braid after that of one has changed. -/
theorem modTrain_training (s : State) (b c : Fin 8) (g : Training → Training) :
    (s.modTrain b g).training c = if c = b then g (s.training b) else s.training c := modTx_training_upd s b c _

@[simp] theorem flushEvents_shape (s : State) (dir : Nat) (b : Fin 8) : s.flushEvents.shape dir b = s.shape dir b := by
  simp [State.shape]

@[simp] theorem modShape_start (s : State) (dir : Nat) (b : Fin 8) (g : Shape → Shape) :
    (s.modShape dir b g).start = s.start := by
  unfold State.modShape; split <;> rfl
@[simp] theorem modShape_clk (s : State) (dir : Nat) (b : Fin 8) (g : Shape → Shape) : (s.modShape dir b g).clk = s.clk := by
  unfold State.modShape; split <;> rfl

@[simp] theorem modShape_shape_self (s : State) (dir : Nat) (b : Fin 8) (g : Shape → Shape) :
    (s.modShape dir b g).shape dir b = g (s.shape dir b) := by
  by_cases h : dir = 0 <;> simp [State.modShape, State.shape, h]

/-- A change of a transmit braid that keeps its shape keeps that of every braid. -/
theorem modTx_shape (s : State) (b : Fin 8) (g : TxBraid → TxBraid) (dir : Nat) (c : Fin 8) (hg : ∀ t, (g t).shape = t.shape) :
    (s.modTx b g).shape dir c = s.shape dir c := by
  by_cases h : c = b
  · subst h; simp [State.shape, hg]
  · simp [State.shape, oct_get_upd_ne _ _ _ _ h]

@[simp] theorem modTrain_start (s : State) (b : Fin 8) (g : Training → Training) : (s.modTrain b g).start = s.start := rfl
@[simp] theorem modTrain_clk (s : State) (b : Fin 8) (g : Training → Training) : (s.modTrain b g).clk = s.clk := rfl

@[simp] theorem modTrain_shape (s : State) (dir : Nat) (b c : Fin 8) (g : Training → Training) :
    (s.modTrain b g).shape dir c = s.shape dir c := modTx_shape s b _ dir c fun _ => rfl

/-- With no braid in DEPTH or DONE nothing goes on. -/
theorem settleTrain_of_none (s : State) (h : ∀ c : Fin 8, (s.training c).phase ≠ .depth ∧ (s.training c).phase ≠ .done) :
    s.settleTrain = s :=
  List.foldlRecOn (motive := fun u => u = s) octs _ rfl fun u hu b _ => by
    obtain ⟨hdepth, hdone⟩ := h b
    subst hu
    simp [hdepth, hdone]

/-- A MEASURE frame driven changes the transmit braid's line alone. -/
@[simp] theorem driveRaw_training (s : State) (b c : Fin 8) (f : LinkFlit) : (s.driveRaw b f).training c = s.training c := by
  unfold State.driveRaw
  dsimp only
  exact (modTx_training _ b c _ (by intro t; rfl)).trans (by split <;> rfl)

@[simp] theorem driveRaw_start (s : State) (b : Fin 8) (f : LinkFlit) : (s.driveRaw b f).start = s.start := by
  unfold State.driveRaw
  dsimp only
  split <;> rfl

/-! ### Lock (R64, R122) -/

/-- Bit `i` of a word after it has been set. -/
theorem bit_setBf_one {n : Nat} (w : BitVec n) (i : Nat) (hi : i < n) : bit (setBf w i 1 1) i = true := by
  have hadd : (w.toNat - bitsOf w.toNat i 1 * 2 ^ i + 2 ^ i).testBit i = true := by
    rw [bitsOf, Nat.pow_one]
    rcases Nat.mod_two_eq_zero_or_one (w.toNat / 2 ^ i) with h | h
    · have hclear : w.toNat.testBit i = false := by simp [Nat.testBit_eq_decide_div_mod_eq, h]
      rw [h, Nat.zero_mul, Nat.sub_zero, Nat.add_comm, Nat.testBit_two_pow_add_eq, hclear]
      rfl
    · have hset : w.toNat.testBit i = true := by simp [Nat.testBit_eq_decide_div_mod_eq, h]
      rw [h, Nat.one_mul, Nat.sub_add_cancel (Nat.ge_two_pow_of_testBit hset), hset]
  rw [bit_eq_getLsbD, setBf, BitVec.getLsbD_ofNat]
  simpa [hi] using hadd

/-- The arrivals of a receive braid reach its strands and its target. -/
theorem setArrivals_eq (s : State) (b : Fin 8) (d : Int) (l : List (Nat × Int)) : ∃ strands, s.setArrivals b d l =
    State.modShape { s with link.strands := strands } 1 b fun x => { x with target := d.toNat } := by
  have hfold : ∀ u : State, ∃ strands, l.foldl (fun (a : State) x => a.modStrand 1 b x.1 fun y =>
      { y with arrival := x.2, deskew := d - x.2 }) u = { u with link.strands := strands } := by
    induction l with
    | nil => exact fun u => ⟨_, rfl⟩
    | cons x l ih => exact fun u => ih _
  obtain ⟨strands, h⟩ := hfold s
  exact ⟨strands, by rw [State.setArrivals, h]⟩

/-! ### The end of step 7 (R107) -/

theorem startFail_trainView (s : State) (code : Nat) : (s.startFail code).trainView = s.trainView := by
  unfold State.startFail
  split
  · rfl
  · simp only [State.judgeDown_trainView, State.startBelay_trainView, State.raise_trainView]
    exact foldl_keeps State.trainView _ _ _ fun u b _ => State.modTx_trainView u b _ (fun _ => rfl) fun _ => rfl

/-- The end of step 7, where it is reached, keeps what is known of the transmit braids' TRAIN_DONE and what has trained. -/
theorem tryCalibrate_keeps (s : State) : s.tryCalibrate.start.txb = s.start.txb ∧ s.tryCalibrate.trainView = s.trainView := by
  unfold State.tryCalibrate
  split
  · exact ⟨rfl, rfl⟩
  · next h =>
    dsimp only
    split
    · exact ⟨rfl, rfl⟩
    · split
      · simp only [Bool.or_eq_true, not_or, Bool.not_eq_true] at h
        exact ⟨by rw [startFail_start _ _ h.2]; rfl, startFail_trainView _ _⟩
      · exact ⟨rfl, rfl⟩

@[simp] theorem startStream_start (s : State) (b : Fin 8) : (s.startStream b).start = s.start := by
  simp only [State.startStream, State.modShape, State.resendAll, apply_ite State.start, State.modTx_start, State.modRx_start,
    ite_self]

end Sys2Proof.Machine
end

section
/-!
LEMMAS. What the commands of training do (R64, R107, R122, R188 to R192).
-/
namespace Sys2Proof.Machine

/-- TRAIN_GO of the far end, once this end's has gone, begins the first attempt of every braid of this end's mask. -/
theorem trainGo_locks (s : State) (b : Fin 8) (mask : BitVec 8) (hst : s.start.st = .train) (hgot : s.start.trainGoGot = false)
    (hsent : s.start.trainGoSent = true) : (s.trainGo b mask).start.trainGoGot = true ∧
      ∀ c : Fin 8, bit s.start.trainMaskSent c.val = true →
        ((s.trainGo b mask).training c).phase = .lock ∧ ((s.trainGo b mask).training c).attempt = 0 := by
  have h : s.trainGo b mask = State.trainAll { s with start.trainMaskGot := mask, start.trainGoGot := true } := by
    simp [State.trainGo, hst, hgot, hsent]
  have hstart : ∀ (l : List (Fin 8)) (u : State), (l.foldl (fun a c => a.beginTraining c 0) u).start = u.start := fun l u =>
    foldl_keeps State.start _ l u fun v c _ => beginTraining_start v c 0
  rw [h, State.trainAll]
  dsimp only
  refine ⟨?_, fun c hc => foldl_beginTraining_lock _ _ c (.inl (List.mem_filter.mpr ⟨mem_octs c, ?_⟩))⟩
  · rw [hstart]; split <;> rfl
  · split <;> exact hc

/-- A braid in LOCK whose strands have locked goes on to ALIGN. -/
theorem lockAchieved_aligns (s : State) (b : Fin 8) (cross : Nat) (l : List (Nat × Int)) (w : List (List (Nat × Nat))) (d : Int)
    (hphase : (s.training b).phase = .lock) (hgoes : s.start.failed = false) (hrun : s.clocked = true)
    (hwords : s.fibreHub = true → s.wordsLock b w = true)
    (hd : deskewTarget s.cls ((l.filter fun y => (s.usable 1 b).contains y.1).map Prod.snd) = some d) :
    ∃ strands, s.lockAchieved b cross l w =
      (State.modShape { s with clk.rxwUp := setBf s.clk.rxwUp b.val 1 1, link.strands := strands } 1 b
        fun x => { x with target := d.toNat }).modTrain b fun t => { t with phase := .align, good := 0, cross := cross } := by
  have hlocks : (s.fibreHub && !s.wordsLock b w) = false := by
    cases hf : s.fibreHub
    · rfl
    · simp [hwords hf]
  obtain ⟨strands, h⟩ := setArrivals_eq { s with clk.rxwUp := setBf s.clk.rxwUp b.val 1 1 } b d l
  refine ⟨strands, ?_⟩
  unfold State.lockAchieved
  rw [if_neg (by simp [hphase, hgoes, hrun, hlocks])]
  dsimp only
  split
  · next d' hd' =>
    obtain rfl : d' = d := Option.some.inj (hd'.symm.trans hd)
    rw [h]
  · next hnone => exact absurd (hnone.symm.trans hd) (by simp)

/-- What a flit of training does to a braid in ALIGN: it is a TRAIN frame of the braid, or the count starts again. -/
theorem trainLink_align (s : State) (b : Fin 8) (line : LineRx) (f : LinkFlit) (at_ : Nat)
    (hphase : (s.training b).phase = .align) (hgoes : s.start.failed = false) (hup : s.domainUp (.rxw b) = true)
    (hline : (s.trainLine b line).1 = some f) : ∃ rx cal, s.trainLink b line at_ =
      if trainOk b f then (s.lineTaken rx cal).takeTrainFrame b f at_
      else (s.lineTaken rx cal).modTrain b fun t => { t with good := 0 } := by
  obtain ⟨rx, cal, h⟩ := trainLine_eq s b line
  refine ⟨rx, cal, ?_⟩
  unfold State.trainLink
  rw [if_neg (by simp [hphase, hgoes, hup, TrainPhase.running])]
  dsimp only
  rw [hline, ← h]

/-- A braid whose training changes to a phase that waits for no frame, where none waits: nothing else goes on. -/
theorem modTrain_settleTrain (s : State) (b : Fin 8) (g : Training → Training)
    (hnone : ∀ c : Fin 8, (s.training c).phase ≠ .depth ∧ (s.training c).phase ≠ .done)
    (hg : (g (s.training b)).phase ≠ .depth ∧ (g (s.training b)).phase ≠ .done) :
    (s.modTrain b g).settleTrain = s.modTrain b g :=
  settleTrain_of_none _ fun c => by
    rw [modTrain_training]
    split
    · exact hg
    · exact hnone c

/-- A good LOCK frame counts, where the run is not yet full. -/
theorem takeTrainFrame_counts (s : State) (b : Fin 8) (f : LinkFlit) (at_ : Nat) (hphase : (s.training b).phase = .align)
    (htype : bf f 4 4 = 0) (hgood : (s.training b).good < 15)
    (hnone : ∀ c : Fin 8, (s.training c).phase ≠ .depth ∧ (s.training c).phase ≠ .done) :
    s.takeTrainFrame b f at_ = s.modTrain b fun t => { t with good := t.good + 1 } := by
  rw [← modTrain_settleTrain s b (fun t => { t with good := t.good + 1 }) hnone (by simp [hphase])]
  simp [State.takeTrainFrame, htype, hphase, hgood]

/-- The sixteenth good LOCK frame in a row takes the braid to MEASURE, where its partner lives and no exit from PARK runs. -/
theorem takeTrainFrame_measures (s : State) (b : Fin 8) (f : LinkFlit) (at_ : Nat) (hphase : (s.training b).phase = .align)
    (htype : bf f 4 4 = 0) (hgood : (s.training b).good = 15) (hlive : (s.shape 0 b).retired = false)
    (hexit : s.aon.exiting = false)
    (hnone : ∀ c : Fin 8, (s.training c).phase ≠ .depth ∧ (s.training c).phase ≠ .done) :
    s.takeTrainFrame b f at_ = s.modTrain b fun t => { t with good := 16, phase := .measure } := by
  rw [← modTrain_settleTrain s b (fun t => { t with good := 16, phase := .measure }) hnone (by simp)]
  simp [State.takeTrainFrame, htype, hphase, hgood, hlive, hexit]

/-- The far end trained a transmit braid: its TRAIN_DONE is noted with OK, and the direction is trained, whether step 7 ends with
it or not. -/
theorem farTrained_trains (s : State) (b : Fin 8) : ((s.farTrained b).start.txb.get b).doneGot = true
    ∧ ((s.farTrained b).start.txb.get b).ok = true ∧ ((s.farTrained b).shape 0 b).trained = true := by
  have kept : ∀ u : State, (u.tryCalibrate.start.txb.get b).doneGot = (u.start.txb.get b).doneGot
      ∧ (u.tryCalibrate.start.txb.get b).ok = (u.start.txb.get b).ok
      ∧ (u.tryCalibrate.shape 0 b).trained = (u.shape 0 b).trained := fun u => by
    obtain ⟨htxb, htrained⟩ := tryCalibrate_keeps u
    exact ⟨by rw [htxb], by rw [htxb], congrArg (fun v => (v b).2.1) htrained⟩
  have ladder : ∀ u : State, (if u.start.st == .train && !u.link.retraining then u.modTx b fun t => { t with ladder := .up }
      else u).shape 0 b = u.shape 0 b := fun u => by
    split
    · exact modTx_shape u b _ 0 b (by intro t; rfl)
    · rfl
  unfold State.farTrained
  dsimp only
  simp only [kept]
  refine ⟨?_, ?_, ?_⟩
  · simp [apply_ite State.start]
  · simp [apply_ite State.start]
  · rw [ladder]
    simp

end Sys2Proof.Machine

open Sys2Proof Sys2Proof.Machine

/-- Settles O32, command by command. -/
theorem trainingCompletes : Obligations.TrainingCompletes := by
  refine ⟨?_, ?_, ?_, ?_, ?_, ?_, ?_⟩
  · rintro s f ⟨htakes, hst, hgot, hsent⟩
    obtain ⟨rx, h⟩ := takeTrain_takes s f 4 (fun u => u.trainGo (trBraid f.payload) (BitVec.ofNat 8 (bf f.payload 11 8))) htakes
    obtain ⟨hgo, hlock⟩ :=
      trainGo_locks (s.trainTaken f 4 rx) (trBraid f.payload) (BitVec.ofNat 8 (bf f.payload 11 8)) hst hgot hsent
    exact completes_done (congrArg done h) ⟨by simpa using hgo, fun b hb => by simpa using hlock b hb⟩
  · rintro s b x l w d ⟨hphase, hgoes, hrun, hwords, hd⟩
    obtain ⟨strands, h⟩ := lockAchieved_aligns s b x.toNat l w d hphase hgoes hrun hwords hd
    exact completes_done (congrArg done h) (by simp [bit_setBf_one])
  · rintro s b line f k ⟨hphase, hgoes, hup, hline, hcrc, hkind, htype, hbraid, hgood, hnone⟩
    obtain ⟨rx, cal, h⟩ := trainLink_align s b line f (s.now * 16 + k.toNat) hphase hgoes hup hline
    rw [if_pos (by simp [trainOk, hcrc, hkind, htype, hbraid]),
      takeTrainFrame_counts (s.lineTaken rx cal) b f _ hphase htype hgood hnone] at h
    exact completes_done (congrArg done h) (by simp [hphase])
  · rintro s b line f k ⟨hphase, hgoes, hup, hline, hcrc, hkind, htype, hbraid, hgood, hlive, hexit, hnone⟩
    obtain ⟨rx, cal, h⟩ := trainLink_align s b line f (s.now * 16 + k.toNat) hphase hgoes hup hline
    rw [if_pos (by simp [trainOk, hcrc, hkind, htype, hbraid]),
      takeTrainFrame_measures (s.lineTaken rx cal) b f _ hphase htype hgood hlive hexit hnone] at h
    exact completes_done (congrArg done h) (by simp)
  · rintro s b line f k ⟨hphase, hgoes, hup, hline, hcrc⟩
    obtain ⟨rx, cal, h⟩ := trainLink_align s b line f (s.now * 16 + k.toNat) hphase hgoes hup hline
    rw [if_neg (by simp [trainOk, hcrc])] at h
    exact completes_done (congrArg done h) (by simp [hphase])
  · rintro s b k ⟨hphase, hgoes⟩
    have hc : exec (.measureTimer b k) s = done (s.sendMeasure b (s.now * 16 + k.toNat)) :=
      congrArg done (if_pos (by simp [hphase, hgoes]))
    exact completes_done hc (by simp [State.sendMeasure, hphase])
  · rintro s f ⟨htakes, hok⟩
    obtain ⟨rx, h⟩ := takeTrain_takes s f 5 (fun u =>
      if bit f.payload 11 then u.farTrained (trBraid f.payload)
      else u.farFailed (trBraid f.payload) (trAttempt f.payload) (bf f.payload 12 4)) htakes
    obtain ⟨hgot, hfar, htrained⟩ := farTrained_trains (s.trainTaken f 5 rx) (trBraid f.payload)
    exact completes_done (congrArg done (h.trans (if_pos hok)))
      ⟨by simpa using hgot, by simpa using hfar, by simpa using htrained⟩
end

section
/-!
SUPPORT. Eight entries of which one is changed, and work of the link that finds nothing to do (R105, R133, R145, R187, R333).
-/
namespace Sys2Proof.Machine

/-! ### Eight entries -/

theorem oct_ext {α : Type} {o q : Oct α} (h : ∀ i, o.get i = q.get i) : o = q := by
  cases o; cases q
  exact congr (congr (congr (congr (congr (congr (congr (congrArg Oct.mk (h 0)) (h 1)) (h 2)) (h 3)) (h 4)) (h 5)) (h 6)) (h 7)

theorem oct_put_get {α : Type} (o : Oct α) (b : Fin 8) {x : α} (h : o.get b = x) : o.put b x = o :=
  oct_ext fun i => by
    by_cases hi : i = b
    · subst hi; simp [h]
    · exact oct_get_put_ne o b i x hi

theorem oct_upd_of_fixed {α : Type} (o : Oct α) (b : Fin 8) (f : α → α) (h : f (o.get b) = o.get b) : o.upd b f = o :=
  oct_put_get o b h.symm

/-- A change of one entry that a map forgets. -/
theorem oct_map_upd {α β : Type} (g : α → β) (o : Oct α) (b : Fin 8) (f : α → α) (h : ∀ x, g (f x) = g x) :
    (o.upd b f).map g = o.map g :=
  oct_ext fun i => by
    by_cases hi : i = b
    · subst hi; simp [h]
    · simp [oct_get_upd_ne _ _ _ _ hi]

theorem modTx_modTx (s : State) (b : Fin 8) (f g : TxBraid → TxBraid) : (s.modTx b f).modTx b g = s.modTx b (g ∘ f) := by
  have h : (s.link.tx.upd b f).upd b g = s.link.tx.upd b (g ∘ f) := oct_ext fun i => by
    by_cases hi : i = b
    · subst hi; simp
    · simp [oct_get_upd_ne _ _ _ _ hi]
  simp only [State.modTx, h]

/-! ### Work that finds nothing to do -/

variable (s : State) (b : Fin 8)

/-- A braid headed for the width of the target asks for none. -/
theorem applyWidth_of_headed (hqueue : (s.shape 0 b).queue = []) (hwidth : s.headedWidth b =
    min (if s.pwr.targetWidth = 0 then s.cls.wmax else s.pwr.targetWidth) (s.widest 0 b)) : s.applyWidth b = s := by
  have hsame : (s.modShape 0 b fun x => { x with queue := x.queue.filter fun o => o.reason ≠ 3 }) = s := by
    have hq : (s.link.tx.get b).shape.queue = [] := hqueue
    have hfix : ∀ t : TxBraid, t.shape.queue = [] →
        { t with shape := { t.shape with queue := t.shape.queue.filter fun o => o.reason ≠ 3 } } = t := fun t h => by
      rw [h, List.filter_nil, ← h]
    have : s.link.tx.upd b _ = s.link.tx := oct_upd_of_fixed s.link.tx b
      (fun t => { t with shape := { t.shape with queue := t.shape.queue.filter fun o => o.reason ≠ 3 } }) (hfix _ hq)
    show State.modTx s b _ = s
    unfold State.modTx
    rw [this]
  unfold State.applyWidth
  dsimp only
  rw [hsame, hwidth]
  simp

theorem settleRetrains_of_none (h : s.link.retrainCmds = []) : s.settleRetrains b = s := by
  have hsame : ({ s with link.retrainCmds := [] } : State) = s := by rw [← h]
  simp [State.settleRetrains, h, hsame]

theorem runStrands_of_empty (h : (s.shape 0 b).queue = []) : s.runStrands b = s := by
  simp [State.runStrands, State.runQueue, h]

theorem calNext_of_idle (hwant : s.cal.want.get b = []) (hsweep : s.cal.sweep.get b = []) : s.calNext b = s := by
  have hsame : ({ s with cal.sweep := s.cal.sweep.put b [] } : State) = s := by rw [oct_put_get _ _ hsweep]
  simp [State.calNext, State.calRun, hwant, hsweep, hsame]

theorem judgeDown_of_enough (h0 : s.minBraids ≤ s.surviving 0) (h1 : s.minBraids ≤ s.surviving 1) : s.judgeDown = s := by
  simp [State.judgeDown, Nat.not_lt.mpr h0, Nat.not_lt.mpr h1]

theorem checkDown_of_enough (h0 : s.minBraids ≤ s.surviving 0) (h1 : s.minBraids ≤ s.surviving 1) : s.checkDown = s := by
  simp [State.checkDown, judgeDown_of_enough s h0 h1]

theorem leadTarget_of_follower (h : s.leads = false) : s.leadTarget = s := by simp [State.leadTarget, h]

end Sys2Proof.Machine
end

section
/-!
LEMMAS. The count of port retrains and of each braid's failed retrains: the work a retrain ends leaves them, a port retrain that
starts and a retrain that times out count one (R185, R187).
-/
namespace Sys2Proof.Machine

/-- The port retrains and the failed retrains of each braid. -/
def tallyOf (n : BitVec 8) (tx : Oct TxBraid) : BitVec 8 × (Fin 8 → BitVec 8) := (n, fun c => (tx.get c).failed)

/-- The same of a state. -/
def State.tally (s : State) : BitVec 8 × (Fin 8 → BitVec 8) := tallyOf s.link.retrains s.link.tx

/-! As for `trainView`, the first lemmas are proved by `id rfl`, so that `simp` rewrites with them. -/

@[simp] theorem tally_mk f0 f1 f2 f3 f4 f5 f6 (f7 : Link) f8 f9 f10 f11 f12 f13 f14 f15 f16 f17 f18 f19 f20 f21 f22 f23 :
    (State.mk f0 f1 f2 f3 f4 f5 f6 f7 f8 f9 f10 f11 f12 f13 f14 f15 f16 f17 f18 f19 f20 f21 f22 f23).tally =
      tallyOf f7.retrains f7.tx := id rfl

@[simp] theorem tallyOf_fold (s : State) : tallyOf s.link.retrains s.link.tx = s.tally := id rfl

@[simp] theorem tally_ite (c : Prop) [Decidable c] (a b : State) :
    (if c then a else b).tally = if c then a.tally else b.tally := apply_ite State.tally c a b

@[simp] theorem tally_foldl {α : Type} {g : State → α → State} {l : List α} {s : State}
    (h : ∀ u x, (g u x).tally = u.tally) : (l.foldl g s).tally = s.tally :=
  foldl_keeps State.tally g l s fun u x _ => h u x

variable (s : State)

@[simp] theorem State.modTx_tally (b : Fin 8) (f : TxBraid → TxBraid) (hf : ∀ t, (f t).failed = t.failed) :
    (s.modTx b f).tally = s.tally := by
  refine Prod.ext rfl (funext fun c => ?_)
  by_cases h : c = b
  · subst h; simp [State.tally, tallyOf, State.modTx, hf]
  · simp [State.tally, tallyOf, State.modTx, oct_get_upd_ne _ _ _ _ h]
@[simp] theorem State.modRx_tally (b : Fin 8) (f : RxBraid → RxBraid) : (s.modRx b f).tally = s.tally := rfl
@[simp] theorem State.modShape_tally (dir : Nat) (b : Fin 8) (f : Shape → Shape) : (s.modShape dir b f).tally = s.tally := by
  simp [State.modShape, -State.modTx_link, -State.modRx_link]

/-- Completing a descriptor leaves the whole of the link. -/
@[simp] theorem State.complete_tally (r : Nat) (i : BitVec 32) (status result detail : Nat) :
    (s.complete r i status result detail).tally = s.tally := by
  have hlink : (s.complete r i status result detail).link = s.link :=
    (congrArg State.link (State.complete_kept .rings s r i status result detail) :)
  exact congrArg (fun l : Link => tallyOf l.retrains l.tx) hlink

@[simp] theorem State.free_tally : s.free.2.tally = s.tally := rfl

/-! Strands, trims and operations (R131, R136). -/

@[simp] theorem State.modStrand_tally (dir : Nat) (b : Fin 8) (p : Nat) (f : Strand → Strand) :
    (s.modStrand dir b p f).tally = s.tally := by simp [State.modStrand]
@[simp] theorem State.retain_tally (dir : Nat) (b : Fin 8) (p : Nat) : (s.retain dir b p).tally = s.tally := by
  simp [State.retain]
@[simp] theorem State.settleGoal_tally (dir : Nat) (b : Fin 8) (p : Nat) : (s.settleGoal dir b p).tally = s.tally := by
  simp only [State.settleGoal, State.modTrim]; (repeat' split) <;> simp
@[simp] theorem State.restoreServe_tally (b : Fin 8) (c : CalServe) : (s.restoreServe b c).tally = s.tally := by
  simp only [State.restoreServe, State.modTrim]; (repeat' split) <;> simp
@[simp] theorem State.opDone_tally (o : StrandOp) (status result detail : Nat) :
    (s.opDone o status result detail).tally = s.tally := by
  unfold State.opDone; (repeat' split) <;> simp
@[simp] theorem State.restoreOp_tally (dir : Nat) (b : Fin 8) (o : StrandOp) (code : Nat) :
    (s.restoreOp dir b o code).tally = s.tally := by simp [State.restoreOp]
@[simp] theorem State.calReturnLost_tally (b : Fin 8) (code : Nat) : (s.calReturnLost b code).tally = s.tally := by
  simp only [State.calReturnLost]; (repeat' split) <;> simp
@[simp] theorem State.sendCtl_tally (b : Fin 8) (opcode : Nat) (p : NocFlit) : (s.sendCtl b opcode p).tally = s.tally := by
  simp [State.sendCtl]
@[simp] theorem State.abortTx_tally (b : Fin 8) (code : Nat) (tell : Bool) : (s.abortTx b code tell).tally = s.tally := by
  unfold State.abortTx; split <;> simp
@[simp] theorem State.abortRx_tally (b : Fin 8) (code : Nat) (tell : Bool) : (s.abortRx b code tell).tally = s.tally := by
  unfold State.abortRx; split <;> simp
@[simp] theorem State.supersede_tally (dir : Nat) (b : Fin 8) : (s.supersede dir b).tally = s.tally := by
  simp [State.supersede]

/-! Calibrations and their records (R150, R155). -/

@[simp] theorem State.qualToken_tally : s.qualToken.2.tally = s.tally := by simp [State.qualToken]
@[simp] theorem State.postQual_tally (q : QualWait) : (s.postQual q).tally = s.tally := by
  simp only [State.postQual, State.raiseBody]; (repeat' split) <;> simp
@[simp] theorem State.postWaiting_tally (n : Nat) (s : State) : (State.postWaiting n s).tally = s.tally := by
  induction n generalizing s with
  | zero => rfl
  | succ n ih =>
    unfold State.postWaiting
    (repeat' split) <;> simp [ih]
@[simp] theorem State.closeQual_tally (b : Fin 8) (p kind : Nat) (m : Meas) (status : Nat)
    (scan : Option (RingNo × BitVec 32)) : (s.closeQual b p kind m status scan).tally = s.tally := by
  simp [State.closeQual, State.modTrim]
@[simp] theorem State.finishCal_tally (b : Fin 8) (r : CalRun) (status : Nat) (m : Meas) :
    (s.finishCal b r status m).tally = s.tally := by
  simp only [State.finishCal, State.calReport, State.captureFibre, State.raise, State.modTrim]; (repeat' split) <;> simp
@[simp] theorem State.calRetrain_tally (dir : Nat) (b : Fin 8) : (s.calRetrain dir b).tally = s.tally := by
  simp only [State.calRetrain, State.dropPending, State.restoreTrims]; (repeat' split) <;> simp [State.modTrim]

/-! Frames sent, and what is owed (R89, R98, R170, R186). -/

@[simp] theorem State.sendLink_tally (f : SbFrame) : (s.sendLink f).tally = s.tally := by
  simp [State.sendLink, State.sendCopy]
@[simp] theorem State.sendTrain_tally (phase braid attempt : Nat) (fields : List (Nat × Nat × Nat)) :
    (s.sendTrain phase braid attempt fields).tally = s.tally := by simp [State.sendTrain]
@[simp] theorem State.postRun_tally (b : Fin 8) : (s.postRun b).tally = s.tally := by
  simp only [State.postRun, State.raiseBody]; (repeat' split) <;> simp
@[simp] theorem State.sendFinal_tally (b : Fin 8) : (s.sendFinal b).tally = s.tally := by
  simp only [State.sendFinal, State.free]; (repeat' split) <;> simp
@[simp] theorem State.sendFinals_tally : s.sendFinals.tally = s.tally := by simp [State.sendFinals]
@[simp] theorem State.oweFrame_tally (b : Fin 8) : (s.oweFrame b).tally = s.tally := by
  simp only [State.oweFrame]; split <;> simp
@[simp] theorem State.gatherOwed_tally : s.gatherOwed.tally = s.tally := by
  simp only [State.gatherOwed]; split <;> simp

/-! The ladder (R183 to R187). -/

@[simp] theorem State.quietBraid_tally (b : Fin 8) : (s.quietBraid b).tally = s.tally := by
  simp [State.quietBraid, -State.modTx_link, -State.modRx_link]
@[simp] theorem State.beginRetrain_tally (b : Fin 8) (revive : Bool) : (s.beginRetrain b revive).tally = s.tally := by
  unfold State.beginRetrain
  dsimp only
  rw [State.gatherOwed_tally, tally_ite, State.oweFrame_tally, ite_self, State.modRx_tally, State.modTx_tally]
  · split <;> simp
  · intro t; split <;> rfl
@[simp] theorem State.beginDetect_tally (b : Fin 8) (attempt : Nat) : (s.beginDetect b attempt).tally = s.tally := by
  simp [State.beginDetect, State.forgetTrain]
@[simp] theorem State.startBelay_tally (case : Nat) : (s.startBelay case).tally = s.tally := by
  simp [State.startBelay, State.raise]
@[simp] theorem State.agentRaise_tally (cls : PortClass) (tile index typ code arg0 arg1 arg2 : Nat) :
    (s.agentRaise cls tile index typ code arg0 arg1 arg2).tally = s.tally := by simp [State.agentRaise, State.raise]
@[simp] theorem State.lateralDown_tally : s.lateralDown.tally = s.tally := by
  simp only [State.lateralDown]; (repeat' split) <;> simp
@[simp] theorem State.portTopo_tally : s.portTopo.tally = s.tally := by
  simp only [State.portTopo, State.topo]; (repeat' split) <;> simp
@[simp] theorem State.judgeDown_tally : s.judgeDown.tally = s.tally := by
  simp only [State.judgeDown, State.raise]; (repeat' split) <;> simp

/-- A port retrain that starts is one more of the port, and no braid's failure. -/
theorem startPortRetrain_tally (h : s.link.retraining = false) :
    s.startPortRetrain.tally = (s.link.retrains + 1, s.tally.2) := by
  have hbegun : (octs.foldl (fun a b => a.forgetTrain b.val [1, 2, 3, 4, 5, 6])
      (octs.foldl (fun a b => a.beginRetrain b true) s)).tally = s.tally := by
    simp [State.forgetTrain]
  have hdetect : ∀ u : State, u.redetecting.tally = (u.tally.1 + 1, u.tally.2) := fun _ => rfl
  rw [State.startPortRetrain, if_neg (ne_true_of_eq_false h)]
  exact (State.sendTrain_tally _ _ _ _ _).trans ((hdetect _).trans (by rw [hbegun]; rfl))

/-- A port that is judged, and retrains where it went down, counts no braid's failure. -/
theorem checkDown_failed : s.checkDown.tally.2 = s.tally.2 := by
  unfold State.checkDown
  dsimp only
  split
  · cases h : s.judgeDown.link.retraining
    · rw [startPortRetrain_tally _ h, State.judgeDown_tally]
    · rw [State.startPortRetrain, if_pos h, State.judgeDown_tally]
  · rw [State.judgeDown_tally]

/-- A transmit braid after the first failure of a retrain. -/
def TxBraid.failedAt (t : TxBraid) (now : Time) : TxBraid := { t with failed := t.failed + 1, lastFail := some now }

/-- A retrain of a braid whose directions have recorded no failure fails: each records its first, and none retires. -/
theorem failRetrain_of_first (s : State) (b : Fin 8) (htx : (s.shape 0 b).retired = false) (hrx : (s.shape 1 b).retired = false)
    (hlast0 : (s.link.tx.get b).lastFail = none) (hlast1 : (s.link.rx.get b).lastFail = none) :
    s.failRetrain b true true =
      (s.modTx b (·.failedAt s.now)).modRx b fun r => { r with lastFail := some s.now } := by
  have hcounted : ((s.modTx b fun t => { t with failed := t.failed + 1 }).shape 0 b).retired = false :=
    (congrArg Shape.retired (modTx_shape s b _ 0 b (by intro t; rfl))).trans htx
  have hfirst : (s.modTx b fun t => { t with failed := t.failed + 1 }).failDir 0 b = s.modTx b (·.failedAt s.now) := by
    have hnone : ((s.modTx b fun t => { t with failed := t.failed + 1 }).link.tx.get b).lastFail = none := by simp [hlast0]
    simp only [State.failDir, if_true, hnone, modTx_modTx]
    rfl
  have hlive : ((s.modTx b (·.failedAt s.now)).shape 1 b).retired = false := hrx
  have hsecond : (s.modTx b (·.failedAt s.now)).failDir 1 b =
      (s.modTx b (·.failedAt s.now)).modRx b fun r => { r with lastFail := some s.now } := by
    have hnone : ((s.modTx b (·.failedAt s.now)).link.rx.get b).lastFail = none := hlast1
    simp only [State.failDir, Nat.one_ne_zero, if_false, hnone]
    rfl
  simp only [State.failRetrain, Bool.true_and, hcounted, Bool.not_false, if_true, hfirst, hlive, hsecond]

/-- A braid that is not retired and is tried again retrains, and no failure is counted, whatever becomes of the port. -/
theorem tryAgain_retrains (b : Fin 8) (hladder : (s.trainView b).1 ≠ .retired) :
    let t := (((s.beginRetrain b false).beginDetect b 0).settleRetrains b).sendFinals.checkDown
    t.retrains b ∧ t.tally.2 = s.tally.2 := by
  have hbegun : ((s.beginRetrain b false).beginDetect b 0).retrains b := by
    unfold State.retrains
    rw [State.beginDetect_trainView, beginRetrain_trainView s b b false (.inl hladder)]
    simp
  have hretraining : (((s.beginRetrain b false).beginDetect b 0).link.tx.get b).ladder = .retraining :=
    ((retrains_iff _ b).1 hbegun).1
  have hsettle : ((s.beginRetrain b false).beginDetect b 0).settleRetrains b = (s.beginRetrain b false).beginDetect b 0 := by
    simp [State.settleRetrains, hretraining]
  dsimp only
  rw [hsettle]
  refine ⟨checkDown_retrains _ b ?_, ?_⟩
  · unfold State.retrains at hbegun ⊢
    rw [State.sendFinals_trainView, hbegun]
  · rw [checkDown_failed, State.sendFinals_tally, State.beginDetect_tally, State.beginRetrain_tally]

/-- A retrain that times out at a braid of which neither direction trained, the first time, counts as failed and is tried again. -/
theorem retrainTimeout_retries (s : State) (b : Fin 8) (hladder : (s.link.tx.get b).ladder = .retraining)
    (hok0 : s.dirOk 0 b = false) (hok1 : s.dirOk 1 b = false)
    (htx : (s.shape 0 b).retired = false) (hrx : (s.shape 1 b).retired = false)
    (hlast0 : (s.link.tx.get b).lastFail = none) (hlast1 : (s.link.rx.get b).lastFail = none) :
    (s.retrainTimeout b).retrains b ∧ ((s.retrainTimeout b).link.tx.get b).failed = (s.link.tx.get b).failed + 1 := by
  have hfail := failRetrain_of_first s b htx hrx hlast0 hlast1
  have hshape : ((s.modTx b (·.failedAt s.now)).shape 0 b).retired = false :=
    (congrArg Shape.retired (modTx_shape s b _ 0 b (by intro t; rfl))).trans htx
  have hwaits : (s.failRetrain b true true).retrained b = false := by
    rw [hfail]
    simp only [State.retrained, Bool.and_eq_false_iff, Bool.or_eq_false_iff]
    exact .inl ⟨hshape, hok0⟩
  have hretraining : ((s.failRetrain b true true).trainView b).1 = .retraining := by
    rw [hfail]
    simpa [State.trainView, trainOf, TxBraid.failedAt] using hladder
  have hfailed : (s.failRetrain b true true).tally.2 b = (s.link.tx.get b).failed + 1 := by
    rw [hfail]
    simp [State.tally, tallyOf, TxBraid.failedAt]
  obtain ⟨hretrains, hcount⟩ := tryAgain_retrains (s.failRetrain b true true) b (by rw [hretraining]; decide)
  have h : s.retrainTimeout b =
      ((((s.failRetrain b true true).beginRetrain b false).beginDetect b 0).settleRetrains b).sendFinals.checkDown := by
    simp only [State.retrainTimeout, hok0, hok1, Bool.not_false, hwaits, Bool.false_eq_true, if_false]
  rw [h]
  exact ⟨hretrains, (congrFun hcount b).trans hfailed⟩

end Sys2Proof.Machine
end

section
/-!
LEMMAS. A braid and a port that are back after a retrain: what comes back changes (`State.rest`), and that nothing starts of
itself where nothing waits (R185, R187, R333).
-/
namespace Sys2Proof.Machine

/-! ### What a braid that comes back leaves -/

/-- A transmit braid without its place on the ladder, its training, and the frames that wait. -/
def TxBraid.rest (t : TxBraid) : TxBraid :=
  { t with owe := [], ctl := [], ladder := .down, training := zeroTraining, shape := { t.shape with trained := false } }

/-- A receive braid without its part in a handover. -/
def RxBraid.rest (r : RxBraid) : RxBraid := { r with draining := false, finalSent := false, moved := 0 }

/-- The state without what a braid that comes back changes of itself: the ladder, the flow table, TRAIN frames, the cap this end
tells, and what a handover tells. -/
def State.rest (s : State) : State :=
  { s with
    start := { s.start with repeats := [], taken := [] }
    noc := { s.noc with live := 0, buckets := [], pool := Oct.all [], bightOut := 0 }
    freeCtr := 0
    pwr := { s.pwr with nearCap := .active, nearWidth := 0, capNum := 0 }
    link := { s.link with tx := s.link.tx.map TxBraid.rest, rx := s.link.rx.map RxBraid.rest } }

theorem rest_shape (s : State) (dir : Nat) (b : Fin 8) :
    s.rest.shape dir b = if dir = 0 then { s.shape dir b with trained := false } else s.shape dir b := by
  by_cases h : dir = 0 <;> simp [State.shape, State.rest, TxBraid.rest, RxBraid.rest, h]

@[simp] theorem rest_shape_retired (s : State) (dir : Nat) (b : Fin 8) :
    (s.rest.shape dir b).retired = (s.shape dir b).retired := by rw [rest_shape]; split <;> rfl

@[simp] theorem rest_shape_queue (s : State) (dir : Nat) (b : Fin 8) :
    (s.rest.shape dir b).queue = (s.shape dir b).queue := by rw [rest_shape]; split <;> rfl

@[simp] theorem rest_retiredMask (s : State) : s.rest.retiredMask = s.retiredMask := by simp [State.retiredMask]

@[simp] theorem rest_still (s : State) : s.rest.still = s.still := by
  have hmask := rest_retiredMask s
  unfold State.still State.powerIdle
  rw [hmask]
  rfl

@[simp] theorem rest_strand (s : State) (dir : Nat) (b : Fin 8) (p : Nat) : s.rest.strand dir b p = s.strand dir b p := rfl
@[simp] theorem rest_cls (s : State) : s.rest.cls = s.cls := rfl

@[simp] theorem rest_widest (s : State) (dir : Nat) (b : Fin 8) : s.rest.widest dir b = s.widest dir b := by
  simp only [State.widest, State.usable, rest_strand, rest_cls]

@[simp] theorem rest_leads (s : State) : s.rest.leads = s.leads := by
  simp only [State.leads, rest_cls]
  rfl

@[simp] theorem rest_headedWidth (s : State) (b : Fin 8) : s.rest.headedWidth b = s.headedWidth b := by
  simp only [State.headedWidth, rest_shape]
  rfl

@[simp] theorem rest_surviving (s : State) (dir : Nat) : s.rest.surviving dir = s.surviving dir := by
  simp [State.surviving]

/-- What the state at rest shows is the same in two states that agree on it. -/
theorem rest_read {α : Type} {s t : State} (h : t.rest = s.rest) (p : State → α) (hp : ∀ u : State, p u.rest = p u) :
    p t = p s := by rw [← hp t, h, hp s]

theorem modTx_rest (s : State) (b : Fin 8) (f : TxBraid → TxBraid) (hf : ∀ t, (f t).rest = t.rest) :
    (s.modTx b f).rest = s.rest := by
  simp only [State.rest, State.modTx, oct_map_upd TxBraid.rest _ b f hf]

theorem modRx_rest (s : State) (b : Fin 8) (f : RxBraid → RxBraid) (hf : ∀ r, (f r).rest = r.rest) :
    (s.modRx b f).rest = s.rest := by
  simp only [State.rest, State.modRx, oct_map_upd RxBraid.rest _ b f hf]

theorem gatherOwed_rest (s : State) : s.gatherOwed.rest = s.rest := by
  unfold State.gatherOwed
  split
  · rfl
  · exact foldl_keeps State.rest _ _ _ fun u b _ => modTx_rest u b _ fun _ => rfl

/-- A transmit braid that has come up. -/
def TxBraid.cameUp (t : TxBraid) : TxBraid :=
  { t with
    ladder := .up, shape := { t.shape with trained := true }
    training := { t.training with phase := if t.training.phase.running then .off else t.training.phase } }

/-- The TRAIN frames of the port, and the braids out for a bight. -/
def State.withTrain (s : State) (bightOut : BitVec 8) (repeats : Tbl SbFrame) (taken : Tbl (BitVec 64)) : State :=
  { s with
    noc := { s.noc with bightOut := bightOut }
    start := { s.start with repeats := repeats, taken := taken } }

/-- A braid whose transmit direction is not retired comes up: it is trained and UP, and what it owed is gathered. -/
theorem comeUp_eq (s : State) (b : Fin 8) (hlive : (s.shape 0 b).retired = false) : ∃ bightOut repeats taken,
    s.comeUp b = ((s.withTrain bightOut repeats taken).modTx b TxBraid.cameUp).gatherOwed := by
  have hout : ∃ out, (if bit (s.bight.braids ||| s.bight.asked ||| s.bight.serving) b.val then s
      else { s with noc.bightOut := setBf s.noc.bightOut b.val 1 0 }) = s.withTrain out s.start.repeats s.start.taken := by
    split <;> exact ⟨_, rfl⟩
  obtain ⟨out, hout⟩ := hout
  refine ⟨out, (s.forgetTrain b.val [1, 2, 3, 4, 5]).start.repeats, (s.forgetTrain b.val [1, 2, 3, 4, 5]).start.taken, ?_⟩
  unfold State.comeUp
  dsimp only
  rw [hout]
  refine (if_neg ?_).trans ?_
  · rw [modTrain_shape]
    exact ne_true_of_eq_false hlive
  · simp only [State.modTrain, State.modShape, if_true, modTx_modTx]
    rfl

theorem comeUp_rest (s : State) (b : Fin 8) (hlive : (s.shape 0 b).retired = false) : (s.comeUp b).rest = s.rest := by
  obtain ⟨bightOut, repeats, taken, h⟩ := comeUp_eq s b hlive
  rw [h, gatherOwed_rest]
  exact modTx_rest _ b TxBraid.cameUp fun _ => rfl

theorem comeUp_trainView (s : State) (b c : Fin 8) (hlive : (s.shape 0 b).retired = false) : (s.comeUp b).trainView c =
    if c = b then (.up, true, (s.trainView b).2.2) else s.trainView c := by
  obtain ⟨bightOut, repeats, taken, h⟩ := comeUp_eq s b hlive
  rw [h, State.gatherOwed_trainView]
  by_cases hc : c = b
  · subst hc; simp [State.trainView, trainOf, TxBraid.cameUp, State.withTrain]
  · simp [State.trainView, trainOf, oct_get_upd_ne _ _ _ _ hc, hc, State.withTrain]

/-- What a braid that comes back shows: the state at rest, the ladder, and what has trained. -/
def State.backView (s : State) : State × (Fin 8 → Ladder × Bool × Bool) := (s.rest, s.trainView)

theorem recomputeTargets_backView (s : State) : s.recomputeTargets.backView = s.backView := by
  have retargeted : ∀ (u : State) (i : Nat) (x : Fin 8), (u.retarget i x).backView = u.backView := fun u i x => by
    unfold State.retarget
    dsimp only
    (repeat' split) <;> rfl
  have hlive : ∀ m, State.backView { s with noc := { s.noc with live := m } } = s.backView := fun _ => rfl
  unfold State.recomputeTargets
  refine (foldl_keeps State.backView _ _ _ fun u i _ => ?_).trans (hlive _)
  split
  · exact retargeted u i _
  · rfl

theorem sendCtl_rest (s : State) (b : Fin 8) (op : Nat) (p : NocFlit) : (s.sendCtl b op p).rest = s.rest :=
  modTx_rest s b _ fun _ => rfl

theorem sendFinals_rest (s : State) : s.sendFinals.rest = s.rest := by
  refine foldl_keeps State.rest _ _ _ fun u b _ => ?_
  unfold State.sendFinal
  split
  · rfl
  · dsimp only
    split
    · refine (foldl_keeps State.rest _ _ _ fun v q _ => ?_).trans ((sendCtl_rest _ _ _ _).trans (modRx_rest u b _ fun _ => rfl))
      exact modRx_rest _ q _ fun _ => rfl
    · rfl

theorem sendFinals_backView (s : State) : s.sendFinals.backView = s.backView :=
  Prod.ext (sendFinals_rest s) (State.sendFinals_trainView s)

/-- The cap is that of the braids which are retired now. -/
def State.capped (s : State) : State := { s with pwr.capBraids := s.retiredMask }

theorem rest_capped (s : State) : s.capped.rest = s.rest.capped := by
  simp only [State.capped, rest_retiredMask]
  rfl

/-- A cap that the following end tells starts nothing at this end. -/
theorem sendCap_leadTarget_backView (s : State) (h : s.leads = false) : s.sendCap.leadTarget.backView = s.backView := by
  rw [leadTarget_of_follower s.sendCap h]
  exact Prod.ext (sendCtl_rest _ _ _ _) (State.sendCtl_trainView _ _ _ _)

theorem recap_backView (s : State) (h : s.leads = false) : s.recap.backView = s.capped.backView := by
  unfold State.recap State.setCap
  split
  · rfl
  · dsimp only
    split
    · exact sendCap_leadTarget_backView _ h
    · rfl

theorem capAtOpen_backView (s : State) (h : s.leads = false) : s.capAtOpen.backView = s.capped.backView :=
  sendCap_leadTarget_backView
    { s with pwr.nearCap := s.ownCap.1, pwr.nearWidth := s.ownCap.2, pwr.capBraids := s.retiredMask } h

/-! ### A braid that is back in OPEN -/

/-- An end that does not lead its pair, with no RETRAIN command, and a braid on which nothing waits and that keeps to the width
of the target: such a braid comes back and starts nothing. -/
structure State.Settled (s : State) (b : Fin 8) : Prop where
  follows : s.leads = false
  cmds : s.link.retrainCmds = []
  queue : (s.shape 0 b).queue = []
  want : s.cal.want.get b = []
  sweep : s.cal.sweep.get b = []
  width : s.headedWidth b = min (if s.pwr.targetWidth = 0 then s.cls.wmax else s.pwr.targetWidth) (s.widest 0 b)

theorem settled_of_rest {s t : State} (h : t.rest = s.rest) {b : Fin 8} (hs : s.Settled b) : t.Settled b where
  follows := (rest_read h State.leads rest_leads).trans hs.follows
  cmds := (rest_read h (·.link.retrainCmds) fun _ => rfl).trans hs.cmds
  queue := (rest_read h (fun u => (u.shape 0 b).queue) fun u => rest_shape_queue u 0 b).trans hs.queue
  want := (rest_read h (·.cal.want.get b) fun _ => rfl).trans hs.want
  sweep := (rest_read h (·.cal.sweep.get b) fun _ => rfl).trans hs.sweep
  width := by
    rw [rest_read h (·.headedWidth b) fun u => rest_headedWidth u b, rest_read h (·.widest 0 b) fun u => rest_widest u 0 b,
      rest_read h State.cls rest_cls, rest_read h (·.pwr.targetWidth) fun _ => rfl]
    exact hs.width

/-- At an OPEN port at rest the cap is that of the braids which are retired. -/
theorem capped_of_still (s : State) (hopen : s.start.st = .openSt) (h : s.still = true) : s.capped = s := by
  have hcap : s.retiredMask = s.pwr.capBraids := by
    simp only [State.still, State.powerIdle, Bool.and_eq_true, Bool.or_eq_true, beq_iff_eq] at h
    obtain ⟨⟨-, hcap⟩, -⟩ := h
    exact hcap.resolve_left (by simp [hopen])
  rw [State.capped, hcap]

/-- A braid that is back at an OPEN port at rest starts nothing. -/
theorem afterRetrain_backView (s : State) (b : Fin 8) (hs : s.Settled b) (hopen : s.start.st = .openSt)
    (hstill : s.still = true) (h0 : s.minBraids ≤ s.surviving 0) (h1 : s.minBraids ≤ s.surviving 1) :
    (s.afterRetrain b).backView = s.backView := by
  have htargets := recomputeTargets_backView s
  have hs1 : s.recomputeTargets.Settled b := settled_of_rest (congrArg Prod.fst htargets) hs
  have hrecap : s.recomputeTargets.recap.backView = s.backView := by
    rw [recap_backView _ hs1.follows, capped_of_still _ ?_ ?_, htargets]
    · exact (rest_read (congrArg Prod.fst htargets) (·.start.st) fun _ => rfl).trans hopen
    · exact (rest_read (congrArg Prod.fst htargets) State.still rest_still).trans hstill
  have hs2 : s.recomputeTargets.recap.Settled b := settled_of_rest (congrArg Prod.fst hrecap) hs
  have hfinals := (sendFinals_backView s.recomputeTargets.recap).trans hrecap
  have hrest := congrArg Prod.fst hfinals
  have henough : ∀ dir, s.minBraids ≤ s.surviving dir →
      s.recomputeTargets.recap.sendFinals.minBraids ≤ s.recomputeTargets.recap.sendFinals.surviving dir := fun dir h => by
    rw [rest_read hrest State.minBraids fun _ => rfl, rest_read hrest (·.surviving dir) fun u => rest_surviving u dir]
    exact h
  unfold State.afterRetrain
  rw [applyWidth_of_headed _ b hs1.queue hs1.width, settleRetrains_of_none _ b hs2.cmds, runStrands_of_empty _ b hs2.queue,
    calNext_of_idle _ b hs2.want hs2.sweep, checkDown_of_enough _ (henough 0 h0) (henough 1 h1),
    portStep_of_still _ ((rest_read hrest State.still rest_still).trans hstill)]
  exact hfinals

/-- A braid with both directions trained comes back to an OPEN port at rest. -/
theorem retrainComplete_up (s : State) (b : Fin 8) (hs : s.Settled b) (hlive : (s.shape 0 b).retired = false)
    (hopen : s.start.st = .openSt) (hstill : s.still = true) (h0 : s.minBraids ≤ s.surviving 0)
    (h1 : s.minBraids ≤ s.surviving 1) : ((s.comeUp b).afterRetrain b).rest = s.rest
      ∧ ((s.comeUp b).afterRetrain b).trainView b = (.up, true, (s.trainView b).2.2) := by
  have hrest := comeUp_rest s b hlive
  have hback := afterRetrain_backView (s.comeUp b) b (settled_of_rest hrest hs)
    ((rest_read hrest (·.start.st) fun _ => rfl).trans hopen) ((rest_read hrest State.still rest_still).trans hstill)
    (by rwa [rest_read hrest State.minBraids fun _ => rfl, rest_read hrest (·.surviving 0) fun u => rest_surviving u 0])
    (by rwa [rest_read hrest State.minBraids fun _ => rfl, rest_read hrest (·.surviving 1) fun u => rest_surviving u 1])
  refine ⟨(congrArg Prod.fst hback).trans hrest, ?_⟩
  rw [show ((s.comeUp b).afterRetrain b).trainView = (s.comeUp b).trainView from congrArg Prod.snd hback,
    comeUp_trainView s b b hlive, if_pos rfl]

/-! ### A port that is back in OPEN -/

/-- The port is OPEN, its retrain is over, and its belay of case 1 has ended. -/
def State.inOpen (s : State) : State :=
  State.endBelay { s with
    start.st := .openSt, start.repeats := [], start.taken := [], link.retraining := false, link.down := false } 1

/-- The credits of the port are asked for. -/
def State.credited (s : State) : State :=
  { s with noc := { s.noc with crdInit := true, initDone := false, returned := false, audit := none } }

/-- A port that is back. -/
def State.back (s : State) : State := s.inOpen.credited

theorem rest_back (s : State) : s.back.rest = s.rest.back := rfl

theorem settled_back {s : State} {b : Fin 8} (h : s.Settled b) : s.back.Settled b :=
  ⟨h.follows, h.cmds, h.queue, h.want, h.sweep, h.width⟩

theorem settled_capped {s : State} {b : Fin 8} (h : s.Settled b) : s.capped.Settled b :=
  ⟨h.follows, h.cmds, h.queue, h.want, h.sweep, h.width⟩

/-- One braid's part in the return of a port: the directions that have not trained retire, and the others come up. -/
def State.braidReturns (s : State) (b : Fin 8) : State :=
  let s := if !(s.shape 0 b).retired && !s.dirOk 0 b then s.retireDir 0 b else s
  let s := if !(s.shape 1 b).retired && !s.dirOk 1 b then s.retireDir 1 b else s
  s.comeUp b

theorem braidReturns_of_trained (s : State) (b : Fin 8) (h0 : s.dirOk 0 b = true) (h1 : s.dirOk 1 b = true) :
    s.braidReturns b = s.comeUp b := by simp [State.braidReturns, h0, h1]

/-- Every braid of a port on which every braid trained comes up. -/
theorem foldl_braidReturns (l : List (Fin 8)) (s u : State) (h0 : ∀ b, s.dirOk 0 b = true) (h1 : ∀ b, s.dirOk 1 b = true)
    (hlive : ∀ b, (s.shape 0 b).retired = false) (hu : u.rest = s.rest) :
    (l.foldl State.braidReturns u).rest = s.rest ∧ ∀ b, b ∈ l ∨ (u.trainView b).1 = .up →
      ((l.foldl State.braidReturns u).trainView b).1 = .up := by
  induction l generalizing u with
  | nil => exact ⟨hu, fun b h => h.resolve_left (by simp)⟩
  | cons c l ih =>
    have hup : (u.shape 0 c).retired = false :=
      (rest_read hu (fun v => (v.shape 0 c).retired) fun v => rest_shape_retired v 0 c).trans (hlive c)
    have hstep : u.braidReturns c = u.comeUp c := braidReturns_of_trained u c
      ((rest_read hu (·.dirOk 0 c) fun _ => rfl).trans (h0 c)) ((rest_read hu (·.dirOk 1 c) fun _ => rfl).trans (h1 c))
    rw [List.foldl_cons, hstep]
    obtain ⟨hrest, hladder⟩ := ih (u.comeUp c) ((comeUp_rest u c hup).trans hu)
    refine ⟨hrest, fun b h => hladder b ?_⟩
    rw [comeUp_trainView u c b hup]
    by_cases hb : b = c
    · exact .inr (by simp [hb])
    · simpa [hb] using h

theorem settlePortRetrain_of_none (s : State) (h : s.link.retrainCmds = []) : s.settlePortRetrain = s := by
  have hsame : ({ s with link.retrainCmds := [] } : State) = s := by rw [← h]
  simp [State.settlePortRetrain, h, hsame]

/-- A port at rest is still at rest once it is back and its cap is told. -/
theorem back_capped_still (s : State) (h : s.still = true) : s.back.capped.still = true := by
  have hmask : s.back.capped.retiredMask = s.back.retiredMask := rfl
  simp only [State.still, State.powerIdle, Bool.and_eq_true] at h ⊢
  obtain ⟨⟨hidle, -⟩, hlash⟩ := h
  exact ⟨⟨hidle, by rw [hmask]; simp [State.capped]⟩, hlash⟩

/-- What follows the return of the braids: the port is OPEN, its flow table and its credits begin anew. -/
def State.reopened (s : State) : State := s.inOpen.recomputeTargets.startCreditInit

theorem portReturns_eq (s : State) : s.portReturns =
    (((octs.foldl (fun a b => (a.settleRetrains b).runStrands b)
      (octs.foldl State.braidReturns s).reopened.applyWidths.capAtOpen).calAll).settlePortRetrain).portStep := rfl

theorem credited_backView {s t : State} (h : t.backView = s.backView) : t.credited.backView = s.credited.backView :=
  Prod.ext (congrArg (fun v => v.1.credited) h) (show t.trainView = s.trainView from congrArg Prod.snd h)

theorem reopened_backView (s : State) (halone : s.test.alone = false) : s.reopened.backView = s.back.backView := by
  have htargets := recomputeTargets_backView s.inOpen
  have halone' : s.inOpen.recomputeTargets.test.alone = false :=
    (rest_read (congrArg Prod.fst htargets) (·.test.alone) fun _ => rfl).trans halone
  rw [State.reopened, State.startCreditInit, if_neg (ne_true_of_eq_false halone')]
  exact credited_backView htargets

/-- A port whose braids are settled has nothing to settle, to run or to calibrate. -/
theorem settled_work (s : State) (hs : ∀ b, s.Settled b) :
    s.applyWidths = s ∧ octs.foldl (fun a b => (a.settleRetrains b).runStrands b) s = s ∧ s.calAll = s := by
  refine ⟨List.foldl_fixed' (fun b => applyWidth_of_headed s b (hs b).queue (hs b).width) _, List.foldl_fixed' (fun b => ?_) _,
    List.foldl_fixed' (fun k => calNext_of_idle s (oct (s.cal.ptr + k)) (hs _).want (hs _).sweep) _⟩
  rw [settleRetrains_of_none s b (hs b).cmds, runStrands_of_empty s b (hs b).queue]

/-- A port on which every braid trained is back, its flow table and its cap are brought up to date, and it starts nothing. -/
theorem portReturns_back (s : State) (hs : ∀ b, s.Settled b) (h0 : ∀ b, s.dirOk 0 b = true) (h1 : ∀ b, s.dirOk 1 b = true)
    (hlive : ∀ b, (s.shape 0 b).retired = false) (halone : s.test.alone = false) (hstill : s.still = true) :
    s.portReturns.rest = s.back.capped.rest ∧ ∀ b, (s.portReturns.trainView b).1 = .up := by
  obtain ⟨hrest, hup⟩ := foldl_braidReturns octs s s h0 h1 hlive rfl
  rw [portReturns_eq]
  generalize octs.foldl State.braidReturns s = u at hrest hup ⊢
  have hopen := reopened_backView u ((rest_read hrest (·.test.alone) fun _ => rfl).trans halone)
  have hback : u.reopened.rest = s.back.rest := by
    rw [show u.reopened.rest = u.back.rest from congrArg Prod.fst hopen, rest_back, hrest, rest_back]
  have hs1 : ∀ b, u.reopened.Settled b := fun b => settled_of_rest hback (settled_back (hs b))
  have hcap := capAtOpen_backView u.reopened (hs1 0).follows
  have hcapped : u.reopened.capAtOpen.rest = s.back.capped.rest := by
    rw [show u.reopened.capAtOpen.rest = u.reopened.capped.rest from congrArg Prod.fst hcap, rest_capped, hback, rest_capped]
  have hs2 : ∀ b, u.reopened.capAtOpen.Settled b := fun b => settled_of_rest hcapped (settled_capped (settled_back (hs b)))
  obtain ⟨hwidths, -, -⟩ := settled_work _ hs1
  obtain ⟨-, hstrands, hcal⟩ := settled_work _ hs2
  rw [hwidths, hstrands, hcal, settlePortRetrain_of_none _ (hs2 0).cmds,
    portStep_of_still _ ((rest_read hcapped State.still rest_still).trans (back_capped_still s hstill))]
  refine ⟨hcapped, fun b => ?_⟩
  rw [show u.reopened.capAtOpen.trainView = u.reopened.trainView from congrArg Prod.snd hcap,
    show u.reopened.trainView = u.trainView from congrArg Prod.snd hopen]
  exact hup b (.inl (mem_octs b))

end Sys2Proof.Machine
end

section
/-!
LEMMAS. What the commands of the failure ladder do (R88, R185 to R187).
-/
namespace Sys2Proof.Machine

/-! ### The handover of a retired braid (R186, R211) -/

theorem still_congr {s t : State} (hstart : t.start = s.start) (haon : t.aon = s.aon) (hpwr : t.pwr = s.pwr)
    (hlash : t.lash = s.lash) (hshape : ∀ dir b, t.shape dir b = s.shape dir b) : t.still = s.still := by
  unfold State.still State.powerIdle
  rw [retiredMask_congr hshape, hstart, haon, hpwr, hlash]

/-- The move of a bucket that completes: it stands on its target, and every other bucket is as it was. -/
theorem completeMove_bucket (s : State) (i j : Nat) : (s.completeMove i).bucket j =
    if j = i then { s.bucket i with braid := (s.bucket i).target, moving := false, ackAt := none } else s.bucket j := by
  by_cases h : j = i
  · subst h; simp [State.completeMove, State.requeue, State.setBucket, State.bucket]
  · simp [State.completeMove, State.requeue, State.setBucket, State.bucket, tget_tput_ne _ _ _ _ _ h, h]

/-- Every bucket whose move completes stands on its target. -/
theorem foldl_completeMove_bucket (l : List Nat) (s : State) (x : Fin 8) (i : Nat) (htarget : (s.bucket i).target = x)
    (h : i ∈ l ∨ ((s.bucket i).braid = x ∧ (s.bucket i).moving = false)) :
    ((l.foldl State.completeMove s).bucket i).braid = x ∧ ((l.foldl State.completeMove s).bucket i).moving = false := by
  induction l generalizing s with
  | nil => exact h.resolve_left (by simp)
  | cons j l ih =>
    by_cases hj : i = j
    · subst hj
      exact ih _ (by simp [completeMove_bucket, htarget]) (.inr (by simp [completeMove_bucket, htarget]))
    · refine ih _ (by simpa [completeMove_bucket, hj] using htarget) ?_
      simpa [completeMove_bucket, hj] using h

/-- Moves that complete reach the NoC interface alone. -/
theorem foldl_completeMove_eq (l : List Nat) (s : State) : ∃ noc, l.foldl State.completeMove s = { s with noc := noc } := by
  induction l generalizing s with
  | nil => exact ⟨s.noc, rfl⟩
  | cons i l ih => exact ih (s.completeMove i)

/-- The transmit braid a handover leaves behind: nothing is held or waits, and the far end's last number is known. -/
def TxBraid.handed (t : TxBraid) : TxBraid :=
  { t with held := [], oldest := t.next, replay := none, finalGot := true, ctl := [] }

/-- The buckets that move away from a braid. -/
def State.leaving (s : State) (x : Fin 8) : List Nat :=
  (List.range 256).filter fun i => (s.bucket i).braid = x && (s.bucket i).moving

/-- A retired braid with nothing held and no CONTROL frame hands over what waits in its queues and its buckets. -/
theorem handover_of_empty (s : State) (x : Fin 8) (last : BitVec 16) (hheld : (s.link.tx.get x).held = [])
    (hctl : (s.link.tx.get x).ctl = []) : ∃ pool, s.handover x last =
      (s.leaving x).foldl State.completeMove (State.modTx { s with noc.pool := pool } x TxBraid.handed) := by
  unfold State.handover
  simp only [hheld, hctl, List.filter_nil, List.map_nil, List.append_nil, List.foldl_nil]
  exact ⟨_, rfl⟩

/-- The handover of such a braid: the buckets that leave it stand on their targets, and beside the NoC interface only the braid
itself has changed. -/
theorem handover_view (s : State) (x : Fin 8) (last : BitVec 16) (hheld : (s.link.tx.get x).held = [])
    (hctl : (s.link.tx.get x).ctl = []) : ∃ noc, s.handover x last = State.modTx { s with noc := noc } x TxBraid.handed
      ∧ ∀ i, i < 256 → (s.bucket i).braid = x ∧ (s.bucket i).moving = true →
        ((s.handover x last).bucket i).braid = (s.bucket i).target ∧ ((s.handover x last).bucket i).moving = false := by
  obtain ⟨pool, h⟩ := handover_of_empty s x last hheld hctl
  obtain ⟨noc, hnoc⟩ := foldl_completeMove_eq (s.leaving x) (State.modTx { s with noc.pool := pool } x TxBraid.handed)
  refine ⟨noc, h.trans hnoc, fun i hi hmoves => ?_⟩
  have hleaving : i ∈ s.leaving x := List.mem_filter.mpr ⟨List.mem_range.mpr hi, by simpa using hmoves⟩
  rw [h]
  exact foldl_completeMove_bucket _ _ _ i rfl (.inl hleaving)

theorem takeCtl_shape (r : RxBraid) (p : Nat × NocFlit × BitVec 16 → Bool) : (r.takeCtl p).shape = r.shape := by
  unfold RxBraid.takeCtl; split <;> rfl

/-- Taking a CONTROL frame out of a FIFO leaves every shape. -/
theorem dropCtl_shape (s : State) (b : Fin 8) (op : Nat) (p : NocFlit) (dir : Nat) (c : Fin 8) :
    (s.dropCtl b op p).shape dir c = s.shape dir c := by
  by_cases h : c = b
  · subst h; simp [State.shape, State.dropCtl, takeCtl_shape]
  · simp [State.shape, State.dropCtl, oct_get_upd_ne _ _ _ _ h]

/-- BRAID_FINAL of a retired braid with nothing held and no CONTROL frame, at a port at rest. -/
theorem braidFinal_hands (s : State) (b : Fin 8) (p : NocFlit) (hwaits : s.holds b 0x01 p)
    (hretired : (s.link.tx.get (oct (bf p 0 3))).ladder = .retired) (hnew : (s.link.tx.get (oct (bf p 0 3))).finalGot = false)
    (hheld : (s.link.tx.get (oct (bf p 0 3))).held = []) (hctl : (s.link.tx.get (oct (bf p 0 3))).ctl = []) :
    exec (.braidFinal b p) s = done ((s.dropCtl b 0x01 p).handover (oct (bf p 0 3)) (BitVec.ofNat 16 (bf p 3 16))) := by
  obtain ⟨hctlWaits, hstill⟩ := hwaits
  obtain ⟨noc, h, -⟩ := handover_view (s.dropCtl b 0x01 p) (oct (bf p 0 3)) (BitVec.ofNat 16 (bf p 3 16)) hheld hctl
  have hstep : ((s.dropCtl b 0x01 p).handover (oct (bf p 0 3)) (BitVec.ofNat 16 (bf p 3 16))).still = s.still := by
    rw [h]
    refine still_congr rfl rfl rfl rfl fun dir c => ?_
    exact (modTx_shape _ _ _ dir c (by intro t; rfl)).trans (dropCtl_shape s b 0x01 p dir c)
  have hmine : ((s.dropCtl b 0x01 p).link.tx.get (oct (bf p 0 3))).ladder == .retired
      && !((s.dropCtl b 0x01 p).link.tx.get (oct (bf p 0 3))).finalGot := by
    show ((s.link.tx.get (oct (bf p 0 3))).ladder == .retired && !(s.link.tx.get (oct (bf p 0 3))).finalGot) = true
    simp [hretired, hnew]
  show done (if s.ctlWaits b 0x01 p then _ else s) = _
  rw [if_pos hctlWaits]
  exact congrArg done ((if_pos hmine).trans (portStep_of_still _ (hstep.trans hstill)))

end Sys2Proof.Machine

open Sys2Proof Sys2Proof.Machine

/-- Settles O27, command by command: a braid that is told to retrain does (`startRetrain_retrains`), one whose retrain timed out
is tried again, and a braid or a port that comes back starts nothing of itself. -/
theorem ladderCompletes : Obligations.LadderCompletes := by
  refine ⟨?_, ?_, ?_, ?_, ?_, ?_, ?_⟩
  · rintro s b ⟨hcls, htrained, hfree, hopen, herrors, hport, hup, hnew, hlive⟩
    have hc : exec (.codewordLockLoss b) s = done (s.startRetrain b) :=
      congrArg done (if_pos (by simp [hcls, PortClass.isFibre, htrained, hfree, herrors]))
    obtain ⟨hladder, htx, hrx⟩ := (retrains_iff _ b).1 (startRetrain_retrains s b hopen hport hnew hup hlive)
    exact completes_done hc (by simpa using ⟨hladder, hrx, htx⟩)
  · rintro s b ⟨hopen, hport, hladder, hok0, hok1, htx, hrx, hlast0, hlast1⟩
    have hc : exec (.braidRetrainTimeout b) s = done (s.retrainTimeout b) :=
      congrArg done (if_pos (by simp [hopen, hport, hladder]))
    obtain ⟨hretrains, hfailed⟩ := retrainTimeout_retries s b hladder hok0 hok1 htx hrx hlast0 hlast1
    obtain ⟨hretraining, -, -⟩ := (retrains_iff _ b).1 hretrains
    exact completes_done hc (by simpa using ⟨hfailed, hretraining⟩)
  · rintro s b p ⟨hwaits, hretired, hnew, hheld, hctl⟩
    obtain ⟨noc, h, hbuckets⟩ :=
      handover_view (s.dropCtl b 0x01 p) (oct (bf p 0 3)) (BitVec.ofNat 16 (bf p 3 16)) hheld hctl
    refine completes_done (braidFinal_hands s b p hwaits hretired hnew hheld hctl) ⟨?_, fun i hi hmoves => ?_⟩
    · simp [h, TxBraid.handed]
    · simpa [State.bucket] using hbuckets i hi hmoves
  · rintro s b ⟨hopen, hretired, hnew, -, hport⟩
    have hc : exec (.braidFinalTimeout b) s = done s.startPortRetrain :=
      congrArg done (if_pos (by simp [hopen, hretired, hnew]))
    obtain ⟨hretraining, hst, hwithheld⟩ := startPortRetrain_port s hport
    have hcount : s.startPortRetrain.link.retrains = s.link.retrains + 1 := congrArg Prod.fst (startPortRetrain_tally s hport)
    exact completes_done hc (by simpa using ⟨hretraining, hst, hwithheld, hcount⟩)
  · rintro s ⟨hport, hfailed, hcmds⟩
    have hc : exec .portRetrainEnd s = done { s with start.failCode := 4, link.retraining := false } := by
      rw [← settlePortRetrain_of_none { s with start.failCode := 4, link.retraining := false } hcmds]
      simp [exec, execPortRetrainEnd, hport, hfailed]
    exact completes_done hc (by simp)
  · rintro s b ⟨hretrains, hok0, hok1, htx, hrx, hcmds, hfollows, hstill, ⟨hqueue, hwant, hsweep⟩, hwidth, h0, h1⟩
    have hc : exec (.braidRetrainComplete b) s = done ((s.comeUp b).afterRetrain b) :=
      congrArg done (if_pos (by simp [hretrains, hok0, hok1, State.retrained]))
    obtain ⟨⟨hopen, hport⟩, -⟩ : (s.start.st = .openSt ∧ s.link.retraining = false)
        ∧ (tfind s.start.taken (trKey 1 b.val)).isSome = true := by simpa [State.retrainsOpen] using hretrains
    obtain ⟨hrest, hview⟩ :=
      retrainComplete_up s b ⟨hfollows, hcmds, hqueue, hwant, hsweep, hwidth⟩ htx hopen hstill h0 h1
    simp only [State.trainView, trainOf, Prod.mk.injEq] at hview
    obtain ⟨hladder, htrained, -⟩ := hview
    have hst := (rest_read hrest (·.start.st) fun _ => rfl).trans hopen
    have hretraining := (rest_read hrest (·.link.retraining) fun _ => rfl).trans hport
    exact completes_done hc (by simpa [State.shape] using ⟨hladder, htrained, hst, hretraining⟩)
  · rintro s ⟨halone, hport, hfailed, hst, hsent, hgot, hcmds, hfollows, hstill, hbraids⟩
    have hc : exec .portRetrainEnd s = done s.portReturns := by
      simp [exec, execPortRetrainEnd, hport, hfailed, hst, hsent, hgot]
    choose hok0 hok1 htx _ hidle hwidth using hbraids
    have hsettled : ∀ b, s.Settled b := fun b => by
      obtain ⟨hqueue, hwant, hsweep⟩ := hidle b
      exact ⟨hfollows, hcmds, hqueue, hwant, hsweep, hwidth b⟩
    obtain ⟨hrest, hladder⟩ := portReturns_back s hsettled hok0 hok1 htx halone hstill
    refine completes_done hc ?_
    simp only [State.flushEvents_start, State.flushEvents_link, State.flushEvents_noc_crdInit]
    exact ⟨rest_read hrest (·.start.st) fun _ => rfl, rest_read hrest (·.link.retraining) fun _ => rfl,
      rest_read hrest (·.link.down) fun _ => rfl, rest_read hrest (·.noc.crdInit) fun _ => rfl, hladder⟩
end

section
/-!
LEMMAS. A fibre hub block takes the in-band copies of the TRAIN frames it hears (R90, R169): a CAL_DONE and a BIGHT_ACK are not
without effect on the link.
-/
namespace Sys2Proof.Machine

/-- A fibre hub block at a start-up step, of which BIGHT_REQs of some braids wait for their answer, and whose receive braid 0 holds
an in-band copy of a frame. -/
def fibreHubHolding (st : StartState) (waiting : BitVec 8) (f : SbFrame) : State :=
  { fibreHubWithCopy with
    start := { fibreHubWithCopy.start with st := st }
    bight := { fibreHubWithCopy.bight with waiting := waiting }
    link := { fibreHubWithCopy.link with rx := fibreHubWithCopy.link.rx.upd 0 fun r =>
      { r with ctlIn := [(0x10, BitVec.ofNat 576 (sbWord f).toNat, 0)] } } }

theorem ctlWaiting_fibreHubHolding (st : StartState) (waiting : BitVec 8) (f : SbFrame) :
    ctlWaiting (fibreHubHolding st waiting f) = 1 := rfl

/-- A command that takes the copy out of the FIFO changes the link. -/
theorem link_ne_of_copyTaken {c : Instr} {st : StartState} {waiting : BitVec 8} {f : SbFrame} {t u : State}
    (hc : exec c (fibreHubHolding st waiting f) = done u) (htaken : ctlWaiting u = 0)
    (hstep : exec c (fibreHubHolding st waiting f) = .next t) : t.link ≠ (fibreHubHolding st waiting f).link := by
  intro hlink
  have hkept : ctlWaiting t = 1 := congrArg (fun l => (l.rx.get 0).ctlIn.length) hlink
  have hposted : u.flushEvents = t := Host.Outcome.next.inj ((done_eq u).symm.trans (hc.symm.trans hstep))
  rw [← hposted, ctlWaiting, State.flushEvents_link] at hkept
  exact absurd (hkept.symm.trans htaken) (by decide)

/-- A CAL_DONE with OK: phase 6, bit 11 of the payload. -/
def calDoneCopied : SbFrame := ⟨3, 0, false, 0xFF, 0, 0xFF, 0, 0x806⟩

/-- A fibre hub block in CALIBRATE that holds a copy of the CAL_DONE. -/
def calibratingWithCopy : State := fibreHubHolding .calibrate 0 calDoneCopied

/-- The CAL_DONE is a frame the block takes. -/
theorem calibratingWithCopy_takes : calibratingWithCopy.takesTrain calDoneCopied 6 :=
  ⟨rfl, by decide, rfl, by decide, by decide, rfl, rfl⟩

/-- A BIGHT_ACK of an entry on braid 0, not refused: phase 9, bit 11 of the payload. -/
def bightAckCopied : SbFrame := ⟨3, 0, false, 0xFF, 0, 0xFF, 0, 0x809⟩

/-- An OPEN fibre hub block that holds a copy of the BIGHT_ACK braid 0 waits for. -/
def bightWaitingWithCopy : State := fibreHubHolding .openSt 1 bightAckCopied

end Sys2Proof.Machine

open Sys2Proof Sys2Proof.Machine

/-- Refutes O33: a fibre hub block in CALIBRATE takes a CAL_DONE whose in-band copy waits at a receive braid, and takes the copy
out of that braid (R90), where the second clause says that the link stays as it was. -/
theorem not_lateStepsComplete : ¬ Obligations.LateStepsComplete := by
  rintro ⟨-, hcalDone, -⟩
  obtain ⟨t, hstep, -, -, hlink⟩ := hcalDone calibratingWithCopy calDoneCopied
    ⟨calibratingWithCopy_takes, by decide, rfl, rfl⟩
  exact link_ne_of_copyTaken rfl (by decide +kernel) hstep hlink

/-- Refutes O16: an OPEN fibre hub block hears the BIGHT_ACK a braid waits for, whose in-band copy waits at a receive braid, and
takes the copy out of that braid (R90), where the third clause says that the link stays as it was. -/
theorem not_bightCompletes : ¬ Obligations.BightCompletes := by
  rintro ⟨-, -, hack, -⟩
  obtain ⟨t, hstep, -, -, hlink⟩ := hack bightWaitingWithCopy bightAckCopied
    ⟨rfl, by decide, rfl, by decide, rfl, rfl, by decide, by decide, by decide⟩
  exact link_ne_of_copyTaken rfl (by decide +kernel) hstep hlink
end

section
/-!
SUPPORT. What strand detect and the lane maps change of start-up (R100 to R106): classifying strands and loading maps leave it, an
observation that ends marks its braid, and the steps that follow keep what is known of every detect.
-/
namespace Sys2Proof.Machine

/-- A fold whose step marks its braid, and unmarks none, marks every braid of its list. -/
theorem foldl_marks {P : State → Fin 8 → Prop} {g : State → Fin 8 → State} (hmark : ∀ u b, P (g u b) b)
    (hkeep : ∀ u b c, P u c → P (g u b) c) (l : List (Fin 8)) (s : State) {b : Fin 8} (h : b ∈ l ∨ P s b) :
    P (l.foldl g s) b := by
  induction l generalizing s with
  | nil => exact h.resolve_left (by simp)
  | cons c l ih =>
    refine ih (g s c) ?_
    rcases h with hmem | hmarked
    · rcases List.mem_cons.mp hmem with rfl | hl
      · exact .inr (hmark s b)
      · exact .inl hl
    · exact .inr (hkeep s c b hmarked)

/-- What the frames to repeat are no part of, a TRAIN frame sent keeps. -/
theorem sendTrain_keeps {α : Type} (p : Start → α) (hp : ∀ x r, p { x with repeats := r } = p x) (s : State)
    (phase braid attempt : Nat) (fields : List (Nat × Nat × Nat)) :
    p (s.sendTrain phase braid attempt fields).start = p s.start := by
  obtain ⟨r, hr⟩ := sendTrain_start s phase braid attempt fields
  rw [hr, hp]

section
variable (s : State) (dir : Nat) (b : Fin 8) (p : Nat)

/-! ### Classification of strands (R101 to R104) -/

@[simp] theorem reportCode_start (k : Nat) (retired : Bool) : (s.reportCode dir b p k retired).start = s.start := by
  simp [State.reportCode, apply_ite State.start]

@[simp] theorem lapseDetect_start : (s.lapseDetect dir b p).start = s.start := by
  simp [State.lapseDetect, apply_ite State.start]

@[simp] theorem classRx_start (l : Heards) (tile : Fin 8) : (s.classRx l tile b p).start = s.start := by
  simp [State.classRx, apply_ite State.start]

@[simp] theorem classTx_start (l : List (Fin 8 × Nat × TxObs)) : (s.classTx l b).start = s.start :=
  foldl_keeps State.start _ _ s fun u q _ => by simp [apply_ite State.start]

/-! ### Lane maps (R105, R106) -/

@[simp] theorem setMap_start (map : List Nat) (clock : Nat) : (s.setMap dir b map clock).start = s.start := by
  unfold State.setMap
  exact (foldl_keeps State.start _ _ _ (by intro u q hq; rfl)).trans (modShape_start s dir b _)

@[simp] theorem settleSpares_start : (s.settleSpares dir b).start = s.start :=
  foldl_keeps State.start _ _ s fun u q _ => by split <;> rfl

@[simp] theorem loadMap_start (m : Nat) : (s.loadMap dir b m).start = s.start := by
  simp [State.loadMap, apply_ite State.start]

@[simp] theorem excludeTx_start : (s.excludeTx b p).start = s.start := by
  simp [State.excludeTx, State.pick, State.free, apply_ite State.start]

/-! ### Ends of an observation (R100 to R104) -/

/-- The observation of a transmit braid's pads marks it observed. -/
theorem observeTx_start (l : List (Fin 8 × Nat × TxObs)) : (s.observeTx l b).start =
    { s.start with txb := s.start.txb.upd b fun x => { x with observed := true } } := by
  simp [State.observeTx]

/-- The usable set of a far braid is noted as reported, and DETECT_RESULT goes out (R104). -/
def State.sendResult (attempt : Nat) : State :=
  State.sendTrain { s with start.rxb := s.start.rxb.upd b fun x =>
    { x with usable := BitVec.ofNat 36 (s.usableMask 1 b), resultSent := true } } 2 b.val attempt
      (resultFields s.cls (s.usableMask 1 b))

/-- The observation of a far braid ends with its strands classified, which leaves start-up, and its usable set reported. -/
theorem endObserve_eq (l : Heards) (attempt : Nat) :
    ∃ u : State, u.start = s.start ∧ s.endObserve l b attempt = u.sendResult b attempt := by
  refine ⟨_, ?_, rfl⟩
  split
  · exact foldl_keeps State.start _ _ s fun u q _ => classRx_start u b q l _
  · exact foldl_keeps State.start _ _ s fun u q _ => by simp [apply_ite State.start]

theorem endObserve_start (l : Heards) (attempt : Nat) : ∃ m r, (s.endObserve l b attempt).start =
    { s.start with rxb := s.start.rxb.upd b fun x => { x with usable := m, resultSent := true }, repeats := r } := by
  obtain ⟨u, hu, h⟩ := endObserve_eq s b l attempt
  obtain ⟨r, hr⟩ := sendTrain_start { u with start.rxb := u.start.rxb.upd b fun x =>
    { x with usable := BitVec.ofNat 36 (u.usableMask 1 b), resultSent := true } } 2 b.val attempt
      (resultFields u.cls (u.usableMask 1 b))
  exact ⟨_, r, by rw [h, State.sendResult, hr, hu]⟩

/-! ### What is known of every detect -/

/-- What a detect tells of a transmit braid: its pads are observed, the DETECT_RESULT has come, and its mask. -/
def StartBraid.told (x : StartBraid) : Bool × Bool × BitVec 36 := (x.observed, x.resultGot, x.far)

/-- What is known of every detect: whether the port has been OPEN, the results sent, and what is told of the transmit braids. -/
def Start.detected (x : Start) : Bool × Oct Bool × Oct (Bool × Bool × BitVec 36) :=
  (x.opened, x.rxb.map StartBraid.resultSent, x.txb.map StartBraid.told)

/-- A change of a transmit braid's maps keeps what is known of every detect. -/
theorem detected_updTx (x : Start) (g : StartBraid → StartBraid) (r : Tbl SbFrame) (hg : ∀ y, (g y).told = y.told) :
    Start.detected { x with txb := x.txb.upd b g, repeats := r } = x.detected :=
  congrArg (fun o => (x.opened, x.rxb.map StartBraid.resultSent, o)) (oct_map_upd StartBraid.told x.txb b g hg)

theorem useResult_detected : (s.useResult b).start.detected = s.start.detected := by
  unfold State.useResult
  dsimp only
  split
  · rfl
  · rw [loadMap_start]
    dsimp only
    rw [foldl_keeps State.start _ _ s fun u p _ => by split <;> simp]
    exact detected_updTx b s.start _ s.start.repeats fun _ => rfl

theorem sendMap_detected : (s.sendMap b).start.detected = s.start.detected :=
  (sendTrain_keeps Start.detected (fun _ _ => rfl) _ _ _ _ _).trans
    (detected_updTx b s.start _ s.start.repeats fun _ => rfl)

/-- The step to SPLICE, where it is taken, keeps what is known of every detect. -/
theorem trySplice_detected : s.trySplice.start.detected = s.start.detected := by
  unfold State.trySplice
  split
  · rfl
  · split
    · dsimp only
      rw [foldl_keeps (fun u => u.start.detected) _ _ _ fun u c _ => sendMap_detected u c,
        foldl_keeps (fun u => u.start.detected) _ _ _ fun u c _ => congrArg Start.detected (loadMap_start u 1 c _)]
      exact foldl_keeps (fun u => u.start.detected) _ octs s fun u c _ => useResult_detected u c
    · rfl

end

/-- A change of another braid keeps a mark of this one. -/
theorem oct_get_upd_marked {α : Type} {P : α → Prop} {g : α → α} (hg : ∀ x, P x → P (g x)) (o : Oct α) (b c : Fin 8)
    (h : P (o.get c)) : P ((o.upd b g).get c) := by
  by_cases hc : c = b
  · subst hc; simpa using hg _ h
  · rwa [oct_get_upd_ne _ _ _ _ hc]

/-- The observation of some braids ends: each is observed and its result is sent; the patterns stay, and whether the port has been
OPEN. -/
theorem observeGroup_marks (s : State) (bs : List (Fin 8)) (rx : Heards) (tx : List (Fin 8 × Nat × TxObs)) :
    (∀ b ∈ bs, ((s.observeGroup bs rx tx).start.rxb.get b).resultSent = true
      ∧ ((s.observeGroup bs rx tx).start.txb.get b).observed = true)
    ∧ (s.observeGroup bs rx tx).start.patterns = s.start.patterns
    ∧ (s.observeGroup bs rx tx).start.opened = s.start.opened := by
  have ended : ∀ (u : State) (c : Fin 8), (u.endObserve rx c 0).start.txb = u.start.txb
      ∧ ((u.endObserve rx c 0).start.patterns, (u.endObserve rx c 0).start.opened) = (u.start.patterns, u.start.opened) := by
    intro u c
    obtain ⟨m, r, h⟩ := endObserve_start u c rx 0
    rw [h]
    exact ⟨rfl, rfl⟩
  unfold State.observeGroup
  dsimp only
  refine ⟨fun b hb => ⟨?_, ?_⟩, ?_⟩
  · refine foldl_marks (P := fun u c => (u.start.rxb.get c).resultSent = true) (fun u c => ?_) (fun u c d h => ?_) bs _ (.inl hb)
    · obtain ⟨m, r, he⟩ := endObserve_start u c rx 0
      simp [he]
    · obtain ⟨m, r, he⟩ := endObserve_start u c rx 0
      rw [he]
      exact oct_get_upd_marked (P := fun x : StartBraid => x.resultSent = true) (fun _ _ => rfl) _ _ _ h
  · rw [foldl_keeps (fun u => u.start.txb) _ _ _ fun u c _ => (ended u c).1]
    refine foldl_marks (P := fun u c => (u.start.txb.get c).observed = true) (fun u c => ?_) (fun u c d h => ?_) bs _ (.inl hb)
    · simp [observeTx_start]
    · rw [observeTx_start]
      exact oct_get_upd_marked (P := fun x : StartBraid => x.observed = true) (fun _ _ => rfl) _ _ _ h
  · refine Prod.mk.inj ?_
    rw [foldl_keeps (fun u => (u.start.patterns, u.start.opened)) _ _ _ fun u c _ => (ended u c).2,
      foldl_keeps (fun u => (u.start.patterns, u.start.opened)) _ _ _ fun u c _ => by rw [observeTx_start]]
    exact foldl_keeps (fun u => (u.start.patterns, u.start.opened)) _ bs s fun _ _ _ => rfl

theorem detected_eq {x y : Start} (h : x.detected = y.detected) : x.opened = y.opened
    ∧ ∀ b, (x.rxb.get b).resultSent = (y.rxb.get b).resultSent ∧ (x.txb.get b).told = (y.txb.get b).told := by
  obtain ⟨hopened, hmaps⟩ := Prod.mk.inj h
  obtain ⟨hsent, htold⟩ := Prod.mk.inj hmaps
  exact ⟨hopened, fun b => ⟨by simpa using congrArg (Oct.get · b) hsent, by simpa using congrArg (Oct.get · b) htold⟩⟩

/-- The observation of a start ends: the braids observed are reported, a fibre port's first group is followed by its second, and the
step to SPLICE may follow. -/
theorem observeAll_reports (s : State) (rx : Heards) (tx : List (Fin 8 × Nat × TxObs)) (hst : s.start.st = .detect)
    (hgoes : s.start.failed = false) (hruns : s.start.patterns ≠ 0) :
    (∀ b : Fin 8, bit s.start.patterns b.val = true → ((s.observeAll rx tx).start.rxb.get b).resultSent = true
      ∧ ((s.observeAll rx tx).start.txb.get b).observed = true)
    ∧ (s.start.patterns = 0x0F → (s.observeAll rx tx).start.patterns = 0xF0)
    ∧ (s.observeAll rx tx).start.opened = s.start.opened := by
  obtain ⟨hmarks, hpatterns, hopened⟩ := observeGroup_marks s (octs.filter fun b => bit s.start.patterns b.val) rx tx
  have reported : ∀ b : Fin 8, bit s.start.patterns b.val = true → _ := fun b hb =>
    hmarks b (List.mem_filter.mpr ⟨mem_octs b, hb⟩)
  unfold State.observeAll
  rw [if_neg (by simpa [hst, hgoes] using hruns)]
  dsimp only
  split
  · exact ⟨reported, fun _ => rfl, hopened⟩
  · next hsecond =>
    obtain ⟨hopen, htold⟩ := detected_eq (trySplice_detected (s.observeGroup _ rx tx))
    refine ⟨fun b hb => ?_, fun hfirst => absurd (hpatterns.trans hfirst) hsecond, hopen.trans hopened⟩
    obtain ⟨hsent, hseen⟩ := htold b
    obtain ⟨hreported, hobserved⟩ := reported b hb
    exact ⟨hsent.trans hreported, (congrArg (·.1) hseen).trans hobserved⟩

/-! ### The end of step 6 (R105, R106) -/

@[simp] theorem retireStrands_start (s : State) (dir : Nat) (b : Fin 8) : (s.retireStrands dir b).start = s.start :=
  foldl_keeps State.start _ _ s fun _ _ _ => rfl

/-- A direction retired before the port has been OPEN leaves start-up. -/
theorem retireStart_start (s : State) (dir : Nat) (b : Fin 8) (h : s.start.opened = false) :
    (s.retireStart dir b).start = s.start := by
  simp [State.retireStart, h, apply_ite State.start]

theorem dropEmpty_start (s : State) (b : Fin 8) (h : s.start.opened = false) : (s.dropEmpty b).start = s.start := by
  unfold State.dropEmpty
  dsimp only
  split <;> split <;> simp [retireStart_start, h]

/-- The end of step 6 of a start, reached or not, keeps what is known of the receive braids. -/
theorem tryTrain_rxb (s : State) (h : s.start.opened = false) : s.tryTrain.start.rxb = s.start.rxb := by
  unfold State.tryTrain
  split
  · rfl
  · next hgoes =>
    split
    · have hdropped : (octs.foldl State.dropEmpty s).start = s.start :=
        List.foldlRecOn (motive := fun u => u.start = s.start) octs _ rfl fun u hu b _ =>
          (dropEmpty_start u b (by rw [hu]; exact h)).trans hu
      generalize octs.foldl State.dropEmpty s = u at hdropped
      have hrxb : u.start.rxb = s.start.rxb := congrArg Start.rxb hdropped
      dsimp only
      split
      · simp only [Bool.or_eq_true, not_or, Bool.not_eq_true] at hgoes
        rw [startFail_start u 3 (by rw [hdropped]; exact hgoes.2)]
        exact hrxb
      · exact (sendTrain_keeps Start.rxb (fun _ _ => rfl) _ _ _ _ _).trans hrxb
    · rfl

end Sys2Proof.Machine
end

section
/-!
LEMMAS. What the commands of strand detect and of the agreement of its maps do (R98 to R106).
-/
namespace Sys2Proof.Machine

@[simp] theorem trainTaken_start (s : State) (f : SbFrame) (phase : Nat) (rx : Oct RxBraid) : (s.trainTaken f phase rx).start =
    { s.start with
      taken := tput s.start.taken (trKey phase (trBraid f.payload).val) f.payload
      repeats := tdel s.start.repeats (trKey phase (trBraid f.payload).val) } := rfl

@[simp] theorem trainTaken_cls (s : State) (f : SbFrame) (phase : Nat) (rx : Oct RxBraid) :
    (s.trainTaken f phase rx).cls = s.cls := rfl

@[simp] theorem startAllPatterns_start (s : State) : s.startAllPatterns.start =
    { s.start with patterns := if s.cls.isFibre then 0x0F else 0xFF, patAt := s.now } := rfl

/-- A DETECT_GO of the start's detect starts the patterns of the port, once this end's has gone. -/
theorem detectGo_first (s : State) (b : Fin 8) {n : Nat} (x : BitVec 64) (hst : s.start.st = .detect) (hn : n = 0) :
    s.detectGo b n x = if s.start.goSent then s.startAllPatterns else s := by
  simp [State.detectGo, hst, hn]

/-- A DETECT_GO of a second attempt, where this end's own is under way: the identity patterns of its braid run, and its pads are to
be read again. -/
theorem detectGo_again (s : State) (b : Fin 8) {n : Nat} (x : BitVec 64) (hst : s.start.st = .splice)
    (hown : (s.start.rxb.get b).attempt = 1) (hn : n = 1) : s.detectGo b n x =
      { s.startPattern b with start.txb := s.start.txb.upd b fun y => { y with observed := false } } := by
  simp [State.detectGo, State.detectAgain, State.backToSplice, State.startPattern, State.startPatterns, hst, hown, hn]

/-- A DETECT_RESULT of the start's detect is noted with its mask, and step 6 may begin. -/
theorem detectResult_noted (s : State) (b : Fin 8) (far : Nat) {n : Nat} (hst : s.start.st = .detect) (hn : n = 0) :
    ((s.detectResult b far n).start.txb.get b).resultGot = true
      ∧ ((s.detectResult b far n).start.txb.get b).far = BitVec.ofNat 36 far := by
  have h : s.detectResult b far n = (s.noteResult b far 0).trySplice := by
    simp [State.detectResult, State.noteResult, hst, hn]
  obtain ⟨-, htold⟩ := detected_eq (trySplice_detected (s.noteResult b far 0))
  obtain ⟨-, htold⟩ := htold b
  rw [h]
  simpa [StartBraid.told, State.noteResult] using congrArg Prod.snd htold

/-- A MAP_AGREE that agrees with the own map is noted, and step 6 may end. -/
theorem mapAgree_agrees (s : State) (b : Fin 8) {far : Nat} (hst : s.start.st = .splice) (hopened : s.start.opened = false)
    (hagrees : s.ownMapCrc b = far) :
    (s.mapAgree b far).start.rxb = s.start.rxb.upd b fun x => { x with mapGot := true, mapOk := true } := by
  have h : s.mapAgree b far =
      State.tryTrain { s with start.rxb := s.start.rxb.upd b fun x => { x with mapGot := true, mapOk := true } } := by
    simp [State.mapAgree, hst, hagrees]
  rw [h]
  exact tryTrain_rxb _ hopened

/-- A first MAP_AGREE that differs from the own map asks for the second detect of its direction. -/
theorem mapAgree_differs (s : State) (b : Fin 8) (far : Nat) (hfirst : (s.start.rxb.get b).attempt = 0)
    (hdiffers : s.ownMapCrc b ≠ far) : ∃ r, (s.mapAgree b far).start =
      { s.start with rxb := s.start.rxb.upd b fun x => { x with attempt := 1, resultSent := false }, repeats := r } := by
  obtain ⟨r, hr⟩ := sendTrain_start
    { s with start.rxb := s.start.rxb.upd b fun x => { x with attempt := 1, resultSent := false } } 1 b.val 1 []
  refine ⟨r, ?_⟩
  unfold State.mapAgree
  dsimp only
  rw [if_neg hdiffers, if_pos hfirst]
  exact hr

end Sys2Proof.Machine

open Sys2Proof Sys2Proof.Machine

/-- Settles O31, command by command: an observation that ends marks its braids (`observeAll_reports`), and what follows a
DETECT_RESULT or a MAP_AGREE keeps what it told (`trySplice_detected`, `tryTrain_rxb`). -/
theorem detectCompletes : Obligations.DetectCompletes := by
  refine ⟨?_, ?_, ?_, ?_, ?_, ?_⟩
  · rintro s f ⟨htakes, hst, hattempt⟩
    obtain ⟨rx, h⟩ := takeTrain_takes s f 1 (fun u => u.detectGo (trBraid f.payload) (trAttempt f.payload) f.payload) htakes
    refine completes_done (congrArg done (h.trans (detectGo_first _ _ _ hst hattempt))) ?_
    cases hsent : s.start.goSent
    · simp [hsent, hst]
    · have hgo : (s.trainTaken f 1 rx).start.goSent = true := hsent
      exact ⟨by rw [State.flushEvents_start, if_pos hgo]; rfl, by simp [hsent, hst], by simp [hsent]⟩
  · rintro s f ⟨htakes, hst, hattempt, hown⟩
    obtain ⟨rx, h⟩ := takeTrain_takes s f 1 (fun u => u.detectGo (trBraid f.payload) (trAttempt f.payload) f.payload) htakes
    exact completes_done (congrArg done (h.trans (detectGo_again _ _ _ hst hown hattempt)))
      (by simp [hst, State.startPattern, State.startPatterns, bit_setBf_one])
  · rintro s rx tx ⟨hst, hgoes, hruns⟩
    have hreports := observeAll_reports s (heards s.cls rx) tx hst hgoes hruns
    exact completes_done (u := s.observeAll (heards s.cls rx) tx) rfl (by simpa using hreports)
  · rintro s f ⟨htakes, hst, hattempt⟩
    obtain ⟨rx, h⟩ := takeTrain_takes s f 2
      (fun u => u.detectResult (trBraid f.payload) (resultMask u.cls f.payload) (trAttempt f.payload)) htakes
    have hnoted := detectResult_noted (s.trainTaken f 2 rx) (trBraid f.payload) (resultMask s.cls f.payload) hst hattempt
    exact completes_done (congrArg done h) (by simpa using hnoted)
  · rintro s f ⟨htakes, hst, hopened, hagrees⟩
    obtain ⟨rx, h⟩ := takeTrain_takes s f 3 (fun u => u.mapAgree (trBraid f.payload) (bf f.payload 11 32)) htakes
    have hrxb := mapAgree_agrees (s.trainTaken f 3 rx) (trBraid f.payload) hst hopened hagrees
    exact completes_done (congrArg done h) (by simp [hrxb])
  · rintro s f ⟨htakes, hst, hfirst, hdiffers⟩
    obtain ⟨rx, h⟩ := takeTrain_takes s f 3 (fun u => u.mapAgree (trBraid f.payload) (bf f.payload 11 32)) htakes
    obtain ⟨r, hstart⟩ := mapAgree_differs (s.trainTaken f 3 rx) (trBraid f.payload) (bf f.payload 11 32) hfirst hdiffers
    exact completes_done (congrArg done h) (by simp [hstart, hst])
end

section
/-!
LEMMAS. What the timers of the link and of a lashing leave as it was (R129, R158, R162, R168, R176, R203, R214, R311, R315, R318):
posting and completing reach the rings, the records of events and the egress queue of the ring engine alone (`State.besidesPosts`).
-/
namespace Sys2Proof.Machine

/-- The NoC interface without the egress queue of the ring engine. -/
def State.nocRest (s : State) : Noc := { s.noc with qRing := [] }

/-- The state without what posting an event or completing a descriptor may change. -/
def State.besidesPosts (s : State) : State := { s.keep .rings with noc := s.nocRest }

theorem besidesPosts_eq {s t : State} (hkeep : t.keep .rings = s.keep .rings) (hnoc : t.nocRest = s.nocRest) :
    t.besidesPosts = s.besidesPosts := by simp only [State.besidesPosts, hkeep, hnoc]

/-! ### Posting and completing -/

section
variable (s : State)

theorem writeShadow_nocRest (k : Fin 8) : (s.writeShadow k).nocRest = s.nocRest :=
  foldl_keeps State.nocRest _ _ _ fun _ _ _ => rfl

theorem fetchMore_nocRest (n : Nat) (s : State) (r : Nat) : (State.fetchMore n s r).nocRest = s.nocRest := by
  induction n generalizing s with
  | zero => rfl
  | succ n ih =>
    unfold State.fetchMore
    dsimp only
    split
    · exact ih _
    · rfl

theorem drainedRing_nocRest (r : Nat) : (s.drainedRing r).nocRest = s.nocRest := by
  have left : ∀ (u : State) (k : Fin 8), (u.leaveLine k).nocRest = u.nocRest := fun u k => by
    unfold State.leaveLine; split <;> rfl
  unfold State.drainedRing
  dsimp only
  split
  · exact (left _ _).trans (writeShadow_nocRest s _)
  · rfl

theorem completeOne_nocRest (r : Nat) (i : BitVec 32) (status result detail : Nat) :
    (s.completeOne r i status result detail).nocRest = s.nocRest := by
  unfold State.completeOne
  split
  · rfl
  · dsimp only
    rw [fetchMore_nocRest, drainedRing_nocRest]
    split <;> rfl

theorem settleCancels_nocRest (n : Nat) (s : State) : (State.settleCancels n s).nocRest = s.nocRest := by
  induction n generalizing s with
  | zero => rfl
  | succ n ih =>
    unfold State.settleCancels
    split
    · rfl
    · exact (ih _).trans (completeOne_nocRest _ _ _ _ _ _)

theorem complete_besidesPosts (r : Nat) (i : BitVec 32) (status result detail : Nat) :
    (s.complete r i status result detail).besidesPosts = s.besidesPosts :=
  besidesPosts_eq (State.complete_kept .rings s r i status result detail)
    ((settleCancels_nocRest _ _).trans (completeOne_nocRest s r i status result detail))

theorem countEvent_nocRest (e : Event) : (s.countEvent e).nocRest = s.nocRest := by
  have posted : ∀ (u : State) (seq ts : Nat), (u.post e seq ts).nocRest = u.nocRest := fun u seq ts => by
    unfold State.post; split <;> rfl
  unfold State.countEvent
  dsimp only
  split
  · exact posted _ _ _
  · split
    · exact posted _ _ _
    · rfl

theorem flushEvents_besidesPosts : s.flushEvents.besidesPosts = s.besidesPosts :=
  besidesPosts_eq (State.flushEvents_kept .rings s) (by
    unfold State.flushEvents
    exact foldl_countEvent State.nocRest countEvent_nocRest _ _)

/-! ### The timers of the link -/

/-- The state without what the timers of the link may change, and posting with them. -/
def State.besidesTimers (s : State) : State :=
  { s.besidesPosts with
    link := zeroLink, cal := zeroCal, noc := { s.nocRest with stalls := 0, egStalled := 0 } }

/-- What leaves all but what posting changes leaves all but what the timers do. -/
theorem besidesTimers_of_posts {s t : State} (h : t.besidesPosts = s.besidesPosts) : t.besidesTimers = s.besidesTimers :=
  (congrArg State.besidesTimers h :)

theorem oweFrame_besidesTimers (b : Fin 8) : (s.oweFrame b).besidesTimers = s.besidesTimers := by
  unfold State.oweFrame; split <;> rfl

theorem complete_besidesTimers (r : Nat) (i : BitVec 32) (status result detail : Nat) :
    (s.complete r i status result detail).besidesTimers = s.besidesTimers :=
  besidesTimers_of_posts (complete_besidesPosts s r i status result detail)

/-- A record posted raises its event, and a scan it ends completes. -/
theorem postQual_besidesTimers (q : QualWait) : (s.postQual q).besidesTimers = s.besidesTimers := by
  unfold State.postQual
  dsimp only
  generalize hu : (if q.kind = 0 then _ else s.raiseBody 1 q.body (bitsOf q.body 6 3) : State) = u
  have raised : u.besidesTimers = s.besidesTimers := by rw [← hu]; split <;> rfl
  split
  · exact raised
  · split
    · split
      · exact (complete_besidesTimers _ _ _ _ _ _).trans raised
      · exact raised
    · exact raised

theorem postWaiting_besidesTimers (n : Nat) (s : State) : (State.postWaiting n s).besidesTimers = s.besidesTimers := by
  induction n generalizing s with
  | zero => rfl
  | succ n ih =>
    unfold State.postWaiting
    split
    · dsimp only
      split
      · rw [ih, postQual_besidesTimers]; rfl
      · rfl
    · dsimp only
      split
      · rw [ih, postQual_besidesTimers]; rfl
      · rfl
    · rfl

theorem eyePoints_besidesTimers (b : Fin 8) (p : Nat) (m : Meas) : (s.eyePoints b p m).besidesTimers = s.besidesTimers := by
  unfold State.eyePoints
  split
  · rfl
  · exact postWaiting_besidesTimers _ _

theorem txStepDone_besidesTimers (b : Fin 8) (codes : Reg) : (s.txStepDone b codes).besidesTimers = s.besidesTimers := by
  unfold State.txStepDone
  split
  · rfl
  · split <;> rfl

/-- A timer of the link completes by posting its events, and leaves the rest. -/
theorem timerCommand_done (c : Instr) (h : c.ofTimers = true) :
    ∃ u, exec c s = done u ∧ u.besidesTimers = s.besidesTimers := by
  cases c
  case standinLockComplete b => exact ⟨_, rfl, by (repeat' split) <;> rfl⟩
  case nakRepeat b => exact ⟨_, rfl, by split; exacts [oweFrame_besidesTimers _ b, rfl]⟩
  case ackTimerExpiry b => exact ⟨_, rfl, by split; exacts [oweFrame_besidesTimers _ b, rfl]⟩
  case idleDue b => exact ⟨_, rfl, by split <;> rfl⟩
  case vcStall b v egress => exact ⟨_, rfl, by dsimp only; (repeat' split) <;> rfl⟩
  case staleTemp => exact ⟨_, rfl, by split <;> rfl⟩
  case qualityRecordPost => exact ⟨_, rfl, postWaiting_besidesTimers 400 s⟩
  case eyeScanPointSetComplete b p m => exact ⟨_, rfl, eyePoints_besidesTimers s b p m⟩
  case prbsTestDone r i n => exact ⟨_, rfl, by split; exacts [complete_besidesTimers _ _ _ _ _ _, rfl]⟩
  case transmitCalStepComplete b codes => exact ⟨_, rfl, txStepDone_besidesTimers s b codes⟩
  all_goals cases h

/-! ### The timers of a lashing -/

/-- The state without what the timers of a lashing may change, and posting with them. -/
def State.besidesLash (s : State) : State :=
  { s.besidesPosts with lash := zeroLash, link := { s.link with tx := Oct.all zeroTxBraid } }

theorem endLash_besidesLash (code : Nat) : (s.endLash code).besidesLash = s.besidesLash :=
  foldl_keeps State.besidesLash _ _ _ fun u c _ =>
    (congrArg State.besidesLash (complete_besidesPosts u c.1.val c.2 0x0C 0 code) :)

/-- A timer of a lashing completes by posting its events, and leaves the rest. -/
theorem lashTimer_done (c : Instr) (h : c.ofLashTimers = true) :
    ∃ u, exec c s = done u ∧ u.besidesLash = s.besidesLash := by
  cases c
  case lashDigestReady =>
    refine ⟨_, rfl, ?_⟩
    split
    · split
      · exact endLash_besidesLash s 6
      · rfl
    · rfl
  case lashWindowExpiry => exact ⟨_, rfl, by split; exacts [endLash_besidesLash s 3, rfl]⟩
  case leaderLinkTimeout =>
    refine ⟨_, rfl, ?_⟩
    split
    · rfl
    · split
      · exact endLash_besidesLash (s.withdraw 7) 7
      · split <;> rfl
  case followerLinkTimeout => exact ⟨_, rfl, by split; exacts [endLash_besidesLash s 7, rfl]⟩
  all_goals cases h

end

end Sys2Proof.Machine

open Sys2Proof Sys2Proof.Machine

/-- Settles O58: what the first group leaves alone is in `State.besidesTimers`, and what the second leaves alone in
`State.besidesLash`. -/
theorem timerCommandsFrame : Obligations.TimerCommandsFrame := by
  constructor
  · rintro s t c ⟨hc, hx⟩
    obtain ⟨u, hu, hkeep⟩ := timerCommand_done s c hc
    obtain rfl : u.flushEvents = t := by rw [hu, done_eq] at hx; injection hx
    have h := (besidesTimers_of_posts (flushEvents_besidesPosts u)).trans hkeep
    generalize u.flushEvents = t at h
    exact ⟨(congrArg State.straps h :), (congrArg State.aon h :), (congrArg State.clk h :), (congrArg State.sb h :),
      (congrArg State.test h :), (congrArg State.start h :), (congrArg State.red h :), (congrArg State.ht h :),
      (congrArg State.cfg h :), (congrArg State.agent h :), (congrArg State.pwr h :), (congrArg State.lash h :),
      (congrArg State.ten h :), (congrArg State.mtr h :), (congrArg State.bight h :), (congrArg State.glob h :),
      (congrArg State.out h :), (congrArg (fun x : State =>
        { x.noc with stalls := t.noc.stalls, egStalled := t.noc.egStalled, qRing := t.noc.qRing }) h :)⟩
  · rintro s t c ⟨hc, hx⟩
    obtain ⟨u, hu, hkeep⟩ := lashTimer_done s c hc
    obtain rfl : u.flushEvents = t := by rw [hu, done_eq] at hx; injection hx
    have h : u.flushEvents.besidesLash = s.besidesLash :=
      (congrArg State.besidesLash (flushEvents_besidesPosts u) :).trans hkeep
    generalize u.flushEvents = t at h
    exact ⟨(congrArg State.straps h :), (congrArg State.aon h :), (congrArg State.clk h :), (congrArg State.sb h :),
      (congrArg State.test h :), (congrArg State.start h :), (congrArg State.cal h :), (congrArg State.red h :),
      (congrArg State.ht h :), (congrArg State.cfg h :), (congrArg State.agent h :), (congrArg State.pwr h :),
      (congrArg State.ten h :), (congrArg State.mtr h :), (congrArg State.bight h :), (congrArg State.glob h :),
      (congrArg State.out h :), (congrArg (fun x : State => x.link.rx) h :),
      (congrArg (fun x : State => x.link.strands) h :),
      (congrArg (fun x : State => { x.noc with qRing := t.noc.qRing }) h :)⟩
end

section
/-!
LEMMAS. What decides whether a port and the work of a braid go on of themselves (`State.goView`), which the transmitting end of a
strand operation leaves as it was (R126, R129, R135, R145).
-/
namespace Sys2Proof.Machine

/-- What decides it: the start-up and power states, the power machine, the lashing, the directions that are retired, and the
calibrations that wait. -/
structure GoView where
  start : StartState
  pwr : PwrState
  power : Power
  lash : Lash
  retired : Nat → Fin 8 → Bool
  want : Oct (List Nat)
  sweep : Oct (List Nat)

/-- The same of a state. -/
def State.goView (s : State) : GoView :=
  ⟨s.start.st, s.aon.pwr, s.pwr, s.lash, fun dir b => (s.shape dir b).retired, s.cal.want, s.cal.sweep⟩

/-- A port stays at rest where all that decides it stays. -/
theorem still_of_goView {s t : State} (h : t.goView = s.goView) : t.still = s.still := by
  simp only [State.goView, GoView.mk.injEq] at h
  obtain ⟨hstart, haon, hpwr, hlash, hretired, -, -⟩ := h
  have hmask : t.retiredMask = s.retiredMask := by
    simp only [State.retiredMask, fun dir b => congrFun (congrFun hretired dir) b]
  unfold State.still State.powerIdle
  rw [hmask, hstart, haon, hpwr, hlash]

section
variable (s : State) (b : Fin 8)

/-! ### What the operations on strands keep of it -/

@[simp] theorem modTx_goView (f : TxBraid → TxBraid) (hf : ∀ t, (f t).shape.retired = t.shape.retired) :
    (s.modTx b f).goView = s.goView := by
  have hretired : ∀ dir c, ((s.modTx b f).shape dir c).retired = (s.shape dir c).retired := fun dir c => by
    by_cases h : c = b
    · subst h; by_cases hd : dir = 0 <;> simp [State.shape, hd, hf]
    · simp [State.shape, oct_get_upd_ne _ _ _ _ h]
  simp only [State.goView, hretired]
  rfl

@[simp] theorem sendCtl_goView (op : Nat) (p : NocFlit) : (s.sendCtl b op p).goView = s.goView :=
  modTx_goView s b _ fun _ => rfl

@[simp] theorem dropCtl_goView (op : Nat) (p : NocFlit) : (s.dropCtl b op p).goView = s.goView := by
  simp only [State.goView, dropCtl_shape]
  rfl

/-- The transmitting end's part of a braid is changed, and no direction retires. -/
@[simp] theorem modShape_tx_goView (f : Shape → Shape) (hf : ∀ x, (f x).retired = x.retired) :
    (s.modShape 0 b f).goView = s.goView := modTx_goView s b _ fun t => hf t.shape

/-! ### A braid on which nothing starts -/

/-- While an operation is in progress no request starts. -/
theorem runStrands_of_busy (h : (s.shape 0 b).op.isSome = true) : s.runStrands b = s := by
  have hnone : (s.shape 0 b).queue.find? (s.slotOpen b) = none :=
    List.find?_eq_none.mpr fun o _ => by simp [State.slotOpen, Option.isSome_iff_ne_none.mp h]
  simp [State.runStrands, State.runQueue, hnone]

/-- A frame of the exchange is acted on, and nothing else goes on where no request may start, no calibration waits, and the port is
at rest. -/
theorem strandWork_acts {op : Nat} {p : NocFlit} (work : State → State) (hholds : s.holds b op p) (hok : strandOk p = true)
    (hidle : s.braidIdle (strandBraid p)) (hgo : (work (s.dropCtl b op p)).goView = s.goView)
    (hrun : (work (s.dropCtl b op p)).runStrands (strandBraid p) = work (s.dropCtl b op p)) :
    s.strandWork b op p work = work (s.dropCtl b op p) := by
  obtain ⟨hwaits, hstill⟩ := hholds
  obtain ⟨-, hwant, hsweep⟩ := hidle
  have hwant' : (work (s.dropCtl b op p)).cal.want.get (strandBraid p) = [] :=
    (congrArg (fun v => v.want.get (strandBraid p)) hgo).trans hwant
  have hsweep' : (work (s.dropCtl b op p)).cal.sweep.get (strandBraid p) = [] :=
    (congrArg (fun v => v.sweep.get (strandBraid p)) hgo).trans hsweep
  simp only [State.strandWork, State.withCtl, hwaits, hok, if_true, hrun, calNext_of_idle _ _ hwant' hsweep',
    portStep_of_still _ ((still_of_goView hgo).trans hstill)]

/-! ### REQUEST (R126 step 1, R135) -/

/-- A request as it stands first in a queue. -/
def State.firstQueued (s : State) (o : StrandOp) : StrandOp :=
  { o with arr := 0, arrAt := s.now, first := s.link.reqPtr == b2n o.requested }

/-- A request queued where none waits. -/
theorem queueOp_of_empty (o : StrandOp) (h : (s.shape 0 b).queue = []) :
    (s.queueOp b o).shape 0 b = { s.shape 0 b with queue := [s.firstQueued o] } ∧ (s.queueOp b o).goView = s.goView := by
  have hqueue : s.queueOp b o = State.modShape { s with link.reqPtr := 1 - b2n o.requested } 0 b fun x =>
      { x with queue := insertOp (s.firstQueued o) x.queue } := by
    simp [State.queueOp, h, State.firstQueued]
  rw [hqueue]
  refine ⟨?_, modShape_tx_goView _ b _ fun _ => rfl⟩
  rw [modShape_shape_self]
  show { s.shape 0 b with queue := insertOp (s.firstQueued o) (s.shape 0 b).queue } = _
  rw [h]
  rfl

/-- A REQUEST to a braid in use on which none waits is queued. -/
theorem strandRequest_queued (p : NocFlit) (hlive : (s.shape 0 (strandBraid p)).retired = false)
    (htrained : (s.shape 0 (strandBraid p)).trained = true) (hqueue : (s.shape 0 (strandBraid p)).queue = []) :
    (s.strandRequest p).shape 0 (strandBraid p) = { s.shape 0 (strandBraid p) with
      queue := [s.firstQueued { opOf p with requested := true, token := 0, map := [], clock := 0x3F }] }
    ∧ (s.strandRequest p).goView = s.goView := by
  have hrequest : s.strandRequest p =
      s.queueOp (strandBraid p) { opOf p with requested := true, token := 0, map := [], clock := 0x3F } := by
    simp [State.strandRequest, hlive, htrained]
  rw [hrequest]
  exact queueOp_of_empty s (strandBraid p) _ hqueue

/-! ### READY (R126 step 4) -/

/-- The transmit braid whose operation is ready: its COMMIT goes out. -/
def TxBraid.commits (t : TxBraid) (o : StrandOp) (b : Fin 8) : TxBraid :=
  { t with
    shape := { t.shape with op := some { o with ready := true } }
    ctl := t.ctl ++ [(0x23, opPayload { o with ready := true } b 0 0 0)] }

/-- READY of the operation in progress is noted, and its COMMIT goes out. -/
theorem strandReady_commits {p : NocFlit} {o : StrandOp} (hop : (s.shape 0 (strandBraid p)).op = some o)
    (htoken : o.token = strandToken p) (hnamed : strandToken p ≠ 0) (hready : o.ready = false) (hkind : o.op ≠ 3) :
    (s.strandReady p).link.tx = s.link.tx.upd (strandBraid p) (·.commits o (strandBraid p))
      ∧ (s.strandReady p).goView = s.goView := by
  have h : s.strandReady p = (s.modShape 0 (strandBraid p) fun x => { x with op := some { o with ready := true } }).sendCtl
      (strandBraid p) 0x23 (opPayload { o with ready := true } (strandBraid p) 0 0 0) := by
    simp [State.strandReady, State.opNamed, hop, htoken, hnamed, hready, hkind]
  rw [h]
  exact ⟨(congrArg (fun u => u.link.tx) (modTx_modTx s (strandBraid p) _ _) :),
    (sendCtl_goView _ _ _ _).trans (modShape_tx_goView s _ _ fun _ => rfl)⟩

/-! ### A missing READY (R129) -/

/-- The transmit braid after its operation has ended with an ABORT of a code. -/
def TxBraid.aborted (t : TxBraid) (o : StrandOp) (b : Fin 8) (code : Nat) : TxBraid :=
  { t with
    shape := { t.shape with op := none, lastOp := o.op, lastToken := o.token, aborts := t.shape.aborts + 1 }
    ctl := t.ctl ++ [(0x24, opPayload { o with map := [] } b 0 code 0)] }

/-- The transmit braids, and what decides whether work goes on. -/
def State.txGoView (s : State) : Oct TxBraid × GoView := (s.link.tx, s.goView)

theorem retain_txGoView (dir p : Nat) : (s.retain dir b p).txGoView = s.txGoView := by
  unfold State.retain; split <;> rfl

theorem restoreServe_txGoView (c : CalServe) : (s.restoreServe b c).txGoView = s.txGoView := by
  have settled : ∀ u : State, (u.settleGoal 0 b c.strand).txGoView = u.txGoView := fun u => by
    unfold State.settleGoal; split <;> rfl
  unfold State.restoreServe
  dsimp only
  split
  · exact (retain_txGoView _ _ _ _).trans (settled _)
  · exact settled _

/-- The return of a calibration that is lost reaches its record, its trims and its strand. -/
theorem calReturnLost_txGoView (code : Nat) : (s.calReturnLost b code).txGoView = s.txGoView := by
  unfold State.calReturnLost
  split
  · rfl
  · dsimp only
    split
    · rfl
    · exact restoreServe_txGoView _ _ _

/-- An operation of the transmitting end that no command waits for ends, and the far end is told. -/
theorem abortTx_tells {o : StrandOp} (code : Nat) (hop : (s.shape 0 b).op = some o) (hdesc : o.desc = none) :
    (s.abortTx b code true).link.tx = s.link.tx.upd b (·.aborted o b code) ∧ (s.abortTx b code true).goView = s.goView := by
  have restored : (s.restoreOp 0 b o code).txGoView = (s.modShape 0 b fun x =>
      { x with op := none, lastOp := o.op, lastToken := o.token, aborts := x.aborts + 1 }).txGoView := by
    unfold State.restoreOp; dsimp only; split <;> rfl
  have returned : (if (o.op = 2 && o.reason = 2) = true then (s.restoreOp 0 b o code).calReturnLost b code
      else s.restoreOp 0 b o code).txGoView = (s.restoreOp 0 b o code).txGoView := by
    split
    · exact calReturnLost_txGoView _ _ _
    · rfl
  obtain ⟨htx, hgo⟩ := Prod.mk.inj (returned.trans restored)
  have habort : s.abortTx b code true = (if (o.op = 2 && o.reason = 2) = true then
      (s.restoreOp 0 b o code).calReturnLost b code else s.restoreOp 0 b o code).sendCtl b 0x24
        (opPayload { o with map := [] } b 0 code 0) := by
    simp [State.abortTx, hop, State.opDone, hdesc]
  rw [habort]
  constructor
  · rw [State.sendCtl, State.modTx_link, htx]
    exact (congrArg (fun u => u.link.tx) (modTx_modTx s b _ _) :)
  · rw [sendCtl_goView, hgo]
    exact modShape_tx_goView s b _ fun _ => rfl

end

end Sys2Proof.Machine

open Sys2Proof Sys2Proof.Machine

/-- Settles O19, command by command: nothing else goes on on an idle braid of a port at rest (`strandWork_acts`). -/
theorem strandTransmitCompletes : Obligations.StrandTransmitCompletes := by
  refine ⟨?_, ?_, ?_⟩
  · rintro s b p ⟨hholds, hok, hidle, hlive, htrained, hbusy⟩
    obtain ⟨hshape, hgo⟩ := strandRequest_queued (s.dropCtl b 0x20 p) p
      (by rw [dropCtl_shape]; exact hlive) (by rw [dropCtl_shape]; exact htrained) (by rw [dropCtl_shape]; exact hidle.1)
    rw [dropCtl_shape] at hshape
    have hacts := strandWork_acts s b (·.strandRequest p) hholds hok hidle (hgo.trans (dropCtl_goView s b 0x20 p))
      (runStrands_of_busy _ _ (by rw [hshape]; exact hbusy))
    refine completes_done (congrArg done hacts) ?_
    rw [flushEvents_shape, hshape]
    exact ⟨rfl, rfl⟩
  · rintro s b p o ⟨hholds, hok, hidle, hop, htoken, hnamed, hready, hkind⟩
    obtain ⟨htx, hgo⟩ := strandReady_commits (s.dropCtl b 0x22 p) (by rw [dropCtl_shape]; exact hop) htoken hnamed hready hkind
    have hbraid : ((s.dropCtl b 0x22 p).strandReady p).link.tx.get (strandBraid p) =
        (s.link.tx.get (strandBraid p)).commits o (strandBraid p) := by rw [htx, oct_get_upd_self]; rfl
    have hacts := strandWork_acts s b (·.strandReady p) hholds hok hidle (hgo.trans (dropCtl_goView s b 0x22 p))
      (runStrands_of_busy _ _ (by simp [State.shape, hbraid, TxBraid.commits]))
    exact completes_done (congrArg done hacts) (by simp [State.shape, hbraid, TxBraid.commits])
  · rintro s b o ⟨hstill, ⟨hqueue, -, -⟩, hop, hready, hkind, hdesc⟩
    obtain ⟨htx, hgo⟩ := abortTx_tells s b 1 hop hdesc
    have hshape : (s.abortTx b 1 true).shape 0 b = ((s.link.tx.get b).aborted o b 1).shape := by
      simp [State.shape, htx]
    have hc : exec (.readyTimeout b) s = done (s.abortTx b 1 true) := by
      simp only [exec, execReadyTimeout, hop, hready, hkind, Bool.false_or, decide_false, Bool.false_eq_true, if_false]
      rw [runStrands_of_empty _ _ (by rw [hshape]; exact hqueue), portStep_of_still _ ((still_of_goView hgo).trans hstill)]
    refine completes_done hc ?_
    rw [flushEvents_shape, hshape, State.flushEvents_link, htx, oct_get_upd_self]
    exact ⟨rfl, rfl, rfl, rfl⟩
end

section
/-!
LEMMAS. A retrain that a RETRAIN command starts supersedes the operation in progress on its braid, whose own command completes with
ABORT code 0x5 (R129, R131).
-/
namespace Sys2Proof.Machine

/-- A RETRAIN of braid 0, and the SPLICE of braid 0 whose operation is in progress. -/
def retrainDesc : Desc := 0x01
def spliceDesc : Desc := 0x04

/-- An OPEN end that follows, with a SPLICE running at index 1 of command ring 0, completion ring 1, and a RETRAIN started at its
index 0. -/
def spliceBeforeRetrain : State :=
  let s := State.resetAs { defaultStraps with cls := .sb }
  { s with
    aon := { s.aon with pwr := .active }
    start := { s.start with st := .openSt }
    link := { s.link with tx := s.link.tx.upd 0 fun t =>
      { t with ladder := .up, shape := { t.shape with op := some { op0 with op := 1, desc := some (0, 1) } } } }
    rings := { s.rings with ring :=
      [(0, { zeroRing with
          st := .running, cfg := 0x8000
          descs := [⟨0, .started, retrainDesc, 0, false, none⟩, ⟨1, .running, spliceDesc, 0, false, none⟩] }),
        (1, { zeroRing with st := .running, cfg := 6 })] } }

/-- The completion entries that wait after a command. -/
def entriesAfter (o : Host.Outcome State Fault Refusal) : List (BitVec 32 × Nat × BitVec 32) :=
  match o with
  | .next t => t.rings.fifo.map fun e => (e.index, e.status, e.detail)
  | _ => []

/-- The SPLICE completes, ABORTED with code 0x5, as its braid begins to retrain. -/
theorem retrain_completes_splice :
    entriesAfter (exec (.retrain 0 0) spliceBeforeRetrain) = [(1, 3, 5)] := by decide +kernel

end Sys2Proof.Machine

open Sys2Proof Sys2Proof.Machine

/-- Refutes O13: its clause on a plain RETRAIN has no premise that no operation of a command is in progress on the braid, and the
retrain supersedes one (R131), whose completion entry enters the FIFO that the clause says stays as it was. -/
theorem not_strandDescriptorsComplete : ¬ Obligations.StrandDescriptorsComplete := by
  rintro ⟨-, -, -, -, -, -, -, -, -, hretrain⟩
  obtain ⟨t, hstep, -, -, -, -, hfifo⟩ := hretrain spliceBeforeRetrain 0 0 retrainDesc (by decide +kernel)
  have hentries := retrain_completes_splice
  rw [hstep, entriesAfter, hfifo] at hentries
  exact absurd hentries (by decide)
end

section
/-!
LEMMAS. A READY carries REQUESTED 0, whoever asked for its operation (Table 6.4: the bit is for PREPARE, COMMIT and ABORT from the
transmitting end).
-/
namespace Sys2Proof.Machine

/-- An UNREEF that carries out a REQUEST of this end (R126). -/
def requestedUnreef : StrandOp := { op0 with op := 4, requested := true, token := 1 }

/-- The receiving end of braid 0 locks on the stand-ins of that UNREEF. -/
def lockingRequested : State := State.reset.modShape 1 0 fun x => { x with op := some requestedUnreef }

/-- The lock sends a READY whose REQUESTED is 0. -/
theorem sendReady_clears_requested : ((lockingRequested.sendReady 0 requestedUnreef).link.tx.get 0).ctl =
    [(0x22, opPayload { requestedUnreef with requested := false } 0 0 0 1)] := rfl

theorem requested_shows_in_payload :
    opPayload { requestedUnreef with requested := false } 0 0 0 1 ≠ opPayload requestedUnreef 0 0 0 1 := by decide +kernel

end Sys2Proof.Machine

open Sys2Proof Sys2Proof.Machine

/-- Refutes O20: its clause on the lock on a stand-in gives the READY the REQUESTED bit of the operation, which a READY never
carries (Table 6.4), so that it fails of an UNREEF that carries out a REQUEST. -/
theorem not_strandReceiveCompletes : ¬ Obligations.StrandReceiveCompletes := by
  rintro ⟨-, -, hlock, -⟩
  obtain ⟨t, hstep, -, hctl⟩ := hlock lockingRequested 0 requestedUnreef ⟨rfl, rfl, rfl, .inl rfl⟩
  have hrun : exec (.standinLockComplete 0) lockingRequested = done (lockingRequested.sendReady 0 requestedUnreef) := rfl
  rw [hrun, done_eq, Host.Outcome.next.injEq] at hstep
  have hsent := sendReady_clears_requested
  rw [← State.flushEvents_link, hstep] at hsent
  have hsame : [(0x22, opPayload { requestedUnreef with requested := false } 0 0 0 1)] =
      [(0x22, opPayload requestedUnreef 0 0 0 1)] := hsent.symm.trans hctl
  simp only [List.cons.injEq, Prod.mk.injEq, true_and, and_true] at hsame
  exact requested_shows_in_payload hsame
end

section
/-!
LEMMAS. The transmit end of a calibration (R146, R148): a step answered, and trims that CAL_END puts back, leave all that decides
whether the port goes on of itself (`State.goView`).
-/
namespace Sys2Proof.Machine

section
variable (s : State) (b : Fin 8)

/-! ### A calibration frame -/

/-- A calibration frame is acted on, and nothing else goes on at a port at rest where no calibration of its braid waits. -/
theorem calWork_acts {op : Nat} {p : NocFlit} (work : State → State) (hholds : s.holds b op p)
    (hidle : s.braidIdle (strandBraid p)) (hgo : (work (s.dropCtl b op p)).goView = s.goView) :
    s.calWork b op p work = work (s.dropCtl b op p) := by
  obtain ⟨hwaits, hstill⟩ := hholds
  obtain ⟨-, hwant, hsweep⟩ := hidle
  have hnext : (work (s.dropCtl b op p)).calNext (strandBraid p) = work (s.dropCtl b op p) :=
    calNext_of_idle _ _ ((congrArg (fun v => v.want.get (strandBraid p)) hgo).trans hwant)
      ((congrArg (fun v => v.sweep.get (strandBraid p)) hgo).trans hsweep)
  simp only [State.calWork, State.withCtl, hwaits, if_true, hnext, portStep_of_still _ ((still_of_goView hgo).trans hstill)]

@[simp] theorem dropCtl_tx (op : Nat) (p : NocFlit) : (s.dropCtl b op p).link.tx = s.link.tx := rfl
@[simp] theorem dropCtl_cal (op : Nat) (p : NocFlit) : (s.dropCtl b op p).cal = s.cal := rfl

/-! ### A strand and its trims -/

@[simp] theorem modStrand_strand_self (dir p : Nat) (f : Strand → Strand) :
    (s.modStrand dir b p f).strand dir b p = f (s.strand dir b p) := tget_tupd_self _ _ _ _

@[simp] theorem modTrim_trim_self (dir p : Nat) (f : Trim → Trim) : (s.modTrim dir b p f).trim dir b p = f (s.trim dir b p) :=
  tget_tupd_self _ _ _ _

@[simp] theorem flushEvents_strand (dir p : Nat) : s.flushEvents.strand dir b p = s.strand dir b p := by simp [State.strand]

@[simp] theorem flushEvents_trim (dir p : Nat) : s.flushEvents.trim dir b p = s.trim dir b p := by
  simp [State.trim, State.cls]

/-! ### CAL_STEP and its answer (R146) -/

@[simp] theorem stepDone_goView (v : CalServe) (step : Nat) : (s.stepDone b v step).goView = s.goView :=
  sendCtl_goView _ _ _ _

@[simp] theorem stepDone_strand (v : CalServe) (step dir : Nat) (c : Fin 8) (p : Nat) :
    (s.stepDone b v step).strand dir c p = s.strand dir c p := rfl

/-- The answer to a step goes out on its transmit braid with the codes set so far. -/
@[simp] theorem stepDone_tx (v : CalServe) (step : Nat) : (s.stepDone b v step).link.tx = s.link.tx.upd b fun t =>
    { t with ctl := t.ctl ++ [(0x29, calPayload b.val v.token v.strand step v.pattern 0 (serveCodes s.cls v))] } := rfl

@[simp] theorem stepDone_serve (v : CalServe) (step : Nat) :
    (s.stepDone b v step).cal.serve = s.cal.serve.put b (some { v with step := 0 }) := rfl

/-- The first step asked of a STANDBY strand, one of the receive end: the strand stands aside, and the step is answered at once. -/
theorem calStep_answers {p : NocFlit} (hfree : s.cal.serve.get (strandBraid p) = none)
    (hst : (s.strand 0 (strandBraid p) (calStrand p)).st = .standby) (hstep : s.cls.calSteps.contains (calStepOf p) = true)
    (hfar : s.cls.txStep (calStepOf p) = false) (hpattern : calPattern p ≤ 4) (hstrand : calStrand p < s.cls.nstrands) :
    ∃ v, s.calStep p = (s.modStrand 0 (strandBraid p) (calStrand p) fun x => { x with st := .stoodAside, logical := none }).stepDone
      (strandBraid p) v (calStepOf p) := by
  have hcls : ∀ f, (s.modStrand 0 (strandBraid p) (calStrand p) f).cls = s.cls := fun _ => rfl
  simp only [State.calStep, hfree, hst, hstep, hfar, hcls, Nat.not_lt.mpr hpattern, Nat.not_le.mpr hstrand]
  exact ⟨_, rfl⟩

/-! ### CAL_END (R146, R148) -/

theorem retain_trim (dir p : Nat) : (s.retain dir b p).trim dir b p = s.trim dir b p := by unfold State.retain; split <;> rfl

theorem settleGoal_trim (dir p : Nat) : ∃ goal, (s.settleGoal dir b p).trim dir b p = { s.trim dir b p with goal := goal } := by
  unfold State.settleGoal
  split
  · exact ⟨_, modTrim_trim_self _ _ _ _ _⟩
  · exact ⟨_, rfl⟩

/-- The trims of before a calibration are back in its transmit strand. -/
theorem restoreServe_trim (c : CalServe) : ∃ goal, (s.restoreServe b c).trim 0 b c.strand =
    { s.trim 0 b c.strand with tx := c.old.tx, otx := c.oldO, goal := goal } := by
  obtain ⟨goal, h⟩ := settleGoal_trim (s.modTrim 0 b c.strand fun t => { t with tx := c.old.tx, otx := c.oldO }) b 0 c.strand
  rw [modTrim_trim_self] at h
  refine ⟨goal, ?_⟩
  unfold State.restoreServe
  dsimp only
  split
  · rw [retain_trim, h]
  · exact h

/-- A transmit end notes the status of its calibration; its return is still to come. -/
def State.serveEnds (s : State) (b : Fin 8) (v : CalServe) (status : Nat) : State :=
  { s with cal.serve := s.cal.serve.put b (some { v with ended := some status }) }

/-- A CAL_END that fails a covered calibration notes its status and puts the trims back. -/
theorem calEnd_restores {p : NocFlit} {v : CalServe} (hserve : s.cal.serve.get (strandBraid p) = some v)
    (hstrand : v.strand = calStrand p) (hfails : calStatus p ≠ 0) (hcovered : v.token ≠ 0) (hdata : v.strand < 34) :
    s.calEnd p = ((s.modTrim 0 (strandBraid p) v.strand fun t =>
      { t with last := BitVec.ofNat 4 (calStatus p), doneAt := some s.now }).restoreServe (strandBraid p) v).serveEnds
        (strandBraid p) v (calStatus p) := by
  have hdata' : ¬ 34 ≤ v.strand := Nat.not_le.mpr hdata
  simp [State.calEnd, hserve, ← hstrand, hfails, hcovered, hdata', State.serveEnds]

/-- The transmit braids, and what decides whether work goes on, stay. -/
theorem calEnd_txGoView {p : NocFlit} {v : CalServe} (hserve : s.cal.serve.get (strandBraid p) = some v)
    (hstrand : v.strand = calStrand p) (hfails : calStatus p ≠ 0) (hcovered : v.token ≠ 0) (hdata : v.strand < 34) :
    (s.calEnd p).txGoView = s.txGoView := by
  rw [calEnd_restores s hserve hstrand hfails hcovered hdata]
  exact restoreServe_txGoView _ _ _

end

end Sys2Proof.Machine

open Sys2Proof Sys2Proof.Machine

/-- Settles O21, command by command: the frames are acted on and nothing else goes on (`calWork_acts`); a transmit-end step is
answered by `State.stepDone`. -/
theorem calTransmitCompletes : Obligations.CalTransmitCompletes := by
  refine ⟨?_, ?_, ?_⟩
  · rintro s b p ⟨hholds, hidle, hfree, hst, hstep, hfar, hpattern, hstrand⟩
    obtain ⟨v, h⟩ := calStep_answers (s.dropCtl b 0x28 p) hfree hst hstep hfar hpattern hstrand
    have hacts := calWork_acts s b (·.calStep p) hholds hidle
      (by rw [h, stepDone_goView]; exact dropCtl_goView s b 0x28 p)
    refine completes_done (congrArg done (hacts.trans h)) ?_
    simp
  · rintro s b c v ⟨-, hcls, hserve, hstep⟩
    have hc : exec (.transmitCalStepComplete b c) s =
        done (s.stepDone b { v with new := { v.new with tx := c &&& 0x3F } } v.step) := by
      simp [exec, execTransmitCalStepComplete, State.txStepDone, hserve, hstep, hcls, PortClass.isFibre, txMask,
        PortClass.isLat, PortClass.isStack]
    refine completes_done hc ?_
    simp [hcls, serveCodes, PortClass.isFibre]
  · rintro s b p v ⟨hholds, hidle, hserve, hstrand, hfails, hcovered, hdata⟩
    have hends := calEnd_restores (s.dropCtl b 0x2A p) hserve hstrand hfails hcovered hdata
    obtain ⟨htx, hgo⟩ := Prod.mk.inj (calEnd_txGoView (s.dropCtl b 0x2A p) hserve hstrand hfails hcovered hdata)
    have hrun : ((s.dropCtl b 0x2A p).calEnd p).runStrands (strandBraid p) = (s.dropCtl b 0x2A p).calEnd p :=
      runStrands_of_empty _ _ (by simpa [State.shape, htx] using hidle.1)
    have hacts := calWork_acts s b (fun u => (u.calEnd p).runStrands (strandBraid p)) hholds hidle
      (by rw [hrun, hgo]; exact dropCtl_goView s b 0x2A p)
    obtain ⟨goal, htrim⟩ := restoreServe_trim ((s.dropCtl b 0x2A p).modTrim 0 (strandBraid p) v.strand fun t =>
      { t with last := BitVec.ofNat 4 (calStatus p), doneAt := some (s.dropCtl b 0x2A p).now }) (strandBraid p) v
    refine completes_done (congrArg done (hacts.trans (hrun.trans hends))) ?_
    have hkept : ∀ u : State, (u.serveEnds (strandBraid p) v (calStatus p)).trim = u.trim := fun _ => rfl
    rw [flushEvents_trim, hkept, htrim, modTrim_trim_self]
    exact ⟨rfl, rfl, rfl⟩
end

section
/-!
LEMMAS. Two states at which a calibration reaches further than its command: a CALIBRATE lets the calibrations of every braid go on
(R150), and a missing CAL_STEP_DONE ends a calibration with the figures of nothing measured (R147, R154).
-/
namespace Sys2Proof.Machine

/-- A calibration of strand 7 whose first step runs. -/
def firstStepRun : CalRun :=
  { strand := 7, phase := .steps, cover := .splice, token := 1, step := 1, stepDone := false, stepAt := 0, old := ⟨0, 0, 0⟩
    oldO := 0, oldArrival := 0, oldDeskew := 0, new := ⟨0, 0, 0⟩, newO := 0, arrival := none, meas := meas0, prev := .active
    temp1 := 0, temp6 := 0, held := false, range := none, status := 0, txCodes := 0 }

/-! ### CALIBRATE beside a strand that waits -/

/-- A CALIBRATE of strand 0 of braid 0. -/
def calibrateDesc : Desc := 0x06

/-- An OPEN end at rest with that CALIBRATE started at index 0 of command ring 0. Braid 0 calibrates its strand 7. The CALIBRATE at
index 1 waits for strand 5 of braid 1, which has been quarantined since it was asked for. -/
def calibrateBesideQuarantined : State :=
  let s := (State.reset.modStrand 1 1 5 fun x => { x with st := .quarantined }).modShape 1 1 fun x => { x with trained := true }
  { s with
    aon := { s.aon with pwr := .active }
    start := { s.start with st := .openSt }
    cal := { s.cal with
      run := s.cal.run.put 0 (some firstStepRun)
      want := s.cal.want.put 1 [5]
      jobs := [⟨0, 1, [(1, 5)], 0, 0, true⟩] }
    rings := { s.rings with
      ring := [(0, { zeroRing with st := .running, descs := [⟨0, .started, calibrateDesc, 0, false, none⟩] })] } }

/-- The CALIBRATE commands that wait after a command. -/
def jobsAfter (o : Host.Outcome State Fault Refusal) : List (RingNo × BitVec 32) :=
  match o with
  | .next t => t.cal.jobs.map fun j => (j.ring, j.index)
  | _ => []

/-- The CALIBRATE of the quarantined strand is over, and the new one alone waits. -/
theorem calibrate_ends_quarantined :
    jobsAfter (exec (.calibrate 0 0) calibrateBesideQuarantined) = [(0, 0)] := by decide +kernel

/-! ### A missing CAL_STEP_DONE -/

/-- The same calibration, with an error noted among its figures. -/
def measuredRun : CalRun := { firstStepRun with meas := { meas0 with errors := 1 } }

/-- A port at rest whose braid 0 waits for the CAL_STEP_DONE of that calibration. -/
def awaitingStepDone : State :=
  { State.reset with cal := { State.reset.cal with run := State.reset.cal.run.put 0 (some measuredRun) } }

/-- The figures of the calibration of braid 0 after a command. -/
def figuresAfter (o : Host.Outcome State Fault Refusal) : Option Meas :=
  match o with
  | .next t => (t.cal.run.get 0).map CalRun.meas
  | _ => none

/-- The calibration ends with nothing measured. -/
theorem calStepDoneTimeout_clears_figures :
    figuresAfter (exec (.calStepDoneTimeout 0) awaitingStepDone) = some meas0 := by decide +kernel

end Sys2Proof.Machine

open Sys2Proof Sys2Proof.Machine

/-- Refutes O14: its clause on a CALIBRATE has no premise on the other braids, whose calibrations go on with the command (R150). A
strand of another braid that waits and can no longer be calibrated ends with status 5, and the CALIBRATE that named it, which the
clause says stays, completes. -/
theorem not_workDescriptorsComplete : ¬ Obligations.WorkDescriptorsComplete := by
  rintro ⟨-, -, -, hcalibrate, -⟩
  obtain ⟨t, hstep, -, -, hjobs⟩ := hcalibrate calibrateBesideQuarantined 0 0 calibrateDesc (by decide +kernel)
  have hwaiting := calibrate_ends_quarantined
  rw [hstep, jobsAfter, hjobs] at hwaiting
  exact absurd hwaiting (by decide)

/-- Refutes O22: its clause on a missing CAL_STEP_DONE keeps the figures of the calibration, which an end of status 3 replaces by
those of nothing measured, and has no premise that the calibration has noted none so far. -/
theorem not_calReceiveCompletes : ¬ Obligations.CalReceiveCompletes := by
  rintro ⟨-, -, hmissing, -⟩
  obtain ⟨t, hstep, hrun, -⟩ := hmissing awaitingStepDone 0 measuredRun (by decide +kernel)
  have hfigures := calStepDoneTimeout_clears_figures
  rw [hstep, figuresAfter, hrun] at hfigures
  exact absurd hfigures (by decide)
end

section
/-!
SUPPORT. What a change of a receive braid leaves, and what may still go on of itself at a port at rest: the last numbers of retired
braids are told (R186, R335, R339, R348).
-/
namespace Sys2Proof.Machine

variable (s : State) (b : Fin 8)

/-- A change of a receive braid under which it neither retires nor comes back. -/
@[simp] theorem modRx_goView (f : RxBraid → RxBraid) (hf : ∀ r, (f r).shape.retired = r.shape.retired) :
    (s.modRx b f).goView = s.goView := by
  have hretired : ∀ dir c, ((s.modRx b f).shape dir c).retired = (s.shape dir c).retired := fun dir c => by
    by_cases h : c = b
    · subst h; by_cases hd : dir = 0 <;> simp [State.shape, hd, hf]
    · simp [State.shape, oct_get_upd_ne _ _ _ _ h]
  simp only [State.goView, hretired]
  rfl

/-- The numbers of retired braids that a port at rest may tell are all that goes on of itself. -/
theorem sendFinals_portStep_of_still (h : s.still = true) : s.sendFinals.portStep = s.sendFinals :=
  portStep_of_still _ ((rest_read (sendFinals_rest s) State.still rest_still).trans h)

/-- The receive braids keep all but their part in a handover. -/
theorem sendFinals_rx (c : Fin 8) : (s.sendFinals.link.rx.get c).rest = (s.link.rx.get c).rest :=
  rest_read (sendFinals_rest s) (fun u => (u.link.rx.get c).rest) fun _ => by simp [State.rest, RxBraid.rest]

/-- The transmit braids keep all but the frames that wait, and what `TxBraid.rest` names besides. -/
theorem sendFinals_tx (c : Fin 8) : (s.sendFinals.link.tx.get c).rest = (s.link.tx.get c).rest :=
  rest_read (sendFinals_rest s) (fun u => (u.link.tx.get c).rest) fun _ => by simp [State.rest, TxBraid.rest]

end Sys2Proof.Machine
end

section
/-!
LEMMAS. A frame received (R165, R173, R174): taking it off the line changes the receive braid's stream and the records of its strands
(`State.offLine`), and accepting it or starting NAK_WAIT leaves what decides whether the port goes on of itself, and what the
transmit braids have to apply (`State.lineView`).
-/
namespace Sys2Proof.Machine

variable (s : State) (b : Fin 8)

/-! ### Off the line -/

/-- A receive braid without the bits a fibre braid has decoded and not used. -/
def RxBraid.offLine (r : RxBraid) : RxBraid := { r with stream := 0, streamLen := 0, uncorr := 0 }

/-- The state without what taking a flit off the line changes. -/
def State.offLine (s : State) : State := { s with cal.trims := [], link.rx := s.link.rx.map RxBraid.offLine }

theorem modRx_offLine (f : RxBraid → RxBraid) (hf : ∀ r, (f r).offLine = r.offLine) : (s.modRx b f).offLine = s.offLine := by
  simp only [State.offLine, State.modRx, oct_map_upd RxBraid.offLine _ b f hf]

theorem countWord_offLine (map : List Nat) (d : Decoded) : (s.countWord b map d).offLine = s.offLine :=
  (foldl_keeps State.offLine _ _ _ fun _ _ _ => by rfl).trans (modRx_offLine s b _ fun _ => by rfl)

theorem takeWords_offLine (words : List (List (Nat × Nat))) : (s.takeWords b words).offLine = s.offLine :=
  (modRx_offLine _ b _ fun _ => by rfl).trans (foldl_keeps State.offLine _ _ _ fun u _ _ => countWord_offLine u b _ _)

theorem popFlit_offLine : (s.popFlit b).2.offLine = s.offLine := by
  unfold State.popFlit
  dsimp only
  split
  · rfl
  · exact modRx_offLine s b _ fun _ => rfl

theorem takeLine_offLine (line : LineRx) : (s.takeLine b line).2.2.offLine = s.offLine := by
  unfold State.takeLine
  dsimp only
  split
  · exact (popFlit_offLine _ b).trans (takeWords_offLine s b _)
  · rfl

/-- What the line does not change is the same once a flit is taken off it. -/
theorem takeLine_read {α : Type} (line : LineRx) (p : State → α) (hp : ∀ u : State, p u.offLine = p u) :
    p (s.takeLine b line).2.2 = p s := by rw [← hp, takeLine_offLine, hp]

theorem offLine_rx (c : Fin 8) : s.offLine.link.rx.get c = (s.link.rx.get c).offLine := oct_get_map _ _ _

theorem offLine_shape (dir : Nat) (c : Fin 8) : s.offLine.shape dir c = s.shape dir c := by
  simp [State.shape, RxBraid.offLine, State.offLine]

theorem offLine_overrunVc (l : List NocFlit) : s.offLine.overrunVc b l = s.overrunVc b l := by
  have hocc : ∀ v, rxOcc (s.offLine.link.rx.get b) v = rxOcc (s.link.rx.get b) v := fun v => by
    rw [offLine_rx]; rfl
  simp only [State.overrunVc, hocc]
  rfl

/-! ### What a frame is judged by -/

/-- EXPECTED, NAK_WAIT, the CRC failures, the descrambler and the operation in progress of a receive braid. -/
structure Judged where
  expected : BitVec 16
  nakWait : Bool
  crcFail : BitVec 16
  scr : BitVec 31
  op : Option StrandOp

/-- The same of a receive braid. -/
def RxBraid.judged (r : RxBraid) : Judged := ⟨r.expected, r.nakWait, r.crcFail, r.scr, r.shape.op⟩

/-- What decides whether the port goes on of itself, what the transmit braids have to apply, and what the receive braids judge a
frame by. -/
structure LineView where
  go : GoView
  ackIn : Fin 8 → List (Nat × BitVec 16 × BitVec 8)
  rx : Fin 8 → Judged

/-- The same of a state. -/
def State.lineView (s : State) : LineView :=
  ⟨s.goView, fun c => (s.link.tx.get c).ackIn, fun c => (s.link.rx.get c).judged⟩

theorem offLine_lineView : s.offLine.lineView = s.lineView := by
  have hgo : s.offLine.goView = s.goView := by simp only [State.goView, offLine_shape]; rfl
  have hrx : ∀ c, (s.offLine.link.rx.get c).judged = (s.link.rx.get c).judged := fun c => by rw [offLine_rx]; rfl
  simp only [State.lineView, hgo, hrx]
  rfl

theorem takeLine_lineView (line : LineRx) : (s.takeLine b line).2.2.lineView = s.lineView :=
  takeLine_read s b line State.lineView offLine_lineView

/-- A transmit braid changes, and neither retires nor has anything else to apply. -/
theorem modTx_lineView (f : TxBraid → TxBraid) (hretired : ∀ t, (f t).shape.retired = t.shape.retired)
    (hack : ∀ t, (f t).ackIn = t.ackIn) : (s.modTx b f).lineView = s.lineView := by
  have hin : ∀ c, ((s.modTx b f).link.tx.get c).ackIn = (s.link.tx.get c).ackIn := fun c => by
    by_cases h : c = b
    · subst h; simp [hack]
    · simp [oct_get_upd_ne _ _ _ _ h]
  simp only [State.lineView, hin, modTx_goView s b f hretired]
  rfl

/-- A receive braid changes and does not retire. -/
theorem modRx_lineView (f : RxBraid → RxBraid) (hretired : ∀ r, (f r).shape.retired = r.shape.retired) :
    (s.modRx b f).lineView =
      { s.lineView with rx := Function.update s.lineView.rx b (f (s.link.rx.get b)).judged } := by
  have hrx : (fun c => ((s.modRx b f).link.rx.get c).judged) =
      Function.update (fun c => (s.link.rx.get c).judged) b (f (s.link.rx.get b)).judged := funext fun c => by
    by_cases h : c = b
    · subst h; simp
    · simp [oct_get_upd_ne _ _ _ _ h, h]
  simp only [State.lineView, hrx, modRx_goView s b f hretired]
  rfl

/-- A receive braid changes beside what it judges frames by. -/
theorem modRx_lineView_same (f : RxBraid → RxBraid) (hretired : ∀ r, (f r).shape.retired = r.shape.retired)
    (hjudged : ∀ r, (f r).judged = r.judged) : (s.modRx b f).lineView = s.lineView := by
  rw [modRx_lineView s b f hretired, hjudged]
  show ({ s.lineView with rx := Function.update s.lineView.rx b (s.lineView.rx b) } : LineView) = _
  rw [Function.update_eq_self]

theorem judged_of_lineView {s t : State} (h : t.lineView = s.lineView) (c : Fin 8) :
    (t.link.rx.get c).judged = (s.link.rx.get c).judged := congrFun (congrArg LineView.rx h) c

/-- Two changes of a receive braid that make the same change of what it judges frames by. -/
theorem modRx_lineView_congr {s t : State} (h : t.lineView = s.lineView) (b : Fin 8) {f g : RxBraid → RxBraid}
    (change : Judged → Judged) (hf : ∀ r, (f r).judged = change r.judged) (hg : ∀ r, (g r).judged = change r.judged)
    (hfretired : ∀ r, (f r).shape.retired = r.shape.retired) (hgretired : ∀ r, (g r).shape.retired = r.shape.retired) :
    (t.modRx b f).lineView = (s.modRx b g).lineView := by
  rw [modRx_lineView t b f hfretired, modRx_lineView s b g hgretired, hf, hg, judged_of_lineView h b, h]

theorem ite_lineView (c : Prop) [Decidable c] {t : State} (h : t.lineView = s.lineView) :
    (if c then t else s).lineView = s.lineView := by
  split
  · exact h
  · rfl

/-! ### What an accepted frame does beside that -/

theorem raiseLimited_lineView (key : Nat) (mk : State → Nat → State) (h : ∀ u n, (mk u n).lineView = u.lineView) :
    (s.raiseLimited key mk).lineView = s.lineView := by
  unfold State.raiseLimited
  split
  · exact h _ _
  · split
    · rfl
    · exact h _ _

theorem linkErr_lineView : s.linkErr.lineView = s.lineView := raiseLimited_lineView _ _ _ fun _ _ => rfl

theorem oweFrame_lineView : (s.oweFrame b).lineView = s.lineView := by
  unfold State.oweFrame
  split
  · rfl
  · exact modTx_lineView s _ _ (fun _ => rfl) fun _ => rfl

theorem oweFrame_rx : (s.oweFrame b).link.rx = s.link.rx := by
  unfold State.oweFrame
  split <;> rfl

theorem dueNak_lineView : (s.dueNak b).lineView = s.lineView :=
  (oweFrame_lineView _ b).trans (modRx_lineView_same s b _ (fun _ => rfl) fun _ => rfl)

theorem dueNak_due : ((s.dueNak b).link.rx.get b).due = .nak := by
  rw [State.dueNak, oweFrame_rx]
  simp

theorem dueAck_lineView : (s.dueAck b).lineView = s.lineView :=
  (oweFrame_lineView _ b).trans (modRx_lineView_same s b _ (fun _ => rfl) fun _ => rfl)

theorem postRun_lineView : (s.postRun b).lineView = s.lineView := by
  unfold State.postRun
  split
  · rfl
  next r _ =>
    have hrun : (s.modRx b fun x => { x with
        run := none, rpTs := r.ts, rpRounds := BitVec.ofNat 8 r.rounds, rpCause := BitVec.ofNat 3 r.cause }).lineView
          = s.lineView := modRx_lineView_same s b _ (fun _ => rfl) fun _ => rfl
    dsimp only
    split
    · exact hrun
    · split <;> exact hrun

theorem keepFailed_lineView (q : BitVec 16) (f : LinkFlit) : (s.keepFailed b q f).lineView = s.lineView := by
  unfold State.keepFailed
  split <;> rfl

theorem compareFailed_lineView (q : BitVec 16) (f : LinkFlit) : (s.compareFailed b q f).lineView = s.lineView := by
  have compared : ∀ l, ({ s with cal.compare := l } : State).lineView = s.lineView := fun _ => rfl
  refine (foldl_keeps State.lineView _ _ _ fun u c _ => foldl_keeps State.lineView _ _ _ fun v x _ => ?_).trans (compared _)
  dsimp only
  split <;> rfl

/-- A discard on the receive side is recorded and answered, and no braid changes. -/
theorem recordDiscard_lineView (f : NocFlit) (cause : Nat) : (s.recordDiscard f cause).lineView = s.lineView := by
  have raised : ∀ (u : State) (last : Nat), (u.raiseDiscard f cause last).lineView = u.lineView := fun u last => by
    unfold State.raiseDiscard
    dsimp only
    split <;> rfl
  have metered : ∀ (t : Tenancy) (m : Meters), ({ s with ten := t, mtr := m } : State).lineView = s.lineView := fun _ _ => rfl
  exact (raised _ _).trans (metered _ _)

theorem answerLink_lineView (f : NocFlit) (cause : Nat) : (s.answerLink f cause).lineView = s.lineView := by
  unfold State.answerLink
  (repeat' split) <;> rfl

theorem updateXon_lineView : (s.updateXon b).lineView = s.lineView := by
  unfold State.updateXon
  dsimp only
  split
  · rfl
  · exact (oweFrame_lineView _ b).trans (modRx_lineView_same s b _ (fun _ => rfl) fun _ => rfl)

/-- A flit is discarded or enters the buffer of its receive braid. -/
theorem deliver_lineView (q : BitVec 16) (rel : Time) (bytes : Nat) (f : NocFlit) :
    (s.deliver b q rel bytes f).lineView = s.lineView := by
  unfold State.deliver
  dsimp only
  generalize hu : ((s.meter (flitTenant f) 1 1).meterBytes (flitTenant f) 3 bytes : State) = u
  have metered : u.lineView = s.lineView := by rw [← hu]; rfl
  split
  · exact metered
  · split
    · exact (answerLink_lineView _ f 2).trans ((recordDiscard_lineView _ f 2).trans metered)
    · split
      · exact (answerLink_lineView _ f 1).trans ((recordDiscard_lineView _ f 1).trans metered)
      · split
        · exact (linkErr_lineView u).trans metered
        · have held : ∀ x n, State.lineView { u.modRx b fun r => { r with buf := r.buf ++ [x] } with noc.order := n }
              = u.lineView := fun x n => modRx_lineView_same u b (fun r => { r with buf := r.buf ++ [x] }) (fun _ => rfl) fun _ => rfl
          exact (updateXon_lineView _ b).trans ((held _ _).trans metered)

/-! ### Accepting (R174) -/

/-- With no operation in progress no frame is a switch point. -/
theorem switchAt_of_no_op (q : BitVec 16) (hop : (s.shape 1 b).op = none) : s.switchAt b q = s := by
  simp [State.switchAt, hop]

/-- A receive braid that has accepted a number. -/
def RxBraid.accepting (r : RxBraid) (q : BitVec 16) : RxBraid := { r with expected := q + 1, nakWait := false }

/-- The same of what it judges frames by. -/
def Judged.accepting (j : Judged) (q : BitVec 16) : Judged := { j with expected := q + 1, nakWait := false }

/-- EXPECTED with no operation in progress is accepted: EXPECTED goes on, and NAK_WAIT ends. -/
theorem accept_lineView (h : Hdr) (f : LinkFlit) (slots : List NocFlit) (bad : Nat) (hdata : h.ftype = 1)
    (hop : (s.shape 1 b).op = none) :
    (s.accept b h f slots bad).lineView = (s.modRx b (·.accepting h.seq)).lineView := by
  unfold State.accept
  extract_lets r q loop orig fixed m rel ended run accepted reported compared judged delivered controlled owed
  have hended : ended.lineView = s.lineView := ite_lineView s _ (postRun_lineView s b)
  have haccepted : accepted.lineView = (s.modRx b (·.accepting h.seq)).lineView :=
    modRx_lineView_congr hended b (·.accepting h.seq) (fun _ => rfl) (fun _ => rfl) (fun _ => rfl) fun _ => rfl
  have hreported : reported.lineView = accepted.lineView := ite_lineView _ _ (postRun_lineView accepted b)
  have hcompared : compared.lineView = reported.lineView := compareFailed_lineView reported b q f
  have hjudged : judged.lineView = compared.lineView := foldl_keeps State.lineView _ _ _ fun u _ _ => linkErr_lineView u
  have hdelivered : delivered.lineView = judged.lineView :=
    foldl_keeps State.lineView _ _ _ fun u g _ => deliver_lineView u b q rel _ g
  have hcontrolled : controlled = delivered := if_neg (by simp [hdata])
  have howed : owed.lineView = controlled.lineView := ite_lineView _ _ (dueAck_lineView controlled b)
  have hview : owed.lineView = (s.modRx b (·.accepting h.seq)).lineView := by
    rw [howed, hcontrolled, hdelivered, hjudged, hcompared, hreported, haccepted]
  have hnone : (owed.shape 1 b).op = none := by
    have hkept : (owed.link.rx.get b).shape.op = ((s.modRx b (·.accepting h.seq)).link.rx.get b).shape.op :=
      (congrArg Judged.op (judged_of_lineView hview b) :)
    have hstart : (s.link.rx.get b).shape.op = none := hop
    simpa [State.shape, RxBraid.accepting, hstart] using hkept
  rw [switchAt_of_no_op owed b q hnone, hview]

/-- A transmit braid that has the acknowledgement and the XON bits of a header to apply. -/
def TxBraid.told (t : TxBraid) (c : PortClass) (h : Hdr) : TxBraid :=
  { t with ackIn := t.ackIn ++ [(h.ackKind, h.ackSeq, h.xon &&& BitVec.ofNat 8 (maskOf (c.vcs.map Fin.val)))], blind := false }

/-- The header of a DATA frame speaks to the transmit braid of the same number (R170). -/
theorem useHeader_of_data (h : Hdr) (hdata : h.ftype = 1) : s.useHeader b h = s.modTx b (·.told s.cls h) := by
  unfold State.useHeader
  simp only [hdata, OfNat.one_ne_ofNat, or_self, if_false, modTx_modTx]
  rfl

/-- The DATA frame EXPECTED names, with room for its slots, is accepted. -/
theorem takeFrame_of_expected (f : LinkFlit) (hdata : (hdrOf f).ftype = 1) (hkind : (hdrOf f).ackKind ≠ 3)
    (hseq : (hdrOf f).seq = (s.link.rx.get b).expected)
    (hroom : s.overrunVc b (legalSlots s.cls (hdrOf f) f).1 = none) : s.takeFrame b f =
      (s.modTx b (·.told s.cls (hdrOf f))).accept b (hdrOf f) f (legalSlots s.cls (hdrOf f) f).1
        (legalSlots s.cls (hdrOf f) f).2 := by
  have hroom' : (s.modTx b (·.told s.cls (hdrOf f))).overrunVc b (legalSlots s.cls (hdrOf f) f).1 = none := hroom
  have hcls : (s.modTx b (·.told s.cls (hdrOf f))).cls = s.cls := rfl
  unfold State.takeFrame
  simp only [hdata, hkind, useHeader_of_data s b _ hdata, isSequenced, State.takeSequenced, State.modTx_link, hseq, hcls, hroom']
  simp

/-! ### NAK_WAIT (R174, Table 8.5) -/

/-- A receive braid that waits for a replay. -/
def RxBraid.waiting (r : RxBraid) : RxBraid := { r with nakWait := true }

/-- The same of what it judges frames by. -/
def Judged.waiting (j : Judged) : Judged := { j with nakWait := true }

theorem recordOrig_judged (r : RxBraid) (q : BitVec 16) (now : Time) (tentative : Bool) :
    (recordOrig r q now tentative).judged = r.judged := by unfold recordOrig; split <;> rfl

theorem recordOrig_retired (r : RxBraid) (q : BitVec 16) (now : Time) (tentative : Bool) :
    (recordOrig r q now tentative).shape.retired = r.shape.retired := by unfold recordOrig; split <;> rfl

/-- NAK_WAIT starts with a NAK due. -/
theorem startWait_waits (tentative : Bool) : (s.startWait b tentative).lineView = (s.modRx b RxBraid.waiting).lineView
    ∧ ((s.startWait b tentative).link.rx.get b).due = .nak := by
  unfold State.startWait
  extract_lets waits
  have hwaits : waits.lineView = (s.modRx b RxBraid.waiting).lineView :=
    modRx_lineView_congr (postRun_lineView s b) b Judged.waiting
      (fun r => (congrArg Judged.waiting (recordOrig_judged r r.expected s.now tentative) :)) (fun _ => rfl)
      (fun r => recordOrig_retired r _ _ _) fun _ => rfl
  exact ⟨(dueNak_lineView waits b).trans hwaits, dueNak_due waits b⟩

/-- A receive braid that has counted a CRC failure. -/
def RxBraid.crcCounted (r : RxBraid) : RxBraid := { r with crcFail := r.crcFail + 1 }

/-- The same of what it judges frames by. -/
def Judged.crcCounted (j : Judged) : Judged := { j with crcFail := j.crcFail + 1 }

/-- A frame that fails its CRC is counted, and starts NAK_WAIT where none is. -/
theorem crcFailed_waits (f : LinkFlit) (hnormal : (s.link.rx.get b).nakWait = false) :
    (s.crcFailed b f).lineView = ((s.modRx b RxBraid.crcCounted).modRx b RxBraid.waiting).lineView
      ∧ ((s.crcFailed b f).link.rx.get b).due = .nak := by
  unfold State.crcFailed
  extract_lets r q counted blinded
  have hcounted : counted.lineView = (s.modRx b RxBraid.crcCounted).lineView :=
    modRx_lineView_congr (keepFailed_lineView s b q f) b Judged.crcCounted (fun _ => rfl) (fun _ => rfl) (fun _ => rfl) fun _ => rfl
  have hblinded : blinded.lineView = counted.lineView := modTx_lineView counted b _ (fun _ => rfl) fun _ => rfl
  obtain ⟨hview, hdue⟩ := startWait_waits blinded b true
  have hr : r.nakWait = false := hnormal
  rw [if_neg (by simp [hr])]
  exact ⟨hview.trans (modRx_lineView_congr (hblinded.trans hcounted) b Judged.waiting (fun _ => rfl) (fun _ => rfl) (fun _ => rfl)
    fun _ => rfl), hdue⟩

/-! ### A flit taken off the line -/

/-- A receive braid whose descrambler has gone on (R82). -/
def RxBraid.descrambled (r : RxBraid) (scr : BitVec 31) : RxBraid := { r with scr := scr }

/-- A link flit `bits` that has no second reading is judged by its CRC, in the clear as `f`. -/
theorem receiveFlit_of_no_alt {bits f : LinkFlit} {scr : BitVec 31}
    (hclear : f = BitVec.ofNat 1280 (bits.toNat ^^^ (scrRun 1280 (s.link.rx.get b).scr.toNat).1))
    (hscr : scr = BitVec.ofNat 31 (scrRun 1280 (s.link.rx.get b).scr.toNat).2) : s.receiveFlit b bits none =
      if linkCrcOk f then (s.modRx b (·.descrambled scr)).takeFrame b f else (s.modRx b (·.descrambled scr)).crcFailed b f := by
  unfold State.receiveFlit
  extract_lets r p descrambled clear frame waits
  have hdescrambled : descrambled = s.modRx b (·.descrambled scr) := by
    simp only [descrambled, p, r, State.modRx, Oct.upd, RxBraid.descrambled, hscr]
  have hframe : frame = f := hclear.symm
  rw [hdescrambled, hframe]
  clear_value waits
  cases waits <;> rfl

/-- A trained receive braid that is neither retired, nor part of a bight, nor dozing, and a flit on its line with no second reading,
which is `f` in the clear; `scr` is where it leaves the descrambler (R82, R128, R336). -/
structure State.Hears (s : State) (b : Fin 8) (line : LineRx) (bits f : LinkFlit) (scr : BitVec 31) : Prop where
  clocked : s.clocked = true
  domain : s.domainUp (.rxw b) = true
  trained : (s.shape 1 b).trained = true
  live : (s.shape 1 b).retired = false
  bight : s.bighted b = false
  doze : bit s.pwr.rxDoze b.val = false
  left : s.pwr.rxLeft.get b = 0
  brings : (s.takeLine b line).1 = some bits
  alt : (s.takeLine b line).2.1 = none
  clear : f = BitVec.ofNat 1280 (bits.toNat ^^^ (scrRun 1280 (s.link.rx.get b).scr.toNat).1)
  next : scr = BitVec.ofNat 31 (scrRun 1280 (s.link.rx.get b).scr.toNat).2

/-- The flit is off the line and descrambled. -/
def State.descrambled (s : State) (b : Fin 8) (line : LineRx) (scr : BitVec 31) : State :=
  (s.takeLine b line).2.2.modRx b (·.descrambled scr)

/-- The frame that a braid hears is judged by its CRC. -/
def State.judges (s : State) (b : Fin 8) (f : LinkFlit) : State := if linkCrcOk f then s.takeFrame b f else s.crcFailed b f

/-- The frame that a braid hears is judged, and the port goes on. -/
theorem frameIn_of_hears {line : LineRx} {bits f : LinkFlit} {scr : BitVec 31} (h : s.Hears b line bits f scr) :
    s.frameIn b line = ((s.descrambled b line scr).judges b f).sendFinals.portStep := by
  have hkept : ((s.takeLine b line).2.2.link.rx.get b).scr = (s.link.rx.get b).scr :=
    takeLine_read s b line (fun u => (u.link.rx.get b).scr) fun u => by rw [offLine_rx]; rfl
  have htaken : (s.takeLine b line).2.2.receiveFlit b bits none = (s.descrambled b line scr).judges b f :=
    receiveFlit_of_no_alt _ b (by rw [hkept]; exact h.clear) (by rw [hkept]; exact h.next)
  unfold State.frameIn
  simp [h.clocked, h.domain, h.trained, h.live, h.bight, h.doze, h.left, h.brings, h.alt, htaken]

/-- LINK_FRAME_RECEIVE at a port at rest, where judging the frame leaves what decides whether it goes on of itself: the last numbers
of retired braids are told, and nothing else goes on. -/
theorem execLinkFrameReceive_of_hears {line : LineRx} {bits f : LinkFlit} {scr : BitVec 31} {t : State}
    (h : s.Hears b line bits f scr) (hstill : s.still = true) (ht : (s.descrambled b line scr).judges b f = t)
    (hgo : t.goView = s.goView) : exec (.linkFrameReceive b line.pads line.words) s = done t.sendFinals := by
  show done (s.frameIn b line) = _
  rw [frameIn_of_hears s b h, ht, sendFinals_portStep_of_still t ((still_of_goView hgo).trans hstill)]

section
variable (line : LineRx) (scr : BitVec 31)

/-- The flit is off the line and descrambled, and the port judges and decides as before. -/
theorem descrambled_lineView : (s.descrambled b line scr).lineView = (s.modRx b (·.descrambled scr)).lineView :=
  modRx_lineView_congr (takeLine_lineView s b line) b (fun j => { j with scr := scr }) (fun _ => rfl) (fun _ => rfl)
    (fun _ => rfl) fun _ => rfl

theorem descrambled_judged :
    ((s.descrambled b line scr).link.rx.get b).judged = ((s.link.rx.get b).descrambled scr).judged := by
  rw [judged_of_lineView (descrambled_lineView s b line scr) b, State.modRx_link, oct_get_upd_self]

theorem descrambled_goView : (s.descrambled b line scr).goView = s.goView :=
  (congrArg LineView.go (descrambled_lineView s b line scr)).trans (modRx_goView s b _ fun _ => rfl)

theorem descrambled_ackIn (c : Fin 8) : ((s.descrambled b line scr).link.tx.get c).ackIn = (s.link.tx.get c).ackIn :=
  congrFun (congrArg LineView.ackIn (descrambled_lineView s b line scr)) c

theorem descrambled_cls : (s.descrambled b line scr).cls = s.cls := takeLine_read s b line State.cls fun _ => rfl

theorem descrambled_overrunVc (l : List NocFlit) : (s.descrambled b line scr).overrunVc b l = s.overrunVc b l := by
  have hocc : ∀ v, rxOcc ((s.descrambled b line scr).link.rx.get b) v = rxOcc ((s.takeLine b line).2.2.link.rx.get b) v :=
    fun v => by rw [State.descrambled, State.modRx_link, oct_get_upd_self]; rfl
  rw [← takeLine_read s b line (·.overrunVc b l) fun u => offLine_overrunVc u b l]
  simp only [State.overrunVc, hocc]
  rfl

end

/-- A frame that fails its CRC, as a port at rest leaves it. -/
theorem badFrame_waits {line : LineRx} {bits f : LinkFlit} {scr : BitVec 31} (h : s.Hears b line bits f scr)
    (hstill : s.still = true) (hbad : linkCrcOk f = false) (hnormal : (s.link.rx.get b).nakWait = false) :
    ∃ t : State, exec (.linkFrameReceive b line.pads line.words) s = done t.sendFinals
      ∧ (t.link.rx.get b).judged = ((s.link.rx.get b).descrambled scr).crcCounted.waiting.judged
      ∧ (t.link.rx.get b).due = .nak := by
  have hjudged := descrambled_judged s b line scr
  have hnormal' : ((s.descrambled b line scr).link.rx.get b).nakWait = false := (congrArg Judged.nakWait hjudged :).trans hnormal
  obtain ⟨hview, hdue⟩ := crcFailed_waits (s.descrambled b line scr) b f hnormal'
  have hgo : ((s.descrambled b line scr).crcFailed b f).goView = s.goView := by
    rw [show State.goView _ = _ from congrArg LineView.go hview]
    exact (modRx_goView _ b RxBraid.waiting fun _ => rfl).trans ((modRx_goView _ b RxBraid.crcCounted fun _ => rfl).trans
      (descrambled_goView s b line scr))
  refine ⟨_, execLinkFrameReceive_of_hears s b h hstill (if_neg (by simp [hbad])) hgo, ?_, hdue⟩
  rw [judged_of_lineView hview b, State.modRx_link, State.modRx_link, oct_get_upd_self, oct_get_upd_self]
  exact (congrArg (fun j : Judged => j.crcCounted.waiting) hjudged :)

/-- The frame EXPECTED names, as a port at rest leaves it. -/
theorem goodFrame_accepted {line : LineRx} {bits f : LinkFlit} {scr : BitVec 31} (h : s.Hears b line bits f scr)
    (hstill : s.still = true) (hgood : linkCrcOk f = true) (hdata : (hdrOf f).ftype = 1)
    (hkind : (hdrOf f).ackKind ≠ 3) (hseq : (hdrOf f).seq = (s.link.rx.get b).expected)
    (hroom : s.overrunVc b (legalSlots s.cls (hdrOf f) f).1 = none) (hop : (s.shape 1 b).op = none) :
    ∃ t : State, exec (.linkFrameReceive b line.pads line.words) s = done t.sendFinals
      ∧ (t.link.rx.get b).judged = (((s.link.rx.get b).descrambled scr).accepting (hdrOf f).seq).judged
      ∧ (t.link.tx.get b).ackIn = ((s.link.tx.get b).told s.cls (hdrOf f)).ackIn := by
  have hjudged := descrambled_judged s b line scr
  have hcls := descrambled_cls s b line scr
  have hseq' : (hdrOf f).seq = ((s.descrambled b line scr).link.rx.get b).expected :=
    hseq.trans (congrArg Judged.expected hjudged :).symm
  have hroom' : (s.descrambled b line scr).overrunVc b (legalSlots (s.descrambled b line scr).cls (hdrOf f) f).1 = none := by
    rw [hcls, descrambled_overrunVc, hroom]
  have hop' : (((s.descrambled b line scr).modTx b (·.told s.cls (hdrOf f))).shape 1 b).op = none :=
    (congrArg Judged.op hjudged :).trans hop
  have htake := takeFrame_of_expected (s.descrambled b line scr) b f hdata hkind hseq' hroom'
  rw [hcls] at htake
  have hview := accept_lineView ((s.descrambled b line scr).modTx b (·.told s.cls (hdrOf f))) b (hdrOf f) f
    (legalSlots s.cls (hdrOf f) f).1 (legalSlots s.cls (hdrOf f) f).2 hdata hop'
  rw [← htake] at hview
  have hgo : ((s.descrambled b line scr).takeFrame b f).goView = s.goView := by
    rw [show State.goView _ = _ from congrArg LineView.go hview]
    exact (modRx_goView _ b (·.accepting _) fun _ => rfl).trans ((modTx_goView _ b (·.told _ _) fun _ => rfl).trans
      (descrambled_goView s b line scr))
  refine ⟨_, execLinkFrameReceive_of_hears s b h hstill (if_pos hgood) hgo, ?_, ?_⟩
  · rw [judged_of_lineView hview b, State.modRx_link, oct_get_upd_self]
    exact (congrArg (·.accepting (hdrOf f).seq) hjudged :)
  · have htold : (((s.descrambled b line scr).modTx b (·.told s.cls (hdrOf f))).link.tx.get b).ackIn =
        ((s.link.tx.get b).told s.cls (hdrOf f)).ackIn := by
      rw [State.modTx_link, oct_get_upd_self, TxBraid.told, TxBraid.told, descrambled_ackIn]
    exact (congrFun (congrArg LineView.ackIn hview) b :).trans htold

end Sys2Proof.Machine

open Sys2Proof Sys2Proof.Machine

/-- Settles O24: a frame that fails its CRC starts NAK_WAIT (`crcFailed_waits`), and the one EXPECTED names is accepted
(`accept_lineView`). -/
theorem frameReceiveCompletes : Obligations.FrameReceiveCompletes := by
  constructor
  · rintro s b line bits f ⟨hclocked, hdomain, htrained, hlive, hbight, hdoze, hleft, hbits, halt, hclear, hbad, hnormal, hstill⟩
    obtain ⟨scr, hnext⟩ : ∃ scr, scr = BitVec.ofNat 31 (scrRun 1280 (s.link.rx.get b).scr.toNat).2 := ⟨_, rfl⟩
    have hears : s.Hears b line bits f scr :=
      ⟨hclocked, hdomain, htrained, hlive, hbight, hdoze, hleft, hbits, halt, hclear, hnext⟩
    obtain ⟨t, hc, hjudged, hdue⟩ := badFrame_waits s b hears hstill hbad hnormal
    have hkept : (t.sendFinals.link.rx.get b).judged = (t.link.rx.get b).judged := (congrArg RxBraid.judged (sendFinals_rx t b) :)
    have hdue' : (t.sendFinals.link.rx.get b).due = .nak := (congrArg RxBraid.due (sendFinals_rx t b) :).trans hdue
    obtain ⟨hexpected, hwait, hcrc, hscr, -⟩ : _ ∧ _ ∧ _ ∧ _ ∧ _ := by
      simpa only [RxBraid.judged, Judged.mk.injEq] using hkept.trans hjudged
    refine completes_done hc ?_
    rw [State.flushEvents_link]
    exact ⟨hexpected, hwait, hdue', hcrc, hscr.trans hnext⟩
  · rintro s b line bits f ⟨hclocked, hdomain, htrained, hlive, hbight, hdoze, hleft, hbits, halt, hclear, hgood, hdata, hkind, hseq,
      hroom, hop, hstill⟩
    obtain ⟨scr, hnext⟩ : ∃ scr, scr = BitVec.ofNat 31 (scrRun 1280 (s.link.rx.get b).scr.toNat).2 := ⟨_, rfl⟩
    have hears : s.Hears b line bits f scr :=
      ⟨hclocked, hdomain, htrained, hlive, hbight, hdoze, hleft, hbits, halt, hclear, hnext⟩
    obtain ⟨t, hc, hjudged, hack⟩ := goodFrame_accepted s b hears hstill hgood hdata hkind hseq hroom hop
    have hkept : (t.sendFinals.link.rx.get b).judged = (t.link.rx.get b).judged := (congrArg RxBraid.judged (sendFinals_rx t b) :)
    have hack' : (t.sendFinals.link.tx.get b).ackIn = (t.link.tx.get b).ackIn := (congrArg TxBraid.ackIn (sendFinals_tx t b) :)
    obtain ⟨hexpected, hwait, -⟩ : _ ∧ _ ∧ _ := by
      simpa only [RxBraid.judged, Judged.mk.injEq] using hkept.trans hjudged
    refine completes_done hc ?_
    rw [State.flushEvents_link]
    exact ⟨hexpected.trans (congrArg (· + 1) hseq), hwait, hack'.trans hack⟩
end

section
/-!
LEMMAS. Acknowledgement and replay (R168, R176 to R179): an ACK in the window leaves what decides whether a port goes on of itself
(`State.besidesAcked`), and the timers of a braid that is UP change that braid alone.
-/
namespace Sys2Proof.Machine

variable (s : State) (b : Fin 8)

/-! ### An ACK in the window -/

/-- The state without what freeing acknowledged frames notes beside their braid: the exchanges whose CONTROL frames were
acknowledged, and the buckets that may complete their moves. -/
def State.besidesAcked (s : State) : State :=
  { s with
    pwr := { s.pwr with dzAcked := 0, pkAcked := 0 }
    lash := { s.lash with swAcked := 0 }
    noc := { s.noc with buckets := [] } }

theorem ctlAcked_besidesAcked (h : Held) : (s.ctlAcked b h).besidesAcked = s.besidesAcked := by
  unfold State.ctlAcked
  split <;> rfl

/-- A transmit braid once an ACK of a number has freed what it covers. -/
def TxBraid.freed (t : TxBraid) (k : BitVec 16) (now : Time) : TxBraid :=
  { t with
    held := t.held.filter fun h => seqBefore k h.seq
    oldest := k + 1
    ackAt := now
    replay := match t.replay with
      | some q => if !seqBefore k q then (if k + 1 = t.next then none else some (k + 1)) else some q
      | none => none }

/-- With no operation in progress an ACK that frees frames completes none. -/
theorem freeTo_of_no_op (k : BitVec 16) (hop : (s.shape 0 b).op = none) :
    (s.freeTo b k).besidesAcked = (s.modTx b (·.freed k s.now)).besidesAcked := by
  have hnone : (s.link.tx.get b).shape.op = none := hop
  unfold State.freeTo
  simp only [hnone, Bool.not_not]
  exact (foldl_keeps State.besidesAcked _ _ _ fun u h _ => ctlAcked_besidesAcked u b h :)

/-- A transmit braid once the XON bits of a header are in force and its acknowledgements are taken. -/
def TxBraid.heard (t : TxBraid) (xon : BitVec 8) : TxBraid :=
  { t with farXon := xon, ackIn := [], stalled := t.stalled &&& ~~~xon }

/-- An ACK in the window is applied: it frees what it covers, with the XON bits of its header. -/
theorem applyAcks_of_ack (k : BitVec 16) (xon : BitVec 8) (hin : (s.link.tx.get b).ackIn = [(1, k, xon)])
    (hwhere : ackWhere (s.link.tx.get b) k = .inside) : s.applyAcks b = (s.modTx b (·.heard xon)).freeTo b k := by
  unfold State.applyAcks
  simp [hin, hwhere, bestAck, State.ackOutside, TxBraid.heard]

theorem besidesAcked_still : s.besidesAcked.still = s.still := rfl

/-- What an ACK in the window leaves behind: the braid with what it covers freed, and else what the exchanges note. -/
theorem applyAcks_besidesAcked {k : BitVec 16} {xon : BitVec 8} (hin : (s.link.tx.get b).ackIn = [(1, k, xon)])
    (hwhere : ackWhere (s.link.tx.get b) k = .inside) (hop : (s.shape 0 b).op = none) :
    (s.applyAcks b).besidesAcked = (s.modTx b fun t => (t.heard xon).freed k s.now).besidesAcked := by
  rw [applyAcks_of_ack s b k xon hin hwhere, freeTo_of_no_op _ b k (by simpa [State.shape, TxBraid.heard] using hop), modTx_modTx]
  rfl

/-- ACK_APPLY of an ACK in the window, where nothing waits to start on the braid: nothing else goes on. -/
theorem execAckApply_of_ack {k : BitVec 16} {xon : BitVec 8} (hclocked : s.clocked = true)
    (hin : (s.link.tx.get b).ackIn = [(1, k, xon)]) (hwhere : ackWhere (s.link.tx.get b) k = .inside)
    (hop : (s.shape 0 b).op = none) (hidle : s.braidIdle b) (hcmds : s.link.retrainCmds = []) (hstill : s.still = true) :
    exec (.ackApply b) s = done (s.applyAcks b) := by
  have hview := applyAcks_besidesAcked s b hin hwhere hop
  obtain ⟨hqueue, hwant, hsweep⟩ := hidle
  have hlink : (s.applyAcks b).link = (s.modTx b fun t => (t.heard xon).freed k s.now).link :=
    (congrArg State.link hview :)
  have hcal : (s.applyAcks b).cal = s.cal := (congrArg State.cal hview :)
  have hstill' : (s.applyAcks b).still = true := by
    rw [← besidesAcked_still, hview, besidesAcked_still, still_of_goView (modTx_goView s b _ fun _ => by rfl), hstill]
  have hqueue' : ((s.applyAcks b).shape 0 b).queue = [] := by
    simpa [State.shape, hlink, TxBraid.freed, TxBraid.heard] using hqueue
  show done (if s.clocked then _ else s) = _
  rw [if_pos hclocked, runStrands_of_empty _ b hqueue', settleRetrains_of_none _ b (by rw [hlink]; exact hcmds),
    calNext_of_idle _ b (by rw [hcal]; exact hwant) (by rw [hcal]; exact hsweep), portStep_of_still _ hstill']

/-! ### The timers of a braid that is UP -/

/-- What falls due for a receive braid whose transmit braid is UP rides in that braid's own headers. -/
theorem oweFrame_of_up (h : (s.link.tx.get b).ladder = .up) : s.oweFrame b = s := if_pos h

theorem dueNak_of_up (h : (s.link.tx.get b).ladder = .up) : s.dueNak b = s.modRx b fun r => { r with due := .nak } :=
  oweFrame_of_up (s.modRx b _) b h

theorem dueAck_of_up (h : (s.link.tx.get b).ladder = .up) (hdue : (s.link.rx.get b).due = .none) :
    s.dueAck b = s.modRx b fun r => { r with due := .ack } := by
  have hack : (s.modRx b fun r => { r with due := if r.due == .nak then .nak else .ack })
      = s.modRx b fun r => { r with due := .ack } := by simp [State.modRx, Oct.upd, hdue]
  exact (oweFrame_of_up (s.modRx b _) b h).trans hack

/-- A replay from a number of frames none of which has been resent four times. -/
theorem startReplay_of_fresh (frm : BitVec 16) (h : ∀ x ∈ (s.link.tx.get b).held, x.resends < 4) :
    s.startReplay b frm = s.modTx b fun t =>
      { t with replay := some frm, replayFrom := frm, replayAt := s.now, freeResend := false } := by
  have hnone : (s.link.tx.get b).held.find? (fun x => !seqBefore x.seq frm && x.resends ≥ 4) = none :=
    List.find?_eq_none.mpr fun x hx => by simp [Nat.not_le.mpr (h x hx)]
  simp only [State.startReplay, hnone]

end Sys2Proof.Machine

open Sys2Proof Sys2Proof.Machine

/-- Settles O25: an ACK in the window frees what it covers (`applyAcks_besidesAcked`) and starts nothing, and each timer of a braid
that is UP makes its one change. -/
theorem acksComplete : Obligations.AcksComplete := by
  refine ⟨?_, ?_, ?_, ?_, ?_⟩
  · rintro s b k xon ⟨hclocked, hin, hwhere, hop, hidle, hcmds, hstill⟩
    have htx : (s.applyAcks b).link.tx.get b = ((s.link.tx.get b).heard xon).freed k s.now := by
      rw [show (s.applyAcks b).link.tx = (s.modTx b fun t => (t.heard xon).freed k s.now).link.tx from
        congrArg (fun u => u.link.tx) (applyAcks_besidesAcked s b hin hwhere hop)]
      exact oct_get_upd_self _ _ _
    refine completes_done (execAckApply_of_ack s b hclocked hin hwhere hop hidle hcmds hstill) ?_
    rw [State.flushEvents_link, htx]
    exact ⟨rfl, rfl, rfl, rfl, rfl⟩
  · rintro s b ⟨hquiet, hwait, htrained, hup⟩
    have hc : exec (.nakRepeat b) s = done (s.modRx b fun r => { r with due := .nak }) := by
      show done (if _ then s.dueNak b else s) = _
      rw [if_pos (by simp [hwait, htrained]), dueNak_of_up s b hup]
    exact completes_quiet hc hquiet rfl
  · rintro s b ⟨hquiet, htimer, hdue, hup⟩
    have hc : exec (.ackTimerExpiry b) s = done (s.modRx b fun r => { r with due := .ack }) := by
      show done (if _ then s.dueAck b else s) = _
      rw [if_pos htimer, dueAck_of_up s b hup hdue]
    exact completes_quiet hc hquiet rfl
  · rintro s b ⟨hquiet, hup, hheld, hfresh⟩
    have hc : exec (.replayTimeout b) s = done (s.startReplay b (s.link.tx.get b).oldest) := by
      show done (if _ then _ else s) = _
      rw [if_pos (by simp [hup, hheld])]
    rw [startReplay_of_fresh s b _ hfresh] at hc
    exact completes_quiet hc hquiet (by simp)
  · rintro s b ⟨hquiet, hup⟩
    have hc : exec (.idleDue b) s = done (s.modTx b fun t => { t with idleDue := true }) := by
      show done (if _ then _ else s) = _
      rw [if_pos (by simp [hup])]
    exact completes_quiet hc hquiet rfl
end

section
/-!
LEMMAS. Release, sending, stalls and quiescent buckets (R181, R185, R203, R210, R335): a frame sent where nothing is held changes the
line of its own braid, and a flit released goes no further while egress is closed.
-/
namespace Sys2Proof.Machine

variable (s : State) (b : Fin 8)

/-! ### A flit released -/

/-- Whether an engine takes a flit does not depend on the receive braids. -/
theorem modRx_engineTake_none (f : RxBraid → RxBraid) (rx : Bool) (x : NocFlit) :
    (s.modRx b f).engineTake rx x = none ↔ s.engineTake rx x = none := by
  simp only [State.engineTake, ite_eq_iff, reduceCtorEq, and_false, false_or, and_true]
  exact Iff.rfl

/-- A receive braid whose one flit no engine takes keeps it. -/
theorem takeEligible_of_passed (x : RxFlit) (hbuf : (s.link.rx.get b).buf = [x]) (htake : s.engineTake true x.flit = none) :
    s.takeEligible b = s := by
  simp [State.takeEligible, hbuf, htake]

/-- With egress closed and no forwarded flit gone, nothing leaves. -/
theorem egressStep_of_closed (hopen : s.egressOpen = false) (hsent : s.noc.redSent = []) : s.egressStep = s := by
  have hsame : ({ s with noc.redSent := [] } : State) = s := by rw [← hsent]
  simp [State.egressStep, State.egressDrive, hopen, State.redSettle, hsent, hsame]

/-- A receive braid whose one flit has become eligible. -/
def RxBraid.released (r : RxBraid) (x : RxFlit) : RxBraid :=
  { r with buf := r.buf.map fun y => if y = x then { y with eligible := true } else y }

/-- The one flit of a receive braid is released, and stays where it is. -/
theorem execFlitRelease_of_one (x : RxFlit) (hclocked : s.clocked = true) (hbuf : (s.link.rx.get b).buf = [x])
    (heligible : x.eligible = false) (htake : s.engineTake true x.flit = none) (hopen : s.egressOpen = false)
    (hsent : s.noc.redSent = []) (hstill : s.still = true) :
    exec (.flitRelease b) s = done (s.modRx b (·.released x)).sendFinals := by
  have hfind : (s.link.rx.get b).buf.find? (fun y => !y.eligible) = some x := by simp [hbuf, heligible]
  have hbuf' : ((s.modRx b (·.released x)).link.rx.get b).buf = [{ x with eligible := true }] := by
    simp [RxBraid.released, hbuf]
  have hstill' : (s.modRx b (·.released x)).still = true := by
    rw [still_of_goView (modRx_goView s b (·.released x) fun _ => rfl), hstill]
  show done (if (!s.clocked) = true then s else match (s.link.rx.get b).buf.find? fun y => !y.eligible with
    | some x => (((s.modRx b (·.released x)).takeEligible b).egressStep).sendFinals.portStep
    | none => s) = _
  simp only [hfind, hclocked, Bool.not_true, Bool.false_eq_true, if_false]
  rw [takeEligible_of_passed _ b _ hbuf' ((modRx_engineTake_none s b _ true x.flit).mpr htake),
    egressStep_of_closed (s.modRx b (·.released x)) hopen hsent, sendFinals_portStep_of_still _ hstill']

/-! ### A flit period -/

/-- In a flit period of a dozing braid the scrambler goes on (R336). -/
theorem flitPeriod_of_dozing (launch : Nat) (hclocked : s.clocked = true) (hlive : (s.link.tx.get b).shape.retired = false)
    (hreq : s.start.reqHeld = false) (hbight : s.bighted b = false) (hphase : (s.link.tx.get b).training.phase.running = false)
    (hburst : s.pwr.burstLeft.get b = 0) (hdoze : bit s.pwr.dozing b.val = true) : s.flitPeriod b launch = s.skipFlit b := by
  simp [State.flitPeriod, hclocked, hlive, hreq, hbight, hphase, hburst, hdoze]

/-- A braid that has trained and waits for its retrain to end sends an IDLE, where it replays nothing and no CONTROL frame may go
(R185). -/
theorem flitPeriod_of_waiting (launch : Nat) (hclocked : s.clocked = true) (hlive : (s.link.tx.get b).shape.retired = false)
    (hreq : s.start.reqHeld = false) (hbight : s.bighted b = false) (hphase : (s.link.tx.get b).training.phase = .trained)
    (hburst : s.pwr.burstLeft.get b = 0) (hdoze : bit s.pwr.dozing b.val = false)
    (hladder : (s.link.tx.get b).ladder = .retraining) (hreplay : (s.link.tx.get b).replay = none)
    (hctl : s.ctlReady b = false) : s.flitPeriod b launch = s.sendIdle b := by
  have hstreams : s.streams b = true := by simp [State.streams, hlive, hphase]
  have hwaits : s.flitPeriod b launch = s.sendTrained b := by
    simp [State.flitPeriod, hclocked, hlive, hreq, hbight, hphase, hburst, hdoze, hladder, hstreams, TrainPhase.running]
  rw [hwaits, State.sendTrained]
  simp [hreplay, hctl]

/-- What a frame sent changes of its braid and of the record of the line, as far as O26 speaks of it. -/
def State.lineCount (s : State) (b : Fin 8) : Nat × Nat × BitVec 16 × Bool :=
  (s.out.link.length, (s.link.tx.get b).flits, (s.link.tx.get b).next, (s.link.tx.get b).idleDue)

/-- The acknowledgement of a header is the receive braid's. -/
theorem takeAck_lineCount (r : Fin 8) : (s.takeAck r).2.2.lineCount b = s.lineCount b := by
  unfold State.takeAck
  dsimp only
  split <;> rfl

/-- A flit driven is recorded once and counted once. -/
theorem driveFlit_lineCount (f : LinkFlit) : (s.driveFlit b f).lineCount b =
    ((s.lineCount b).1 + 1, (s.lineCount b).2.1 + 1, (s.lineCount b).2.2) := by
  unfold State.driveFlit State.driveRaw State.lineCount
  dsimp only
  split <;> simp [-Nat.reducePow]

/-- An IDLE sent is one flit of the line, takes no number, and is due no more (R168). -/
theorem sendIdle_lineCount : (s.sendIdle b).lineCount b =
    (s.out.link.length + 1, (s.link.tx.get b).flits + 1, (s.link.tx.get b).next, false) := by
  rw [State.sendIdle, State.sendFrame, driveFlit_lineCount, takeAck_lineCount]
  simp [State.lineCount]

/-! ### Stalls and buckets -/

/-- A bucket that is quiescent completes its move, and nothing else goes on at a port at rest. -/
theorem execBucketQuiescent_moves (i : BitVec 8) (hmoving : (s.bucket i.toNat).moving = true)
    (hservice : s.inService (s.bucket i.toNat).braid = true) (hquiescent : s.quiescent i.toNat = true)
    (hstill : s.still = true) : exec (.bucketQuiescent i) s = done (s.completeMove i.toNat) := by
  have hstill' : (s.completeMove i.toNat).still = true := hstill
  show done (if _ then (s.completeMove i.toNat).portStep else s) = _
  rw [if_pos (by simp [hmoving, hservice, hquiescent]), portStep_of_still _ hstill']

end Sys2Proof.Machine

open Sys2Proof Sys2Proof.Machine

/-- Settles O26, command by command. -/
theorem sendCompletes : Obligations.SendCompletes := by
  refine ⟨?_, ?_, ?_, ?_, ?_, ?_⟩
  · rintro s b x ⟨hclocked, hbuf, heligible, hfenced, htake, hopen, hsent, hstill⟩
    refine completes_done (execFlitRelease_of_one s b x hclocked hbuf heligible htake hopen hsent hstill) ?_
    have hkept : ((s.modRx b (·.released x)).sendFinals.link.rx.get b).buf =
        ((s.modRx b (·.released x)).link.rx.get b).buf := (congrArg RxBraid.buf (sendFinals_rx _ b) :)
    rw [State.flushEvents_link, hkept]
    simp [RxBraid.released, hbuf]
  · rintro s b c ⟨hquiet, hclocked, hlive, hreq, hbight, hphase, hburst, hdoze⟩
    have hc : exec (.transmitFlitPeriod b c) s = done (s.skipFlit b) :=
      congrArg done (flitPeriod_of_dozing s b _ hclocked hlive hreq hbight hphase hburst hdoze)
    exact completes_quiet hc hquiet (by simp [State.skipFlit, -Nat.reducePow])
  · rintro s b c ⟨-, hclocked, hlive, hreq, hbight, hphase, hburst, hdoze, hladder, hreplay, hctl⟩
    have hc : exec (.transmitFlitPeriod b c) s = done (s.sendIdle b) :=
      congrArg done (flitPeriod_of_waiting s b _ hclocked hlive hreq hbight hphase hburst hdoze hladder hreplay hctl)
    obtain ⟨hout, hflits, hnext, hidle⟩ : _ ∧ _ ∧ _ ∧ _ := by
      simpa only [State.lineCount, Prod.mk.injEq] using sendIdle_lineCount s b
    refine completes_done hc ?_
    rw [State.flushEvents_link, State.flushEvents_out]
    exact ⟨hout, hflits, hidle, hnext⟩
  · rintro s b v ⟨hquiet, hwaits, hheld, hstalled⟩
    refine completes_done (u := { s with
      noc.stalls := s.noc.stalls + 1, noc.egStalled := setBf s.noc.egStalled v.val 1 1 }.raise 0x30 (code := 1)
        (arg0 := max 1 (bf s.noc.fcCtl 9 7)) (braid := b.val) (dir := 1) (vc := v.val)) ?_ ?_
    · show done (if _ then _ else s) = _
      rw [if_pos (by simp [hwaits, hheld, hstalled])]
    · exact ⟨by simp, by simp, counted_flush _ _ _ (by decide) rfl (by simp [State.raise, hquiet, eventsOf]), by simp⟩
  · rintro s i ⟨hmoving, hservice, hquiescent, hstill⟩
    refine completes_done (execBucketQuiescent_moves s i hmoving hservice hquiescent hstill) ?_
    have hbucket : ∀ u : State, u.flushEvents.bucket i.toNat = u.bucket i.toNat := fun u => by simp [State.bucket]
    rw [hbucket, completeMove_bucket, if_pos rfl, State.flushEvents_link, State.flushEvents_noc_moves]
    exact ⟨rfl, rfl, rfl, rfl⟩
  · rintro s b v ⟨hquiet, hturn, hxon, hstalled⟩
    refine completes_done (u := { (s.modTx b fun t => { t with stalled := setBf t.stalled v.val 1 1 }) with
      noc.stalls := s.noc.stalls + 1 }.raise 0x30 (code := 0) (arg0 := max 1 (bf s.noc.fcCtl 9 7)) (braid := b.val)
        (vc := v.val)) ?_ ?_
    · show done (if _ then _ else s) = _
      rw [if_pos (by simp [hturn, hxon, hstalled])]
    · exact ⟨by simp, counted_flush _ _ _ (by decide) rfl (by simp [State.raise, hquiet, eventsOf]), by simp, by simp⟩
end

section
/-!
LEMMAS. Every command answers with its events posted (R238, R353, R355): its last act is `done`, also where the block lacks the
interface or the engine it is for.
-/
namespace Sys2Proof.Machine

/-- The outcome is a next state whose events are posted. -/
def Posts (o : Host.Outcome State Fault Refusal) : Prop := ∃ u, o = done u

theorem posts_done (s : State) : Posts (done s) := ⟨s, rfl⟩

theorem posts_ite {c : Prop} [Decidable c] {a b : Host.Outcome State Fault Refusal} (ha : Posts a) (hb : Posts b) :
    Posts (if c then a else b) := by
  split
  · exact ha
  · exact hb

/-- HITCH_WAKE differs by the class of the block. -/
theorem execHitchWake_posts (rx : Bool) (f : NocFlit) (s : State) : Posts (execHitchWake rx f s) := by
  unfold execHitchWake
  cases s.cls <;> exact posts_done _

/-- The commands of an interface or an engine a block may lack ask first whether it is there; the others answer at once. -/
theorem exec_posts (c : Instr) (s : State) : Posts (exec c s) := by
  cases c
  case hitchWake rx f => exact execHitchWake_posts rx f s
  case nclkMonitorWindow | nocIngressFlit | nocEgressCredit | creditInitAck | creditInitTimeout | creditInitRetry |
    creditAuditStart | creditAuditAnswer | creditAuditAbandon | smRelayFrame | smSlotWrite | opticalReport | reduce |
    contribHead | contribData | chunkTimer | jobIdleTimer | preholdExpiry | spillWriteResponse | refillResponse |
    chunkOutput | resultWriteResponse | hitchSignal | hitchWait | hitchUpdate | hitchRead | waiterTimeout | realignEpoch |
    hitchDebugCopy | waiterDebugCopy => exact posts_ite (posts_done _) (posts_done _)
  all_goals exact posts_done _

/-- Of an outcome that posts its events the next state has none waiting. -/
theorem quiet_of_posts {o : Host.Outcome State Fault Refusal} {t : State} (h : Posts o) (hnext : o = .next t) : t.quiet := by
  obtain ⟨u, rfl⟩ := h
  cases hnext
  exact State.flushEvents_flt_queue u

/-- The PCLK of an empty queue posts its events too. -/
theorem tick_quiet (s : State) : s.tick.quiet := State.flushEvents_flt_queue _

end Sys2Proof.Machine

open Sys2Proof Sys2Proof.Machine

/-- Settles O46: a step is one PCLK (`tick_quiet`) or one command (`exec_posts`). -/
theorem stepsPostEveryEvent : Obligations.StepsPostEveryEvent := by
  intro s t h
  change step s = .next t at h
  unfold step at h
  split at h
  · cases h
    exact tick_quiet s
  · next c rest _ => exact quiet_of_posts (exec_posts c { s with pending := rest }) h
end

section
/-!
SUPPORT. What the work of the rings changes of a ring, and what it leaves of a ring and of the state (R224 to R229).
-/
namespace Sys2Proof.Machine

variable (s : State)

/-! ### One ring -/

@[simp] theorem modRing_ring_self (r : Nat) (f : Ring → Ring) : (s.modRing r f).ring r = f (s.ring r) :=
  tget_tupd_self ring0 s.rings.ring r f

theorem modRing_ring_ne {r q : Nat} (f : Ring → Ring) (h : q ≠ r) : (s.modRing r f).ring q = s.ring q :=
  tget_tupd_ne ring0 s.rings.ring r q f h

/-- What a change keeps of the ring it is made to, it keeps of every ring. -/
theorem modRing_ring_keeps {β : Type} (p : Ring → β) (r q : Nat) (f : Ring → Ring) (hf : p (f (s.ring r)) = p (s.ring r)) :
    p ((s.modRing r f).ring q) = p (s.ring q) := by
  by_cases h : q = r
  · subst h; rw [modRing_ring_self, hf]
  · rw [modRing_ring_ne s f h]

@[simp] theorem modLine_ring (k : Fin 8) (f : Line → Line) (r : Nat) : (s.modLine k f).ring r = s.ring r := rfl
@[simp] theorem ringMem_ring (m : MemReq) (r : Nat) : (s.ringMem m).ring r = s.ring r := rfl

/-! ### The state beside the rings -/

/-- The state without what the work of the rings may change: the rings, the doorbell lines, the high-water mark of the
completion FIFO, and the egress queue of the ring engine. -/
def State.besidesRings (s : State) : State :=
  { s with rings := { s.rings with ring := [], line := Oct.all zeroLine, fifoHigh := 0 }, noc := s.nocRest }

/-- What two states that agree beside the rings have in common, as far as the statements on the rings speak of it. -/
theorem of_besidesRings {s t : State} (h : t.besidesRings = s.besidesRings) :
    t.straps = s.straps ∧ t.start = s.start ∧ t.link = s.link ∧ t.rings.fifo = s.rings.fifo ∧ (s.quiet → t.quiet) :=
  ⟨(congrArg State.straps h :), (congrArg State.start h :), (congrArg State.link h :), (congrArg (fun u => u.rings.fifo) h :),
    fun hquiet => (congrArg (fun u => u.flt.queue) h :).trans hquiet⟩

theorem writeShadow_besidesRings (k : Fin 8) : (s.writeShadow k).besidesRings = s.besidesRings :=
  foldl_keeps State.besidesRings _ _ _ fun _ _ _ => rfl

theorem indexMoved_besidesRings (r : Nat) : (s.indexMoved r).besidesRings = s.besidesRings := by
  unfold State.indexMoved
  dsimp only
  split
  · exact writeShadow_besidesRings _ _
  · rfl

theorem consume_besidesRings (r : Nat) : (s.consume r).besidesRings = s.besidesRings := by
  unfold State.consume
  dsimp only
  split
  · rfl
  · split
    · exact (writeShadow_besidesRings _ _).trans (indexMoved_besidesRings _ _)
    · exact indexMoved_besidesRings _ _

theorem fetchMore_besidesRings (n : Nat) (s : State) (r : Nat) : (State.fetchMore n s r).besidesRings = s.besidesRings := by
  induction n generalizing s with
  | zero => rfl
  | succ n ih =>
    unfold State.fetchMore
    dsimp only
    split
    · exact ih _
    · rfl

/-! ### Shadow writes and indices that move (R226) -/

/-- A ring without what a shadow write notes in it. -/
def Ring.besidesShadow (g : Ring) : Ring := { g with shadowed := 0, msiWait := 0, msiPend := 0 }

theorem writeShadow_ring (k : Fin 8) (q : Nat) : ((s.writeShadow k).ring q).besidesShadow = (s.ring q).besidesShadow :=
  foldl_keeps (fun u => (u.ring q).besidesShadow) _ _ _ fun u r _ => modRing_ring_keeps u Ring.besidesShadow r q _ rfl

theorem indexMoved_ring (r q : Nat) : ((s.indexMoved r).ring q).besidesShadow = (s.ring q).besidesShadow := by
  unfold State.indexMoved
  dsimp only
  split
  · exact writeShadow_ring _ _ q
  · rfl

/-- A ring without what the consumer index changes as it moves. -/
def Ring.besidesIndex (g : Ring) : Ring := { g.besidesShadow with portIdx := 0, visible := 0 }

theorem descs_of_besidesIndex {g h : Ring} (e : h.besidesIndex = g.besidesIndex) : h.descs = g.descs :=
  (congrArg Ring.descs e :)
theorem cfg_of_besidesIndex {g h : Ring} (e : h.besidesIndex = g.besidesIndex) : h.cfg = g.cfg :=
  (congrArg Ring.cfg e :)

theorem besidesIndex_of_shadow {g h : Ring} (hg : h.besidesShadow = g.besidesShadow) : h.besidesIndex = g.besidesIndex := by
  simp only [Ring.besidesIndex, hg]

theorem consume_ring (r q : Nat) : ((s.consume r).ring q).besidesIndex = (s.ring q).besidesIndex := by
  have moved : ∀ c : BitVec 32, (((s.modRing r fun g => { g with portIdx := c, visible := c }).indexMoved r).ring q).besidesIndex
      = (s.ring q).besidesIndex := fun c =>
    (besidesIndex_of_shadow (indexMoved_ring _ r q)).trans (modRing_ring_keeps s Ring.besidesIndex r q _ rfl)
  unfold State.consume
  dsimp only
  split
  · rfl
  · split
    · exact (besidesIndex_of_shadow (writeShadow_ring _ _ q)).trans (moved _)
    · exact moved _

/-! ### Fetching (R228) -/

/-- A ring that may have fetched: its next index, the indices it is to cancel, and more descriptors at the end of its list. -/
def Ring.Fetched (g h : Ring) : Prop :=
  ∃ idx cancel more, h = { g with fetchIdx := idx, toCancel := cancel, descs := g.descs ++ more }

theorem fetchMore_fetched (n : Nat) (s : State) (r : Nat) : (s.ring r).Fetched ((State.fetchMore n s r).ring r) := by
  have same : ∀ u : State, (u.ring r).Fetched (u.ring r) := fun _ => ⟨_, _, [], by rw [List.append_nil]⟩
  induction n generalizing s with
  | zero => exact same s
  | succ n ih =>
    unfold State.fetchMore
    dsimp only
    split
    · obtain ⟨idx, cancel, more, h⟩ := ih _
      rw [h, modRing_ring_self]
      exact ⟨idx, cancel, _, by rw [List.append_assoc]; rfl⟩
    · exact same s

theorem fetchMore_ring_ne (n : Nat) (s : State) {r q : Nat} (h : q ≠ r) : (State.fetchMore n s r).ring q = s.ring q := by
  induction n generalizing s with
  | zero => rfl
  | succ n ih =>
    unfold State.fetchMore
    dsimp only
    split
    · rw [ih, modRing_ring_ne _ _ h, ringMem_ring]
    · rfl

@[simp] theorem fetchMore_line (n : Nat) (s : State) (r : Nat) : (State.fetchMore n s r).rings.line = s.rings.line := by
  induction n generalizing s with
  | zero => rfl
  | succ n ih =>
    unfold State.fetchMore
    dsimp only
    split
    · rw [ih]; rfl
    · rfl

end Sys2Proof.Machine
end

section
/-!
LEMMAS. Doorbell lines (R224, R225): a watch read issued, and a slot applied to the one ring of its line.
-/
namespace Sys2Proof.Machine

variable (s : State)

/-- A watch read leaves its line reading. -/
theorem watchRead_st (k : Fin 8) : ((s.watchRead k).rings.line.get k).st = .reading := by simp [State.watchRead]

/-- A slot inside the window and ahead of the last index taken is the ring's index; the lines stay (R225). -/
theorem applySlot_inWindow (r : Nat) (v : BitVec 32) (hrun : (s.ring r).st = .running) (hsub : (s.ring r).isSub = true)
    (hwindow : (v - (s.ring r).portIdx).toNat ≤ (s.ring r).size) (hahead : (v - (s.ring r).swIdx).toNat < 2 ^ 31) :
    ((s.applySlot r v).ring r).swIdx = v ∧ (s.applySlot r v).rings.line = s.rings.line
      ∧ (s.applySlot r v).besidesRings = s.besidesRings := by
  by_cases hsame : v = (s.ring r).swIdx
  · have h : s.applySlot r v = s := by simp [State.applySlot, hsame]
    rw [h]
    exact ⟨hsame.symm, rfl, rfl⟩
  · have h : s.applySlot r v = State.fetchMore 8 (s.modRing r fun g => { g with swIdx := v }) r := by
      simp [State.applySlot, hrun, hsub, hsame, Nat.not_lt.mpr hwindow, Nat.not_le.mpr hahead, -Nat.reducePow, -BitVec.toNat_sub]
    obtain ⟨idx, cancel, more, hring⟩ := fetchMore_fetched 8 (s.modRing r fun g => { g with swIdx := v }) r
    rw [h]
    exact ⟨by rw [hring, modRing_ring_self], fetchMore_line _ _ _, fetchMore_besidesRings _ _ _⟩

/-- A watch read that came for a line with one ring and no notification noted: the ring takes its slot, and the line watches. -/
theorem watchTaken_of_one (k : Fin 8) (d : BitVec 512) {r : Nat} (hrings : s.lineRings k = [r])
    (hpending : (s.rings.line.get k).pending = false)
    (hline : ((s.modLine k fun l => { l with fails := 0 }).applySlot r (BitVec.ofNat 32 (bf d (64 * (s.ring r).dbSlot) 32))).rings.line
      = (s.modLine k fun l => { l with fails := 0 }).rings.line) :
    s.watchTaken k d = ((s.modLine k fun l => { l with fails := 0 }).applySlot r
      (BitVec.ofNat 32 (bf d (64 * (s.ring r).dbSlot) 32))).modLine k fun l => { l with st := .watching } := by
  have hrings' : (s.modLine k fun l => { l with fails := 0 }).lineRings k = [r] := hrings
  simp only [State.watchTaken, hrings', List.foldl_cons, List.foldl_nil, modLine_ring]
  rw [if_neg]
  simp [hline, hpending]

end Sys2Proof.Machine

open Sys2Proof Sys2Proof.Machine

/-- Settles O9: a watch read is one request and one change of its line, and a response is `watchTaken_of_one`. -/
theorem doorbellsComplete : Obligations.DoorbellsComplete := by
  refine ⟨?_, ?_, ?_, ?_, ?_⟩
  · rintro s k ⟨hquiet, hawake, hwatching⟩
    have hc : exec (.doorbellNotification k) s = done (s.watchRead k) := by
      simp [exec, execDoorbellNotification, State.ringsAsleep, hawake, hwatching]
    exact completes_quiet hc hquiet ⟨watchRead_st s k, rfl, rfl, rfl⟩
  · rintro s k ⟨hquiet, hawake, hreading⟩
    have hc : exec (.doorbellNotification k) s = done (s.modLine k fun l => { l with pending := true }) := by
      simp [exec, execDoorbellNotification, State.ringsAsleep, hawake, hreading]
    exact completes_quiet hc hquiet ⟨by simp, by simp [hreading], rfl, rfl⟩
  · rintro s k ⟨hquiet, hclocked, hretrying⟩
    have hc : exec (.watchReadRetry k) s = done (s.watchRead k) := by
      simp [exec, execWatchReadRetry, hclocked, hretrying]
    exact completes_quiet hc hquiet ⟨watchRead_st s k, rfl, rfl⟩
  · rintro s k ⟨hquiet, hclocked, hawake, hpoll, hone⟩
    have hc : exec .doorbellPoll s = done (s.watchRead k) := by
      simp [exec, execDoorbellPoll, State.ringsAsleep, hclocked, hawake, hpoll, hone]
    exact completes_quiet hc hquiet ⟨watchRead_st s k, rfl, by simp [State.watchRead]⟩
  · rintro s k r d v ⟨hquiet, hreading, hpending, hrings, hrun, hsub, rfl, hwindow, hahead⟩
    obtain ⟨hindex, hline, hrest⟩ := applySlot_inWindow (s.modLine k fun l => { l with fails := 0 }) r _ hrun hsub hwindow hahead
    have hc : exec (.watchReadResponse k d false) s = done (s.watchTaken k d) := by
      simp [exec, execWatchReadResponse, hreading]
    rw [watchTaken_of_one s k d hrings hpending hline] at hc
    obtain ⟨-, -, hlink, -, hquiet'⟩ := of_besidesRings hrest
    refine completes_quiet hc (hquiet' hquiet) ⟨hindex, ?_, ?_, hlink⟩
    · simp
    · simp [hline]
end

section
/-!
LEMMAS. Descriptors (R228, R229, R234): what the operations on a ring do to its descriptors, and the dispatcher where one ring has one
that may start.
-/
namespace Sys2Proof.Machine

variable (s : State)

/-! ### The descriptors of a ring -/

theorem desc_congr {t : State} {r : Nat} (h : (t.ring r).descs = (s.ring r).descs) (i : BitVec 32) : t.desc r i = s.desc r i := by
  simp only [State.desc, h]

theorem consume_desc (r q : Nat) (i : BitVec 32) : (s.consume r).desc q i = s.desc q i :=
  desc_congr s (descs_of_besidesIndex (consume_ring s r q)) i

theorem consume_cfg (r q : Nat) : ((s.consume r).ring q).cfg = (s.ring q).cfg := 
  cfg_of_besidesIndex (consume_ring s r q)

/-- A descriptor changed under its index reads as changed. -/
theorem modDesc_desc_self {r : Nat} {i : BitVec 32} {e : RingDesc} (f : RingDesc → RingDesc) (hf : ∀ x, (f x).index = x.index)
    (h : s.desc r i = some e) : (s.modDesc r i f).desc r i = some (f e) := by
  have hindex : e.index = i := by simpa using List.find?_some h
  have hkept : ((fun x : RingDesc => decide (x.index = i)) ∘ fun x => if x.index = i then f x else x)
      = fun x => decide (x.index = i) := by
    funext x
    by_cases hx : x.index = i <;> simp [hx, hf]
  rw [State.desc] at h
  rw [State.desc, State.modDesc, modRing_ring_self, List.find?_map, hkept, h, Option.map_some, if_pos hindex]

/-- Fetching leaves every descriptor where it is. -/
theorem fetchMore_desc (n : Nat) {r q : Nat} {i : BitVec 32} {e : RingDesc} (h : s.desc r i = some e) :
    (State.fetchMore n s q).desc r i = some e := by
  by_cases hq : r = q
  · subst hq
    obtain ⟨idx, cancel, more, hring⟩ := fetchMore_fetched n s r
    rw [State.desc] at h
    rw [State.desc, hring, List.find?_append, h]
    rfl
  · rw [State.desc, fetchMore_ring_ne n s hq]
    exact h

/-! ### A fetched descriptor (R228) -/

/-- The checks of a descriptor read the kind of its ring, the class and the engines alone. -/
theorem descCheck_congr {t : State} {r : Nat} (d : Desc) (hcfg : (t.ring r).cfg = (s.ring r).cfg) (hstraps : t.straps = s.straps)
    (hstart : t.start = s.start) : t.descCheck r d = s.descCheck r d := by
  have hkind : (t.ring r).kind = (s.ring r).kind := congrArg (bf · 1 3) hcfg
  have hcls : t.cls = s.cls := congrArg Straps.cls hstraps
  have hengines : t.hasRed = s.hasRed ∧ t.hasHitch = s.hasHitch := by
    simp only [State.hasRed, State.hasHitch, State.isOptical, hcls, hstraps, and_self]
  unfold State.descCheck
  rw [hkind, hcls, hengines.1, hengines.2, hstart]

/-- The state once a descriptor has been fetched and its index taken. -/
def State.taken (s : State) (r : Nat) (i : BitVec 32) (d : Desc) : State :=
  ((s.modDesc r i fun e => { e with desc := d }).modDesc r i fun e => { e with st := .ready }).consume r

theorem taken_besidesRings (r : Nat) (i : BitVec 32) (d : Desc) : (s.taken r i d).besidesRings = s.besidesRings :=
  consume_besidesRings _ r

theorem taken_desc {r : Nat} {i : BitVec 32} {e : RingDesc} (d : Desc) (h : s.desc r i = some e) :
    (s.taken r i d).desc r i = some { e with st := .ready, desc := d } := by
  rw [State.taken, consume_desc]
  exact modDesc_desc_self _ (fun e => { e with st := .ready }) (fun _ => rfl)
    (modDesc_desc_self s (fun e => { e with desc := d }) (fun _ => rfl) h)

theorem taken_cfg (r : Nat) (i : BitVec 32) (d : Desc) (q : Nat) : ((s.taken r i d).ring q).cfg = (s.ring q).cfg := by
  have hmod : ∀ (u : State) (f : RingDesc → RingDesc), ((u.modDesc r i f).ring q).cfg = (u.ring q).cfg := fun u f =>
    modRing_ring_keeps u Ring.cfg r q _ rfl
  rw [State.taken, consume_cfg, hmod, hmod]

/-- A descriptor that no CANCEL has marked and that passes its checks is taken, and no more. -/
theorem takeDesc_of_passed (r : RingNo) (i : BitVec 32) (d : Desc) (e : RingDesc) (hmarked : e.marked = false)
    (hseq : dSeq d = i.toNat % 65536) (hcheck : s.descCheck r.val d = none) : s.takeDesc r i e d = s.taken r.val i d := by
  obtain ⟨hstraps, hstart, -⟩ := of_besidesRings (taken_besidesRings s r.val i d)
  have hcheck' : (s.taken r.val i d).descCheck r.val d = none :=
    (descCheck_congr s d (taken_cfg s r.val i d r.val) hstraps hstart).trans hcheck
  unfold State.takeDesc
  dsimp only
  rw [if_neg (not_not.mpr hseq), if_neg (by simp [hmarked])]
  split
  · next status h => exact absurd (hcheck'.symm.trans h) (by simp)
  · rfl

/-! ### The dispatcher (R229, R234) -/

theorem mem_ringsOf {k r : Nat} : r ∈ s.ringsOf k ↔ r < 64 ∧ (s.ring r).enabled = true ∧ (s.ring r).kind = k := by
  simp [State.ringsOf]

/-- What decides which engine serves a ring. -/
def Ring.role (g : Ring) : RingState × Reg := (g.st, g.cfg)

theorem ringsOf_congr {t : State} (h : ∀ r, (t.ring r).role = (s.ring r).role) (k : Nat) : t.ringsOf k = s.ringsOf k := by
  have hst : ∀ r, (t.ring r).st = (s.ring r).st := fun r => (congrArg Prod.fst (h r) :)
  have hcfg : ∀ r, (t.ring r).cfg = (s.ring r).cfg := fun r => (congrArg Prod.snd (h r) :)
  simp only [State.ringsOf, Ring.enabled, Ring.kind, hst, hcfg]

/-- A turn goes to the only one that asks for it, wherever the pointer stands. -/
theorem roundRobin_of_one (ptr : Nat) {ok : Nat → Bool} {r : Nat} (hr : r < 64) (hok : ∀ q < 64, ok q = true ↔ q = r) :
    roundRobin 64 ptr ok = some r := by
  have hmem : r ∈ (List.range 64).map fun i => (ptr + i) % 64 :=
    List.mem_map.mpr ⟨(r + 64 - ptr % 64) % 64, List.mem_range.mpr (Nat.mod_lt _ (by decide)), by omega⟩
  unfold roundRobin
  cases hfind : ((List.range 64).map fun i => (ptr + i) % 64).find? ok with
  | none => exact absurd ((hok r hr).mpr rfl) (List.find?_eq_none.mp hfind r hmem)
  | some q =>
    obtain ⟨i, -, rfl⟩ := List.mem_map.mp (List.mem_of_find?_eq_some hfind)
    exact congrArg some ((hok _ (Nat.mod_lt _ (by decide))).mp (List.find?_some hfind))

theorem roundRobin_of_none (ptr : Nat) {ok : Nat → Bool} (hok : ∀ q < 64, ok q = false) : roundRobin 64 ptr ok = none := by
  refine List.find?_eq_none.mpr fun q hq => ?_
  obtain ⟨i, -, rfl⟩ := List.mem_map.mp hq
  simp [hok ((ptr + i) % 64) (Nat.mod_lt _ (by decide))]

/-- With no ring of a kind the dispatcher starts nothing. -/
theorem dispatchKind_of_none {kind : Nat} (ptr : Nat) (h : s.ringsOf kind = []) : s.dispatchKind kind ptr = (s, ptr) := by
  have hnone : ∀ q < 64, ((s.ring q).enabled && (s.ring q).kind == kind && s.ringReady q) = false := fun q hq => by
    have hq' : q ∉ s.ringsOf kind := by simp [h]
    rw [mem_ringsOf] at hq'
    grind
  unfold State.dispatchKind
  simp only [h, List.foldl_nil]
  rw [roundRobin_of_none ptr hnone]

/-- With one ring of a kind, which has nothing to settle and whose head may start, the dispatcher starts that. -/
theorem dispatchKind_of_one {kind r : Nat} (ptr : Nat) (h : s.ringsOf kind = [r]) (hsettled : s.settleUnstarted r = s)
    (hready : s.ringReady r = true) : s.dispatchKind kind ptr = (s.startHead r, (r + 1) % 64) := by
  obtain ⟨hr, -, -⟩ := (mem_ringsOf s).mp (by rw [h]; exact List.mem_singleton_self r)
  have hone : ∀ q < 64, ((s.ring q).enabled && (s.ring q).kind == kind && s.ringReady q) = true ↔ q = r := fun q hq => by
    have hq' : q ∈ s.ringsOf kind ↔ q = r := by rw [h, List.mem_singleton]
    rw [mem_ringsOf] at hq'
    grind
  unfold State.dispatchKind
  simp only [h, List.foldl_cons, List.foldl_nil, hsettled]
  rw [roundRobin_of_one ptr hr hone]

/-- What a descriptor that may start has met. -/
theorem of_startable {r : Nat} {e : RingDesc} (h : s.startable r e = true) :
    e.st = .ready ∧ e.marked = false ∧ e.bad = none ∧ s.slotFree r = true := by
  simp only [State.startable, Bool.and_eq_true, beq_iff_eq, Bool.not_eq_true', Option.isNone_iff_eq_none] at h
  obtain ⟨⟨⟨⟨⟨⟨-, hready⟩, hmarked⟩, hbad⟩, hslot⟩, -⟩, -⟩ := h
  exact ⟨hready, hmarked, hbad, hslot⟩

/-- A slot held is one more slot of the completion ring (R234). -/
theorem reserve_ring (r q : Nat) :
    (s.reserve r).ring q = (s.modRing (s.ring r).cplRing fun c => { c with slots := c.slots + 1 }).ring q := rfl

theorem reserve_besidesRings (r : Nat) : (s.reserve r).besidesRings = s.besidesRings := rfl

/-- The state once the dispatcher has started a descriptor: its slot is held, and the ring fetches on. -/
def State.startedAt (s : State) (r : Nat) (i : BitVec 32) : State :=
  State.fetchMore 8 ((s.reserve r).modDesc r i fun x => { x with st := .started }) r

theorem startedAt_besidesRings (r : Nat) (i : BitVec 32) : (s.startedAt r i).besidesRings = s.besidesRings :=
  (fetchMore_besidesRings 8 _ r).trans (reserve_besidesRings s r)

theorem startedAt_role (r : Nat) (i : BitVec 32) (q : Nat) : ((s.startedAt r i).ring q).role = (s.ring q).role := by
  have hreserved : ((s.reserve r).ring q).role = (s.ring q).role := by
    rw [reserve_ring]
    exact modRing_ring_keeps s Ring.role _ q _ rfl
  have hmarked : (((s.reserve r).modDesc r i fun x => { x with st := .started }).ring q).role = (s.ring q).role := by
    rw [State.modDesc, modRing_ring_keeps (s.reserve r) Ring.role r q _ rfl, hreserved]
  by_cases h : q = r
  · subst h
    obtain ⟨idx, cancel, more, hring⟩ := fetchMore_fetched 8 ((s.reserve q).modDesc q i fun x => { x with st := .started }) q
    rw [State.startedAt, hring]
    exact hmarked
  · rw [State.startedAt, fetchMore_ring_ne 8 _ h]
    exact hmarked

theorem startedAt_desc {r : Nat} {e : RingDesc} (hcpl : r ≠ (s.ring r).cplRing) (hdescs : (s.ring r).descs = [e]) :
    (s.startedAt r e.index).desc r e.index = some { e with st := .started } := by
  have hring : (s.reserve r).ring r = s.ring r := by rw [reserve_ring, modRing_ring_ne s _ hcpl]
  have hdesc : (s.reserve r).desc r e.index = some e := by simp [State.desc, hring, hdescs]
  exact fetchMore_desc _ 8 (modDesc_desc_self (s.reserve r) (fun x => { x with st := .started }) (fun _ => rfl) hdesc)

theorem startedAt_slots {r : Nat} (i : BitVec 32) (hcpl : (s.ring r).cplRing ≠ r) :
    ((s.startedAt r i).ring (s.ring r).cplRing).slots = (s.ring (s.ring r).cplRing).slots + 1 := by
  rw [State.startedAt, fetchMore_ring_ne 8 _ hcpl, State.modDesc, modRing_ring_ne _ _ hcpl, reserve_ring,
    modRing_ring_self]

/-- The pointers of the dispatcher after its turn, which nothing else reads. -/
def State.withTurn (s : State) (cmd hit red : Nat) : State :=
  { s with rings.ptrCmd := cmd, rings.ptrHit := hit, rings.ptrRed := red }

@[simp] theorem withTurn_desc (cmd hit red r : Nat) (i : BitVec 32) : (s.withTurn cmd hit red).desc r i = s.desc r i := rfl
@[simp] theorem withTurn_ring (cmd hit red r : Nat) : (s.withTurn cmd hit red).ring r = s.ring r := rfl
@[simp] theorem withTurn_fifo (cmd hit red : Nat) : (s.withTurn cmd hit red).rings.fifo = s.rings.fifo := rfl
@[simp] theorem withTurn_link (cmd hit red : Nat) : (s.withTurn cmd hit red).link = s.link := rfl
@[simp] theorem withTurn_flt (cmd hit red : Nat) : (s.withTurn cmd hit red).flt = s.flt := rfl

/-- The one descriptor of the one ring that the dispatcher serves starts. -/
theorem dispatch_of_one {r : Nat} {e : RingDesc} (hcmd : s.ringsOf 0 = [r]) (hred : s.ringsOf 1 = []) (hhit : s.ringsOf 2 = [])
    (hdescs : (s.ring r).descs = [e]) (hstart : s.startable r e = true) (htarget : s.targetReady e.desc = true) :
    
    s.dispatch = (s.startedAt r e.index).withTurn ((r + 1) % 64) s.rings.ptrHit s.rings.ptrRed := by
  obtain ⟨hready, hmarked, hbad, -⟩ := of_startable s hstart
  have hsettled : s.settleUnstarted r = s := by simp [State.settleUnstarted, hdescs, hmarked, hbad]
  have hhead : (s.ring r).head = some e := by simp [Ring.head, hdescs, hready]
  have hring : s.ringReady r = true := by simp [State.ringReady, hhead, hstart, htarget]
  have hstarted : s.startHead r = s.startedAt r e.index := by simp only [State.startHead, hhead]; rfl
  have hrole := ringsOf_congr s (startedAt_role s r e.index)
  unfold State.dispatch
  rw [dispatchKind_of_one s _ hcmd hsettled hring, hstarted]
  dsimp only
  rw [dispatchKind_of_none _ _ ((hrole 2).trans hhit)]
  dsimp only
  rw [dispatchKind_of_none _ _ ((hrole 1).trans hred)]
  rfl

end Sys2Proof.Machine

open Sys2Proof Sys2Proof.Machine

/-- Settles O10: a fetched descriptor is taken (`takeDesc_of_passed`), a re-read is one request, and the dispatcher starts the one
that may start (`dispatch_of_one`), whose completion ring is another ring. -/
theorem descriptorsComplete : Obligations.DescriptorsComplete := by
  refine ⟨?_, ?_, ?_⟩
  · rintro s r i d e ⟨hquiet, hdesc, hfetching, hmarked, hrun, hseq, hcheck⟩
    have hc : exec (.descriptorFetchResponse r i d false) s = done (s.taken r.val i d) := by
      rw [← takeDesc_of_passed s r i d e hmarked hseq hcheck]
      simp [exec, execDescriptorFetchResponse, hdesc, hfetching, hrun]
    obtain ⟨-, -, hlink, hfifo, hquiet'⟩ := of_besidesRings (taken_besidesRings s r.val i d)
    exact completes_quiet hc (hquiet' hquiet) ⟨taken_desc s d hdesc, hfifo, hlink⟩
  · rintro s r i e ⟨hquiet, hclocked, hdesc, hrereading, hrun⟩
    have hc : exec (.descriptorReread r i) s = done ((s.ringMem ⟨.descFetch, 0, s.ringOwner r.val,
        BitVec.ofNat 52 ((s.ring r.val).entryAddr i), 64, 0, false, r.val, i.toNat⟩).modDesc r.val i fun e =>
        { e with st := .fetching }) := by
      simp [exec, execDescriptorReread, hclocked, hdesc, hrereading, hrun]
    exact completes_quiet hc hquiet ⟨modDesc_desc_self _ _ (fun _ => rfl) hdesc, rfl, rfl⟩
  · rintro s r e ⟨hquiet, hclocked, hcmd, hred, hhit, hdescs, hstart, htarget⟩
    have hc : exec .descriptorDispatch s
        = done ((s.startedAt r e.index).withTurn ((r + 1) % 64) s.rings.ptrHit s.rings.ptrRed) := by
      rw [← dispatch_of_one s hcmd hred hhit hdescs hstart htarget]
      simp [exec, execDescriptorDispatch, hclocked]
    obtain ⟨-, -, hlink, hfifo, hquiet'⟩ := of_besidesRings (startedAt_besidesRings s r e.index)
    have hcpl : (s.ring r).cplRing ≠ r := by
      intro hsame
      obtain ⟨-, -, -, hslot⟩ := of_startable s hstart
      obtain ⟨-, -, hkind⟩ := (mem_ringsOf s).mp (by rw [hcmd]; exact List.mem_singleton_self r)
      simp [State.slotFree, hsame, hkind] at hslot
    refine completes_quiet hc (hquiet' hquiet) ?_
    rw [withTurn_desc, withTurn_fifo, withTurn_link, withTurn_ring]
    exact ⟨startedAt_desc s hcpl.symm hdescs, hfifo, hlink, startedAt_slots s e.index hcpl⟩
end

section
/-!
LEMMAS. Shadow lines, completion entries and message-signalled writes (R226, R233 to R235, R240), operation by operation.
-/
namespace Sys2Proof.Machine

variable (s : State)

/-! ### Shadow lines (R226) -/

theorem writeShadow_line (k : Fin 8) : (s.writeShadow k).rings.line =
    s.rings.line.upd k fun l => { l with dirtyAt := none, shWait := l.shWait + 1 } :=
  foldl_keeps (fun u => u.rings.line) _ _ _ fun _ _ _ => rfl

theorem writeShadow_qRing (k : Fin 8) : (s.writeShadow k).noc.qRing = s.noc.qRing ++ [⟨.mem ⟨.shadowWrite, 0, s.lineOwner k,
    BitVec.ofNat 52 (lineAddr (s.rings.line.get k).shLo (s.rings.line.get k).shHi), 64, s.shadowData k, false, k.val, 0⟩, 0, s.now,
    none⟩] :=
  foldl_keeps (fun u => u.noc.qRing) _ _ _ fun _ _ _ => rfl

/-! ### Completion entries (R233, R235) -/

/-- The state once a completion ring has taken an entry of the completion FIFO, which leaves the rest. -/
def State.cplWritten (s : State) (c : Nat) (e : CplEntry) (l : List CplEntry) : State :=
  State.modRing (State.writeEntry { s with rings.fifo := l } c (cplEntry e ((s.ring c).phase (s.ring c).portIdx))
    ((s.ring c).msiEn && e.msi)) c fun g => { g with slots := g.slots - 1 }

/-- The oldest entry of the FIFO is written where its ring runs and has a free entry. -/
theorem writeCpl_of_oldest {c : RingNo} {e : CplEntry} {l : List CplEntry} (hrun : (s.ring c.val).st = .running)
    (hkind : (s.ring c.val).kind = 3) (hroom : (s.ring c.val).full = false) (hfifo : s.rings.fifo = e :: l)
    (hcpl : e.cplRing = c) : s.writeCpl c.val = s.cplWritten c.val e l := by
  have hfind : s.rings.fifo.find? (fun x => x.cplRing.val = c.val) = some e := by simp [hfifo, hcpl]
  have hrest : s.rings.fifo.erase e = l := by rw [hfifo, List.erase_cons_head]
  unfold State.writeCpl
  dsimp only
  rw [if_neg (by simp [hrun, hkind, hroom]), hfind]
  dsimp only
  rw [hrest]
  rfl

theorem cplWritten_ring (c : Nat) (e : CplEntry) (l : List CplEntry) : ∃ writes, (s.cplWritten c e l).ring c =
    { s.ring c with portIdx := (s.ring c).portIdx + 1, slots := (s.ring c).slots - 1, writes := writes } := by
  rw [State.cplWritten, modRing_ring_self, State.writeEntry, modRing_ring_self]
  exact ⟨_, rfl⟩

/-! ### Entries that become visible (R226) -/

theorem of_besidesShadow {g h : Ring} (e : h.besidesShadow = g.besidesShadow) :
    h.writes = g.writes ∧ h.visible = g.visible ∧ h.portIdx = g.portIdx :=
  ⟨(congrArg Ring.writes e :), (congrArg Ring.visible e :), (congrArg Ring.portIdx e :)⟩

/-- The ring once the last of its entry writes is acknowledged: every entry is visible. -/
def Ring.allAcked (g : Ring) (n : Nat) : Ring := { g with writes := [], visible := g.portIdx, msiWait := g.msiWait + n }

/-- The one outstanding entry write is acknowledged. -/
theorem entryAcked_of_one {r : Nat} {i : BitVec 32} {n : Nat} (h : (s.ring r).writes = [(i, n)]) :
    s.entryAcked r i = (s.modRing r (·.allAcked n)).indexMoved r := by
  simp only [State.entryAcked, h, if_true]
  rfl

end Sys2Proof.Machine

open Sys2Proof Sys2Proof.Machine

/-- Settles O11, command by command. -/
theorem completionsComplete : Obligations.CompletionsComplete := by
  refine ⟨?_, ?_, ?_, ?_, ?_, ?_, ?_⟩
  · rintro s k ⟨hquiet, hclocked, hdirty⟩
    have hc : exec (.shadowWriteDue k) s = done (s.writeShadow k) := by
      simp [exec, execShadowWriteDue, hclocked, hdirty]
    obtain ⟨-, -, hlink, -, hquiet'⟩ := of_besidesRings (writeShadow_besidesRings s k)
    exact completes_quiet hc (hquiet' hquiet)
      ⟨by simp [writeShadow_line], by simp [writeShadow_line], hlink, writeShadow_qRing s k⟩
  · rintro s k ⟨hquiet, hwaits⟩
    have hc : exec (.shadowWriteResponse k false) s = done (s.modLine k fun l => { l with shWait := l.shWait - 1 }) := by
      have hnone : (s.rings.line.get k).shWait ≠ 0 := by omega
      have hmore : (s.rings.line.get k).shWait - 1 ≠ 0 := by omega
      simp [exec, execShadowWriteResponse, hnone, hmore]
    exact completes_quiet hc hquiet ⟨by simp, rfl, rfl⟩
  · rintro s c e l ⟨hquiet, hclocked, hrun, hkind, hroom, hfifo, hcpl⟩
    have hc : exec (.completionWrite c) s = done (s.cplWritten c.val e l) := by
      rw [← writeCpl_of_oldest s hrun hkind hroom hfifo hcpl]
      simp [exec, execCompletionWrite, hclocked]
    obtain ⟨writes, hring⟩ := cplWritten_ring s c.val e l
    exact completes_quiet hc hquiet ⟨rfl, by rw [hring], by rw [hring], rfl⟩
  · rintro s r i n ⟨hquiet, hrun, hwrites⟩
    have hc : exec (.entryWriteResponse r i false) s = done ((s.modRing r.val (·.allAcked n)).indexMoved r.val) := by
      rw [← entryAcked_of_one s hwrites]
      simp [exec, execEntryWriteResponse, hrun, hwrites]
    obtain ⟨-, -, hlink, -, hquiet'⟩ := of_besidesRings (indexMoved_besidesRings (s.modRing r.val (·.allAcked n)) r.val)
    obtain ⟨hempty, hvisible, hindex⟩ := of_besidesShadow (indexMoved_ring (s.modRing r.val (·.allAcked n)) r.val r.val)
    rw [modRing_ring_self] at hempty hvisible hindex
    exact completes_quiet hc (hquiet' hquiet) ⟨hempty, hvisible, hindex, hlink⟩
  · rintro s r ⟨hquiet, hclocked, hheld⟩
    have hc : exec (.msiHoldoffExpiry r) s = done (s.sendMsi r.val) := by
      simp [exec, execMsiHoldoffExpiry, hclocked, hheld]
    have hring : (s.sendMsi r.val).ring r.val = { s.ring r.val with msiLast := some s.now, msiHold := false } :=
      modRing_ring_self _ _ _
    exact completes_quiet hc hquiet ⟨by rw [hring], by rw [hring], rfl⟩
  · rintro s r hquiet
    exact completes_quiet (u := { s with rings.msiFail := s.rings.msiFail + 1 }) rfl hquiet rfl
  · rintro s r hquiet
    exact completes_unchanged rfl hquiet
end

section
/-!
LEMMAS. The states of a ring (R241): an enable that passes its checks, a disable of a submission ring with nothing fetched, and that
posting events leaves a disabled ring alone (R238).
-/
namespace Sys2Proof.Machine

variable (s : State)

/-! ### Enabling -/

/-- A ring as an enable leaves it. -/
def Ring.enabledWith (g : Ring) (v : Reg) (slots : Nat) : Ring :=
  { g with
    cfg := v, st := .running, haltCode := 0, portIdx := 0, swIdx := 0, visible := 0, shadowed := 0, fetchIdx := 0, descs := []
    toCancel := [], slots := slots, writes := [], msiWait := 0, msiPend := 0, msiHold := false, msiLast := none }

/-- An enable that fails no check starts the ring and, on a line not yet used, its watch read. -/
theorem enableRing_of_passed {r : Nat} {v : Reg}
    (hpasses : s.enableFails r { s.ring r with cfg := setBf (v &&& 0x0FFFFFFF) 0 1 0 } = none) :
    (∃ slots, (s.enableRing r v).ring r = (s.ring r).enabledWith (v &&& 0x0FFFFFFF) slots)
      ∧ (s.enableRing r v).rings.cfgErr = s.rings.cfgErr ∧ (s.enableRing r v).link = s.link
      ∧ (s.enableRing r v).flt = s.flt := by
  unfold State.enableRing
  dsimp only
  rw [hpasses]
  dsimp only
  have hring : ∀ g : Ring, (s.modRing r fun _ => g).ring r = g := fun g => modRing_ring_self s r _
  have hread : ∀ (u : State) (k : Fin 8), (u.watchRead k).ring r = u.ring r ∧ (u.watchRead k).rings.cfgErr = u.rings.cfgErr
      ∧ (u.watchRead k).link = u.link ∧ (u.watchRead k).flt = u.flt := fun _ _ => ⟨rfl, rfl, rfl, rfl⟩
  split
  · obtain ⟨hsame, herr, hlink, hflt⟩ := hread _ _
    rw [hsame, herr, hlink, hflt]
    exact ⟨⟨_, hring _⟩, rfl, rfl, rfl⟩
  · exact ⟨⟨_, hring _⟩, rfl, rfl, rfl⟩

/-- RING_ENABLE of a disabled ring in a port that has opened. -/
theorem execRingEnable_of_disabled (r : RingNo) (v : Reg) (hopened : s.start.opened = true)
    (hdisabled : (s.ring r.val).st = .disabled) : exec (.ringEnable r v) s = done (s.enableRing r.val (setBf v 0 1 1)) := by
  have henable : bit (setBf v 0 1 1) 0 = true := bit_setBf_one v 0 (by decide)
  simp [exec, execRingEnable, hopened, State.writeRingCfg, Ring.enabled, hdisabled, henable]

/-! ### Disabling -/

/-- ENABLE written 0 reads 0. -/
theorem bit_setBf_zero (v : Reg) : bit (setBf v 0 1 0) 0 = false := by
  simp only [bit, bf, setBf, bitsOf, BitVec.toNat_ofNat, beq_eq_false_iff_ne]
  omega

/-- A write of ENABLE 0 to an enabled ring disables it, be its other fields refused or not (R243). -/
theorem writeRingCfg_disables {r : Nat} {v : Reg} (henabled : (s.ring r).enabled = true) (hv : bit v 0 = false) :
    s.writeRingCfg r v = s.disableRing r ∨ s.writeRingCfg r v = (s.cfgRefuse r 8).disableRing r := by
  unfold State.writeRingCfg
  simp only [henabled, hv, if_true]
  split
  · exact .inl rfl
  · exact .inr rfl

theorem leaveLine_ring (k : Fin 8) (q : Nat) : (s.leaveLine k).ring q = s.ring q := by
  unfold State.leaveLine
  split <;> rfl

/-- A draining ring with no descriptor is DISABLED at once. -/
theorem drainedRing_of_empty {r : Nat} (hst : (s.ring r).st = .draining) (hdescs : (s.ring r).descs = []) :
    ((s.drainedRing r).ring r).st = .disabled ∧ ((s.drainedRing r).ring r).cfg = setBf (s.ring r).cfg 0 1 0 := by
  have hcfg : ((s.writeShadow (s.ring r).dbLine).ring r).cfg = (s.ring r).cfg :=
    cfg_of_besidesIndex (besidesIndex_of_shadow (writeShadow_ring s _ r))
  unfold State.drainedRing
  dsimp only
  rw [if_pos (by simp [hst, hdescs]), leaveLine_ring, modRing_ring_self, hcfg]
  exact ⟨rfl, rfl⟩

/-- A disable of a running submission ring with nothing fetched. -/
theorem disableRing_of_empty {r : Nat} (hrun : (s.ring r).st = .running) (hsub : (s.ring r).isSub = true)
    (hdescs : (s.ring r).descs = []) :
    ((s.disableRing r).ring r).st = .disabled ∧ ((s.disableRing r).ring r).cfg = setBf (s.ring r).cfg 0 1 0 := by
  have hring : (s.modRing r fun g => { g with st := .draining }).ring r = { s.ring r with st := .draining } :=
    modRing_ring_self s r _
  have hnone : (s.modRing r fun g => { g with st := .draining }).cancelFetched r = s.modRing r fun g => { g with st := .draining } := by
    simp [State.cancelFetched, hdescs]
  have hdrained := drainedRing_of_empty (s.modRing r fun g => { g with st := .draining }) (r := r) (by rw [hring]) (by rw [hring, hdescs])
  unfold State.disableRing
  dsimp only
  rw [if_pos hsub, if_neg (by simp [hrun]), hnone, leaveLine_ring]
  rwa [hring] at hdrained

/-! ### Posting (R238) -/

/-- A ring into which events may have been posted: a running one, whose index has advanced and whose writes wait. -/
def Ring.Posted (g h : Ring) : Prop := h = g ∨ g.st = .running ∧ ∃ idx writes, h = { g with portIdx := idx, writes := writes }

theorem Ring.Posted.trans {g h k : Ring} (hgh : g.Posted h) (hhk : h.Posted k) : g.Posted k := by
  rcases hgh with rfl | ⟨hrun, idx, writes, rfl⟩
  · exact hhk
  · rcases hhk with rfl | ⟨-, idx', writes', rfl⟩
    · exact .inr ⟨hrun, idx, writes, rfl⟩
    · exact .inr ⟨hrun, idx', writes', rfl⟩

theorem post_posted (e : Event) (seq ts r : Nat) : (s.ring r).Posted ((s.post e seq ts).ring r) := by
  unfold State.post
  split
  · exact .inl rfl
  · next q hfind =>
    have hrun : (s.ring q).st = .running := (by simpa using List.find?_some hfind : _ ∧ _).1
    have hwritten : ∀ entry msi, (s.ring r).Posted ((s.writeEntry q entry msi).ring r) := fun entry msi => by
      by_cases h : r = q
      · subst h
        rw [State.writeEntry, modRing_ring_self, ringMem_ring]
        exact .inr ⟨hrun, _, _, rfl⟩
      · exact .inl (modRing_ring_ne _ _ h)
    exact hwritten _ _

theorem countEvent_posted (e : Event) (r : Nat) : (s.ring r).Posted ((s.countEvent e).ring r) := by
  unfold State.countEvent
  dsimp only
  split
  · exact post_posted _ e _ _ r
  · split
    · exact post_posted _ e _ _ r
    · exact .inl rfl

/-- The events of a command are posted into running rings alone. -/
theorem flushEvents_posted (r : Nat) : (s.ring r).Posted (s.flushEvents.ring r) := by
  unfold State.flushEvents
  refine List.foldlRecOn (motive := fun u => (s.ring r).Posted (u.ring r)) _ _ ?_ fun u hu e _ =>
    hu.trans (countEvent_posted u e r)
  exact .inl rfl

theorem flushEvents_ring_of_disabled {r : Nat} (h : (s.ring r).st = .disabled) : s.flushEvents.ring r = s.ring r :=
  (flushEvents_posted s r).resolve_right fun hrun => by simp [h] at hrun

end Sys2Proof.Machine

open Sys2Proof Sys2Proof.Machine

/-- Settles O12: `enableRing_of_passed`, and `disableRing_of_empty` with the events posted behind it. -/
theorem ringStatesComplete : Obligations.RingStatesComplete := by
  constructor
  · rintro s r v ⟨hquiet, hopened, hdisabled, hpasses⟩
    obtain ⟨⟨slots, hring⟩, herr, hlink, hflt⟩ := enableRing_of_passed s hpasses
    refine completes_quiet (execRingEnable_of_disabled s r v hopened hdisabled) ?_ ?_
    · exact (congrArg (fun x => x.queue) hflt).trans hquiet
    · rw [hring]
      exact ⟨rfl, rfl, rfl, rfl, rfl, rfl, herr, hlink⟩
  · rintro s r ⟨hopened, hrun, hsub, hdescs⟩
    have hc : exec (.ringDisable r) s = done (s.writeRingCfg r.val (setBf (s.ring r.val).cfg 0 1 0)) := by
      simp [exec, execRingDisable, hopened]
    have hlink : (s.writeRingCfg r.val (setBf (s.ring r.val).cfg 0 1 0)).link = s.link :=
      (congrArg State.link (State.writeRingCfg_kept .rings s r.val (setBf (s.ring r.val).cfg 0 1 0)) :)
    have henabled : (s.ring r.val).enabled = true := by simp [Ring.enabled, hrun]
    obtain ⟨hst, hcfg⟩ : ((s.writeRingCfg r.val (setBf (s.ring r.val).cfg 0 1 0)).ring r.val).st = .disabled
        ∧ ((s.writeRingCfg r.val (setBf (s.ring r.val).cfg 0 1 0)).ring r.val).cfg = setBf (s.ring r.val).cfg 0 1 0 := by
      rcases writeRingCfg_disables s henabled (bit_setBf_zero (s.ring r.val).cfg) with h | h
      · rw [h]
        exact disableRing_of_empty s hrun hsub hdescs
      · rw [h]
        exact disableRing_of_empty (s.cfgRefuse r.val 8) hrun hsub hdescs
    refine completes_done hc ?_
    rw [flushEvents_ring_of_disabled _ hst, State.flushEvents_link, hcfg]
    exact ⟨hst, bit_setBf_zero _, hlink⟩
end

section
/-!
LEMMAS. CANCEL of a descriptor not yet fetched (R232), the staged fences of FENCE_DIE and UNFENCE_DIE (R231), and the end of a drain
that a RESUME makes (R231, R340).
-/
namespace Sys2Proof.Machine

variable (s : State)

/-! ### A command that runs (R229) -/

/-- The state in which the command of a started descriptor runs. -/
def State.ranAt (s : State) (r : Nat) (i : BitVec 32) : State :=
  State.fetchMore 8 (s.modDesc r i fun x => { x with st := .running }) r

theorem ranAt_besidesRings (r : Nat) (i : BitVec 32) : (s.ranAt r i).besidesRings = s.besidesRings :=
  fetchMore_besidesRings 8 _ r

theorem ranAt_ring_ne {r q : Nat} (i : BitVec 32) (h : q ≠ r) : (s.ranAt r i).ring q = s.ring q := by
  rw [State.ranAt, fetchMore_ring_ne 8 _ h, State.modDesc, modRing_ring_ne _ _ h]

theorem ranAt_cfg (r : Nat) (i : BitVec 32) : ((s.ranAt r i).ring r).cfg = (s.ring r).cfg := by
  obtain ⟨idx, cancel, more, hring⟩ := fetchMore_fetched 8 (s.modDesc r i fun x => { x with st := .running }) r
  rw [State.ranAt, hring, State.modDesc, modRing_ring_self]

/-- The command of a started descriptor does its work there. -/
theorem withDesc_of_started {r : RingNo} {i : BitVec 32} {op : Nat} {d : Desc} (work : Desc → State → State)
    (h : s.started r i op d) : s.withDesc r i op work = work d (s.ranAt r.val i) := by
  obtain ⟨hdesc, hop⟩ := h
  obtain ⟨e, he, hstarted⟩ := Option.map_eq_some_iff.mp hdesc
  obtain ⟨hst, rfl⟩ := Prod.mk.inj hstarted
  obtain rfl : e.index = i := by simpa using List.find?_some he
  simp [State.withDesc, he, hop, hst, State.startDesc, State.ranAt]

/-- What two states that agree beside the rings have in common, as far as the control commands go. -/
theorem control_of_besidesRings {s t : State} (h : t.besidesRings = s.besidesRings) :
    t.rings.cancels = s.rings.cancels ∧ t.rings.cancelled = s.rings.cancelled ∧ t.goView = s.goView ∧ t.agent = s.agent :=
  ⟨(congrArg (fun u => u.rings.cancels) h :), (congrArg (fun u => u.rings.cancelled) h :), (congrArg State.goView h :),
    (congrArg State.agent h :)⟩

/-! ### CANCEL (R232) -/

/-- The state once a CANCEL has named a descriptor that is not yet fetched: it is to be cancelled as it is fetched, and the CANCEL
waits for it. -/
def State.cancelNoted (s : State) (r : RingNo) (i : BitVec 32) (t : RingNo × BitVec 32) : State :=
  State.modRing { s with
    rings.cancelled := s.rings.cancelled ++ [t], rings.cancels := [(⟨r, i, [t], 1, 0⟩ : CancelJob)] } t.1.val fun g =>
    { g with toCancel := if g.toCancel.contains t.2 then g.toCancel else g.toCancel ++ [t.2] }

theorem cancelNoted_toCancel (r q : RingNo) (i x : BitVec 32) :
    ((s.cancelNoted r i (q, x)).ring q.val).toCancel.contains x = true := by
  rw [State.cancelNoted, modRing_ring_self]
  dsimp only
  split
  · assumption
  · simp

theorem cancelAll_of_unfetched (r q : RingNo) (i x : BitVec 32) (hcancels : s.rings.cancels = [])
    (hdesc : s.desc q.val x = none) : s.cancelAll r i [(q, x)] = s.cancelNoted r i (q, x) := by
  have hruns : s.runsOn (q, x) = none := by simp [State.runsOn, hdesc]
  have hkept : [(q, x)].filter (fun t => s.runsOn t = some 3) = [] := by simp [hruns]
  have hwait : [(q, x)].filter (fun t => s.runsOn t ≠ some 3) = [(q, x)] := by simp [hruns]
  have hgo : [(q, x)].filter (fun t => (s.runsOn t).isNone) = [(q, x)] := by simp [hruns]
  have hone : ∀ u : State, u.desc q.val x = none → u.cancelOne (q, x) = u.modRing q.val fun g =>
      { g with toCancel := if g.toCancel.contains x then g.toCancel else g.toCancel ++ [x] } := fun u hu => by
    simp only [State.cancelOne, hu]
  have hwaits : State.settleCancels 1 (s.cancelNoted r i (q, x)) = s.cancelNoted r i (q, x) := rfl
  refine Eq.trans ?_ hwaits
  unfold State.cancelAll
  dsimp only
  rw [hkept, hwait, hgo, hcancels, List.foldl_cons, List.foldl_nil, hone]
  · rfl
  · exact hdesc

/-- A CANCEL of one uncompleted descriptor of another ring that is not yet fetched. -/
theorem cmdCancel_of_unfetched {r q : RingNo} {i x : BitVec 32} {d : Desc} (hcancels : s.rings.cancels = [])
    (hkind : (s.ring r.val).kind = 0) (hother : q ≠ r) (hq : q = Fin.ofNat 64 (bf d 80 6)) (hx : x = BitVec.ofNat 32 (bf d 96 32))
    (hone : bit d 86 = false) (henabled : (s.ring q.val).enabled = true) (hsub : (s.ring q.val).isSub = true)
    (hposted : beyond x (s.ring q.val).swIdx = false) (hnew : s.rings.cancelled.contains (q, x) = false)
    (hdesc : s.desc q.val x = none) (hopen : (s.ring q.val).uncompleted.contains x = true) :
    s.cmdCancel r i d = s.cancelNoted r i (q, x) := by
  have hindex : s.cancelIndex r i q x = s.cancelNoted r i (q, x) := by
    unfold State.cancelIndex
    dsimp only
    rw [hposted, hnew, hopen, if_neg Bool.false_ne_true, if_neg Bool.false_ne_true, if_neg (by simp [hother]),
      cancelAll_of_unfetched s r q i x hcancels hdesc]
  unfold State.cmdCancel
  dsimp only
  rw [← hq, ← hx, if_neg (by simp [hkind]), if_neg (by simp [henabled, hsub]), if_neg (by simp [hone]), hindex]

/-- Posting keeps what a ring is to cancel. -/
theorem flushEvents_toCancel (r : Nat) : (s.flushEvents.ring r).toCancel = (s.ring r).toCancel := by
  rcases flushEvents_posted s r with h | ⟨-, idx, writes, h⟩ <;> rw [h]

/-! ### FENCE_DIE and UNFENCE_DIE (R231) -/

/-- The staged value of FX_LSH_FENCE: FENCED and the die. -/
def fenceValue (fence : Bool) (n : Nat) : Reg := pack 32 [(0, 1, b2n fence), (8, 8, n)]

/-- FX_LSH_FENCE keeps both fields. -/
theorem shadowValue_fence (fence : Bool) (n : Nat) : shadowValue 0x83C (fenceValue fence n) = fenceValue fence n := by
  have hall : ∀ (b : Bool) (k : Fin 256), shadowValue 0x83C (fenceValue b k.val) = fenceValue b k.val := by decide +kernel
  have hcut : fenceValue fence (n % 256) = fenceValue fence n := by simp [fenceValue, pack, packNat]
  rw [← hcut]
  exact hall fence ⟨n % 256, Nat.mod_lt n (by decide)⟩

/-- A stack base with no proposal open and no fence command waiting stages the change, and the command waits. -/
theorem cmdFence_stages (r : RingNo) (i : BitVec 32) (d : Desc) (fence : Bool) (hcls : s.cls = .sb)
    (hsite : s.siteDie (BitVec.ofNat 8 (bf d 80 8)) = true) (hnone : s.lash.proposed = none) (hcmds : s.lash.fenceCmds = []) :
    s.cmdFence r i d fence = { s with
      lash.staged := tput s.lash.staged 0x83C (fenceValue fence (bf d 80 8)), lash.fenceCmds := [(r, i)] } := by
  have hid : (BitVec.ofNat 8 (bf d 80 8)).toNat = bf d 80 8 := by
    rw [BitVec.toNat_ofNat]; exact bf_mod_self d 80 8
  have hprot : protectedOff .sb 0x83C = true := by decide
  have htouched : s.lashTouched = s := by simp [State.lashTouched, hnone]
  have hdone : ∀ n, s.fenceDone 0x0C n = { s with lash.fenceCmds := [] } := fun n => by simp [State.fenceDone, hcmds]
  have hstaged : State.stageValue { s with lash.fenceCmds := [] } 0x83C (pack 32 [(0, 1, b2n fence), (8, 8, bf d 80 8)]) = { s with
      lash.staged := tput s.lash.staged 0x83C (fenceValue fence (bf d 80 8)), lash.fenceCmds := [] } := by
    have hhas : protectedOff (State.cls { s with lash.fenceCmds := [] }) 0x83C = true := hcls ▸ hprot
    rw [State.stageValue, if_pos hhas, ← fenceValue, shadowValue_fence]
  unfold State.cmdFence
  dsimp only
  rw [if_neg (by simp [hsite]), htouched, hdone, hid, hstaged]
  rfl

theorem siteDie_congr {t : State} (hstraps : t.straps = s.straps) (hstart : t.start = s.start) (hagent : t.agent = s.agent)
    (id : BitVec 8) : t.siteDie id = s.siteDie id := by
  have hcls : t.cls = s.cls := congrArg Straps.cls hstraps
  have hplace : t.tile = s.tile ∧ t.index = s.index := by
    unfold State.tile State.index
    rw [hcls, hstraps, hstart]
    exact ⟨rfl, rfl⟩
  obtain ⟨htile, hindex⟩ := hplace
  unfold State.siteDie State.site
  rw [htile, hindex, hagent]

/-- The command of a started FENCE_DIE or UNFENCE_DIE, whose events are posted behind it. -/
theorem withDesc_cmdFence {r : RingNo} {i : BitVec 32} {op : Nat} {d : Desc} (fence : Bool) (hstarted : s.started r i op d)
    (hcls : s.cls = .sb) (hsite : s.siteDie (BitVec.ofNat 8 (bf d 80 8)) = true) (hnone : s.lash.proposed = none)
    (hcmds : s.lash.fenceCmds = []) : ∃ u, (s.withDesc r i op fun d s => s.cmdFence r i d fence) = u
      ∧ tfind u.flushEvents.lash.staged 0x83C = some (fenceValue fence (bf d 80 8)) ∧ u.flushEvents.lash.fenceCmds = [(r, i)]
      ∧ u.flushEvents.lash.prot = s.lash.prot ∧ u.flushEvents.rings.fifo = s.rings.fifo := by
  obtain ⟨hstraps, hstart, -, hfifo, -⟩ := of_besidesRings (ranAt_besidesRings s r.val i)
  obtain ⟨-, -, hgo, hagent⟩ := control_of_besidesRings (ranAt_besidesRings s r.val i)
  have hlash : (s.ranAt r.val i).lash = s.lash := congrArg GoView.lash hgo
  have hcls' : (s.ranAt r.val i).cls = .sb := (congrArg Straps.cls hstraps).trans hcls
  refine ⟨_, (withDesc_of_started s _ hstarted).trans (cmdFence_stages _ r i d fence hcls'
    ((siteDie_congr s hstraps hstart hagent _).trans hsite) (by rw [hlash, hnone]) (by rw [hlash, hcmds])), ?_⟩
  rw [State.flushEvents_lash, State.flushEvents_rings_fifo]
  exact ⟨tfind_tput_self _ _ _, rfl, (congrArg Lash.prot hlash :), hfifo⟩

/-! ### RESUME of a drain (R231, R340) -/

/-- A state beside the rings and the credits that stand at the NoC boundary. -/
def State.besidesCredits (s : State) : State :=
  { s.besidesRings with
    noc := { s.nocRest with owed := Oct.all 0, inHeld := Oct.all 0, returned := false }, out := { s.out with credits := [] } }

theorem besidesCredits_of_rings {s t : State} (h : t.besidesRings = s.besidesRings) : t.besidesCredits = s.besidesCredits :=
  (congrArg State.besidesCredits h :)

theorem returnCredits_besidesCredits : s.returnCredits.besidesCredits = s.besidesCredits := by
  have returned : ∀ (u : State) (v : Fin 8), (u.returnVc v).besidesCredits = u.besidesCredits := fun u v => by
    unfold State.returnVc
    dsimp only
    split <;> rfl
  unfold State.returnCredits
  split
  · exact foldl_keeps State.besidesCredits _ _ _ fun u v _ => returned u v
  · rfl

/-- The power machine once a drain has ended without parking. -/
def Power.undrained (p : Power) : Power := { p with draining := .none, pkSent := 0, pkAcked := 0, pkGot := 0, lastCtl := [] }

theorem stopDrain_besidesCredits : s.stopDrain.besidesCredits =
    State.besidesCredits { s with sb.watchOff := false, pwr := s.pwr.undrained, noc.whDrain := false } := by
  unfold State.stopDrain
  rw [returnCredits_besidesCredits]
  exact foldl_keeps State.besidesCredits _ _ _ fun u r _ => besidesCredits_of_rings (fetchMore_besidesRings 8 u r)

/-- What two states that agree beside the rings and those credits have in common, as far as the end of a drain goes. -/
theorem of_besidesCredits {s t : State} (h : t.besidesCredits = s.besidesCredits) :
    t.straps = s.straps ∧ t.start = s.start ∧ t.aon = s.aon ∧ t.link = s.link ∧ t.lash = s.lash ∧ t.pwr = s.pwr
      ∧ t.noc.whDrain = s.noc.whDrain :=
  ⟨(congrArg State.straps h :), (congrArg State.start h :), (congrArg State.aon h :), (congrArg State.link h :),
    (congrArg State.lash h :), (congrArg State.pwr h :), (congrArg (fun u => u.noc.whDrain) h :)⟩

theorem leads_congr {t : State} (hstraps : t.straps = s.straps) (hstart : t.start = s.start) : t.leads = s.leads := by
  simp only [State.leads, State.cls, hstraps, hstart]

/-- A cap of the end that does not lead changes the cap and the frame that tells it alone. -/
theorem setCap_rest (c : PwrState × Nat) (h : s.leads = false) : (s.setCap c).rest = s.rest := by
  unfold State.setCap
  split
  · rfl
  · dsimp only
    split
    · exact congrArg Prod.fst (sendCap_leadTarget_backView { s with pwr.nearCap := c.1, pwr.nearWidth := c.2 } h)
    · rfl

theorem setCap_nearCap (c : PwrState × Nat) (h : s.leads = false) : (s.setCap c).pwr.nearCap = c.1 := by
  unfold State.setCap
  split
  · next hsame => exact hsame.1
  · dsimp only
    split
    · rw [leadTarget_of_follower (State.sendCap { s with pwr.nearCap := c.1, pwr.nearWidth := c.2 }) h]
      rfl
    · rfl

/-- The cap of an end whose drain has ended: its own, or ACTIVE where that is PARK or OFF. -/
def State.capAfterPark (s : State) : PwrState × Nat :=
  if s.ownCap.1 == .park || s.ownCap.1 == .off then (.active, s.cls.wmax) else s.ownCap

theorem capAfterPark_awake : s.capAfterPark.1 ≠ .park ∧ s.capAfterPark.1 ≠ .off := by
  unfold State.capAfterPark
  split
  · exact ⟨by simp, by simp⟩
  · next h => simpa using h

/-- What decides it at an end whose drain has ended. -/
def GoView.undrained (v : GoView) : GoView := { v with power := { v.power with draining := .none } }

theorem power_of_besidesPosts {s t : State} (h : t.besidesPosts = s.besidesPosts) :
    t.pwr = s.pwr ∧ t.noc.whDrain = s.noc.whDrain :=
  ⟨(congrArg State.pwr h :), (congrArg (fun u => u.noc.whDrain) h :)⟩

/-- The state once the drain of a park without a command has ended. -/
def State.parkStopped (s : State) : State := State.stopDrain { s with pwr.parkCmd := none, pwr.released := true }

theorem parkStopped_besidesCredits : s.parkStopped.besidesCredits = State.besidesCredits { s with
    sb.watchOff := false, noc.whDrain := false
    pwr := { s.pwr.undrained with parkCmd := none, released := true } } := by
  unfold State.parkStopped
  exact stopDrain_besidesCredits { s with pwr.parkCmd := none, pwr.released := true }

theorem of_parkStopped : s.parkStopped.straps = s.straps ∧ s.parkStopped.start = s.start ∧ s.parkStopped.aon = s.aon
    ∧ s.parkStopped.link = s.link ∧ s.parkStopped.lash = s.lash
    ∧ s.parkStopped.pwr = { s.pwr.undrained with parkCmd := none, released := true } ∧ s.parkStopped.noc.whDrain = false := by
  have hstopped := of_besidesCredits (parkStopped_besidesCredits s)
  exact hstopped

/-- Whether a port is at rest does not depend on the PARK command, on the release from a budget, or on what a drain counts. -/
theorem still_undrained (p : Power) : State.still { s with pwr := { p.undrained with parkCmd := none, released := true } } =
    State.still { s with pwr := { p with draining := .none } } := rfl

/-- The end of a drain toward PARK that no command asked for, at an end which does not lead and is at rest but for the drain. -/
theorem endPark_of_follower (hleads : s.leads = false) (hdrain : s.pwr.draining = .park) (hcmd : s.pwr.parkCmd = none)
    (hstill : State.still { s with pwr.draining := .none } = true) :
    s.endPark.pwr.draining = .none ∧ s.endPark.pwr.released = true ∧ s.endPark.noc.whDrain = false
      ∧ s.endPark.pwr.nearCap ≠ .park ∧ s.endPark.pwr.nearCap ≠ .off := by
  obtain ⟨hstraps, hstart, haon, hlink, hlash, hpwr, hcredits⟩ := of_parkStopped s
  have hleads' : s.parkStopped.leads = false := (leads_congr s hstraps hstart).trans hleads
  have hstill' : s.parkStopped.still = true := by
    rw [still_congr (s := { s with pwr := { s.pwr.undrained with parkCmd := none, released := true } }) hstart haon hpwr hlash
      fun dir b => by simp only [State.shape, hlink], still_undrained]
    exact hstill
  have hrest := setCap_rest s.parkStopped s.parkStopped.capAfterPark hleads'
  have hend : s.endPark = s.parkStopped.setCap s.parkStopped.capAfterPark := by
    have hdone : s.parkDone 1 = s := by simp [State.parkDone, hcmd]
    unfold State.endPark
    dsimp only
    rw [hdone, if_pos (by simp [hdrain])]
    exact portStep_of_still _ ((rest_read hrest State.still rest_still).trans hstill')
  have hnear := setCap_nearCap s.parkStopped s.parkStopped.capAfterPark hleads'
  have hdraining := rest_read hrest (fun u => u.pwr.draining) fun _ => rfl
  have hreleased := rest_read hrest (fun u => u.pwr.released) fun _ => rfl
  have hheld := rest_read hrest (fun u => u.noc.whDrain) fun _ => rfl
  rw [hend, hnear]
  refine ⟨hdraining.trans ?_, hreleased.trans ?_, hheld.trans hcredits, capAfterPark_awake _⟩
  · rw [hpwr]; rfl
  · rw [hpwr]

end Sys2Proof.Machine

open Sys2Proof Sys2Proof.Machine

/-- Settles O15: each command does its work where its descriptor runs (`withDesc_of_started`), and the port is at rest behind it. -/
theorem controlDescriptorsComplete : Obligations.ControlDescriptorsComplete := by
  refine ⟨?_, ?_, ?_, ?_⟩
  · rintro s r q i x d ⟨hstarted, hstill, hcancels, hkind, hother, hq, hx, hone, henabled, hsub, hposted, hnew, hdesc, hopen⟩
    obtain ⟨hcancels', hcancelled, hgo, -⟩ := control_of_besidesRings (ranAt_besidesRings s r.val i)
    obtain ⟨-, -, -, hfifo, -⟩ := of_besidesRings (ranAt_besidesRings s r.val i)
    have hring : (s.ranAt r.val i).ring q.val = s.ring q.val := ranAt_ring_ne s i (by simpa [Fin.ext_iff] using hother)
    have hwork : (s.withDesc r i 0x0D fun d s => s.cmdCancel r i d) = (s.ranAt r.val i).cancelNoted r i (q, x) := by
      rw [withDesc_of_started s _ hstarted]
      refine cmdCancel_of_unfetched _ (hcancels'.trans hcancels) ?_ hother hq hx hone ?_ ?_ ?_ ?_ ?_ ?_
      · rw [Ring.kind, ranAt_cfg]; exact hkind
      · rw [hring]; exact henabled
      · rw [hring]; exact hsub
      · rw [hring]; exact hposted
      · rw [hcancelled]; exact hnew
      · rw [desc_congr s (congrArg Ring.descs hring)]; exact hdesc
      · rw [hring]; exact hopen
    have hstill' : ((s.ranAt r.val i).cancelNoted r i (q, x)).still = true :=
      (still_of_goView (s := s.ranAt r.val i) rfl).trans ((still_of_goView hgo).trans hstill)
    have hc : exec (.cancel r i) s = done ((s.ranAt r.val i).cancelNoted r i (q, x)) := by
      show done ((s.withDesc r i 0x0D fun d s => s.cmdCancel r i d).portStep) = _
      rw [hwork, portStep_of_still _ hstill']
    refine completes_done hc ?_
    rw [flushEvents_toCancel, State.flushEvents_rings_cancelled, State.flushEvents_rings_cancels, State.flushEvents_rings_fifo]
    exact ⟨cancelNoted_toCancel _ r q i x, congrArg (· ++ [(q, x)]) hcancelled, rfl, hfifo⟩
  · rintro s r i d ⟨hstarted, hcls, hsite, hnone, hcmds⟩
    obtain ⟨u, hu, hstaged⟩ := withDesc_cmdFence s true hstarted hcls hsite hnone hcmds
    exact completes_done (congrArg done hu) hstaged
  · rintro s r i d ⟨hstarted, hcls, hsite, hnone, hcmds⟩
    obtain ⟨u, hu, hstaged⟩ := withDesc_cmdFence s false hstarted hcls hsite hnone hcmds
    exact completes_done (congrArg done hu) hstaged
  · rintro s r i d ⟨hstarted, hleads, hdrain, hcmd, hstill⟩
    obtain ⟨hstraps, hstart, -⟩ := of_besidesRings (ranAt_besidesRings s r.val i)
    obtain ⟨-, -, hgo, -⟩ := control_of_besidesRings (ranAt_besidesRings s r.val i)
    have hpwr : (s.ranAt r.val i).pwr = s.pwr := congrArg GoView.power hgo
    have hleads' : (s.ranAt r.val i).leads = false := (leads_congr s hstraps hstart).trans hleads
    have hgo' : State.goView { s.ranAt r.val i with pwr.draining := .none } = State.goView { s with pwr.draining := .none } :=
      congrArg GoView.undrained hgo
    have hended := endPark_of_follower (s.ranAt r.val i) hleads' (by rw [hpwr, hdrain]) (by rw [hpwr, hcmd])
      ((still_of_goView hgo').trans hstill)
    have hc : exec (.resume r i) s = done ((s.ranAt r.val i).endPark.complete r.val i 0 (s.ranAt r.val i).endPark.aon.pwr.code) := by
      refine congrArg done ((withDesc_of_started s _ hstarted).trans ?_)
      simp [State.cmdResume, hpwr, hdrain]
    obtain ⟨hpwr', hheld⟩ := power_of_besidesPosts (complete_besidesPosts (s.ranAt r.val i).endPark r.val i 0
      (s.ranAt r.val i).endPark.aon.pwr.code 0)
    refine completes_done hc ?_
    rw [State.flushEvents_pwr, State.flushEvents_noc_whDrain, hpwr', hheld]
    exact hended
end

section
/-!
LEMMAS. What in-flight reduction leaves as it was (R244 to R273): one lemma for each operation of the engine, and what each of its
commands leaves.
-/
namespace Sys2Proof.Machine

/-- A state of the parts that in-flight reduction leaves as they were; every other part is at its reset value. -/
def outsideRedOf (straps : Straps) (aon : Aon) (clk : Clocks) (sb : Sideband) (test : Test) (start : Start) (link : Link)
    (cal : Cal) (ht : Hitches) (cfg : Cfg) (agent : Agent) (pwr : Power) (lash : Lash) (ten : Tenancy) (mtr : Meters)
    (bight : Bight) (glob : Glob) (out : Outputs) : State :=
  keepFrame .rings straps aon clk sb test start link cal zeroRed ht cfg agent pwr lash ten mtr bight glob out

/-- The state without the reduction engine and without what it queues, completes and raises. -/
def State.outsideRed (s : State) : State :=
  outsideRedOf s.straps s.aon s.clk s.sb s.test s.start s.link s.cal s.ht s.cfg s.agent s.pwr s.lash s.ten s.mtr s.bight s.glob
    s.out

/-! As for `State.keep`, the next two lemmas are proved by `id rfl`, so that `simp` rewrites with them. -/

@[simp] theorem outsideRed_mk f0 f1 f2 f3 f4 f5 f6 f7 f8 f9 f10 f11 f12 f13 f14 f15 f16 f17 f18 f19 f20 f21 f22 f23 :
    State.outsideRed ⟨f0, f1, f2, f3, f4, f5, f6, f7, f8, f9, f10, f11, f12, f13, f14, f15, f16, f17, f18, f19, f20, f21, f22,
      f23⟩ = outsideRedOf f0 f2 f3 f4 f5 f6 f7 f10 f12 f13 f14 f16 f17 f18 f19 f20 f21 f22 := id rfl

@[simp] theorem outsideRedOf_fold (s : State) :
    outsideRedOf s.straps s.aon s.clk s.sb s.test s.start s.link s.cal s.ht s.cfg s.agent s.pwr s.lash s.ten s.mtr s.bight s.glob
      s.out = s.outsideRed := id rfl

@[simp] theorem outsideRed_foldl {α : Type} {g : State → α → State} {l : List α} {s : State}
    (h : ∀ u x, (g u x).outsideRed = u.outsideRed) : (l.foldl g s).outsideRed = s.outsideRed :=
  foldl_keeps State.outsideRed g l s fun u x _ => h u x

@[simp] theorem outsideRed_ite (c : Prop) [Decidable c] (a b : State) :
    (if c then a else b).outsideRed = if c then a.outsideRed else b.outsideRed := apply_ite State.outsideRed c a b

/-- What leaves all that the work of the rings leaves changes nothing beside the reduction engine. -/
theorem outsideRed_of_keep {s t : State} (h : t.keep .rings = s.keep .rings) : t.outsideRed = s.outsideRed :=
  (congrArg State.outsideRed h :)

/-- Nor does what changes the reduction engine and the requests it queues. -/
theorem outsideRed_of_besidesRed {s t : State} (h : t.besidesRed = s.besidesRed) : t.outsideRed = s.outsideRed :=
  (congrArg State.outsideRed h :)

variable (s : State)

/-! ### Shared operations -/

@[simp] theorem flushEvents_outsideRed : s.flushEvents.outsideRed = s.outsideRed :=
  outsideRed_of_keep (State.flushEvents_kept .rings s)
@[simp] theorem complete_outsideRed (r : Nat) (i : BitVec 32) (status result detail : Nat) :
    (s.complete r i status result detail).outsideRed = s.outsideRed :=
  outsideRed_of_keep (State.complete_kept .rings s r i status result detail)
@[simp] theorem startDesc_outsideRed (r : Nat) (e : RingDesc) : (s.startDesc r e).outsideRed = s.outsideRed :=
  outsideRed_of_keep (State.startDesc_kept .rings s r e)
theorem withDesc_outsideRed (r : RingNo) (i : BitVec 32) (op : Nat) (work : Desc → State → State)
    (hwork : ∀ d u, (work d u).outsideRed = u.outsideRed) : (s.withDesc r i op work).outsideRed = s.outsideRed := by
  unfold State.withDesc
  (repeat' split) <;> simp [hwork]
@[simp] theorem raise_outsideRed (typ code a0 a1 a2 b d p v t : Nat) :
    (s.raise typ code a0 a1 a2 b d p v t).outsideRed = s.outsideRed :=
  outsideRed_of_keep (State.raise_kept .rings s typ code a0 a1 a2 b d p v t)
@[simp] theorem raiseLimited_outsideRed (key : Nat) (mk : State → Nat → State)
    (hmk : ∀ u n, (mk u n).outsideRed = u.outsideRed) : (s.raiseLimited key mk).outsideRed = s.outsideRed := by
  unfold State.raiseLimited
  (repeat' split) <;> simp [hmk]
@[simp] theorem pick_outsideRed {α : Type} (d : α) (l : List α) : (s.pick d l).2.outsideRed = s.outsideRed := by
  simp [State.pick, State.free]
@[simp] theorem redTaken_outsideRed (rx : Bool) (f : NocFlit) : (s.redTaken rx f).outsideRed = s.outsideRed := by
  simp [State.redTaken, State.untake]

/-! ### Jobs and chunks -/

@[simp] theorem modJob_outsideRed (k : Nat) (f : RedJob → RedJob) : (s.modJob k f).outsideRed = s.outsideRed := by
  simp [State.modJob]
@[simp] theorem modChunk_outsideRed (k i : Nat) (f : Chunk → Chunk) : (s.modChunk k i f).outsideRed = s.outsideRed := by
  simp [State.modChunk]
@[simp] theorem redEgress_outsideRed (w : EgWhat) (vc : Fin 8) (last : Option (Nat × Nat)) :
    (s.redEgress w vc last).outsideRed = s.outsideRed := by simp [State.redEgress]
@[simp] theorem redDiscard_outsideRed (slot : Option Nat) (cause job chunk rank : Nat) :
    (s.redDiscard slot cause job chunk rank).outsideRed = s.outsideRed := by
  simp only [State.redDiscard]
  (repeat' split) <;> simp

/-! ### Combining and closing (R251, R252, R260, R262, R267, R268) -/

@[simp] theorem takeHeld_outsideRed (k : Nat) (d : Desc) (c : Chunk) (h : HeldRank) :
    (s.takeHeld k d c h).2.outsideRed = s.outsideRed := outsideRed_of_besidesRed (takeHeld_besidesRed s k d c h)
@[simp] theorem advance_outsideRed (n : Nat) (s : State) (k : Nat) (d : Desc) (c : Chunk) :
    (State.advance n s k d c).2.outsideRed = s.outsideRed := by
  induction n generalizing s c with
  | zero => rfl
  | succ n ih =>
    unfold State.advance
    split <;> simp [ih]
@[simp] theorem combineAll_outsideRed (n : Nat) (s : State) (k : Nat) (d : Desc) (c : Chunk) :
    (State.combineAll n s k d c).2.outsideRed = s.outsideRed := outsideRed_of_besidesRed (combineAll_besidesRed n s k d c)
@[simp] theorem closeWith_outsideRed (k : Nat) (j : RedJob) (c : Chunk) (vals : List Nat) :
    (s.closeWith k j c vals).outsideRed = s.outsideRed := by simp [State.closeWith]
@[simp] theorem closeChunk_outsideRed (k : Nat) (j : RedJob) (c : Chunk) : (s.closeChunk k j c).outsideRed = s.outsideRed :=
  outsideRed_of_besidesRed (closeChunk_besidesRed s k j c)
@[simp] theorem loseStreams_outsideRed (k : Nat) (lost : Nat → Bool) : (s.loseStreams k lost).outsideRed = s.outsideRed := by
  simp [State.loseStreams]
@[simp] theorem putChunk_outsideRed (k : Nat) (c : Chunk) : (s.putChunk k c).outsideRed = s.outsideRed := by
  unfold State.putChunk
  split <;> simp
@[simp] theorem startRefill_outsideRed (k i : Nat) : (s.startRefill k i).outsideRed = s.outsideRed :=
  outsideRed_of_besidesRed (startRefill_besidesRed s k i)
@[simp] theorem timerClose_outsideRed (k i : Nat) : (s.timerClose k i).outsideRed = s.outsideRed :=
  outsideRed_of_besidesRed (timerClose_besidesRed s k i)
@[simp] theorem closeJob_outsideRed (k : Nat) (parked : Bool) : (s.closeJob k parked).outsideRed = s.outsideRed := by
  unfold State.closeJob
  split <;> simp

/-! ### Spill and refill (R265, R266) -/

@[simp] theorem spillOut_outsideRed (j : RedJob) (gs : List Nat) (k i : Nat) (lines : List Nat) :
    (s.spillOut j gs k i lines).outsideRed = s.outsideRed := outsideRed_foldl fun u x => by simp
@[simp] theorem spillOne_outsideRed (k : Nat) (c : Chunk) : (s.spillOne k c).outsideRed = s.outsideRed := by
  unfold State.spillOne
  split <;> simp
@[simp] theorem findGrans_outsideRed (n : Nat) (s : State) (need k i : Nat) :
    (State.findGrans n s need k i).2.outsideRed = s.outsideRed := by
  induction n generalizing s with
  | zero => rfl
  | succ n ih =>
    unfold State.findGrans
    (repeat' split) <;> simp [ih]
@[simp] theorem spillFailed_outsideRed (k i : Nat) : (s.spillFailed k i).outsideRed = s.outsideRed := by simp [State.spillFailed]
@[simp] theorem closeRefilled_outsideRed (k i : Nat) : (s.closeRefilled k i).outsideRed = s.outsideRed := by
  unfold State.closeRefilled
  (repeat' split) <;> simp
@[simp] theorem refilled_outsideRed (k i : Nat) : (s.refilled k i).outsideRed = s.outsideRed := by
  simp only [State.refilled]
  (repeat' split) <;> simp

/-! ### Outputs and the end of a job (R269, R270) -/

@[simp] theorem jobHitch_outsideRed (j : RedJob) : (s.jobHitch j).outsideRed = s.outsideRed := by simp [State.jobHitch]
@[simp] theorem endJob_outsideRed (k : Nat) : (s.endJob k).outsideRed = s.outsideRed := by
  unfold State.endJob
  split <;> simp
@[simp] theorem jobSettle_outsideRed (k : Nat) : (s.jobSettle k).outsideRed = s.outsideRed := by
  unfold State.jobSettle
  split <;> simp
@[simp] theorem chunkSettle_outsideRed (k i : Nat) : (s.chunkSettle k i).outsideRed = s.outsideRed := by
  unfold State.chunkSettle
  (repeat' split) <;> simp
@[simp] theorem outputChunk_outsideRed (k i : Nat) : (s.outputChunk k i).outsideRed = s.outsideRed := by
  unfold State.outputChunk
  (repeat' split) <;> simp

/-! ### Taking contributions (R249, R259, R263) -/

@[simp] theorem mirrorOut_outsideRed (f : NocFlit) : (s.mirrorOut f).2.outsideRed = s.outsideRed := by
  simp only [State.mirrorOut]
  (repeat' split) <;> simp
@[simp] theorem truncate_outsideRed (t : Stream) : (s.truncate t).outsideRed = s.outsideRed := by
  simp only [State.truncate]
  (repeat' split) <;> simp
@[simp] theorem admitHead_outsideRed (rx : Bool) (key : List Nat) (f : NocFlit) (k : Nat) (d : Desc) (ch : Chunk)
    (fresh : Bool) : (s.admitHead rx key f k d ch fresh).outsideRed = s.outsideRed := by
  simp only [State.admitHead]
  (repeat' split) <;> simp
@[simp] theorem acceptHead_outsideRed (rx : Bool) (key : List Nat) (f : NocFlit) (k : Nat) (j : RedJob) :
    (s.acceptHead rx key f k j).outsideRed = s.outsideRed := by
  simp only [State.acceptHead]
  (repeat' split) <;> simp
@[simp] theorem joinData_outsideRed (t : Stream) (f : NocFlit) (k : Nat) (j : RedJob) (c : Chunk) (rank : Nat)
    (img : List (BitVec 512)) (last : Bool) : (s.joinData t f k j c rank img last).outsideRed = s.outsideRed := by
  simp only [State.joinData]
  (repeat' split) <;> simp
@[simp] theorem takeData_outsideRed (t : Stream) (f : NocFlit) : (s.takeData t f).outsideRed = s.outsideRed := by
  simp only [State.takeData]
  (repeat' split) <;> simp
@[simp] theorem takeHead_outsideRed (rx : Bool) (f : NocFlit) : (s.takeHead rx f).outsideRed = s.outsideRed := by
  simp only [State.takeHead]
  (repeat' split) <;> simp
@[simp] theorem heldFlit_outsideRed (rx : Bool) (key : List Nat) (s : State) (f : NocFlit) :
    (State.heldFlit rx key s f).outsideRed = s.outsideRed := by
  unfold State.heldFlit
  split <;> simp
@[simp] theorem applyHeld_outsideRed (k : Nat) (h : PreHeld) : (s.applyHeld k h).outsideRed = s.outsideRed := by
  simp only [State.applyHeld]
  (repeat' split) <;> simp
@[simp] theorem startJob_outsideRed (r : RingNo) (i : BitVec 32) (d : Desc) : (s.startJob r i d).outsideRed = s.outsideRed := by
  simp only [State.startJob]
  split <;> simp

/-! ### The commands -/

/-- A command of the group completes by posting its events, and leaves the rest of the state as it was. -/
theorem reductionCommand_done (c : Instr) (h : c.ofReduction = true) :
    ∃ u, exec c s = done u ∧ u.outsideRed = s.outsideRed := by
  have guarded : ∀ (p : Bool) (v : State), v.outsideRed = s.outsideRed →
      ∃ u, (if p then done v else done s) = done u ∧ u.outsideRed = s.outsideRed := fun p v hv => by
    cases p
    · exact ⟨s, rfl, rfl⟩
    · exact ⟨v, rfl, hv⟩
  cases c
  case reduce r i =>
    simp only [exec, execReduce]
    split
    · exact ⟨s, rfl, rfl⟩
    · exact ⟨_, rfl, withDesc_outsideRed s r i 0x20 _ fun d u => startJob_outsideRed u r i d⟩
  case jobStatus r i => exact ⟨_, rfl, withDesc_outsideRed s r i 0x21 _ fun d u => by split <;> simp⟩
  case contribHead rx f => exact guarded _ _ (by simp)
  case contribData rx f => exact guarded _ _ (by dsimp only; (repeat' split) <;> simp)
  case chunkTimer k i => exact guarded _ _ (by simp)
  case jobIdleTimer k => exact guarded _ _ (by (repeat' split) <;> simp)
  case preholdExpiry n => exact guarded _ _ (by split <;> simp)
  case spillWriteResponse k i err => exact guarded _ _ (by (repeat' split) <;> simp)
  case refillResponse k i err => exact guarded _ _ (by (repeat' split) <;> simp)
  case chunkOutput k i => exact guarded _ _ (by split <;> simp)
  case resultWriteResponse k i err => exact guarded _ _ (by (repeat' split) <;> simp)
  all_goals cases h

end Sys2Proof.Machine

open Sys2Proof Sys2Proof.Machine

/-- Settles O55: what the group leaves alone is in `State.outsideRed`, which posting leaves alone as well. -/
theorem reductionCommandsFrame : Obligations.ReductionCommandsFrame := by
  rintro s t c ⟨hc, hx⟩
  obtain ⟨u, hu, hkeep⟩ := reductionCommand_done s c hc
  obtain rfl : u.flushEvents = t := by
    rw [hu, done_eq] at hx
    exact Host.Outcome.next.inj hx
  have h := (flushEvents_outsideRed u).trans hkeep
  exact ⟨(congrArg State.straps h :), (congrArg State.aon h :), (congrArg State.clk h :), (congrArg State.sb h :),
    (congrArg State.test h :), (congrArg State.start h :), (congrArg State.link h :), (congrArg State.cal h :),
    (congrArg State.ht h :), (congrArg State.cfg h :), (congrArg State.agent h :), (congrArg State.pwr h :),
    (congrArg State.lash h :), (congrArg State.mtr h :), (congrArg State.bight h :), (congrArg State.glob h :),
    (congrArg State.out h :)⟩
end

section
/-!
SUPPORT. The reduction engine where one job runs, and where it has one chunk (R249, R257, R260 to R263, R265 to R270): what each
operation of the engine gives there.
-/
namespace Sys2Proof.Machine

variable {s : State} {k : Nat} {j : RedJob} {c : Chunk}

/-- The state in which one job runs, in a slot. -/
def State.withJob (s : State) (k : Nat) (j : RedJob) : State := { s with red.jobs := [(k, j)] }

/-- A job that has one chunk. -/
def RedJob.withChunk (j : RedJob) (c : Chunk) : RedJob := { j with chunks := [c] }

/-! ### Access -/

theorem redJob_of_one (hjobs : s.red.jobs = [(k, j)]) : s.redJob k = some j := by simp [State.redJob, hjobs, tfind]

theorem chunk_of_one (hchunks : j.chunks = [c]) : j.chunk c.idx = some c := by simp [RedJob.chunk, hchunks]

theorem modJob_of_one (hjobs : s.red.jobs = [(k, j)]) (f : RedJob → RedJob) : s.modJob k f = s.withJob k (f j) := by
  simp [State.modJob, State.withJob, hjobs]

theorem modChunk_of_one (hjobs : s.red.jobs = [(k, j)]) (hchunks : j.chunks = [c]) (f : Chunk → Chunk) :
    s.modChunk k c.idx f = s.withJob k (j.withChunk (f c)) := by
  rw [State.modChunk, modJob_of_one hjobs]
  simp [RedJob.withChunk, hchunks]

/-- The chunk a command of the engine names, of the one job. -/
theorem find_chunk_of_one (hjobs : s.red.jobs = [(k, j)]) (hchunks : j.chunks = [c]) :
    ((s.redJob k).bind fun j => j.chunk c.idx) = some c := by
  rw [redJob_of_one hjobs]
  exact chunk_of_one hchunks

/-! ### Closing (R252, R262, R267) -/

/-- A chunk that closes keeps its index, POISON and what closed it. -/
theorem closeWith_of_one (hjobs : s.red.jobs = [(k, j)]) (hchunks : j.chunks = [c]) (j' : RedJob) (c' : Chunk)
    (hidx : c'.idx = c.idx) (vals : List Nat) : ∃ pois flags c1,
      s.closeWith k j' c' vals = s.withJob k { j with chunks := [c1], pois := pois, flags := flags }
        ∧ c1.idx = c.idx ∧ c1.st = .closed ∧ c1.poisoned = c'.poisoned ∧ c1.byTimer = c'.byTimer := by
  unfold State.closeWith
  simp only [modJob_of_one hjobs, hchunks, hidx]
  simp only [List.any_cons, List.any_nil, decide_true, Bool.or_false, if_true, List.map_cons, List.map_nil]
  exact ⟨_, _, _, rfl, rfl, rfl, rfl, rfl⟩

/-- A job one of whose chunks a timer has closed (R262, R271). -/
def RedJob.straggle (j : RedJob) (c : Chunk) : RedJob :=
  { j with
    straggled := j.straggled + 1
    strag := true
    missing := some (j.missing.getD (lowestMissing c.ranks (rdRanks j.desc))) }

/-- Nothing is combined where nothing is held. -/
theorem combineAll_of_empty (hheld : c.held = []) (n : Nat) (s : State) (d : Desc) : State.combineAll n s k d c = (c, s) := by
  cases n <;> simp [State.combineAll, hheld]

/-- An open chunk that holds nothing, as its timer closes it. -/
def Chunk.timedOut (c : Chunk) : Chunk := { c with st := .opened, held := [], poisoned := true, byTimer := true }

/-- A timer closes an open chunk that holds nothing: poisoned, and the job has straggled (R262). -/
theorem timerClose_of_open (hjobs : s.red.jobs = [(k, j)]) (hchunks : j.chunks = [c]) (hst : c.st = .opened)
    (hheld : c.held = []) : ∃ pois flags c1,
      (s.timerClose k c.idx).red.jobs = [(k, { j.straggle c with chunks := [c1], pois := pois, flags := flags })]
        ∧ c1.idx = c.idx ∧ c1.st = .closed ∧ c1.poisoned = true ∧ c1.byTimer = true := by
  generalize hlost : (s.withJob k (j.straggle c)).loseStreams k (· == c.idx) = v
  have hv : v.red.jobs = [(k, j.straggle c)] := by rw [← hlost]; rfl
  have hclose : s.timerClose k c.idx = (v.withJob k ((j.straggle c).withChunk c.timedOut)).closeChunk k j c.timedOut := by
    rw [← modChunk_of_one hv hchunks fun _ => c.timedOut, ← hlost]
    simp only [State.timerClose, redJob_of_one hjobs, chunk_of_one hchunks, hst, combineAll_of_empty, hheld]
    rw [modJob_of_one hjobs]
    rfl
  generalize hu : v.withJob k ((j.straggle c).withChunk c.timedOut) = u at hclose
  have hujobs : u.red.jobs = [(k, (j.straggle c).withChunk c.timedOut)] := by rw [← hu]; rfl
  obtain ⟨pois, flags, c1, hclosed, hidx, hst1, hpois, htimer⟩ := closeWith_of_one
    (s := { u with freeCtr := u.freeCtr + c.timedOut.acc.length }) hujobs rfl j c.timedOut rfl
    (finalScale j.desc (closeValues u.freeCtr c.timedOut.acc))
  refine ⟨pois, flags, c1, ?_, hidx, hst1, hpois, htimer⟩
  rw [hclose, State.closeChunk, hclosed]
  rfl

/-- The idle timer closes a job without chunks: every chunk not done has straggled (R262). -/
theorem closeJob_of_absent (hjobs : s.red.jobs = [(k, j)]) (hchunks : j.chunks = []) (hidle : j.idleClosed = false)
    (hleft : j.doneIdx.length < rdChunks j.desc) : ∃ missing, s.closeJob k false = s.withJob k { j with
      idleClosed := true
      straggled := j.straggled + (rdChunks j.desc - j.doneIdx.length)
      strag := true
      missing := missing } := by
  have habsent : 0 < rdChunks j.desc - j.doneIdx.length := Nat.sub_pos_of_lt hleft
  refine ⟨some (j.missing.getD 0), ?_⟩
  simp [State.closeJob, redJob_of_one hjobs, modJob_of_one hjobs, hchunks, hidle, habsent]

/-- A chunk that waits for a rank or for data of one is stored as it is (Table 11.7). -/
theorem putChunk_of_waiting (hjobs : s.red.jobs = [(k, j)]) (hchunks : j.chunks = [c]) (c' : Chunk) (hidx : c'.idx = c.idx)
    (hwaits : c'.ranks.length < rdRanks j.desc ∨ s.streaming k c.idx = true) :
    s.putChunk k c' = s.withJob k (j.withChunk c') := by
  unfold State.putChunk
  rw [redJob_of_one hjobs, hidx]
  dsimp only
  rw [modChunk_of_one hjobs hchunks, if_neg]
  rintro ⟨-, hall, -, hstill⟩
  rcases hwaits with hfew | hmore
  · omega
  · have hstreaming : (s.withJob k (j.withChunk c')).streaming k c.idx = true := hmore
    simp [hstreaming] at hstill

/-! ### Spill and refill (R265) -/

/-- A refilled chunk that waits for more ranks opens again, and its spill granules are free. -/
theorem refilled_of_waiting (hjobs : s.red.jobs = [(k, j)]) (hchunks : j.chunks = [c]) (hclose : c.closeAfter = false)
    (hheld : c.held = []) (hranks : c.ranks.length < rdRanks j.desc) :
    s.refilled k c.idx = s.withJob k (RedJob.withChunk { j with spillUsed := j.spillUsed.filter fun g => !c.spill.contains g }
      { c with st := .opened, spill := [] }) := by
  have put := putChunk_of_waiting
    (s := s.withJob k { j with spillUsed := j.spillUsed.filter fun g => !c.spill.contains g }) rfl hchunks
    { c with st := .opened, spill := [] } rfl (.inl hranks)
  simp only [State.refilled, redJob_of_one hjobs, chunk_of_one hchunks, modJob_of_one hjobs, hclose, hheld,
    State.advance, State.combineAll, List.find?_nil, List.length_nil, ite_self, Bool.false_eq_true, if_false] at put ⊢
  exact put

/-! ### Outputs and the end of a job (R269, R270) -/

/-- A chunk with a write not yet acknowledged is not done. -/
theorem chunkSettle_of_awaited (hjobs : s.red.jobs = [(k, j)]) (hchunks : j.chunks = [c]) (hacks : c.acks ≠ 0) :
    s.chunkSettle k c.idx = s := by
  simp [State.chunkSettle, redJob_of_one hjobs, chunk_of_one hchunks, hacks]

/-- A job with chunks to come goes on when one is done. -/
theorem jobSettle_of_unfinished (hjobs : s.red.jobs = [(k, j)]) (hcancel : j.cancelling = false)
    (hleft : j.doneIdx.length < rdChunks j.desc) : s.jobSettle k = s := by
  simp [State.jobSettle, redJob_of_one hjobs, hcancel, Nat.not_le.mpr hleft]

/-- A job whose one chunk is done. -/
def RedJob.chunkDone (j : RedJob) (c : Chunk) : RedJob :=
  { j with
    chunks := []
    doneIdx := j.doneIdx ++ [c.idx]
    poisonedOut := if c.poisoned then j.poisonedOut + 1 else j.poisonedOut
    spillUsed := j.spillUsed.filter fun g => !c.spill.contains g }

/-- The last acknowledgement makes a chunk done. -/
theorem chunkSettle_of_done (hjobs : s.red.jobs = [(k, j)]) (hchunks : j.chunks = [c]) (hst : c.st = .closed)
    (hacks : c.acks = 0) (hbegun : c.begun = true) (hmem : c.memLeft = []) (hfwd : c.fwdLeft = []) (hfwdDone : c.fwdDone = true)
    (hcancel : j.cancelling = false) (hleft : j.doneIdx.length + 1 < rdChunks j.desc) :
    s.chunkSettle k c.idx = s.withJob k (j.chunkDone c) := by
  have hsettled : (s.withJob k (j.chunkDone c)).jobSettle k = s.withJob k (j.chunkDone c) :=
    jobSettle_of_unfinished rfl hcancel (by simpa [RedJob.chunkDone] using hleft)
  have hnone : ([c].filter fun x => x.idx ≠ c.idx) = [] := by simp
  simp only [State.chunkSettle, redJob_of_one hjobs, chunk_of_one hchunks, modJob_of_one hjobs, hst, hacks, hbegun, hmem, hfwd,
    hfwdDone, hchunks, hnone]
  exact hsettled

/-- The state with more requests and flits of the engine at egress. -/
def State.redQueued (s : State) (l : List EgItem) : State := { s with noc.qRed := s.noc.qRed ++ l }

/-- The write of one line of a result, as it waits at egress (R269). -/
def resultLine (k : Nat) (j : RedJob) (c : Chunk) (now : Time) (p : Nat × BitVec 512) : EgItem :=
  ⟨.mem ⟨.resultWrite, 0, j.owner, BitVec.ofNat 52 p.1, 64, p.2.toNat, c.poisoned, k, c.idx⟩, 0, now, none⟩

theorem foldl_resultLines (l : List (Nat × BitVec 512)) (s : State) :
    l.foldl (fun a p => a.redEgress (.mem ⟨.resultWrite, 0, j.owner, BitVec.ofNat 52 p.1, 64, p.2.toNat, c.poisoned, k, c.idx⟩)
      0 none) s = s.redQueued (l.map (resultLine k j c s.now)) := by
  induction l generalizing s with
  | nil => simp [State.redQueued]
  | cons p l ih => rw [List.foldl_cons, ih]; simp [State.redQueued, State.redEgress, resultLine, State.now]

/-- A chunk all of whose memory writes and forwarded flits have left. -/
def Chunk.written (c : Chunk) : Chunk :=
  { c with begun := true, acks := c.acks + c.memLeft.length, memLeft := [], fwdLeft := [] }

/-- A closed chunk with nothing to forward writes its image. -/
theorem outputChunk_of_writes (hjobs : s.red.jobs = [(k, j)]) (hchunks : j.chunks = [c]) (hst : c.st = .closed)
    (hmem : c.memLeft ≠ []) (hfwd : c.fwdLeft = []) :
    s.outputChunk k c.idx = (s.redQueued (c.memLeft.map (resultLine k j c s.now))).withJob k (j.withChunk c.written) := by
  have hawaited : c.written.acks ≠ 0 := by
    have := List.length_pos_of_ne_nil hmem
    simp only [Chunk.written]
    omega
  have hlast : ∀ (v : State) (g : Chunk → Chunk), v.red.jobs = [(k, j.withChunk c.written)] → g c.written = c.written →
      (v.modChunk k c.idx g).chunkSettle k c.idx = v.withJob k (j.withChunk c.written) := fun v g hv hg => by
    change (v.modChunk k c.written.idx g).chunkSettle k c.written.idx = _
    rw [modChunk_of_one hv rfl, hg]
    exact chunkSettle_of_awaited rfl rfl hawaited
  generalize hu : s.redQueued (c.memLeft.map (resultLine k j c s.now)) = u
  have hjobs' : u.red.jobs = [(k, j)] := by rw [← hu]; exact hjobs
  unfold State.outputChunk
  simp only [redJob_of_one hjobs, chunk_of_one hchunks]
  rw [if_neg (not_not.mpr hst), foldl_resultLines, hu, modChunk_of_one hjobs' hchunks]
  simp only [hfwd, List.zipIdx_nil, List.foldl_nil, List.take_nil, List.map_nil, List.append_nil]
  split <;> exact hlast _ _ (by rfl) (by simp [Chunk.written])

/-! ### Heads (R249, R259, R263) -/

/-- A head whose job does not run yet is held, and its stream is open. -/
theorem takeHead_of_held (rx : Bool) (f : NocFlit) (hstreams : s.red.streams = []) (hjobs : s.red.jobs = [])
    (hage : bf s.red.ctl 16 8 ≠ 0) (hhold : s.holdGrans + imgGrans (hdFlits f) ≤ 64)
    (hroom : imgGrans (hdFlits f) ≤ s.freeGrans) (hflits : 1 ≤ hdFlits f) : s.takeHead rx f = { s with
      red.hold := s.red.hold ++ [⟨s.red.nextHold, s.now, rx, f, [], false⟩]
      red.nextHold := s.red.nextHold + 1
      red.streams := [⟨rx, flowKey f, .prehold s.red.nextHold, 0, hdFlits f, flitPoison f, false, []⟩] } := by
  simp [State.takeHead, State.streamOf, State.jobOf, hstreams, hjobs, hage, hhold, hroom, hflits]

theorem jobOf_of_one (hjobs : s.red.jobs = [(k, j)]) (hcancel : j.cancelling = false) :
    s.jobOf j.owner.toNat (rdJob j.desc) = some (k, j) := by simp [State.jobOf, hjobs, hcancel]

/-- Where there is room no victim is spilled (R265). -/
theorem findGrans_of_room {need : Nat} (hroom : need ≤ s.freeGrans) (n slot idx : Nat) :
    State.findGrans n s need slot idx = (true, s) := by
  have hcoming : need ≤ s.comingGrans := hroom.trans (Nat.le_add_right _ _)
  cases n <;> simp [State.findGrans, hcoming]

/-- The chunk the first head of a chunk opens. -/
def openedBy (f : NocFlit) (d : Desc) (clock : Nat) (now : Time) : Chunk :=
  { chunk0 (hdChunk f) (rdElems d) now with ranks := [hdRank f], updated := clock + 1, touched := now }

/-- A head no check of Table 11.6 discards: it names a rank and a chunk of the job and its image is the job's. -/
structure FitsJob (f : NocFlit) (d : Desc) : Prop where
  rank : hdRank f < rdRanks d
  pos : (rdPos d (hdChunk f)).isSome = true
  format : hdFormat f = rdIn d
  log2 : hdLog2 f = rdLog2 d
  flits : hdFlits f = imageFlits (rdIn d) (rdElems d)

/-- A head that fits its job, the first of its chunk and in arrival order, is taken in where there is room. -/
theorem acceptHead_of_first (rx : Bool) (key : List Nat) (f : NocFlit) (hjobs : s.red.jobs = [(k, j)])
    (hstreams : s.red.streams = []) (hfits : FitsJob f j.desc) (hpois : flitPoison f = false) (hchunks : j.chunks = [])
    (hdone : j.doneIdx = []) (hidle : j.idleClosed = false) (horder : rdRank j.desc = false)
    (hroom : accGrans j.desc + mapGrans j.desc ≤ s.freeGrans) :
    s.acceptHead rx key f k j = s.admitHead rx key f k j.desc (openedBy f j.desc s.red.clock s.now) true := by
  have hcur : j.chunk (hdChunk f) = none := by simp [RedJob.chunk, hchunks]
  have hrecords : s.chunkRecords = 0 := by simp [State.chunkRecords, hjobs, hchunks]
  have hneed : chunkGrans j.desc (openedBy f j.desc s.red.clock s.now) - 0 ≤ s.freeGrans := by
    simpa [chunkGrans, needGrans, heldGrans, openedBy, chunk0] using hroom
  obtain ⟨hrank, hpos, hformat, hlog, hflits⟩ := hfits
  unfold State.acceptHead
  simp only [hcur, hdone, hidle, hstreams, horder, hpois]
  rw [if_neg (by simp [hrank, Option.isSome_iff_ne_none.mp hpos]), if_neg (by simp [hformat, hlog, hflits]),
    if_neg (by simp), if_neg (by simp), if_neg (by simp)]
  change (let found := if (none : Option Chunk).isNone && decide (s.chunkRecords ≥ 4096) then (false, s)
      else State.findGrans 1024 s (chunkGrans j.desc (openedBy f j.desc s.red.clock s.now) - 0) k (hdChunk f)
    if !found.1 then _ else found.2.admitHead rx key f k j.desc (openedBy f j.desc s.red.clock s.now) true) = _
  rw [hrecords, findGrans_of_room hneed]
  rfl

/-- A head taken in opens its chunk and its stream. -/
theorem admitHead_of_open (rx : Bool) (key : List Nat) (f : NocFlit) (hjobs : s.red.jobs = [(k, j)]) (hchunks : j.chunks = [])
    (hpois : flitPoison f = false) (hmirror : rdMirror j.desc = false) (hst : c.st = .opened) :
    (s.admitHead rx key f k j.desc c true).red = { s.red with
      clock := s.red.clock + 1
      contribs := s.red.contribs + 1
      jobs := [(k, { j with idleAt := s.now, chunks := [c] })]
      streams := s.red.streams ++ [⟨rx, key, .chunk k (hdChunk f) (hdRank f), 0, hdFlits f, false, false, []⟩] } := by
  have hmod : ∀ (u : State) (g : RedJob → RedJob), u.red.jobs = s.red.jobs → u.modJob k g = u.withJob k (g j) := fun u g hu =>
    modJob_of_one (hu.trans hjobs) g
  simp [State.admitHead, hpois, hmirror, hst, hmod, hchunks, State.withJob, State.now]

/-! ### Data (R249, R260, R263) -/

/-- The open stream, where there is one. -/
theorem streamOf_of_one {t : Stream} (hstreams : s.red.streams = [t]) : s.streamOf t.rx t.flow = some t := by
  simp [State.streamOf, hstreams]

/-- Data of a held head joins it. -/
theorem takeData_of_held {f : NocFlit} {t : Stream} {h : PreHeld} (hhold : s.red.hold = [h])
    (hdest : t.dest = .prehold h.num) (hnext : flitTag f = t.next) (hmirror : t.mirror = false) (hmore : t.next + 1 ≠ t.flits) :
    (s.takeData t f).red.hold = [{ h with data := h.data ++ [f] }] ∧ (s.takeData t f).red.jobs = s.red.jobs := by
  simp [State.takeData, hnext, hmirror, hdest, hhold, hmore]

/-- The payload of one flit as an image. -/
theorem imageNat_of_flit (f : NocFlit) : imageNat [BitVec.ofNat 512 (flitPay f)] = flitPay f := by
  have hlt : flitPay f < 2 ^ 512 := Nat.mod_lt (f.toNat / 2 ^ 64) (Nat.two_pow_pos 512)
  have hpay : (BitVec.ofNat 512 (flitPay f)).toNat = flitPay f := (BitVec.toNat_ofNat _ _).trans (Nat.mod_eq_of_lt hlt)
  rw [imageNat, List.foldr_cons, List.foldr_nil, hpay, Nat.zero_mul, Nat.add_zero]

/-- Data of a rank an open chunk does not hold is combined as it arrives (R260). -/
theorem joinData_of_open {t : Stream} {f : NocFlit} {rank : Nat} {img : List (BitVec 512)} (hjobs : s.red.jobs = [(k, j)])
    (hchunks : j.chunks = [c]) (hst : c.st = .opened) (hheld : c.held = []) (hpois : flitPoison f = false)
    (hstreaming : s.streaming k c.idx = true) (last : Bool) : ∃ j1 c1,
      (s.joinData t f k j c rank img last).red.jobs = [(k, j1)] ∧ j1.chunks = [c1] ∧ c1.st = .opened
        ∧ c1.acc = (combineRange j.desc (imageNat img) (elemsOfFlit (rdIn j.desc) (rdElems j.desc) t.next).1
          (elemsOfFlit (rdIn j.desc) (rdElems j.desc) t.next).2 c.acc).1
        ∧ c1.ranks = c.ranks ∧ j1.desc = j.desc := by
  have stored : ∀ (v : State) (j' : RedJob) (c' : Chunk), v.red.jobs = [(k, j')] → v.red.streams = s.red.streams →
      j'.chunks = [c] → c'.idx = c.idx → (v.putChunk k c').red.jobs = [(k, j'.withChunk c')] := fun v j' c' hv hs hj hc => by
    rw [putChunk_of_waiting hv hj c' hc (.inr (by rw [State.streaming, hs]; exact hstreaming))]
    rfl
  unfold State.joinData
  simp only [hpois, Bool.false_and, Bool.false_eq_true, if_false, if_pos hst, hheld, List.any_nil]
  split
  · rw [modJob_of_one (j := j)]
    · exact ⟨_, _, stored _ _ _ rfl rfl hchunks rfl, rfl, hst, rfl, rfl, rfl⟩
    · exact hjobs
  · exact ⟨_, _, stored _ _ _ hjobs rfl hchunks rfl, rfl, hst, rfl, rfl, rfl⟩

/-- A stream entry that is not mirrored, once a data flit of it has been taken. -/
def Stream.after (t : Stream) (f : NocFlit) : Stream :=
  { t with
    next := t.next + 1
    image := t.image ++ [BitVec.ofNat 512 (flitPay f)]
    pois := t.pois || flitPoison f
    mirror := false }

/-- A data flit with more to come joins the chunk its stream feeds, and its stream goes on. -/
theorem takeData_of_chunk {f : NocFlit} {t : Stream} {rank : Nat} (hstreams : s.red.streams = [t])
    (hjobs : s.red.jobs = [(k, j)]) (hchunks : j.chunks = [c]) (hnext : flitTag f = t.next) (hmirror : t.mirror = false)
    (hmore : t.next + 1 ≠ t.flits) (hdest : t.dest = .chunk k c.idx rank) :
    s.takeData t f = State.joinData { s with red.streams := [t.after f] } t f k j c rank
      (t.image ++ [BitVec.ofNat 512 (flitPay f)]) false := by
  unfold State.takeData
  rw [if_neg (not_not.mpr hnext)]
  simp only [hmirror, Bool.false_eq_true, if_false, hstreams, hdest, if_neg hmore, List.map_cons, List.map_nil, if_true]
  rw [redJob_of_one (j := j)]
  · dsimp only
    rw [chunk_of_one hchunks]
    simp only [hmore, decide_false, Stream.after, hdest]
  · exact hjobs

/-- The first data flit of a contribution with more to come, at an open chunk that holds nothing. -/
theorem takeData_of_open {f : NocFlit} {t : Stream} {rank : Nat} (hstreams : s.red.streams = [t])
    (hjobs : s.red.jobs = [(k, j)]) (hchunks : j.chunks = [c]) (hst : c.st = .opened) (hheld : c.held = [])
    (hpois : flitPoison f = false) (htag : flitTag f = 0) (hnext : t.next = 0) (himage : t.image = []) (hflits : 1 < t.flits)
    (hmirror : t.mirror = false) (hdest : t.dest = .chunk k c.idx rank) : ∃ j1 c1,
      (s.takeData t f).red.jobs = [(k, j1)] ∧ j1.chunks = [c1] ∧ c1.st = .opened
        ∧ c1.acc = (combineRange j.desc (flitPay f) 0 (elemsOfFlit (rdIn j.desc) (rdElems j.desc) 0).2 c.acc).1
        ∧ c1.ranks = c.ranks ∧ j1.desc = j.desc := by
  have hfirst : (elemsOfFlit (rdIn j.desc) (rdElems j.desc) 0).1 = 0 := by simp [elemsOfFlit]
  have hstreaming : State.streaming { s with red.streams := [t.after f] } k c.idx = true := by
    simp [State.streaming, Stream.after, hdest]
  have joined := joinData_of_open (s := { s with red.streams := [t.after f] }) (t := t) (f := f) (rank := rank)
    (img := t.image ++ [BitVec.ofNat 512 (flitPay f)]) hjobs hchunks hst hheld hpois hstreaming false
  rw [himage, List.nil_append, imageNat_of_flit, hnext, hfirst] at joined
  rw [takeData_of_chunk hstreams hjobs hchunks (htag.trans hnext.symm) hmirror (by omega) hdest, himage]
  exact joined

end Sys2Proof.Machine
end

section
/-!
LEMMAS. Contributions and chunks (R249, R259 to R270): each command as the one operation it makes of its state.
-/
namespace Sys2Proof.Machine

variable {s : State} {k : Nat} {j : RedJob} {c : Chunk}

/-! ### Contributions -/

theorem exec_contribHead {rx : Bool} {f : NocFlit} (hred : s.hasRed = true) (hturn : s.redTurn rx f = true)
    (htype : flitType f = 0x38) : exec (.contribHead rx f) s = done ((s.redTaken rx f).takeHead rx f) := by
  simp [exec, execContribHead, hred, hturn, htype]

/-- A data flit is taken for the one stream, where it is of its flow. -/
theorem exec_contribData {rx : Bool} {f : NocFlit} {t : Stream} (hred : s.hasRed = true) (hturn : s.redTurn rx f = true)
    (htype : flitType f = 0x39) (hstreams : s.red.streams = [t]) (hside : t.rx = rx) (hflow : t.flow = flowKey f) :
    exec (.contribData rx f) s = done ((s.redTaken rx f).takeData t f) := by
  have hstream : (s.redTaken rx f).streamOf rx (flowKey f) = some t := by
    rw [← hside, ← hflow]
    exact streamOf_of_one hstreams
  simp [exec, execContribData, hred, hturn, htype, hstream]

/-- A head of a running job, with no stream open, is for that job to accept. -/
theorem takeHead_of_running {rx : Bool} {f : NocFlit} (hstreams : s.red.streams = []) (hjobs : s.red.jobs = [(k, j)])
    (howner : j.owner.toNat = flitTenant f) (hjob : rdJob j.desc = hdJob f) (hcancel : j.cancelling = false) :
    s.takeHead rx f = s.acceptHead rx (flowKey f) f k j := by
  have hnone : s.streamOf rx (flowKey f) = none := by simp [State.streamOf, hstreams]
  unfold State.takeHead
  simp only [hnone, ← howner, ← hjob, jobOf_of_one hjobs hcancel]

/-- A discard with no job is counted as UNKNOWN and leaves the rest of the engine as it was (R259). -/
theorem redDiscard_unknown (job chunk rank : Nat) :
    (s.redDiscard none 1 job chunk rank).red = { s.red with cUnknown := s.red.cUnknown + 1 } := by
  simp only [State.redDiscard, State.raiseLimited]
  (repeat' split) <;> rfl

/-- A held contribution that ages out is gone, and counted. -/
theorem exec_preholdExpiry {h : PreHeld} (hred : s.hasRed = true) (hhold : s.red.hold = [h]) :
    ∃ u, exec (.preholdExpiry h.num) s = done u ∧ u.red.hold = [] ∧ u.red.cUnknown = s.red.cUnknown + 1
      ∧ u.red.jobs = s.red.jobs := by
  refine ⟨_, by simp only [exec, execPreholdExpiry, hred, if_true]; rfl, ?_⟩
  simp [hhold, redDiscard_unknown]

/-! ### Chunks -/

/-- A write acknowledged with another one awaited is counted down (R265). -/
theorem exec_spillWriteResponse (hred : s.hasRed = true) (hjobs : s.red.jobs = [(k, j)]) (hchunks : j.chunks = [c])
    (hst : c.st = .spilled) (hwait : 1 ≤ c.wait) : exec (.spillWriteResponse k c.idx false) s =
      done (s.withJob k (j.withChunk { c with wait := c.wait - 1 })) := by
  have hone : c.wait ≠ 0 := by omega
  simp [exec, execSpillWriteResponse, hred, find_chunk_of_one hjobs hchunks, hst, hone, modChunk_of_one hjobs hchunks]

theorem exec_refillResponse (hred : s.hasRed = true) (hjobs : s.red.jobs = [(k, j)]) (hchunks : j.chunks = [c])
    (hst : c.st = .refilling) (hwait : 1 ≤ c.wait) : exec (.refillResponse k c.idx false) s =
      done (if c.wait = 1 then (s.withJob k (j.withChunk { c with wait := c.wait - 1 })).refilled k c.idx
        else s.withJob k (j.withChunk { c with wait := c.wait - 1 })) := by
  have hone : c.wait ≠ 0 := by omega
  simp [exec, execRefillResponse, hred, find_chunk_of_one hjobs hchunks, hst, hone, modChunk_of_one hjobs hchunks]

theorem exec_chunkOutput (hred : s.hasRed = true) (hjobs : s.red.jobs = [(k, j)]) (hchunks : j.chunks = [c]) :
    exec (.chunkOutput k c.idx) s = done (s.outputChunk k c.idx) := by
  simp [exec, execChunkOutput, hred, redJob_of_one hjobs, chunk_of_one hchunks]

theorem exec_resultWriteResponse (hred : s.hasRed = true) (hjobs : s.red.jobs = [(k, j)]) (hchunks : j.chunks = [c])
    (hacks : c.acks ≠ 0) : exec (.resultWriteResponse k c.idx false) s =
      done ((s.withJob k (j.withChunk { c with acks := c.acks - 1 })).chunkSettle k c.idx) := by
  simp [exec, execResultWriteResponse, hred, find_chunk_of_one hjobs hchunks, hacks, modChunk_of_one hjobs hchunks]

end Sys2Proof.Machine

open Sys2Proof Sys2Proof.Machine

/-- Settles O39: a head is held (`takeHead_of_held`) or opens its chunk (`acceptHead_of_first`, `admitHead_of_open`), and data
joins what its stream feeds (`takeData_of_held`, `takeData_of_open`). -/
theorem contributionsComplete : Obligations.ContributionsComplete := by
  refine ⟨?_, ?_, ?_, ?_, ?_⟩
  · rintro s rx f ⟨hred, hturn, htype, hstreams, hjobs, hage, hhold, hroom, hflits⟩
    refine completes_done (exec_contribHead hred hturn htype) ?_
    rw [takeHead_of_held (s := s.redTaken rx f) rx f hstreams hjobs hage hhold hroom hflits]
    simp only [State.flushEvents_red, State.flushEvents_noc_taken]
    exact ⟨rfl, rfl, rfl, rfl⟩
  · rintro s rx f k j ⟨hred, hturn, htype, hpois, hstreams, hjobs, howner, hjob, hcancel, hchunks, hdone, hidle, horder, hmirror,
      hrank, hpos, hformat, hlog, hflits, hroom⟩
    refine completes_done (exec_contribHead hred hturn htype) ?_
    rw [takeHead_of_running (s := s.redTaken rx f) hstreams hjobs howner hjob hcancel,
      acceptHead_of_first (s := s.redTaken rx f) rx _ f hjobs hstreams ⟨hrank, hpos, hformat, hlog, hflits⟩ hpois hchunks hdone
        hidle horder hroom, State.flushEvents_red,
      admitHead_of_open (s := s.redTaken rx f) rx _ f hjobs hchunks hpois hmirror rfl]
    refine ⟨⟨_, _, rfl, rfl, rfl, rfl, rfl, rfl, rfl, rfl, rfl⟩, rfl, ?_⟩
    simp [State.redTaken, State.untake, hstreams]
  · rintro s rx f n h q ⟨hred, hturn, htype, hstreams, hhold, rfl, hended, hmore⟩
    refine completes_done (exec_contribData hred hturn htype hstreams rfl rfl) ?_
    rw [State.flushEvents_red]
    exact takeData_of_held (s := s.redTaken rx f) hhold rfl rfl rfl (by simp; omega)
  · rintro s rx f k idx rank q j c ⟨hred, hturn, htype, hpois, htag, hflits, hstreams, hjobs, hchunks, rfl, hst, hheld⟩
    refine completes_done (exec_contribData hred hturn htype hstreams rfl rfl) ?_
    rw [State.flushEvents_red]
    exact takeData_of_open (s := s.redTaken rx f) hstreams hjobs hchunks hst hheld hpois htag rfl rfl hflits rfl rfl
  · rintro s h ⟨hred, hhold⟩
    obtain ⟨u, hu, hgone, hunknown, hjobs⟩ := exec_preholdExpiry hred hhold
    refine completes_done hu ?_
    rw [State.flushEvents_red]
    exact ⟨hgone, hunknown, hjobs⟩

/-- Settles O40, command by command. -/
theorem chunksComplete : Obligations.ChunksComplete := by
  refine ⟨?_, ?_, ?_, ?_, ?_, ?_, ?_, ?_⟩
  · rintro s k j c ⟨hred, hjobs, hchunks, hst, hheld⟩
    obtain ⟨pois, flags, c1, hclosed, hidx, hst1, hpois, htimer⟩ := timerClose_of_open hjobs hchunks hst hheld
    refine completes_done (u := s.timerClose k c.idx) (by simp [exec, execChunkTimer, hred]) ?_
    rw [State.flushEvents_red]
    exact ⟨_, c1, hclosed, rfl, hidx, hst1, hpois, htimer, rfl, rfl, rfl⟩
  · rintro s k j ⟨hred, hjobs, hchunks, hcancel, hidle, hleft⟩
    obtain ⟨missing, hclosed⟩ := closeJob_of_absent hjobs hchunks hidle hleft
    refine completes_done (u := s.closeJob k false)
      (by simp [exec, execJobIdleTimer, hred, redJob_of_one hjobs, hchunks, hcancel]) ?_
    rw [State.flushEvents_red, hclosed]
    exact ⟨_, rfl, rfl, rfl, rfl, hchunks⟩
  · rintro s k j c ⟨hquiet, hred, hjobs, hchunks, hst, hwait⟩
    exact ⟨_, (exec_spillWriteResponse hred hjobs hchunks hst hwait).trans (done_of_quiet _ hquiet), rfl⟩
  · rintro s k j c ⟨hquiet, hred, hjobs, hchunks, hst, hwait⟩
    refine ⟨_, (exec_refillResponse hred hjobs hchunks hst (by omega)).trans ?_, rfl⟩
    rw [if_neg (by omega)]
    exact done_of_quiet _ hquiet
  · rintro s k j c ⟨hred, hjobs, hchunks, hst, hwait, hclose, hheld, hranks⟩
    refine completes_done (exec_refillResponse hred hjobs hchunks hst (by omega)) ?_
    rw [if_pos hwait, State.flushEvents_red,
      refilled_of_waiting (j := j.withChunk { c with wait := c.wait - 1 }) (c := { c with wait := c.wait - 1 }) rfl rfl hclose
        hheld hranks]
    exact ⟨_, _, rfl, rfl, rfl, rfl, rfl, rfl⟩
  · rintro s k j c ⟨hred, hjobs, hchunks, hst, hmem, hfwd⟩
    refine completes_done (exec_chunkOutput hred hjobs hchunks) ?_
    rw [outputChunk_of_writes hjobs hchunks hst hmem hfwd, State.flushEvents_red, State.flushEvents_noc_qRed]
    exact ⟨⟨_, _, rfl, rfl, rfl, rfl, rfl⟩, rfl⟩
  · rintro s k j c ⟨hquiet, hred, hjobs, hchunks, hst, hacks⟩
    refine ⟨_, (exec_resultWriteResponse hred hjobs hchunks (by omega)).trans ?_, rfl⟩
    rw [chunkSettle_of_awaited (c := { c with acks := c.acks - 1 }) rfl rfl (by simp; omega)]
    exact done_of_quiet _ hquiet
  · rintro s k j c ⟨hquiet, hred, hjobs, hchunks, hst, hacks, hbegun, hmem, hfwd, hfwdDone, hcancel, hleft⟩
    refine completes_done (exec_resultWriteResponse hred hjobs hchunks (by omega)) ?_
    rw [chunkSettle_of_done (j := j.withChunk { c with acks := c.acks - 1 }) (c := { c with acks := c.acks - 1 }) rfl rfl hst
      (by simp; omega) hbegun hmem hfwd hfwdDone hcancel hleft, State.flushEvents_red]
    exact ⟨_, rfl, rfl, rfl, rfl⟩
end

section
/-!
SUPPORT. A descriptor that completes (R229, R233, R235): where its completion ring runs, its entry enters the FIFO, and nothing
beside the rings changes.
-/
namespace Sys2Proof.Machine

variable (s : State)

/-! ### One descriptor -/

/-- The completion entry of a descriptor of a ring. -/
def State.cplEntry (s : State) (r : Nat) (i : BitVec 32) (d : Desc) (status result detail : Nat) : CplEntry :=
  ⟨Fin.ofNat 64 r, Fin.ofNat 64 (s.ring r).cplRing, status, dOpcode d, i, BitVec.ofNat 32 (dUser d), BitVec.ofNat 64 result,
    BitVec.ofNat 32 detail, BitVec.ofNat 48 (s.ts 48), dInterrupt d⟩

/-- The state with one more entry in the completion FIFO. -/
def State.withEntry (s : State) (e : CplEntry) : State := { s with rings.fifo := s.rings.fifo ++ [e] }

theorem leaveLine_besidesRings (k : Fin 8) : (s.leaveLine k).besidesRings = s.besidesRings := by
  unfold State.leaveLine
  split <;> rfl

theorem drainedRing_besidesRings (r : Nat) : (s.drainedRing r).besidesRings = s.besidesRings := by
  unfold State.drainedRing
  dsimp only
  split
  · exact (leaveLine_besidesRings _ _).trans (writeShadow_besidesRings s _)
  · rfl

theorem withEntry_besidesRings {s t : State} (h : t.besidesRings = s.besidesRings) (e : CplEntry) :
    (t.withEntry e).besidesRings = (s.withEntry e).besidesRings := (congrArg (fun u => (u.withEntry e).besidesRings) h :)

/-- Of the rings a completion enters its entry alone. -/
theorem completeOne_of_ready {r : Nat} {i : BitVec 32} {e : RingDesc} (status result detail : Nat) (hdesc : s.desc r i = some e)
    (hst : (s.ring (s.ring r).cplRing).st = .running) (hkind : (s.ring (s.ring r).cplRing).kind = 3) :
    (s.completeOne r i status result detail).besidesRings =
      (s.withEntry (s.cplEntry r i e.desc status result detail)).besidesRings := by
  have hready : ∀ u : State, (u.ring (s.ring r).cplRing).role = (s.ring (s.ring r).cplRing).role →
      ((u.ring (s.ring r).cplRing).st == .running && (u.ring (s.ring r).cplRing).kind == 3) = true := fun u h => by
    obtain ⟨hst', hcfg⟩ := Prod.mk.inj h
    have hkind' : (u.ring (s.ring r).cplRing).kind = 3 := (congrArg (bf · 1 3) hcfg).trans hkind
    simp [hst', hst, hkind']
  unfold State.completeOne
  rw [hdesc]
  dsimp only
  rw [if_pos (hready _ (modRing_ring_keeps s Ring.role r _ _ rfl)), fetchMore_besidesRings, drainedRing_besidesRings]
  rfl

/-- With no CANCEL that waits, a completion is that of the one descriptor. -/
theorem complete_of_no_cancel {r : Nat} {i : BitVec 32} {status result detail : Nat}
    (hcancels : (s.completeOne r i status result detail).rings.cancels = []) :
    (s.complete r i status result detail).besidesRings = (s.completeOne r i status result detail).besidesRings := by
  unfold State.complete
  generalize s.completeOne r i status result detail = u at hcancels
  simp only [hcancels, List.map_nil, List.length_nil, State.settleCancels]
  simp only [State.besidesRings, State.nocRest, hcancels]

/-! ### The command of a started descriptor (R229) -/

theorem ranAt_role (r : Nat) (i : BitVec 32) (q : Nat) : ((s.ranAt r i).ring q).role = (s.ring q).role := by
  by_cases h : q = r
  · subst h
    obtain ⟨idx, cancel, more, hring⟩ := fetchMore_fetched 8 (s.modDesc q i fun x => { x with st := .running }) q
    rw [State.ranAt, hring, State.modDesc, modRing_ring_self]
    rfl
  · rw [ranAt_ring_ne s i h]

/-- A command that completes where it runs: its entry is the one that enters, and nothing beside the rings changes. -/
theorem ranAt_complete {r : RingNo} {i : BitVec 32} {op : Nat} {d : Desc} (hstarted : s.started r i op d) (hready : s.cplReady r)
    (status result detail : Nat) :
    ((s.ranAt r.val i).complete r.val i status result detail).besidesRings =
      (s.withEntry (s.cplEntry r.val i d status result detail)).besidesRings := by
  obtain ⟨hcancels, hst, hkind⟩ := hready
  obtain ⟨e, he, hrunning⟩ := Option.map_eq_some_iff.mp hstarted.1
  have hdesc : (s.ranAt r.val i).desc r.val i = some { e with st := .running } :=
    fetchMore_desc _ 8 (modDesc_desc_self s (fun x => { x with st := .running }) (fun _ => rfl) he)
  have hran := ranAt_besidesRings s r.val i
  have hrole : ∀ q, ((s.ranAt r.val i).ring q).st = (s.ring q).st ∧ ((s.ranAt r.val i).ring q).cfg = (s.ring q).cfg := fun q =>
    Prod.mk.inj (ranAt_role s r.val i q)
  have hcpl : ((s.ranAt r.val i).ring r.val).cplRing = (s.ring r.val).cplRing := by
    simp only [Ring.cplRing, (hrole _).2]
  have hentry : (s.ranAt r.val i).cplEntry r.val i e.desc status result detail = s.cplEntry r.val i d status result detail := by
    have hts : (s.ranAt r.val i).ts 48 = s.ts 48 := (congrArg (fun u => u.ts 48) hran :)
    obtain rfl : e.desc = d := congrArg Prod.snd hrunning
    simp only [State.cplEntry, hcpl, hts]
  have hone := completeOne_of_ready (s.ranAt r.val i) status result detail hdesc
    (by rw [hcpl, (hrole _).1]; exact hst) (by rw [hcpl, Ring.kind, (hrole _).2]; exact hkind)
  rw [hentry, withEntry_besidesRings hran] at hone
  rw [complete_of_no_cancel _ ?_, hone]
  exact (congrArg (fun u => u.rings.cancels) hone :).trans hcancels

/-- What it completes with, once its events are posted. -/
theorem ranAt_complete_entered {r : RingNo} {i : BitVec 32} {op : Nat} {d : Desc} (hstarted : s.started r i op d)
    (hready : s.cplReady r) (status result detail : Nat) :
    s.entered ((s.ranAt r.val i).complete r.val i status result detail).flushEvents r i d status result detail
      ∧ ((s.ranAt r.val i).complete r.val i status result detail).flushEvents.red = s.red := by
  have h := ranAt_complete s hstarted hready status result detail
  generalize (s.ranAt r.val i).complete r.val i status result detail = u at h ⊢
  rw [State.entered, State.flushEvents_rings_fifo, State.flushEvents_red]
  exact ⟨(congrArg (fun u => u.rings.fifo) h :), (congrArg State.red h :)⟩

end Sys2Proof.Machine
end

section
/-!
LEMMAS. REDUCE and JOB_STATUS (R255 to R258).
-/
namespace Sys2Proof.Machine

variable (s : State)

theorem ranAt_red (r : Nat) (i : BitVec 32) : (s.ranAt r i).red = s.red := (congrArg State.red (ranAt_besidesRings s r i) :)

theorem ranAt_freeJobs (r : Nat) (i : BitVec 32) : (s.ranAt r i).freeJobs = s.freeJobs :=
  (congrArg State.freeJobs (ranAt_besidesRings s r i) :)

theorem ranAt_now (r : Nat) (i : BitVec 32) : (s.ranAt r i).now = s.now := (congrArg State.now (ranAt_besidesRings s r i) :)

theorem ranAt_ringOwner (r : Nat) (i : BitVec 32) (q : Nat) : (s.ranAt r i).ringOwner q = s.ringOwner q :=
  (congrArg (fun u => u.ringOwner q) (ranAt_besidesRings s r i) :)

/-! ### REDUCE -/

/-- A started REDUCE starts its job, or refuses it, where its descriptor runs. -/
theorem exec_reduce {r : RingNo} {i : BitVec 32} {d : Desc} (hfree : s.freeJobs ≠ []) (hstarted : s.started r i 0x20 d) :
    exec (.reduce r i) s = done ((s.ranAt r.val i).startJob r i d) := by
  have hsome : s.freeJobs.isEmpty = false := by simpa using hfree
  simp only [exec, execReduce, hsome, withDesc_of_started s _ hstarted, Bool.false_eq_true, if_false]

/-- A REDUCE of a running job is refused (R257). -/
theorem startJob_of_running {r : RingNo} {d : Desc} (i : BitVec 32)
    (hruns : ∃ p ∈ s.red.jobs, p.2.owner = s.ringOwner r.val ∧ rdJob p.2.desc = rdJob d) :
    s.startJob r i d = s.complete r.val i 0x20 := by
  unfold State.startJob
  rw [if_pos (by simpa using hruns)]

/-- A new job for which nothing is held takes a free slot. -/
theorem startJob_of_new {r : RingNo} {d : Desc} (i : BitVec 32) (hfree : s.freeJobs ≠ []) (hhold : s.red.hold = [])
    (hnew : ∀ p ∈ s.red.jobs, ¬ (p.2.owner = s.ringOwner r.val ∧ rdJob p.2.desc = rdJob d)) :
    ∃ k ∈ s.freeJobs, s.startJob r i d = { s with
      freeCtr := s.freeCtr + 1
      red.jobs := tput s.red.jobs k (newJob r i (s.ringOwner r.val) d s.now) } := by
  have hpicked : (s.pick 0 s.freeJobs).1 ∈ s.freeJobs := by
    have hlt := Nat.mod_lt s.free.1 (List.length_pos_of_ne_nil hfree)
    rw [State.pick, List.getD_eq_getElem _ _ hlt]
    exact List.getElem_mem hlt
  refine ⟨_, hpicked, ?_⟩
  unfold State.startJob
  rw [if_neg (by simpa using hnew)]
  have hnone : ∀ q, (s.pick 0 s.freeJobs).2.red.hold.filter q = [] := fun q => by
    rw [show (s.pick 0 s.freeJobs).2.red.hold = [] from hhold, List.filter_nil]
  simp only [hnone, List.foldl_nil]
  rfl

/-! ### JOB_STATUS -/

/-- The job JOB_STATUS reports on: the one of the owner with the JOB of its descriptor. -/
theorem find_job_of_only {jobs : Tbl RedJob} {owner : BitVec 8} {n k : Nat} {j : RedJob} (hmem : (k, j) ∈ jobs)
    (howner : j.owner = owner) (hjob : rdJob j.desc = n)
    (honly : ∀ p ∈ jobs, p.2.owner = owner ∧ rdJob p.2.desc = n → p = (k, j)) :
    jobs.find? (fun p => p.2.owner == owner && rdJob p.2.desc == n) = some (k, j) := by
  have hsome : (jobs.find? fun p => p.2.owner == owner && rdJob p.2.desc == n).isSome := by
    rw [List.find?_isSome]
    exact ⟨(k, j), hmem, by simp [howner, hjob]⟩
  obtain ⟨p, hp⟩ := Option.isSome_iff_exists.mp hsome
  rw [hp, honly p (List.mem_of_find?_eq_some hp) (by simpa using List.find?_some hp)]

theorem exec_jobStatus_of_running {r : RingNo} {i : BitVec 32} {d : Desc} {k : Nat} {j : RedJob} (hstarted : s.started r i 0x21 d)
    (hfind : s.red.jobs.find? (fun p => p.2.owner == s.ringOwner r.val && rdJob p.2.desc == rdJob d) = some (k, j)) :
    exec (.jobStatus r i) s =
      done ((s.ranAt r.val i).complete r.val i 0 (jobResult j) (jobDetail j (jobState j))) := by
  simp only [exec, execJobStatus, withDesc_of_started s _ hstarted, ranAt_red, ranAt_ringOwner, hfind]

theorem exec_jobStatus_of_none {r : RingNo} {i : BitVec 32} {d : Desc} (hstarted : s.started r i 0x21 d)
    (hnone : ∀ p ∈ s.red.jobs, ¬ (p.2.owner = s.ringOwner r.val ∧ rdJob p.2.desc = rdJob d)) :
    exec (.jobStatus r i) s = done ((s.ranAt r.val i).complete r.val i 0x25) := by
  have hfind : s.red.jobs.find? (fun p => p.2.owner == s.ringOwner r.val && rdJob p.2.desc == rdJob d) = none :=
    List.find?_eq_none.mpr fun p hp => by simpa using hnone p hp
  simp only [exec, execJobStatus, withDesc_of_started s _ hstarted, ranAt_red, ranAt_ringOwner, hfind]

/-- RESULT of a job by its fields (Table 11.9). -/
theorem jobResult_fields (j : RedJob) : jobResult j % 2 ^ 32 = j.doneIdx.length % 2 ^ 32
    ∧ jobResult j / 2 ^ 32 % 2 ^ 16 = min j.straggled 0xFFFF ∧ jobResult j / 2 ^ 48 = min j.poisonedOut 0xFFFF := by
  simp only [jobResult, packNat, satN]
  omega

/-- DETAIL of a job by its fields (Table 11.9). -/
theorem jobDetail_fields (j : RedJob) (state : Nat) : jobDetail j state % 2 ^ 7 = j.flags.toNat
    ∧ jobDetail j state / 2 ^ 16 = j.missing.getD 0 % 2 ^ 16 ∧ jobDetail j state / 2 ^ 14 % 4 = state % 4 := by
  have hflags := j.flags.isLt
  simp only [jobDetail, packNat]
  omega

/-- The two bits of DETAIL hold STATE of a job (Table 11.12). -/
theorem jobState_mod_four (j : RedJob) : jobState j % 4 = (if j.cancelling then 3
    else if (j.idleClosed ∨ j.chunks.length + j.doneIdx.length = rdChunks j.desc) ∧ (∀ c ∈ j.chunks, c.st = .closed) then 2
    else 1) := by
  unfold jobState
  (repeat' split) <;> simp_all

end Sys2Proof.Machine

open Sys2Proof Sys2Proof.Machine

/-- Settles O38: a started REDUCE (`exec_reduce`) of a new job starts it in a free slot (`startJob_of_new`), one of a running job
completes with 0x20 (`startJob_of_running`). -/
theorem jobsComplete : Obligations.JobsComplete := by
  refine ⟨?_, ?_⟩
  · rintro s r i d ⟨hstarted, hfree, hhold, hnew⟩
    have hred := ranAt_red s r.val i
    obtain ⟨-, -, -, hfifo, -⟩ := of_besidesRings (ranAt_besidesRings s r.val i)
    obtain ⟨k, hk, hjob⟩ := startJob_of_new (s.ranAt r.val i) (r := r) (d := d) i (by rwa [ranAt_freeJobs]) (by rwa [hred])
      (by rwa [hred, ranAt_ringOwner])
    refine completes_done (exec_reduce s hfree hstarted) ?_
    simp only [hjob, State.flushEvents_rings_fifo, State.redJob, State.flushEvents_red]
    refine ⟨⟨k, by rwa [ranAt_freeJobs] at hk, ?_⟩, hfifo⟩
    rw [tfind_tput_self, ranAt_ringOwner, ranAt_now]
  · rintro s r i d ⟨hstarted, hfree, hready, hruns⟩
    refine completes_done (exec_reduce s hfree hstarted) ?_
    rw [startJob_of_running _ i (by rwa [ranAt_red, ranAt_ringOwner])]
    exact ranAt_complete_entered s hstarted hready 0x20 0 0

/-- Settles O52: JOB_STATUS completes where its descriptor runs, with the job `exec_jobStatus_of_running` finds or with 0x25. -/
theorem jobStatusAnswers : Obligations.JobStatusAnswers := by
  refine ⟨?_, ?_⟩
  · rintro s r i d ⟨hstarted, hready, hnone⟩
    refine completes_done (exec_jobStatus_of_none s hstarted hnone) ?_
    exact ranAt_complete_entered s hstarted hready 0x25 0 0
  · rintro s r i d k j ⟨hstarted, hready, hmem, howner, hjob, honly⟩
    have hnamed : rdJob j.desc = rdJob d := hjob
    have hfind := find_job_of_only hmem howner hnamed (by rwa [← howner, ← hnamed])
    refine completes_done (exec_jobStatus_of_running s hstarted hfind) ?_
    obtain ⟨hentered, hred⟩ := ranAt_complete_entered s hstarted hready 0 (jobResult j) (jobDetail j (jobState j))
    obtain ⟨hdone, hstraggled, hpoisoned⟩ := jobResult_fields j
    obtain ⟨hflags, hmissing, hstate⟩ := jobDetail_fields j (jobState j)
    exact ⟨hred, _, _, hentered, hdone, hstraggled, hpoisoned, hflags, hmissing, hstate.trans (jobState_mod_four j)⟩
end

section
/-!
LEMMAS. What the hitch engine leaves as it was (R275 to R300): one lemma for each operation of the engine, and what each of its
commands leaves.
-/
namespace Sys2Proof.Machine

/-- A state of the parts that the hitch engine leaves as they were; every other part is at its reset value. -/
def outsideHtOf (straps : Straps) (aon : Aon) (clk : Clocks) (sb : Sideband) (test : Test) (start : Start) (link : Link)
    (cal : Cal) (red : Red) (cfg : Cfg) (agent : Agent) (pwr : Power) (lash : Lash) (ten : Tenancy) (mtr : Meters)
    (bight : Bight) (glob : Glob) : State :=
  keepFrame .rings straps aon clk sb test start link cal red zeroHitches cfg agent pwr lash ten mtr bight glob zeroOutputs

/-- The state without the hitch engine, without what it queues, completes and raises, and without the outputs. -/
def State.outsideHt (s : State) : State :=
  outsideHtOf s.straps s.aon s.clk s.sb s.test s.start s.link s.cal s.red s.cfg s.agent s.pwr s.lash s.ten s.mtr s.bight s.glob

/-! As for `State.keep`, the next two lemmas are proved by `id rfl`, so that `simp` rewrites with them. -/

@[simp] theorem outsideHt_mk f0 f1 f2 f3 f4 f5 f6 f7 f8 f9 f10 f11 f12 f13 f14 f15 f16 f17 f18 f19 f20 f21 f22 f23 :
    State.outsideHt ⟨f0, f1, f2, f3, f4, f5, f6, f7, f8, f9, f10, f11, f12, f13, f14, f15, f16, f17, f18, f19, f20, f21, f22,
      f23⟩ = outsideHtOf f0 f2 f3 f4 f5 f6 f7 f10 f11 f13 f14 f16 f17 f18 f19 f20 f21 := id rfl

@[simp] theorem outsideHtOf_fold (s : State) :
    outsideHtOf s.straps s.aon s.clk s.sb s.test s.start s.link s.cal s.red s.cfg s.agent s.pwr s.lash s.ten s.mtr s.bight
      s.glob = s.outsideHt := id rfl

@[simp] theorem outsideHt_foldl {α : Type} {g : State → α → State} {l : List α} {s : State}
    (h : ∀ u x, (g u x).outsideHt = u.outsideHt) : (l.foldl g s).outsideHt = s.outsideHt :=
  foldl_keeps State.outsideHt g l s fun u x _ => h u x

@[simp] theorem outsideHt_ite (c : Prop) [Decidable c] (a b : State) :
    (if c then a else b).outsideHt = if c then a.outsideHt else b.outsideHt := apply_ite State.outsideHt c a b

/-- What leaves all that the work of the rings leaves changes nothing outside the hitch engine. -/
theorem outsideHt_of_keep {s t : State} (h : t.keep .rings = s.keep .rings) : t.outsideHt = s.outsideHt :=
  (congrArg State.outsideHt h :)

variable (s : State)

/-! ### Shared operations -/

@[simp] theorem flushEvents_outsideHt : s.flushEvents.outsideHt = s.outsideHt :=
  outsideHt_of_keep (State.flushEvents_kept .rings s)
@[simp] theorem complete_outsideHt (r : Nat) (i : BitVec 32) (status result detail : Nat) :
    (s.complete r i status result detail).outsideHt = s.outsideHt :=
  outsideHt_of_keep (State.complete_kept .rings s r i status result detail)
@[simp] theorem startDesc_outsideHt (r : Nat) (e : RingDesc) : (s.startDesc r e).outsideHt = s.outsideHt :=
  outsideHt_of_keep (State.startDesc_kept .rings s r e)
@[simp] theorem raise_outsideHt (typ code a0 a1 a2 b d p v t : Nat) :
    (s.raise typ code a0 a1 a2 b d p v t).outsideHt = s.outsideHt :=
  outsideHt_of_keep (State.raise_kept .rings s typ code a0 a1 a2 b d p v t)
@[simp] theorem pick_outsideHt {α : Type} (d : α) (l : List α) : (s.pick d l).2.outsideHt = s.outsideHt := by
  simp [State.pick, State.free]
@[simp] theorem untake_outsideHt (rx : Bool) (f : NocFlit) : (s.untake rx f).outsideHt = s.outsideHt := by simp [State.untake]
@[simp] theorem returnCredits_outsideHt : s.returnCredits.outsideHt = s.outsideHt :=
  (congrArg State.outsideHt (returnCredits_besidesCredits s) :)
@[simp] theorem freeSlot_outsideHt (v : Fin 8) : (s.freeSlot v).outsideHt = s.outsideHt := by simp [State.freeSlot]
@[simp] theorem modHitch_outsideHt (i : Nat) (f : Hitch → Hitch) : (s.modHitch i f).outsideHt = s.outsideHt := by
  simp [State.modHitch]
@[simp] theorem htEgress_outsideHt (f : NocFlit) : (s.htEgress f).outsideHt = s.outsideHt := by simp [State.htEgress]
@[simp] theorem poisonHitch_outsideHt (f : NocFlit) : (s.poisonHitch f).outsideHt = s.outsideHt := by simp [State.poisonHitch]
@[simp] theorem blockHitch_outsideHt (i : Nat) (f : NocFlit) : (s.blockHitch i f).outsideHt = s.outsideHt := by
  simp [State.blockHitch]
@[simp] theorem badHitch_outsideHt : s.badHitch.outsideHt = s.outsideHt := by simp [State.badHitch]

/-! ### Wakes (R285) -/

@[simp] theorem busWake_outsideHt (core thread cause : Nat) : (s.busWake core thread cause).outsideHt = s.outsideHt := by
  unfold State.busWake
  (repeat' split) <;> simp
@[simp] theorem issueWakes_outsideHt (l : List Wake) : (s.issueWakes l).outsideHt = s.outsideHt := by
  unfold State.issueWakes
  refine (outsideHt_foldl fun u w => ?_).trans (by simp)
  split <;> simp
@[simp] theorem sendWakes_outsideHt (l : List Wake) : (s.sendWakes l).outsideHt = s.outsideHt := by
  unfold State.sendWakes
  split <;> simp
@[simp] theorem onePclk_outsideHt (work : State → State) (hwork : ∀ u, (work u).outsideHt = u.outsideHt) :
    (s.onePclk work).outsideHt = s.outsideHt := by simp [State.onePclk, hwork]

/-! ### Waiters and updates owed (R283, R284, R291, R292) -/

@[simp] theorem evalWaiters_outsideHt (i : Nat) : (s.evalWaiters i).outsideHt = s.outsideHt := by simp [State.evalWaiters]
@[simp] theorem enterWait_outsideHt (i die core thread op : Nat) (operand : BitVec 32) (timeout : Nat)
    (desc : Option (RingNo × BitVec 32)) :
    (s.enterWait i die core thread op operand timeout desc).outsideHt = s.outsideHt := by
  unfold State.enterWait
  (repeat' split) <;> simp
@[simp] theorem owe_outsideHt (i link : Nat) (realign : Bool) : (s.owe i link realign).outsideHt = s.outsideHt := by
  unfold State.owe
  split <;> simp
@[simp] theorem oweAll_outsideHt (i : Nat) (realign : Bool) : (s.oweAll i realign).outsideHt = s.outsideHt := by
  simp [State.oweAll]
@[simp] theorem feedOne_outsideHt : s.feedOne.outsideHt = s.outsideHt := by
  simp only [State.feedOne]
  (repeat' split) <;> simp
@[simp] theorem htFeed_outsideHt : s.htFeed.outsideHt = s.outsideHt := by simp [State.htFeed]
@[simp] theorem hitchChanged_outsideHt (i : Nat) : (s.hitchChanged i).outsideHt = s.outsideHt := by simp [State.hitchChanged]

/-! ### Signals of one PCLK (R280 to R282) -/

@[simp] theorem refuseSig_outsideHt (g : Sig) (code : Nat) : (s.refuseSig g code).outsideHt = s.outsideHt := by
  simp [State.refuseSig]
@[simp] theorem signed_outsideHt (l : List Sig) : (s.signed l).outsideHt = s.outsideHt := by
  unfold State.signed
  split <;> simp
@[simp] theorem counterCycle_outsideHt (i : Nat) (l : List Sig) : (s.counterCycle i l).outsideHt = s.outsideHt := by
  simp only [State.counterCycle]
  (repeat' split) <;> simp
@[simp] theorem barrierCycle_outsideHt (i : Nat) (l : List Sig) : (s.barrierCycle i l).1.outsideHt = s.outsideHt := by
  simp only [State.barrierCycle]
  split <;> simp
@[simp] theorem hitchCycle_outsideHt (i : Nat) (l : List Sig) : (s.hitchCycle i l).1.outsideHt = s.outsideHt := by
  simp only [State.hitchCycle]
  (repeat' split) <;> simp
@[simp] theorem signalCycle_outsideHt (new : List (NocFlit × Bool)) : (s.signalCycle new).outsideHt = s.outsideHt := by
  simp [State.signalCycle]
@[simp] theorem screenSignal_outsideHt (rx : Bool) (f : NocFlit) : (s.screenSignal rx f).1.outsideHt = s.outsideHt := by
  simp only [State.screenSignal]
  (repeat' split) <;> simp
@[simp] theorem screenAll_outsideHt (l : List (Bool × NocFlit)) (s : State) : (State.screenAll l s).1.outsideHt = s.outsideHt := by
  induction l generalizing s with
  | nil => rfl
  | cons p l ih =>
    unfold State.screenAll
    split <;> simp [ih]

/-! ### Messages, resets and the debug view (R279, R283, R291, R295, R300) -/

@[simp] theorem takeWait_outsideHt (rx : Bool) (f : NocFlit) : (s.takeWait rx f).outsideHt = s.outsideHt := by
  simp only [State.takeWait]
  (repeat' split) <;> simp
@[simp] theorem takeUpdate_outsideHt (rx : Bool) (f : NocFlit) : (s.takeUpdate rx f).outsideHt = s.outsideHt := by
  simp only [State.takeUpdate]
  (repeat' split) <;> simp
@[simp] theorem abortAll_outsideHt (i : Nat) : (s.abortAll i).outsideHt = s.outsideHt := by simp [State.abortAll]
@[simp] theorem resetHitch_outsideHt (i : Nat) : (s.resetHitch i).outsideHt = s.outsideHt := by simp [State.resetHitch]
@[simp] theorem latch_outsideHt (l : List (Nat × Nat)) : (s.latch l).outsideHt = s.outsideHt := by simp [State.latch]
@[simp] theorem copyHitch_outsideHt (v : Reg) : (s.copyHitch v).outsideHt = s.outsideHt := by simp [State.copyHitch]
@[simp] theorem copyWaiter_outsideHt (v : Reg) : (s.copyWaiter v).outsideHt = s.outsideHt := by
  simp only [State.copyWaiter]
  split <;> simp
theorem withDesc_outsideHt (r : RingNo) (i : BitVec 32) (op : Nat) (work : Desc → State → State)
    (hwork : ∀ d u, (work d u).outsideHt = u.outsideHt) : (s.withDesc r i op work).outsideHt = s.outsideHt := by
  unfold State.withDesc
  (repeat' split) <;> simp [hwork]
theorem htDesc_outsideHt (r : RingNo) (i : BitVec 32) (op : Nat) (work : Nat → Desc → State → State)
    (hwork : ∀ h d u, (work h d u).outsideHt = u.outsideHt) : (s.htDesc r i op work).outsideHt = s.outsideHt :=
  withDesc_outsideHt s r i op _ fun d u => by simp [hwork]

/-! ### The commands -/

/-- A command of the group completes by posting its events, and leaves the rest of the state as it was. -/
theorem hitchCommand_done (c : Instr) (h : c.ofHitches = true) : ∃ u, exec c s = done u ∧ u.outsideHt = s.outsideHt := by
  have guarded : ∀ (p : Bool) (v : State), v.outsideHt = s.outsideHt →
      ∃ u, (if p then done v else done s) = done u ∧ u.outsideHt = s.outsideHt := fun p v hv => by
    cases p
    · exact ⟨s, rfl, rfl⟩
    · exact ⟨v, rfl, hv⟩
  cases c
  case hitchSignal l => exact guarded _ _ (by simp)
  case hitchWait rx f => exact guarded _ _ (by simp)
  case hitchWake rx f =>
    simp only [exec, execHitchWake]
    split <;> exact ⟨_, rfl, by simp⟩
  case hitchUpdate rx f => exact guarded _ _ (by simp)
  case hitchRead f => exact guarded _ _ (by simp)
  case waiterTimeout entry => exact guarded _ _ (by split <;> simp)
  case realignEpoch => exact guarded _ _ (by simp)
  case hitchDebugCopy v => exact guarded _ _ (by simp)
  case waiterDebugCopy v => exact guarded _ _ (by simp)
  case htConfig r i => exact ⟨_, rfl, htDesc_outsideHt s r i 0x30 _ fun h d u => by simp⟩
  case htReset r i => exact ⟨_, rfl, htDesc_outsideHt s r i 0x31 _ fun h d u => by simp⟩
  case htAbort r i => exact ⟨_, rfl, htDesc_outsideHt s r i 0x32 _ fun h d u => by simp⟩
  case htAbortThread r i =>
    exact ⟨_, rfl, withDesc_outsideHt s r i 0x33 _ fun d u => by dsimp only; split <;> simp⟩
  case htRead r i => exact ⟨_, rfl, htDesc_outsideHt s r i 0x34 _ fun h d u => by simp⟩
  case htSignal r i => exact ⟨_, rfl, htDesc_outsideHt s r i 0x35 _ fun h d u => by simp⟩
  case htWait r i => exact ⟨_, rfl, htDesc_outsideHt s r i 0x36 _ fun h d u => by simp⟩
  all_goals cases h

end Sys2Proof.Machine

open Sys2Proof Sys2Proof.Machine

/-- Settles O56: what the group leaves alone is in `State.outsideHt`, which posting leaves alone as well. -/
theorem hitchCommandsFrame : Obligations.HitchCommandsFrame := by
  rintro s t c ⟨hc, hx⟩
  obtain ⟨u, hu, hkeep⟩ := hitchCommand_done s c hc
  obtain rfl : u.flushEvents = t := by
    rw [hu, done_eq] at hx
    exact Host.Outcome.next.inj hx
  have h := (flushEvents_outsideHt u).trans hkeep
  exact ⟨(congrArg State.straps h :), (congrArg State.aon h :), (congrArg State.clk h :), (congrArg State.sb h :),
    (congrArg State.test h :), (congrArg State.start h :), (congrArg State.link h :), (congrArg State.cal h :),
    (congrArg State.red h :), (congrArg State.cfg h :), (congrArg State.agent h :), (congrArg State.pwr h :),
    (congrArg State.lash h :), (congrArg State.ten h :), (congrArg State.mtr h :), (congrArg State.bight h :),
    (congrArg State.glob h :)⟩
end

section
/-!
SUPPORT. What the releases of waiters and the updates owed to mirrors leave of the hitch engine (R284, R285, R291).
-/
namespace Sys2Proof.Machine

/-- The hitch engine without what releases and updates change of it, and the flits that wait for an engine. -/
def State.htView (s : State) : Hitches × List (Bool × NocFlit) :=
  ({ s.ht with due := none, aborts := 0, badMsg := 0, owed := [], owedPtr := 0, linkQ := [], coalesced := 0 }, s.noc.taken)

/-- Every hitch, and the flits that wait for an engine. -/
def State.table (s : State) : Tbl Hitch × List (Bool × NocFlit) := (s.ht.hitches, s.noc.taken)

theorem table_of_htView {s t : State} (h : t.htView = s.htView) : t.table = s.table :=
  (congrArg (fun v => (v.1.hitches, v.2)) h :)

theorem hitch_of_table {s t : State} (h : t.table = s.table) (i : Nat) : t.hitch i = s.hitch i :=
  (congrArg (fun v => tget zeroHitch v.1 i) h :)

variable (s : State)

@[simp] theorem modHitch_hitch_self (i : Nat) (f : Hitch → Hitch) : (s.modHitch i f).hitch i = f (s.hitch i) :=
  tget_tupd_self zeroHitch s.ht.hitches i f

/-- What a change keeps of the hitch it is made to, it keeps of every hitch. -/
theorem modHitch_hitch_keeps {β : Type} (p : Hitch → β) (i j : Nat) (f : Hitch → Hitch)
    (hf : p (f (s.hitch i)) = p (s.hitch i)) : p ((s.modHitch i f).hitch j) = p (s.hitch j) := by
  by_cases h : j = i
  · subst h; rw [modHitch_hitch_self, hf]
  · exact congrArg p (tget_tupd_ne zeroHitch s.ht.hitches i j f h)

/-! ### Wakes (R285) -/

theorem complete_htView (r : Nat) (i : BitVec 32) (status result detail : Nat) :
    (s.complete r i status result detail).htView = s.htView :=
  (congrArg State.htView (complete_besidesPosts s r i status result detail) :)

theorem busWake_htView (core thread cause : Nat) : (s.busWake core thread cause).htView = s.htView := by
  unfold State.busWake
  (repeat' split) <;> rfl

theorem busWake_drives {core : Nat} (thread cause : Nat) (halone : s.test.alone = false) (hcore : core ≤ 575) :
    s.busWake core thread cause = { s with out.wakes := s.out.wakes ++ [(core, thread, cause)] } := by
  simp [State.busWake, halone, Nat.not_lt.mpr hcore]

theorem issueWakes_htView (l : List Wake) : (s.issueWakes l).htView = s.htView := by
  unfold State.issueWakes
  refine (foldl_keeps State.htView _ _ _ fun u w _ => ?_).trans ((foldl_keeps State.htView _ _ _ fun u d _ => ?_).trans
    ((foldl_keeps State.htView _ _ _ fun u w _ => busWake_htView u _ _ _).trans rfl))
  · split
    · exact complete_htView _ _ _ _ _ _
    · rfl
  · exact foldl_keeps State.htView _ _ _ fun _ _ _ => rfl

theorem sendWakes_htView (l : List Wake) : (s.sendWakes l).htView = s.htView := by
  unfold State.sendWakes
  split
  · rfl
  · exact issueWakes_htView s l

/-! ### Updates owed to mirrors (R291, R292) -/

theorem oweAll_htView (i : Nat) (realign : Bool) : (s.oweAll i realign).htView = s.htView := by
  have owed : ∀ (u : State) (k : Nat), (u.owe i k realign).htView = u.htView := fun u k => by
    unfold State.owe
    split <;> rfl
  unfold State.oweAll
  dsimp only
  split
  · rfl
  · refine foldl_keeps State.htView _ _ _ fun u k _ => ?_
    split
    · exact owed u k
    · rfl

theorem htFeed_htView : s.htFeed.htView = s.htView := by
  have fed : ∀ u : State, u.feedOne.htView = u.htView := fun u => by
    unfold State.feedOne
    dsimp only
    (repeat' split) <;> rfl
  exact (fed _).trans (fed s)

/-- With no update owed none is sent. -/
theorem htFeed_of_none (h : s.ht.owed = []) : s.htFeed = s := by
  have fed : s.feedOne = s := by simp [State.feedOne, h]
  rw [State.htFeed, fed, fed]

/-! ### Every hitch -/

theorem evalWaiters_table (i : Nat) : (s.evalWaiters i).table = s.table := by
  unfold State.evalWaiters
  exact (table_of_htView (sendWakes_htView _ _)).trans rfl

theorem hitchChanged_table (i : Nat) : (s.hitchChanged i).table = s.table :=
  (table_of_htView (oweAll_htView _ i false)).trans (evalWaiters_table s i)

theorem refuseSig_table (g : Sig) (code : Nat) : (s.refuseSig g code).table = s.table := by
  have counted : ∀ u : State, u.table = s.table →
      (if g.op = 3 then u.sendWakes [abortWake g.die g.core g.thread] else u).table = s.table := fun u hu => by
    split
    · exact (table_of_htView (sendWakes_htView u _)).trans hu
    · exact hu
  unfold State.refuseSig
  refine counted _ ?_
  dsimp only
  split <;> rfl

theorem onePclk_table (work : State → State) : (s.onePclk work).table = (work { s with ht.due := some [] }).table :=
  table_of_htView (issueWakes_htView _ _)

end Sys2Proof.Machine
end

section
/-!
LEMMAS. Messages of the hitch engine (R276, R280 to R285, R291, R294): what signals make of a hitch, and each message that passes
its checks as the one operation it makes of its state.
-/
namespace Sys2Proof.Machine

variable (s : State)

/-! ### Signals of one PCLK (R280 to R282) -/

/-- What signals make of a hitch: VALUE and GEN; and the flits that wait for an engine. -/
def State.countAt (s : State) (i : Nat) : BitVec 32 × Bool × List (Bool × NocFlit) :=
  ((s.hitch i).value, (s.hitch i).gen, s.noc.taken)

theorem countAt_of_table {s t : State} (h : t.table = s.table) (i : Nat) : t.countAt i = s.countAt i := by
  rw [State.countAt, hitch_of_table h i]
  exact congrArg (fun l => (_, _, l)) (congrArg Prod.snd h)

theorem modHitch_countAt (i j : Nat) (f : Hitch → Hitch) (hvalue : ∀ h, (f h).value = h.value)
    (hgen : ∀ h, (f h).gen = h.gen) : (s.modHitch i f).countAt j = s.countAt j := by
  rw [State.countAt, modHitch_hitch_keeps s Hitch.value i j f (hvalue _), modHitch_hitch_keeps s Hitch.gen i j f (hgen _)]
  rfl

theorem signed_countAt (l : List Sig) (i : Nat) : (s.signed l).countAt i = s.countAt i := by
  unfold State.signed
  split
  · rfl
  · next g _ =>
    have counted : ∀ (u : State) (n : BitVec 32), State.countAt { u with ht.sigs := n } i = u.countAt i := fun _ _ => rfl
    exact (counted _ _).trans (modHitch_countAt s g.idx i _ (fun _ => rfl) fun _ => rfl)

/-- A signal at a counter gives its combined value (R281). -/
theorem counterCycle_countAt (i : Nat) (g : Sig) (hop : g.op ≠ 3) : (s.counterCycle i [g]).countAt i =
    (BitVec.ofNat 32 (combineCounter (s.hitch i).value.toNat [g]).1, (s.hitch i).gen, s.noc.taken) := by
  have hbad : [g].filter (fun g => g.op = 3) = [] := by simp [hop]
  have hgood : [g].filter (fun g => g.op ≠ 3) = [g] := by simp [hop]
  unfold State.counterCycle
  simp only [hbad, hgood, List.foldl_nil, List.isEmpty_cons, Bool.false_eq_true, if_false]
  generalize combineCounter (s.hitch i).value.toNat [g] = r
  generalize (if r.2.2 = true then _ else [g]) = applied
  generalize hrefused : (if r.2.2 = true then _ else s) = s1
  have hs1 : s1.table = s.table := by
    subst hrefused
    split
    · exact foldl_keeps State.table _ _ _ fun u g _ => refuseSig_table u g 3
    · rfl
  have hset : ((s1.modHitch i fun h =>
      { h with value := BitVec.ofNat 32 r.1, ovf := h.ovf || r.2.1 }).signed applied).countAt i =
        (BitVec.ofNat 32 r.1, (s.hitch i).gen, s.noc.taken) := by
    rw [signed_countAt, State.countAt, modHitch_hitch_self, hitch_of_table hs1]
    exact congrArg (fun l => (_, _, l)) (congrArg Prod.snd hs1)
  refine Eq.trans (countAt_of_table ?_ i) hset
  split
  · (repeat' split) <;> rfl
  · exact (hitchChanged_table _ i).trans (by (repeat' split) <;> rfl)

/-- An arrival short of the target counts at a barrier (R282). -/
theorem barrierCycle_countAt (i : Nat) (g : Sig) (hop : g.op = 2)
    (hshort : (s.hitch i).value.toNat + 1 < (s.hitch i).target.toNat) :
    (s.barrierCycle i [g]).1.countAt i = ((s.hitch i).value + 1, (s.hitch i).gen, s.noc.taken) := by
  have hone : min 1 ((s.hitch i).target.toNat - (s.hitch i).value.toNat) = 1 := by omega
  have hfull : ¬ (s.hitch i).target.toNat ≤ (s.hitch i).value.toNat + 1 := by omega
  have hcycle : (s.barrierCycle i [g]).1 = ((s.modHitch i fun h => { h with
      value := BitVec.ofNat 32 ((s.hitch i).value.toNat + 1), gen := h.gen }).signed [g]).hitchChanged i := by
    simp [State.barrierCycle, hop, hone, hfull]
  rw [hcycle, countAt_of_table (hitchChanged_table _ i), signed_countAt, State.countAt, modHitch_hitch_self]
  simp [BitVec.ofNat_add]

theorem hitchCycle_of_counter (i : Nat) (l : List Sig) (hrole : (s.hitch i).role ≠ 2) (hmode : (s.hitch i).barrier = false) :
    (s.hitchCycle i l).1 = s.counterCycle i l := by
  unfold State.hitchCycle
  rw [if_neg hrole, hmode]
  rfl

theorem hitchCycle_of_barrier (i : Nat) (l : List Sig) (hrole : (s.hitch i).role ≠ 2) (hmode : (s.hitch i).barrier = true) :
    s.hitchCycle i l = s.barrierCycle i l := by
  unfold State.hitchCycle
  rw [if_neg hrole, hmode]
  rfl

/-- The state in which the signals of a PCLK are combined, where none is left over: the wakes they release are collected. -/
def State.collecting (s : State) : State := { s with ht.intake := [], ht.due := some [] }

/-- The one signal of a PCLK, where none is left over, reaches its hitch. -/
theorem signalCycle_countAt (f : NocFlit) (rx : Bool) (hintake : s.ht.intake = []) (i : Nat) :
    (s.signalCycle [(f, rx)]).countAt i = (s.collecting.hitchCycle (htIdx f) [sigOf f rx]).1.countAt i := by
  unfold State.signalCycle
  simp only [hintake, List.nil_append]
  refine (countAt_of_table (onePclk_table _ _) i).trans ?_
  simp only [List.map_cons, List.map_nil, List.eraseDups_cons, List.filter_nil, List.eraseDups_nil, List.foldl_cons,
    List.foldl_nil, List.filter_cons, decide_true, if_true, List.take_succ_cons, List.take_nil]
  rfl

/-! ### Messages (R276, R280, R283) -/

/-- A signal that passes every check is the one of its PCLK. -/
theorem exec_hitchSignal {rx : Bool} {f : NocFlit} (hengine : s.hasHitch = true) (htaken : s.isTaken rx f = true)
    (htype : flitType f = 0x30) (hpoison : flitPoison f = false) (hfar : htFar f = false) (hrange : htIdx f < s.cls.hitches)
    (hop : htOp f ≠ 3) (htenant : flitTenant f = s.hitchOwner (htIdx f)) :
    exec (.hitchSignal [(rx, f)]) s = done (((s.untake rx f).signalCycle [(f, rx)]).htFeed) := by
  have hscreen : (s.untake rx f).htInRange (htIdx f) = true := decide_eq_true hrange
  have howner : (s.untake rx f).hitchOwner (htIdx f) = flitTenant f := htenant.symm
  simp [exec, execHitchSignal, hengine, State.screenAll, State.screenSignal, htaken, htype, hpoison, hfar, hop, hscreen, howner]

/-- What the one signal of a PCLK makes of a hitch, once its updates are sent and its events posted. -/
theorem signalled_countAt (f : NocFlit) (rx : Bool) (hintake : s.ht.intake = []) (i : Nat) :
    ((s.signalCycle [(f, rx)]).htFeed.flushEvents).countAt i =
      (s.collecting.hitchCycle (htIdx f) [sigOf f rx]).1.countAt i := by
  have hposted : ∀ u : State, u.flushEvents.countAt i = u.countAt i := fun u => by simp [State.countAt, State.hitch]
  rw [hposted, countAt_of_table (table_of_htView (htFeed_htView _)), signalCycle_countAt s f rx hintake]

theorem sigOf_op {f : NocFlit} (rx : Bool) (htype : flitType f = 0x30) : (sigOf f rx).op = htOp f := by
  simp [sigOf, htype]

/-- A wait that passes every check and is not an arrival is entered. -/
theorem exec_hitchWait {rx : Bool} {f : NocFlit} (hengine : s.hasHitch = true) (htaken : s.isTaken rx f = true)
    (htype : flitType f = 0x31) (hpoison : flitPoison f = false) (hfar : htFar f = false) (hrange : htIdx f < s.cls.hitches)
    (hop : htOp f ≠ 3) (htenant : flitTenant f = s.hitchOwner (htIdx f)) :
    exec (.hitchWait rx f) s = done ((s.untake rx f).enterWait (htIdx f) (flitSrcDie f) (htCore f) (htThread f) (htOp f)
      (BitVec.ofNat 32 (htOperand f)) (htTimeout f) none).htFeed := by
  have hscreen : (s.untake rx f).htInRange (htIdx f) = true := decide_eq_true hrange
  have howner : (s.untake rx f).hitchOwner (htIdx f) = flitTenant f := htenant.symm
  simp [exec, execHitchWait, State.takeWait, hengine, htaken, htype, hpoison, hfar, hop, hscreen, howner]

theorem pick_mem {α : Type} (d : α) {l : List α} (h : l ≠ []) : (s.pick d l).1 ∈ l := by
  have hlt := Nat.mod_lt s.free.1 (List.length_pos_of_ne_nil h)
  rw [State.pick, List.getD_eq_getElem _ _ hlt]
  exact List.getElem_mem hlt

/-- A wait that is not met, in an empty table, is the one entry of it (R284). -/
theorem enterWait_of_unmet (i die core thread op : Nat) (operand : BitVec 32) (timeout : Nat)
    (desc : Option (RingNo × BitVec 32)) (hwaiters : s.ht.waiters = []) (hunmet : meets (s.hitch i) op operand = false) :
    ∃ e, e < 8192 ∧ ∃ u, s.enterWait i die core thread op operand timeout desc = u
      ∧ u.ht.waiters = [⟨e, i, die, core, thread, op, operand, timeout, s.now, desc⟩] ∧ u.ht.hitches = s.ht.hitches
      ∧ u.ht.owed = s.ht.owed ∧ u.out = s.out := by
  refine ⟨(s.pick 0 (List.range 8192)).1, List.mem_range.mp (pick_mem s 0 ?_), _, rfl, ?_⟩
  · exact List.ne_nil_of_mem (List.mem_range.mpr (by decide : 0 < 8192))
  · unfold State.enterWait
    simp only [hunmet, hwaiters, List.filter_nil, List.length_nil, List.any_nil, Bool.not_false, List.filter_true,
      Bool.false_eq_true, if_false, show ¬ (0 ≥ 8192) by decide]
    exact ⟨rfl, rfl, rfl, rfl⟩

/-- An update that its named home sent is for a mirror. -/
theorem role_of_fromHome {rx : Bool} {f : NocFlit} (h : s.fromHome rx f = true) : (s.hitch (htIdx f)).role = 2 := by
  simp only [State.fromHome, Bool.and_eq_true, beq_iff_eq] at h
  obtain ⟨⟨⟨⟨⟨hrole, -⟩, -⟩, -⟩, -⟩, -⟩ := h
  exact hrole

/-- A hitch with the VALUE and GEN of an update. -/
def Hitch.copied (h : Hitch) (f : NocFlit) : Hitch :=
  { h with value := BitVec.ofNat 32 (payBits f 16 32), gen := payBits f 12 1 == 1 }

/-- A mirror copies the update that its named home sent (R291). -/
theorem takeUpdate_of_home {rx : Bool} {f : NocFlit} (hpoison : flitPoison f = false) (hrange : htIdx f < s.cls.hitches)
    (hhome : s.fromHome rx f = true) : (s.takeUpdate rx f).hitch (htIdx f) = (s.hitch (htIdx f)).copied f := by
  have hscreen : s.htInRange (htIdx f) = true := decide_eq_true hrange
  have hset : ∀ u : State, u.table = (s.modHitch (htIdx f) (·.copied f)).table →
      (u.evalWaiters (htIdx f)).hitch (htIdx f) = (s.hitch (htIdx f)).copied f := fun u hu => by
    rw [hitch_of_table (evalWaiters_table u _), hitch_of_table hu, modHitch_hitch_self]
  unfold State.takeUpdate
  simp only [hpoison, hscreen, hhome, Bool.false_eq_true, if_false, Bool.not_true]
  split
  · next hsame => rw [Hitch.copied, hsame.1, hsame.2]
  · exact hset _ (by split <;> rfl)

/-- Taking a HITCH_READ from its pool slot leaves what its answer is made of. -/
theorem freed_read (f : NocFlit) : ((s.untake false f).freeSlot 0).ht = s.ht
    ∧ ((s.untake false f).freeSlot 0).noc.qHitch = s.noc.qHitch ∧ ((s.untake false f).freeSlot 0).now = s.now
    ∧ ((s.untake false f).freeSlot 0).straps = s.straps ∧ ((s.untake false f).freeSlot 0).ownDie = s.ownDie
    ∧ ((s.untake false f).freeSlot 0).hitchOwner = s.hitchOwner
    ∧ ((s.untake false f).freeSlot 0).hitchValue = s.hitchValue := by
  have h : ((s.untake false f).freeSlot 0).besidesCredits = (s.untake false f).besidesCredits :=
    returnCredits_besidesCredits _
  exact ⟨(congrArg State.ht h :), (congrArg (fun u => u.noc.qHitch) h :), (congrArg State.now h :), (congrArg State.straps h :),
    (congrArg State.ownDie h :), (congrArg State.hitchOwner h :), (congrArg State.hitchValue h :)⟩

/-- A HITCH_READ by the owner is answered with the payload of Table 12.8 (R294). -/
theorem exec_hitchRead {f : NocFlit} (hengine : s.hasHitch = true) (htaken : s.isTaken false f = true)
    (htype : flitType f = 0x34) (hroom : (s.noc.qHitch.filter fun e => e.vc = 1).length < 16)
    (hrange : htIdx f < s.cls.hitches) (htenant : flitTenant f = s.hitchOwner (htIdx f)) : ∃ u : State,
    u.ht = s.ht ∧ u.noc.qHitch = s.noc.qHitch ∧ u.now = s.now ∧ exec (.hitchRead f) s =
      done (u.htEgress (mkFlit 1 (flitTenant f) s.ownDie.toNat s.straps.hitchEp.toNat (flitSrcDie f) (flitSrcEp f) 0x35
        (flitTag f) false (s.hitchValue (htIdx f)))) := by
  obtain ⟨hht, hq, hnow, hstraps, hdie, howner, hvalue⟩ := freed_read s f
  refine ⟨_, hht, hq, hnow, ?_⟩
  have hscreen : ((s.untake false f).freeSlot 0).htInRange (htIdx f) = true := by
    simpa [State.htInRange, State.cls, hstraps] using hrange
  simp [exec, execHitchRead, hengine, htaken, htype, hroom, hscreen, howner, htenant, hvalue, hdie, hstraps]

end Sys2Proof.Machine

open Sys2Proof Sys2Proof.Machine

/-- Settles O41: a signal is combined at its hitch (`counterCycle_countAt`, `barrierCycle_countAt`), a wait is entered
(`enterWait_of_unmet`), an update is copied (`takeUpdate_of_home`) and a read is answered (`exec_hitchRead`). -/
theorem hitchMessagesComplete : Obligations.HitchMessagesComplete := by
  refine ⟨?_, ?_, ?_, ?_, ?_, ?_⟩
  · rintro s rx f ⟨hengine, htaken, htype, hpoison, hfar, hrange, hop, htenant, hintake, hrole, hmode⟩
    have hcount := signalled_countAt (s.untake rx f) f rx hintake (htIdx f)
    rw [hitchCycle_of_counter (s.untake rx f).collecting _ _ hrole hmode,
      counterCycle_countAt _ _ _ (by rwa [sigOf_op rx htype])] at hcount
    obtain ⟨hvalue, hrest⟩ := Prod.mk.inj hcount
    obtain ⟨hgen, hleft⟩ := Prod.mk.inj hrest
    exact completes_done (exec_hitchSignal s hengine htaken htype hpoison hfar hrange hop htenant) ⟨hvalue, hgen, hleft⟩
  · rintro s rx f ⟨hengine, htaken, htype, hpoison, hfar, hrange, hop, htenant, hintake, hrole, hmode, hshort⟩
    have hcount := signalled_countAt (s.untake rx f) f rx hintake (htIdx f)
    rw [hitchCycle_of_barrier (s.untake rx f).collecting _ _ hrole hmode,
      barrierCycle_countAt (s.untake rx f).collecting _ _ (by rwa [sigOf_op rx htype]) hshort] at hcount
    obtain ⟨hvalue, hrest⟩ := Prod.mk.inj hcount
    exact completes_done (exec_hitchSignal s hengine htaken htype hpoison hfar hrange (by omega) htenant)
      ⟨hvalue, (Prod.mk.inj hrest).1⟩
  · rintro s rx f ⟨hengine, htaken, htype, hpoison, hfar, hrange, hop, htenant, hwaiters, howed, hunmet⟩
    obtain ⟨e, he, u, hu, hentered, hhitches, howed', hout⟩ := enterWait_of_unmet (s.untake rx f) (htIdx f) (flitSrcDie f)
      (htCore f) (htThread f) (htOp f) (BitVec.ofNat 32 (htOperand f)) (htTimeout f) none hwaiters hunmet
    refine completes_done (exec_hitchWait s hengine htaken htype hpoison hfar hrange hop htenant) ⟨e, he, ?_⟩
    rw [hu, htFeed_of_none u (howed'.trans howed), State.flushEvents_ht, State.flushEvents_out, hout]
    exact ⟨hentered, hhitches, rfl⟩
  · rintro s rx f ⟨hcls, htaken, htype, hpoison, hcount, hcore, halone⟩
    have hc : exec (.hitchWake rx f) s =
        done ((s.untake rx f).busWake (payBits f 8 10) (payBits f 18 6) (payBits f 24 2)) := by
      simp [exec, execHitchWake, hcls, htaken, htype, hpoison, hcount]
    refine completes_done hc ?_
    rw [State.flushEvents_out, State.flushEvents_ht, busWake_drives (s.untake rx f) _ _ halone hcore]
    exact ⟨rfl, rfl⟩
  · rintro s rx f ⟨hengine, htaken, htype, hpoison, hrange, hhome⟩
    refine completes_done (u := (s.untake rx f).takeUpdate rx f) ?_ ?_
    · simp [exec, execHitchUpdate, hengine, htaken, htype]
    · have hcopied : ((s.untake rx f).takeUpdate rx f).flushEvents.hitch (htIdx f) = (s.hitch (htIdx f)).copied f := by
        rw [State.hitch, State.flushEvents_ht]
        exact takeUpdate_of_home (s.untake rx f) hpoison hrange hhome
      rw [hcopied]
      exact ⟨rfl, rfl, role_of_fromHome s hhome⟩
  · rintro s f ⟨hengine, htaken, htype, hroom, hrange, htenant⟩
    obtain ⟨u, hht, hq, hnow, hc⟩ := exec_hitchRead s hengine htaken htype hroom hrange htenant
    refine completes_done hc ?_
    rw [State.flushEvents_noc_qHitch, State.flushEvents_ht, ← hq, ← hnow, ← hht]
    exact ⟨rfl, rfl⟩
end

section
/-!
LEMMAS. Timers, fences and the debug view of the hitch engine (R286, R289, R290, R292, R300).
-/
namespace Sys2Proof.Machine

variable (s : State)

/-! ### Timers (R286, R292) -/

/-- The one waiter, with a timeout, leaves the table by its wake. -/
theorem exec_waiterTimeout {w : Waiter} (hengine : s.hasHitch = true) (hwaiters : s.ht.waiters = [w]) (htimeout : w.timeout ≠ 0)
    (hpwr : s.aon.pwr ≠ .park) : exec (.waiterTimeout w.entry) s =
      done (State.sendWakes { s with ht.waiters := [], ht.timeouts := s.ht.timeouts + 1 } [s.wakeOf w 1]) := by
  simp [exec, execWaiterTimeout, hengine, hwaiters, htimeout, hpwr]

/-- A realign epoch is counted; the rest are updates owed, and sent as there is room. -/
theorem exec_realignEpoch (hengine : s.hasHitch = true) (hopened : s.start.opened = true) (hperiod : bf s.ht.ctl 0 16 ≠ 0) :
    ∃ u : State, exec .realignEpoch s = done u ∧ u.htView = State.htView { s with ht.epoch := s.ht.epoch + 1 } := by
  refine ⟨_, by simp only [exec, execRealignEpoch, hengine, if_true]; rfl, ?_⟩
  rw [if_pos (by simp [hopened, hperiod]), htFeed_htView]
  exact foldl_keeps State.htView _ _ _ fun u i _ => oweAll_htView u i true

/-! ### Fences (R289, R290) -/

/-- The one fence at ingress ends, in a bucket that still moves. -/
theorem exec_fenceRelease {k o : Nat} (hfences : s.ht.fences = [(k, o)]) (hclear : s.fenceClear o = true)
    (hmoving : (s.bucket k).moving = true) : exec (.fenceRelease k) s =
      done { s with ht.fences := [], ht.fencesDone := s.ht.fencesDone + 1 } := by
  have hbucket : ∀ h : Hitches, State.bucket { s with ht := h } k = s.bucket k := fun _ => rfl
  simp [exec, execFenceRelease, hfences, hclear, hbucket, hmoving]

/-- The engines take no flit that is not eligible. -/
theorem takeEligible_of_ineligible {b : Fin 8} {x : RxFlit} (hbuf : (s.link.rx.get b).buf = [x]) (heligible : x.eligible = false) :
    s.takeEligible b = s := by simp [State.takeEligible, hbuf, heligible]

/-- A receive braid without the fence of one of its flits. -/
def RxBraid.unfenced (r : RxBraid) (x : RxFlit) : RxBraid :=
  { r with buf := r.buf.map fun y => if y = x then { y with fenced := false } else y }

/-- The one fenced signal of a receive braid is no longer held, and nothing else goes on at a port at rest with egress closed. -/
theorem exec_egressFenceRelease {b : Fin 8} {x : RxFlit} (hbuf : (s.link.rx.get b).buf = [x]) (hfenced : x.fenced = true)
    (hclear : s.egFenceClear x.acc = true) (hstill : s.still = true) (hopen : s.egressOpen = false)
    (heligible : x.eligible = false) (hsent : s.noc.redSent = []) :
    exec (.egressFenceRelease b) s = done (s.modRx b (·.unfenced x)) := by
  have hbuf' : ((s.modRx b (·.unfenced x)).link.rx.get b).buf = [{ x with fenced := false }] := by
    simp [RxBraid.unfenced, hbuf]
  have hend : s.endFence b x = s.modRx b (·.unfenced x) := takeEligible_of_ineligible _ hbuf' heligible
  have hstill' : (s.modRx b (·.unfenced x)).still = true := by
    rw [still_of_goView (modRx_goView s b (·.unfenced x) fun _ => rfl), hstill]
  have hfind : (s.link.rx.get b).buf.find? (fun x => x.fenced) = some x := by simp [hbuf, hfenced]
  simp only [exec, execEgressFenceRelease, hfind, hclear, if_true, hend]
  rw [egressStep_of_closed (s.modRx b (·.unfenced x)) hopen hsent, portStep_of_still _ hstill']

/-! ### The debug view (R300) -/

/-- A look-up of an offset that no latch of a list has. -/
theorem tfind_latches_none (l : List (Nat × Nat)) (t : Tbl Reg) (k : Nat) (h : k ∉ l.map Prod.fst) :
    tfind (l.foldl (fun t p => tput t p.1 (BitVec.ofNat 32 p.2)) t) k = tfind t k := by
  induction l generalizing t with
  | nil => rfl
  | cons p l ih =>
    obtain ⟨hp, hl⟩ := not_or.mp (mt List.mem_cons.mpr h)
    rw [List.foldl_cons, ih _ hl, tfind_tput_ne _ _ _ _ hp]

/-- A latch reads as it was set, where no two of the list have the same offset. -/
theorem latch_read (l : List (Nat × Nat)) (hoffsets : (l.map Prod.fst).Nodup) {k v : Nat} (h : (k, v) ∈ l) :
    tfind (s.latch l).ht.dbg k = some (BitVec.ofNat 32 v) := by
  have hread : ∀ t : Tbl Reg, tfind (l.foldl (fun t p => tput t p.1 (BitVec.ofNat 32 p.2)) t) k = some (BitVec.ofNat 32 v) := by
    induction l with
    | nil => cases h
    | cons p l ih =>
      intro t
      obtain ⟨hp, hl⟩ := List.nodup_cons.mp hoffsets
      rw [List.foldl_cons]
      rcases List.mem_cons.mp h with rfl | h
      · rw [tfind_latches_none _ _ _ hp, tfind_tput_self]
      · exact ih hl h _
  exact hread _

/-- A latch set to a word reads as that word. -/
theorem latch_read_word (l : List (Nat × Nat)) (hoffsets : (l.map Prod.fst).Nodup) {k : Nat} {x : Reg} (h : (k, x.toNat) ∈ l) :
    tfind (s.latch l).ht.dbg k = some x := by
  rw [latch_read s l hoffsets h, BitVec.ofNat_toNat, BitVec.setWidth_eq]

end Sys2Proof.Machine

open Sys2Proof Sys2Proof.Machine

/-- Settles O42, command by command. -/
theorem hitchTimersComplete : Obligations.HitchTimersComplete := by
  refine ⟨?_, ?_, ?_, ?_, ?_, ?_, ?_⟩
  · rintro s w ⟨hengine, hwaiters, htimeout, hpwr, -⟩
    refine completes_done (exec_waiterTimeout s hengine hwaiters htimeout hpwr) ?_
    have h := sendWakes_htView { s with ht.waiters := [], ht.timeouts := s.ht.timeouts + 1 } [s.wakeOf w 1]
    rw [State.flushEvents_ht]
    exact ⟨(congrArg (fun v => v.1.waiters) h :), (congrArg (fun v => v.1.timeouts) h :), (congrArg (fun v => v.1.hitches) h :)⟩
  · rintro s ⟨hengine, hopened, hperiod⟩
    obtain ⟨u, hc, h⟩ := exec_realignEpoch s hengine hopened hperiod
    refine completes_done hc ?_
    rw [State.flushEvents_ht]
    exact ⟨(congrArg (fun v => v.1.epoch) h :), (congrArg (fun v => v.1.hitches) h :), (congrArg (fun v => v.1.waiters) h :)⟩
  · rintro s k o ⟨hfences, hclear, hmoving⟩
    refine completes_done (exec_fenceRelease s hfences hclear hmoving) ?_
    rw [State.flushEvents_ht, State.flushEvents_noc_pool]
    exact ⟨rfl, rfl, rfl⟩
  · rintro s b x ⟨hbuf, hfenced, hclear, hstill, hopen, heligible, hsent⟩
    refine completes_done (exec_egressFenceRelease s hbuf hfenced hclear hstill hopen heligible hsent) ?_
    rw [State.flushEvents_link]
    simp [RxBraid.unfenced, hbuf]
  · rintro s v ⟨hengine, hopened, hrange⟩
    refine completes_done (u := s.copyHitch v) (by simp [exec, execHitchDebugCopy, hengine, hopened]) ?_
    have hscreen : State.htInRange { s with ht.dbgIdx := v &&& 0xFFF } (bf v 0 12) = true := decide_eq_true hrange
    rw [State.flushEvents_ht, State.copyHitch, hscreen]
    exact ⟨rfl, latch_read_word _ _ (by simp) (.head _), latch_read_word _ _ (by simp) (.tail _ (.head _)), rfl⟩
  · rintro s v ⟨hengine, hopened, hnone⟩
    refine completes_done (u := s.copyWaiter v) (by simp [exec, execWaiterDebugCopy, hengine, hopened]) ?_
    have hfind : s.ht.waiters.find? (fun w => w.entry = bf v 0 13) = none := List.find?_eq_none.mpr (by simpa using hnone)
    rw [State.flushEvents_ht, State.copyWaiter]
    simp only [hfind]
    exact ⟨rfl, latch_read _ _ (by simp) (.head _), latch_read _ _ (by simp) (.tail _ (.head _)), rfl⟩
  · rintro s v w ⟨hengine, hopened, hwaiters, hentry⟩
    refine completes_done (u := s.copyWaiter v) (by simp [exec, execWaiterDebugCopy, hengine, hopened]) ?_
    have hfind : s.ht.waiters.find? (fun w => w.entry = bf v 0 13) = some w := by simp [hwaiters, hentry]
    rw [State.flushEvents_ht, State.copyWaiter]
    simp only [hfind]
    exact ⟨latch_read _ _ (by simp) (.head _), latch_read_word _ _ (by simp) (.tail _ (.head _))⟩
end

section
/-!
LEMMAS. Two states at which a statement on the hitch engine fails: a ring configures a hitch at which an arrival left over applies
first (R282, R295), and a block strapped as an optical end, which has no hitch engine (R22), gets a poisoned wait.
-/
namespace Sys2Proof.Machine

/-! ### HT_CONFIG beside an arrival left over -/

/-- An HT_CONFIG of hitch 9. -/
def configDesc : Desc := pack 512 [(0, 8, 0x30), (64, 12, 9)]

/-- An ARRIVE_WAIT at hitch 9, a HITCH_WAIT of OP 3. -/
def arriveWait : NocFlit := mkFlit 7 0 1 2 0 0 0x31 0 false (packNat [(0, 12, 9), (12, 2, 3)])

/-- A class 1 block whose hitch 9 is a barrier of two arrivals, at which no thread waits. An ARRIVE_WAIT is left over from the PCLK
in which the generation before completed. The HT_CONFIG is started at index 0 of ring 0, and ring 1 takes its completion. -/
def configBesideArrival : State :=
  let s := State.reset.modHitch 9 fun h => { h with barrier := true, target := 2 }
  { s with
    ht := { s.ht with intake := [(arriveWait, false)] }
    rings := { s.rings with
      ring := [(0, { zeroRing with
          st := .running, cfg := pack 32 [(15, 6, 1)], descs := [⟨0, .started, configDesc, 0, false, none⟩] }),
        (1, { zeroRing with st := .running, cfg := pack 32 [(1, 3, 3)] })] } }

/-- The HT_CONFIG is started and may complete, its ring is tenant 0's, and no thread waits at hitch 9. -/
theorem configBesideArrival_ready : configBesideArrival.started 0 0 0x30 configDesc ∧ configBesideArrival.cplReady 0
    ∧ configBesideArrival.ringOwner 0 = 0 ∧ configBesideArrival.waitersOf (bf configDesc 64 12) = [] := by decide +kernel

/-- The statuses in the completion FIFO after a command. -/
def statusesAfter (o : Host.Outcome State Fault Refusal) : List Nat :=
  match o with
  | .next t => t.rings.fifo.map CplEntry.status
  | _ => []

/-- The arrival makes its thread a waiter of the hitch, and the HT_CONFIG is refused with 0x30. -/
theorem htConfig_refused_beside_arrival : statusesAfter (exec (.htConfig 0 0) configBesideArrival) = [0x30] := by decide +kernel

/-! ### A poisoned wait at an optical end -/

/-- A poisoned HITCH_WAIT of core 0 of die 4. -/
def poisonedWait : NocFlit := mkFlit 7 0 4 2 4 0 0x31 0 true 0

/-- A block of class 1 on die 4 strapped as an optical end, with that wait taken. -/
def opticalWithWait : State :=
  { State.reset with
    straps := { State.reset.straps with cls := .sc, optical := true }
    start := { State.reset.start with dieId := 4 }
    noc := { State.reset.noc with taken := [(false, poisonedWait)] } }

/-- A wait changes nothing where there is no hitch engine. -/
theorem exec_hitchWait_of_absent {s : State} (hengine : s.hasHitch = false) (rx : Bool) (f : NocFlit) :
    exec (.hitchWait rx f) s = done s := by simp [exec, execHitchWait, hengine]

end Sys2Proof.Machine

open Sys2Proof Sys2Proof.Machine

/-- Refutes O43: its clause on HT_CONFIG has no premise that no signal is left over. An ARRIVE_WAIT left over at the hitch applies
before the descriptor and makes its thread a waiter, so that the HT_CONFIG completes with 0x30 (R282, R295). -/
theorem not_hitchDescriptorsComplete : ¬ Obligations.HitchDescriptorsComplete := by
  rintro ⟨hconfig, -⟩
  obtain ⟨t, hstep, hentered, -⟩ := hconfig configBesideArrival 0 0 configDesc configBesideArrival_ready
  have hrefused := htConfig_refused_beside_arrival
  rw [hstep, statusesAfter, hentered] at hrefused
  exact absurd hrefused (by decide)

/-- Refutes O53: its clause on a poisoned wait from the die of a class 1 port has no premise that the block has a hitch engine. A
block strapped as an optical end has none (R22), and counts nothing. -/
theorem not_poisonedHitchMessages : ¬ Obligations.PoisonedHitchMessages := by
  rintro ⟨-, -, hwait, -⟩
  obtain ⟨t, hstep, hht, -⟩ := hwait opticalWithWait false poisonedWait (by decide +kernel)
  rw [exec_hitchWait_of_absent rfl, done_of_quiet opticalWithWait rfl, Host.Outcome.next.injEq] at hstep
  rw [← hstep] at hht
  exact absurd (congrArg Hitches.poisoned hht) (by decide)
end

section
/-!
LEMMAS. What no operation of a command changes but those of the discovery agent: the count of PCLK and the serial memory
(assumption log 1, R364), one lemma for each operation. First the shared operations: registers, events, the agent's table, meters
and flow control.
-/
namespace Sys2Proof.Machine

/-- The count of PCLK and the contents of the serial memory. -/
def State.clockMem (s : State) : Time × List Host.Cell := (s.clk.now, s.agent.mem)

/-! As for `State.keep`, the next two lemmas are proved by `id rfl`, so that `simp` rewrites with them. -/

@[simp] theorem clockMem_mk f0 f1 f2 f3 f4 f5 f6 f7 f8 f9 f10 f11 f12 f13 f14 f15 f16 f17 f18 f19 f20 f21 f22 f23 :
    State.clockMem ⟨f0, f1, f2, f3, f4, f5, f6, f7, f8, f9, f10, f11, f12, f13, f14, f15, f16, f17, f18, f19, f20, f21, f22,
      f23⟩ = (f3.now, f14.mem) := id rfl

@[simp] theorem clockMem_fold (s : State) : (s.clk.now, s.agent.mem) = s.clockMem := id rfl

@[simp] theorem clockMem_ite (c : Prop) [Decidable c] (a b : State) :
    (if c then a else b).clockMem = if c then a.clockMem else b.clockMem := apply_ite State.clockMem c a b

@[simp] theorem clockMem_foldl {α : Type} {g : State → α → State} {l : List α} {s : State}
    (h : ∀ u x, (g u x).clockMem = u.clockMem) : (l.foldl g s).clockMem = s.clockMem :=
  foldl_keeps State.clockMem g l s fun u x _ => h u x

variable (s : State)

/-! ### Ops -/

@[simp] theorem modTx_clockMem (b : Fin 8) (f : TxBraid → TxBraid) :
    (s.modTx b f).clockMem = s.clockMem := by simp [State.modTx]
@[simp] theorem modRx_clockMem (b : Fin 8) (f : RxBraid → RxBraid) :
    (s.modRx b f).clockMem = s.clockMem := by simp [State.modRx]
@[simp] theorem modShape_clockMem (dir : Nat) (b : Fin 8) (f : Shape → Shape) :
    (s.modShape dir b f).clockMem = s.clockMem := by simp [State.modShape]
@[simp] theorem modStrand_clockMem (dir : Nat) (b : Fin 8) (p : Nat) (f : Strand → Strand) :
    (s.modStrand dir b p f).clockMem = s.clockMem := by simp [State.modStrand]
@[simp] theorem modStrands_clockMem (dir : Nat) (b : Fin 8) (ps : List Nat) (f : Nat → Strand → Strand) :
    (s.modStrands dir b ps f).clockMem = s.clockMem := by simp [State.modStrands]
@[simp] theorem modTrim_clockMem (dir : Nat) (b : Fin 8) (p : Nat) (f : Trim → Trim) :
    (s.modTrim dir b p f).clockMem = s.clockMem := by simp [State.modTrim]
@[simp] theorem modRing_clockMem (r : Nat) (f : Ring → Ring) : (s.modRing r f).clockMem = s.clockMem := by simp [State.modRing]
@[simp] theorem modLine_clockMem (k : Fin 8) (f : Line → Line) :
    (s.modLine k f).clockMem = s.clockMem := by simp [State.modLine]
@[simp] theorem free_clockMem : s.free.2.clockMem = s.clockMem := by simp [State.free]
@[simp] theorem pick_clockMem {α : Type} (s : State) (d : α) (l : List α) :
    (State.pick s d l).2.clockMem = s.clockMem := by simp [State.pick]
@[simp] theorem startPatterns_clockMem (m : BitVec 8) :
    (s.startPatterns m).clockMem = s.clockMem := by simp [State.startPatterns]
@[simp] theorem sendCopy_clockMem (f : SbFrame) (b : Fin 8) : (s.sendCopy f b).clockMem = s.clockMem := by
  simp only [State.sendCopy]
  (repeat' split) <;> simp
@[simp] theorem sendLink_clockMem (f : SbFrame) : (s.sendLink f).clockMem = s.clockMem := by simp [State.sendLink]
@[simp] theorem sendLink_now (f : SbFrame) : (s.sendLink f).clk.now = s.clk.now :=
  (congrArg Prod.fst (sendLink_clockMem s f) :)
@[simp] theorem sendOpt_clockMem (f : SbFrame) : (s.sendOpt f).clockMem = s.clockMem := by simp [State.sendOpt]
@[simp] theorem sendLocal_clockMem (typ payload : Nat) :
    (s.sendLocal typ payload).clockMem = s.clockMem := by simp [State.sendLocal]
@[simp] theorem sendRing_clockMem (f : SbFrame) : (s.sendRing f).clockMem = s.clockMem := by simp [State.sendRing]
@[simp] theorem sendRouted_clockMem (f : SbFrame) : (s.sendRouted f).clockMem = s.clockMem := by
  unfold State.sendRouted
  (repeat' split) <;> simp
@[simp] theorem cntSbProto_clockMem : s.cntSbProto.clockMem = s.clockMem := by simp [State.cntSbProto]
@[simp] theorem withholdReset_clockMem : s.withholdReset.clockMem = s.clockMem := by simp [State.withholdReset]
@[simp] theorem requestReset_clockMem (cause : BitVec 4) :
    (s.requestReset cause).clockMem = s.clockMem := by simp [State.requestReset]
@[simp] theorem sendResetPair_clockMem (cause : Nat) (ack drain rel : Bool) :
    (s.sendResetPair cause ack drain rel).clockMem = s.clockMem := by simp [State.sendResetPair]

/-! ### Protected -/

@[simp] theorem setProt_clockMem (off : Nat) (v : Reg) : (s.setProt off v).clockMem = s.clockMem := by simp [State.setProt]

/-! ### Flags -/

@[simp] theorem raise_clockMem (typ code arg0 arg1 arg2 braid dir strand vc tenant : Nat) :
    (s.raise typ code arg0 arg1 arg2 braid dir strand vc tenant).clockMem = s.clockMem := by simp [State.raise]
@[simp] theorem raiseBody_clockMem (typ body braid : Nat) :
    (s.raiseBody typ body braid).clockMem = s.clockMem := by simp [State.raiseBody]
@[simp] theorem ringMem_clockMem (m : MemReq) : (s.ringMem m).clockMem = s.clockMem := by simp [State.ringMem]
@[simp] theorem dirty_clockMem (k : Fin 8) : (s.dirty k).clockMem = s.clockMem := by simp [State.dirty]
@[simp] theorem writeEntry_clockMem (r entry : Nat) (msi : Bool) :
    (s.writeEntry r entry msi).clockMem = s.clockMem := by simp [State.writeEntry]
@[simp] theorem post_clockMem (e : Event) (seq ts : Nat) : (s.post e seq ts).clockMem = s.clockMem := by
  unfold State.post
  (repeat' split) <;> simp
@[simp] theorem countEvent_clockMem (e : Event) : (s.countEvent e).clockMem = s.clockMem := by simp [State.countEvent]
@[simp] theorem flushEvents_clockMem : s.flushEvents.clockMem = s.clockMem := by simp [State.flushEvents]
@[simp] theorem raiseLimited_clockMem (key : Nat) (mk : State → Nat → State) (hmk : ∀ u n, (mk u n).clockMem = u.clockMem) :
    (s.raiseLimited key mk).clockMem = s.clockMem := by
  unfold State.raiseLimited
  (repeat' split) <;> simp_all
@[simp] theorem boundaryErr_clockMem : s.boundaryErr.clockMem = s.clockMem := by simp [State.boundaryErr]
@[simp] theorem linkErr_clockMem : s.linkErr.clockMem = s.clockMem := by simp [State.linkErr]
@[simp] theorem sbErr_clockMem : s.sbErr.clockMem = s.clockMem := by simp [State.sbErr]
@[simp] theorem overrunEvent_clockMem (b v : Fin 8) : (s.overrunEvent b v).clockMem = s.clockMem := by simp [State.overrunEvent]

/-! ### Topology -/

@[simp] theorem modSite_clockMem (n : Nat) (f : Site → Site) : (s.modSite n f).clockMem = s.clockMem := by simp [State.modSite]
@[simp] theorem topo_clockMem : s.topo.clockMem = s.clockMem := by simp [State.topo]
@[simp] theorem portTopo_clockMem : s.portTopo.clockMem = s.clockMem := by
  simp only [State.portTopo]
  (repeat' split) <;> simp
@[simp] theorem agentRaise_clockMem (cls : PortClass) (tile index typ code arg0 arg1 arg2 : Nat) :
    (s.agentRaise cls tile index typ code arg0 arg1 arg2).clockMem = s.clockMem := by simp [State.agentRaise]
@[simp] theorem siteRaise_clockMem (n typ code arg0 arg1 arg2 : Nat) :
    (s.siteRaise n typ code arg0 arg1 arg2).clockMem = s.clockMem := by simp [State.siteRaise]
@[simp] theorem lateralDown_clockMem : s.lateralDown.clockMem = s.clockMem := by
  simp only [State.lateralDown]
  (repeat' split) <;> simp

/-! ### Tenancy -/

@[simp] theorem meter_clockMem (tenant counter n : Nat) :
    (s.meter tenant counter n).clockMem = s.clockMem := by simp [State.meter]
@[simp] theorem meterBytes_clockMem (tenant counter bytes : Nat) :
    (s.meterBytes tenant counter bytes).clockMem = s.clockMem := by simp [State.meterBytes]
@[simp] theorem closeEpoch_clockMem (cause closeTs : Nat) :
    (s.closeEpoch cause closeTs).clockMem = s.clockMem := by simp [State.closeEpoch]
@[simp] theorem raiseDiscard_clockMem (f : NocFlit) (cause last : Nat) :
    (s.raiseDiscard f cause last).clockMem = s.clockMem := by simp [State.raiseDiscard]
@[simp] theorem recordDiscard_clockMem (f : NocFlit) (cause : Nat) :
    (s.recordDiscard f cause).clockMem = s.clockMem := by simp [State.recordDiscard]
@[simp] theorem answerNoc_clockMem (f : NocFlit) (cause : Nat) :
    (s.answerNoc f cause).clockMem = s.clockMem := by simp [State.answerNoc]
@[simp] theorem answerLink_clockMem (f : NocFlit) (cause : Nat) :
    (s.answerLink f cause).clockMem = s.clockMem := by simp [State.answerLink]
@[simp] theorem policyDiscardTx_clockMem (f : NocFlit) :
    (s.policyDiscardTx f).clockMem = s.clockMem := by simp [State.policyDiscardTx]
@[simp] theorem policyDiscardRx_clockMem (f : NocFlit) :
    (s.policyDiscardRx f).clockMem = s.clockMem := by simp [State.policyDiscardRx]
@[simp] theorem firewallDiscard_clockMem (f : NocFlit) :
    (s.firewallDiscard f).clockMem = s.clockMem := by simp [State.firewallDiscard]
@[simp] theorem compareDigest_clockMem (b : Fin 8) (far : Nat) :
    (s.compareDigest b far).clockMem = s.clockMem := by simp [State.compareDigest]

/-! ### Flow -/

@[simp] theorem returnVc_clockMem (v : Fin 8) : (s.returnVc v).clockMem = s.clockMem := by simp [State.returnVc]
@[simp] theorem returnCredits_clockMem : s.returnCredits.clockMem = s.clockMem := by simp [State.returnCredits]
@[simp] theorem freeSlot_clockMem (v : Fin 8) : (s.freeSlot v).clockMem = s.clockMem := by simp [State.freeSlot]
@[simp] theorem startCreditInit_clockMem : s.startCreditInit.clockMem = s.clockMem := by simp [State.startCreditInit]
@[simp] theorem zeroCredits_clockMem : s.zeroCredits.clockMem = s.clockMem := by simp [State.zeroCredits]
@[simp] theorem setBucket_clockMem (i : Nat) (b : Bucket) : (s.setBucket i b).clockMem = s.clockMem := by simp [State.setBucket]
@[simp] theorem requeue_clockMem (i : Nat) (b : Fin 8) : (s.requeue i b).clockMem = s.clockMem := by simp [State.requeue]
@[simp] theorem retarget_clockMem (i : Nat) (t : Fin 8) : (s.retarget i t).clockMem = s.clockMem := by simp [State.retarget]
@[simp] theorem recomputeTargets_clockMem : s.recomputeTargets.clockMem = s.clockMem := by
  unfold State.recomputeTargets
  refine (clockMem_foldl fun u i => ?_).trans (by simp)
  split <;> simp
@[simp] theorem openBuckets_clockMem : s.openBuckets.clockMem = s.clockMem := by
  unfold State.openBuckets
  refine (clockMem_foldl fun u i => ?_).trans (by simp)
  (repeat' split) <;> simp
@[simp] theorem completeMove_clockMem (i : Nat) : (s.completeMove i).clockMem = s.clockMem := by simp [State.completeMove]
@[simp] theorem enqueue_clockMem (f : NocFlit) (fenced : Bool) :
    (s.enqueue f fenced).clockMem = s.clockMem := by simp [State.enqueue]
@[simp] theorem oweFrame_clockMem (b : Fin 8) : (s.oweFrame b).clockMem = s.clockMem := by
  simp only [State.oweFrame]
  (repeat' split) <;> simp
@[simp] theorem gatherOwed_clockMem : s.gatherOwed.clockMem = s.clockMem := by
  simp only [State.gatherOwed]
  (repeat' split) <;> simp
@[simp] theorem updateXon_clockMem (b : Fin 8) : (s.updateXon b).clockMem = s.clockMem := by
  simp only [State.updateXon]
  (repeat' split) <;> simp
@[simp] theorem takeFlit_clockMem (rx : Bool) (f : NocFlit) :
    (s.takeFlit rx f).clockMem = s.clockMem := by simp [State.takeFlit]
@[simp] theorem untake_clockMem (rx : Bool) (f : NocFlit) : (s.untake rx f).clockMem = s.clockMem := by simp [State.untake]
@[simp] theorem egPop_clockMem (v : Fin 8) (i : Nat) : (s.egPop v i).clockMem = s.clockMem := by
  unfold State.egPop
  (repeat' split) <;> simp
@[simp] theorem noteReq_clockMem (i : Nat) (w : EgWhat) :
    (s.noteReq i w).clockMem = s.clockMem := by cases w <;> simp [State.noteReq]
@[simp] theorem egressOne_clockMem : s.egressOne.clockMem = s.clockMem := by
  simp only [State.egressOne]
  (repeat' split) <;> simp
@[simp] theorem egressN_clockMem (n0 : Nat) (s : State) : (State.egressN n0 s).clockMem = s.clockMem := by
  induction n0 generalizing s  with
    | zero => simp [State.egressN]
    | succ n ih =>
      simp [State.egressN, ih]
@[simp] theorem egressDrive_clockMem : s.egressDrive.clockMem = s.clockMem := by simp [State.egressDrive]

end Sys2Proof.Machine
end

section
/-!
LEMMAS. The operations of the rings, the strands, calibration, reduction, the ladder and the hitches leave the count of PCLK and
the serial memory.
-/
namespace Sys2Proof.Machine

variable (s : State)

/-! ### RingOps -/

@[simp] theorem ringEvent_clockMem (r code : Nat) (config : Bool) (index : Nat) :
    (s.ringEvent r code config index).clockMem = s.clockMem := by simp [State.ringEvent]
@[simp] theorem cfgRefuse_clockMem (r code : Nat) : (s.cfgRefuse r code).clockMem = s.clockMem := by simp [State.cfgRefuse]
@[simp] theorem watchRead_clockMem (k : Fin 8) : (s.watchRead k).clockMem = s.clockMem := by simp [State.watchRead]
@[simp] theorem writeShadow_clockMem (k : Fin 8) : (s.writeShadow k).clockMem = s.clockMem := by simp [State.writeShadow]
@[simp] theorem indexMoved_clockMem (r : Nat) : (s.indexMoved r).clockMem = s.clockMem := by simp [State.indexMoved]
@[simp] theorem discardFifo_clockMem (c : Nat) : (s.discardFifo c).clockMem = s.clockMem := by simp [State.discardFifo]
@[simp] theorem haltOne_clockMem (r code index : Nat) :
    (s.haltOne r code index).clockMem = s.clockMem := by simp [State.haltOne]
@[simp] theorem haltRing_clockMem (r code index : Nat) :
    (s.haltRing r code index).clockMem = s.clockMem := by simp [State.haltRing]
@[simp] theorem fetchMore_clockMem (n0 : Nat) (s : State) (i : Nat) : (State.fetchMore n0 s i).clockMem = s.clockMem := by
  induction n0 generalizing s i with
    | zero => simp [State.fetchMore]
    | succ n ih =>
      simp [State.fetchMore, ih]
@[simp] theorem consume_clockMem (r : Nat) : (s.consume r).clockMem = s.clockMem := by simp [State.consume]
@[simp] theorem applySlot_clockMem (r : Nat) (v : BitVec 32) :
    (s.applySlot r v).clockMem = s.clockMem := by simp [State.applySlot]
@[simp] theorem modDesc_clockMem (r : Nat) (i : BitVec 32) (f : RingDesc → RingDesc) :
    (s.modDesc r i f).clockMem = s.clockMem := by simp [State.modDesc]
@[simp] theorem reserve_clockMem (r : Nat) : (s.reserve r).clockMem = s.clockMem := by simp [State.reserve]
@[simp] theorem loseEntry_clockMem (c : Nat) : (s.loseEntry c).clockMem = s.clockMem := by simp [State.loseEntry]
@[simp] theorem leaveLine_clockMem (k : Fin 8) : (s.leaveLine k).clockMem = s.clockMem := by simp [State.leaveLine]
@[simp] theorem drainedRing_clockMem (r : Nat) : (s.drainedRing r).clockMem = s.clockMem := by simp [State.drainedRing]
@[simp] theorem completeOne_clockMem (r : Nat) (i : BitVec 32) (status result detail : Nat) :
    (s.completeOne r i status result detail).clockMem = s.clockMem := by
  unfold State.completeOne
  (repeat' split) <;> simp
@[simp] theorem settleCancels_clockMem (n0 : Nat) (s : State) : (State.settleCancels n0 s).clockMem = s.clockMem := by
  induction n0 generalizing s  with
    | zero => simp [State.settleCancels]
    | succ n ih =>
      unfold State.settleCancels
      (repeat' split) <;> simp [ih]
@[simp] theorem complete_clockMem (r : Nat) (i : BitVec 32) (status result detail : Nat) :
    (s.complete r i status result detail).clockMem = s.clockMem := by simp [State.complete]
@[simp] theorem completeUnstarted_clockMem (r : Nat) (i : BitVec 32) (status : Nat) :
    (s.completeUnstarted r i status).clockMem = s.clockMem := by simp [State.completeUnstarted]
@[simp] theorem startDesc_clockMem (r : Nat) (e : RingDesc) :
    (s.startDesc r e).clockMem = s.clockMem := by simp [State.startDesc]
@[simp] theorem withDesc_clockMem (r : RingNo) (i : BitVec 32) (op : Nat) (work : Desc → State → State)
    (hwork : ∀ x u, (work x u).clockMem = u.clockMem) :
    (s.withDesc r i op work).clockMem = s.clockMem := by
  unfold State.withDesc
  (repeat' split) <;> simp_all
@[simp] theorem sendMsi_clockMem (r : Nat) : (s.sendMsi r).clockMem = s.clockMem := by simp [State.sendMsi]
@[simp] theorem requestMsi_clockMem (r : Nat) : (s.requestMsi r).clockMem = s.clockMem := by
  simp only [State.requestMsi]
  (repeat' split) <;> simp

/-! ### Trims -/

@[simp] theorem retain_clockMem (dir : Nat) (b : Fin 8) (p : Nat) :
    (s.retain dir b p).clockMem = s.clockMem := by simp [State.retain]
@[simp] theorem settleGoal_clockMem (dir : Nat) (b : Fin 8) (p : Nat) : (s.settleGoal dir b p).clockMem = s.clockMem := by
  simp only [State.settleGoal]
  (repeat' split) <;> simp
@[simp] theorem restoreServe_clockMem (b : Fin 8) (c : CalServe) : (s.restoreServe b c).clockMem = s.clockMem := by
  simp only [State.restoreServe]
  (repeat' split) <;> simp
@[simp] theorem restoreTrims_clockMem (b : Fin 8) (r : CalRun) :
    (s.restoreTrims b r).clockMem = s.clockMem := by simp [State.restoreTrims]
@[simp] theorem dropPending_clockMem (dir : Nat) (b : Fin 8) :
    (s.dropPending dir b).clockMem = s.clockMem := by simp [State.dropPending]
@[simp] theorem captureFibre_clockMem (dir : Nat) (b : Fin 8) (p temp1 temp6 : Nat) :
    (s.captureFibre dir b p temp1 temp6).clockMem = s.clockMem :=
  by
  simp only [State.captureFibre]
  (repeat' split) <;> simp

/-! ### StrandOps -/

@[simp] theorem sendCtl_clockMem (b : Fin 8) (opcode : Nat) (p : NocFlit) :
    (s.sendCtl b opcode p).clockMem = s.clockMem := by simp [State.sendCtl]
@[simp] theorem quarantine_clockMem (dir : Nat) (b : Fin 8) (p code : Nat) :
    (s.quarantine dir b p code).clockMem = s.clockMem := by simp [State.quarantine]
@[simp] theorem release_clockMem (dir : Nat) (b : Fin 8) (p disp code : Nat) :
    (s.release dir b p disp code).clockMem = s.clockMem := by
  unfold State.release
  (repeat' split) <;> simp
@[simp] theorem settleSpares_clockMem (dir : Nat) (b : Fin 8) :
    (s.settleSpares dir b).clockMem = s.clockMem := by simp [State.settleSpares]
@[simp] theorem setMap_clockMem (dir : Nat) (b : Fin 8) (map : List Nat) (clock : Nat) :
    (s.setMap dir b map clock).clockMem = s.clockMem := by simp [State.setMap]
@[simp] theorem opDone_clockMem (o : StrandOp) (status result detail : Nat) :
    (s.opDone o status result detail).clockMem = s.clockMem := by
  unfold State.opDone
  (repeat' split) <;> simp
@[simp] theorem restoreOp_clockMem (dir : Nat) (b : Fin 8) (o : StrandOp) (code : Nat) :
    (s.restoreOp dir b o code).clockMem = s.clockMem := by simp [State.restoreOp]
@[simp] theorem refuseReq_clockMem (b : Fin 8) (o : StrandOp) (code : Nat) :
    (s.refuseReq b o code).clockMem = s.clockMem := by simp [State.refuseReq]
@[simp] theorem queueOp_clockMem (b : Fin 8) (o : StrandOp) : (s.queueOp b o).clockMem = s.clockMem := by
  simp only [State.queueOp]
  (repeat' split) <;> simp
@[simp] theorem assignOp_clockMem (b : Fin 8) (o : StrandOp) :
    (s.assignOp b o).2.clockMem = s.clockMem := by simp [State.assignOp]
@[simp] theorem sendPrepare_clockMem (b : Fin 8) (p : NocFlit) :
    (s.sendPrepare b p).clockMem = s.clockMem := by simp [State.sendPrepare]
@[simp] theorem mirrorTo_clockMem (dir : Nat) (b : Fin 8) (p : Nat) :
    (s.mirrorTo dir b p).clockMem = s.clockMem := by simp [State.mirrorTo]
@[simp] theorem beginReef_clockMem (b : Fin 8) (o : StrandOp) (width : Nat) :
    (s.beginReef b o width).clockMem = s.clockMem := by simp [State.beginReef]
@[simp] theorem beginSplice_clockMem (b : Fin 8) (o : StrandOp) (dest : Nat) :
    (s.beginSplice b o dest).clockMem = s.clockMem := by simp [State.beginSplice]
@[simp] theorem beginOp_clockMem (b : Fin 8) (o : StrandOp) (retire : State → State)
    (hretire : ∀ u, (retire u).clockMem = u.clockMem) :
    (s.beginOp b o retire).clockMem = s.clockMem := by
  unfold State.beginOp
  dsimp only
  (repeat' split) <;> simp [hretire]
@[simp] theorem runQueue_clockMem (retire : Fin 8 → State → State) (n0 : Nat) (s : State) (l : Fin 8)
    (hretire : ∀ b u, (retire b u).clockMem = u.clockMem) :
    (State.runQueue retire n0 s l).clockMem = s.clockMem := by
  induction n0 generalizing s with
  | zero => rfl
  | succ n ih =>
    unfold State.runQueue
    split
    · rfl
    · dsimp only
      rw [ih]
      simp [hretire]
@[simp] theorem countSwitch_clockMem (dir : Nat) (b : Fin 8) (o : StrandOp) :
    (s.countSwitch dir b o).clockMem = s.clockMem := by simp [State.countSwitch]
@[simp] theorem moveMap_clockMem (dir : Nat) (b : Fin 8) (o : StrandOp) :
    (s.moveMap dir b o).clockMem = s.clockMem := by simp [State.moveMap]
@[simp] theorem dispose_clockMem (dir : Nat) (b : Fin 8) (o : StrandOp) :
    (s.dispose dir b o).clockMem = s.clockMem := by simp [State.dispose]
@[simp] theorem switchRx_clockMem (b : Fin 8) (o : StrandOp) :
    (s.switchRx b o).clockMem = s.clockMem := by simp [State.switchRx]
@[simp] theorem switchTx_clockMem (b : Fin 8) (o : StrandOp) :
    (s.switchTx b o).clockMem = s.clockMem := by simp [State.switchTx]
@[simp] theorem serveDone_clockMem (b : Fin 8) (v : CalServe) : (s.serveDone b v).clockMem = s.clockMem := by
  simp only [State.serveDone]
  (repeat' split) <;> simp
@[simp] theorem calHold_clockMem (b : Fin 8) (o : StrandOp) : (s.calHold b o).clockMem = s.clockMem := by
  simp only [State.calHold]
  (repeat' split) <;> simp
@[simp] theorem settleTx_clockMem (b : Fin 8) (o : StrandOp) :
    (s.settleTx b o).clockMem = s.clockMem := by simp [State.settleTx]
@[simp] theorem calReturnLost_clockMem (b : Fin 8) (code : Nat) : (s.calReturnLost b code).clockMem = s.clockMem := by
  simp only [State.calReturnLost]
  (repeat' split) <;> simp
@[simp] theorem abortTx_clockMem (b : Fin 8) (code : Nat) (tell : Bool) : (s.abortTx b code tell).clockMem = s.clockMem := by
  unfold State.abortTx
  (repeat' split) <;> simp
@[simp] theorem abortRx_clockMem (b : Fin 8) (code : Nat) (tell : Bool) : (s.abortRx b code tell).clockMem = s.clockMem := by
  unfold State.abortRx
  (repeat' split) <;> simp
@[simp] theorem supersede_clockMem (dir : Nat) (b : Fin 8) :
    (s.supersede dir b).clockMem = s.clockMem := by simp [State.supersede]
@[simp] theorem requestFar_clockMem (b : Fin 8) (o : StrandOp) :
    (s.requestFar b o).clockMem = s.clockMem := by simp [State.requestFar]

/-! ### CalOps -/

@[simp] theorem qualToken_clockMem : s.qualToken.2.clockMem = s.clockMem := by simp [State.qualToken]
@[simp] theorem postQual_clockMem (q : QualWait) : (s.postQual q).clockMem = s.clockMem := by
  simp only [State.postQual]
  (repeat' split) <;> simp
@[simp] theorem postWaiting_clockMem (n0 : Nat) (s : State) : (State.postWaiting n0 s).clockMem = s.clockMem := by
  induction n0 generalizing s  with
    | zero => simp [State.postWaiting]
    | succ n ih =>
      unfold State.postWaiting
      (repeat' split) <;> simp [ih]
@[simp] theorem closeQual_clockMem (b : Fin 8) (p kind : Nat) (m : Meas) (status : Nat) (scan : Option (RingNo × BitVec 32)) :
    (s.closeQual b p kind m status scan).clockMem = s.clockMem := by simp [State.closeQual]
@[simp] theorem modRun_clockMem (b : Fin 8) (f : CalRun → CalRun) :
    (s.modRun b f).clockMem = s.clockMem := by simp [State.modRun]
@[simp] theorem sendCalStep_clockMem (b : Fin 8) (r : CalRun) (step : Nat) :
    (s.sendCalStep b r step).clockMem = s.clockMem := by simp [State.sendCalStep]
@[simp] theorem firstStep_clockMem (b : Fin 8) : (s.firstStep b).clockMem = s.clockMem := by
  unfold State.firstStep
  (repeat' split) <;> simp
@[simp] theorem calReport_clockMem (b : Fin 8) (p status : Nat) (only : Option (RingNo × BitVec 32)) :
    (s.calReport b p status only).clockMem = s.clockMem := by simp [State.calReport]
@[simp] theorem finishCal_clockMem (b : Fin 8) (r : CalRun) (status : Nat) (m : Meas) :
    (s.finishCal b r status m).clockMem = s.clockMem := by
  unfold State.finishCal
  (repeat' split) <;> simp
@[simp] theorem loadFound_clockMem (b : Fin 8) (r : CalRun) : (s.loadFound b r).clockMem = s.clockMem := by
  simp only [State.loadFound]
  (repeat' split) <;> simp
@[simp] theorem endSteps_clockMem (b : Fin 8) (status : Nat) (m : Meas) : (s.endSteps b status m).clockMem = s.clockMem := by
  unfold State.endSteps
  (repeat' split) <;> simp
@[simp] theorem standAside_clockMem (b : Fin 8) (p : Nat) :
    (s.standAside b p).clockMem = s.clockMem := by simp [State.standAside]
@[simp] theorem beginCal_clockMem (b : Fin 8) (p : Nat) (range : Option Nat) :
    (s.beginCal b p range).clockMem = s.clockMem := by
  simp only [State.beginCal]
  (repeat' split) <;> simp
@[simp] theorem calRun_clockMem (n0 : Nat) (s : State) (l : Fin 8) : (State.calRun n0 s l).clockMem = s.clockMem := by
  induction n0 generalizing s l with
    | zero => simp [State.calRun]
    | succ n ih =>
      unfold State.calRun
      (repeat' split) <;> simp [ih]
@[simp] theorem calNext_clockMem (b : Fin 8) : (s.calNext b).clockMem = s.clockMem := by simp [State.calNext]
@[simp] theorem calAll_clockMem : s.calAll.clockMem = s.clockMem := by simp [State.calAll]
@[simp] theorem refuseCal_clockMem (b : Fin 8) (p status : Nat) (job : Option (RingNo × BitVec 32)) :
    (s.refuseCal b p status job).clockMem = s.clockMem := by
  simp only [State.refuseCal]
  (repeat' split) <;> simp
@[simp] theorem askCal_clockMem (b : Fin 8) (p : Nat) (job : Option (RingNo × BitVec 32)) :
    (s.askCal b p job).clockMem = s.clockMem := by simp [State.askCal]
@[simp] theorem askMoves_clockMem : s.askMoves.clockMem = s.clockMem := by simp [State.askMoves]
@[simp] theorem calRetrain_clockMem (dir : Nat) (b : Fin 8) : (s.calRetrain dir b).clockMem = s.clockMem := by
  simp only [State.calRetrain]
  (repeat' split) <;> simp
@[simp] theorem calAborted_clockMem (b : Fin 8) (o : StrandOp) (code : Nat) :
    (s.calAborted b o code).clockMem = s.clockMem := by
  unfold State.calAborted
  (repeat' split) <;> simp
@[simp] theorem calSwitched_clockMem (b : Fin 8) (o : StrandOp) : (s.calSwitched b o).clockMem = s.clockMem := by
  unfold State.calSwitched
  (repeat' split) <;> simp

/-! ### RedOps -/

@[simp] theorem modJob_clockMem (slot : Nat) (f : RedJob → RedJob) :
    (s.modJob slot f).clockMem = s.clockMem := by simp [State.modJob]
@[simp] theorem modChunk_clockMem (slot idx : Nat) (f : Chunk → Chunk) :
    (s.modChunk slot idx f).clockMem = s.clockMem := by simp [State.modChunk]
@[simp] theorem redEgress_clockMem (w : EgWhat) (vc : Fin 8) (last : Option (Nat × Nat)) :
    (s.redEgress w vc last).clockMem = s.clockMem := by simp [State.redEgress]
@[simp] theorem redDiscard_clockMem (slot : Option Nat) (cause job chunk rank : Nat) :
    (s.redDiscard slot cause job chunk rank).clockMem = s.clockMem :=
  by
  simp only [State.redDiscard]
  (repeat' split) <;> simp
@[simp] theorem takeHeld_clockMem (slot : Nat) (d : Desc) (c : Chunk) (h : HeldRank) :
    (s.takeHeld slot d c h).2.clockMem = s.clockMem := by simp [State.takeHeld]
@[simp] theorem advance_clockMem (n0 : Nat) (s : State) (i : Nat) (l : Desc) (y : Chunk) :
    (State.advance n0 s i l y).2.clockMem = s.clockMem := by
  induction n0 generalizing s i l y with
    | zero => simp [State.advance]
    | succ n ih =>
      unfold State.advance
      (repeat' split) <;> simp [ih]
@[simp] theorem combineAll_clockMem (n0 : Nat) (s : State) (i : Nat) (l : Desc) (y : Chunk) :
    (State.combineAll n0 s i l y).2.clockMem = s.clockMem := by
  induction n0 generalizing s i l y with
    | zero => simp [State.combineAll]
    | succ n ih =>
      unfold State.combineAll
      (repeat' split) <;> simp [ih]
@[simp] theorem closeWith_clockMem (slot : Nat) (j : RedJob) (c : Chunk) (vals : List Nat) :
    (s.closeWith slot j c vals).clockMem = s.clockMem := by simp [State.closeWith]
@[simp] theorem closeChunk_clockMem (slot : Nat) (j : RedJob) (c : Chunk) :
    (s.closeChunk slot j c).clockMem = s.clockMem := by simp [State.closeChunk]
@[simp] theorem loseStreams_clockMem (slot : Nat) (lost : Nat → Bool) :
    (s.loseStreams slot lost).clockMem = s.clockMem := by simp [State.loseStreams]
@[simp] theorem putChunk_clockMem (slot : Nat) (c : Chunk) : (s.putChunk slot c).clockMem = s.clockMem := by
  unfold State.putChunk
  (repeat' split) <;> simp
@[simp] theorem startRefill_clockMem (slot idx : Nat) : (s.startRefill slot idx).clockMem = s.clockMem := by
  unfold State.startRefill
  (repeat' split) <;> simp
@[simp] theorem timerClose_clockMem (slot idx : Nat) : (s.timerClose slot idx).clockMem = s.clockMem := by
  simp only [State.timerClose]
  (repeat' split) <;> simp
@[simp] theorem spillOut_clockMem (j : RedJob) (gs : List Nat) (slot idx : Nat) (lines : List Nat) :
    (s.spillOut j gs slot idx lines).clockMem = s.clockMem := clockMem_foldl fun u x => by simp
@[simp] theorem spillOne_clockMem (slot : Nat) (c : Chunk) : (s.spillOne slot c).clockMem = s.clockMem := by
  unfold State.spillOne
  split <;> simp
@[simp] theorem findGrans_clockMem (n0 : Nat) (s : State) (i j a : Nat) :
    (State.findGrans n0 s i j a).2.clockMem = s.clockMem := by
  induction n0 generalizing s i j a with
    | zero => simp [State.findGrans]
    | succ n ih =>
      unfold State.findGrans
      (repeat' split) <;> simp [ih]
@[simp] theorem jobHitch_clockMem (j : RedJob) : (s.jobHitch j).clockMem = s.clockMem := by simp [State.jobHitch]
@[simp] theorem endJob_clockMem (slot : Nat) : (s.endJob slot).clockMem = s.clockMem := by
  unfold State.endJob
  (repeat' split) <;> simp
@[simp] theorem jobSettle_clockMem (slot : Nat) : (s.jobSettle slot).clockMem = s.clockMem := by
  unfold State.jobSettle
  (repeat' split) <;> simp
@[simp] theorem chunkSettle_clockMem (slot idx : Nat) : (s.chunkSettle slot idx).clockMem = s.clockMem := by
  unfold State.chunkSettle
  (repeat' split) <;> simp
@[simp] theorem redSettle_clockMem : s.redSettle.clockMem = s.clockMem := by simp [State.redSettle]
@[simp] theorem egressStep_clockMem : s.egressStep.clockMem = s.clockMem := by simp [State.egressStep]
@[simp] theorem redFeed_clockMem : s.redFeed.clockMem = s.clockMem := by simp [State.redFeed]
@[simp] theorem outputChunk_clockMem (slot idx : Nat) : (s.outputChunk slot idx).clockMem = s.clockMem := by
  unfold State.outputChunk
  (repeat' split) <;> simp
@[simp] theorem closeJob_clockMem (slot : Nat) (parked : Bool) : (s.closeJob slot parked).clockMem = s.clockMem := by
  unfold State.closeJob
  (repeat' split) <;> simp
@[simp] theorem redPark_clockMem : s.redPark.clockMem = s.clockMem := by simp [State.redPark]
@[simp] theorem cancelJob_clockMem (slot : Nat) : (s.cancelJob slot).clockMem = s.clockMem := by simp [State.cancelJob]
@[simp] theorem mirrorOut_clockMem (f : NocFlit) : (s.mirrorOut f).2.clockMem = s.clockMem := by
  unfold State.mirrorOut
  (repeat' split) <;> simp
@[simp] theorem truncate_clockMem (t : Stream) : (s.truncate t).clockMem = s.clockMem := by
  simp only [State.truncate]
  (repeat' split) <;> simp
@[simp] theorem admitHead_clockMem (rx : Bool) (key : List Nat) (f : NocFlit) (slot : Nat) (d : Desc) (ch : Chunk)
    (fresh : Bool) :
    (s.admitHead rx key f slot d ch fresh).clockMem = s.clockMem :=
  by
  simp only [State.admitHead]
  (repeat' split) <;> simp
@[simp] theorem acceptHead_clockMem (rx : Bool) (key : List Nat) (f : NocFlit) (slot : Nat) (j : RedJob) :
    (s.acceptHead rx key f slot j).clockMem = s.clockMem :=
  by
  simp only [State.acceptHead]
  (repeat' split) <;> simp
@[simp] theorem joinData_clockMem (t : Stream) (f : NocFlit) (slot : Nat) (j : RedJob) (c : Chunk) (rank : Nat)
    (img : List (BitVec 512)) (last : Bool) :
    (s.joinData t f slot j c rank img last).clockMem = s.clockMem :=
  by
  simp only [State.joinData]
  (repeat' split) <;> simp
@[simp] theorem takeData_clockMem (t : Stream) (f : NocFlit) : (s.takeData t f).clockMem = s.clockMem := by
  simp only [State.takeData]
  (repeat' split) <;> simp
@[simp] theorem takeHead_clockMem (rx : Bool) (f : NocFlit) : (s.takeHead rx f).clockMem = s.clockMem := by
  simp only [State.takeHead]
  (repeat' split) <;> simp
@[simp] theorem heldFlit_clockMem (rx : Bool) (key : List Nat) (s : State) (f : NocFlit) :
    (State.heldFlit rx key s f).clockMem = s.clockMem := by
  unfold State.heldFlit
  split <;> simp
@[simp] theorem applyHeld_clockMem (slot : Nat) (h : PreHeld) : (s.applyHeld slot h).clockMem = s.clockMem := by
  have k : ∀ (key : List Nat) (u : State), (h.data.foldl (State.heldFlit h.rx key) u).clockMem = u.clockMem :=
    fun key u => clockMem_foldl fun u x => heldFlit_clockMem ..
  unfold State.applyHeld
  split
  · rfl
  · dsimp only
    (repeat' split) <;> simp [k]

/-! ### Ladder -/

@[simp] theorem sendTrain_clockMem (phase braid attempt : Nat) (fields : List (Nat × Nat × Nat)) :
    (s.sendTrain phase braid attempt fields).clockMem = s.clockMem := by simp [State.sendTrain]
@[simp] theorem forgetTrain_clockMem (braid : Nat) (phases : List Nat) :
    (s.forgetTrain braid phases).clockMem = s.clockMem := by simp [State.forgetTrain]
@[simp] theorem beginDetect_clockMem (b : Fin 8) (attempt : Nat) :
    (s.beginDetect b attempt).clockMem = s.clockMem := by simp [State.beginDetect]
@[simp] theorem postRun_clockMem (b : Fin 8) : (s.postRun b).clockMem = s.clockMem := by
  unfold State.postRun
  (repeat' split) <;> simp
@[simp] theorem quietBraid_clockMem (b : Fin 8) : (s.quietBraid b).clockMem = s.clockMem := by simp [State.quietBraid]
@[simp] theorem beginRetrain_clockMem (b : Fin 8) (revive : Bool) :
    (s.beginRetrain b revive).clockMem = s.clockMem := by simp [State.beginRetrain]
@[simp] theorem startPortRetrain_clockMem : s.startPortRetrain.clockMem = s.clockMem := by simp [State.startPortRetrain]
@[simp] theorem startBelay_clockMem (case : Nat) : (s.startBelay case).clockMem = s.clockMem := by simp [State.startBelay]
@[simp] theorem endBelay_clockMem (case : Nat) : (s.endBelay case).clockMem = s.clockMem := by simp [State.endBelay]
@[simp] theorem judgeDown_clockMem : s.judgeDown.clockMem = s.clockMem := by
  simp only [State.judgeDown]
  (repeat' split) <;> simp
@[simp] theorem checkDown_clockMem : s.checkDown.clockMem = s.clockMem := by simp [State.checkDown]
@[simp] theorem retireStrands_clockMem (dir : Nat) (b : Fin 8) :
    (s.retireStrands dir b).clockMem = s.clockMem := by simp [State.retireStrands]
@[simp] theorem retireDir_clockMem (dir : Nat) (b : Fin 8) : (s.retireDir dir b).clockMem = s.clockMem := by
  unfold State.retireDir
  split
  · rfl
  · dsimp only
    (repeat' split) <;> simp
@[simp] theorem sendFinal_clockMem (b : Fin 8) : (s.sendFinal b).clockMem = s.clockMem := by
  unfold State.sendFinal
  (repeat' split) <;> simp
@[simp] theorem sendFinals_clockMem : s.sendFinals.clockMem = s.clockMem := by simp [State.sendFinals]
@[simp] theorem failDir_clockMem (dir : Nat) (b : Fin 8) : (s.failDir dir b).clockMem = s.clockMem := by
  simp only [State.failDir]
  (repeat' split) <;> simp
@[simp] theorem failRetrain_clockMem (b : Fin 8) (tx rx : Bool) :
    (s.failRetrain b tx rx).clockMem = s.clockMem := by simp [State.failRetrain]
@[simp] theorem settleRetrains_clockMem (b : Fin 8) :
    (s.settleRetrains b).clockMem = s.clockMem := by simp [State.settleRetrains]
@[simp] theorem failEarly_clockMem (b : Fin 8) : (s.failEarly b).clockMem = s.clockMem := by
  simp only [State.failEarly]
  (repeat' split) <;> simp
@[simp] theorem startRetrain_clockMem (b : Fin 8) (revive : Bool) :
    (s.startRetrain b revive).clockMem = s.clockMem := by simp [State.startRetrain]
@[simp] theorem startReplay_clockMem (b : Fin 8) (frm : BitVec 16) : (s.startReplay b frm).clockMem = s.clockMem := by
  simp only [State.startReplay]
  (repeat' split) <;> simp
@[simp] theorem resendAll_clockMem (b : Fin 8) : (s.resendAll b).clockMem = s.clockMem := by simp [State.resendAll]

/-! ### HitchOps -/

@[simp] theorem modHitch_clockMem (i : Nat) (f : Hitch → Hitch) :
    (s.modHitch i f).clockMem = s.clockMem := by simp [State.modHitch]
@[simp] theorem htEgress_clockMem (f : NocFlit) : (s.htEgress f).clockMem = s.clockMem := by simp [State.htEgress]
@[simp] theorem busWake_clockMem (core thread cause : Nat) :
    (s.busWake core thread cause).clockMem = s.clockMem := by simp [State.busWake]
@[simp] theorem issueWakes_clockMem (l : List Wake) : (s.issueWakes l).clockMem = s.clockMem := by
  unfold State.issueWakes
  refine (clockMem_foldl fun u w => ?_).trans (by simp)
  split <;> simp
@[simp] theorem sendWakes_clockMem (l : List Wake) : (s.sendWakes l).clockMem = s.clockMem := by
  unfold State.sendWakes
  split <;> simp
@[simp] theorem onePclk_clockMem (work : State → State) (hwork : ∀ u, (work u).clockMem = u.clockMem) :
    (s.onePclk work).clockMem = s.clockMem := by simp [State.onePclk, hwork]
@[simp] theorem evalWaiters_clockMem (i : Nat) : (s.evalWaiters i).clockMem = s.clockMem := by simp [State.evalWaiters]
@[simp] theorem enterWait_clockMem (i die core thread op : Nat) (operand : BitVec 32) (timeout : Nat)
    (desc : Option (RingNo × BitVec 32)) :
    (s.enterWait i die core thread op operand timeout desc).clockMem = s.clockMem :=
  by
  unfold State.enterWait
  (repeat' split) <;> simp
@[simp] theorem owe_clockMem (i link : Nat) (realign : Bool) :
    (s.owe i link realign).clockMem = s.clockMem := by simp [State.owe]
@[simp] theorem oweAll_clockMem (i : Nat) (realign : Bool) :
    (s.oweAll i realign).clockMem = s.clockMem := by simp [State.oweAll]
@[simp] theorem feedOne_clockMem : s.feedOne.clockMem = s.clockMem := by
  simp only [State.feedOne]
  (repeat' split) <;> simp
@[simp] theorem htFeed_clockMem : s.htFeed.clockMem = s.clockMem := by simp [State.htFeed]
@[simp] theorem hitchChanged_clockMem (i : Nat) : (s.hitchChanged i).clockMem = s.clockMem := by simp [State.hitchChanged]
@[simp] theorem refuseSig_clockMem (g : Sig) (code : Nat) :
    (s.refuseSig g code).clockMem = s.clockMem := by simp [State.refuseSig]
@[simp] theorem signed_clockMem (l : List Sig) : (s.signed l).clockMem = s.clockMem := by
  unfold State.signed
  (repeat' split) <;> simp
@[simp] theorem counterCycle_clockMem (i : Nat) (l : List Sig) : (s.counterCycle i l).clockMem = s.clockMem := by
  simp only [State.counterCycle]
  (repeat' split) <;> simp
@[simp] theorem barrierCycle_clockMem (i : Nat) (l : List Sig) : (s.barrierCycle i l).1.clockMem = s.clockMem := by
  simp only [State.barrierCycle]
  (repeat' split) <;> simp
@[simp] theorem hitchCycle_clockMem (i : Nat) (l : List Sig) : (s.hitchCycle i l).1.clockMem = s.clockMem := by
  simp only [State.hitchCycle]
  (repeat' split) <;> simp
@[simp] theorem signalCycle_clockMem (new : List (NocFlit × Bool)) :
    (s.signalCycle new).clockMem = s.clockMem := by simp [State.signalCycle]
@[simp] theorem abortAll_clockMem (i : Nat) : (s.abortAll i).clockMem = s.clockMem := by simp [State.abortAll]
@[simp] theorem resetHitch_clockMem (i : Nat) : (s.resetHitch i).clockMem = s.clockMem := by simp [State.resetHitch]
@[simp] theorem resetGroups_clockMem (gs : List Nat) : (s.resetGroups gs).clockMem = s.clockMem := by
  simp only [State.resetGroups]
  (repeat' split) <;> simp
@[simp] theorem startSweep_clockMem : s.startSweep.clockMem = s.clockMem := by simp [State.startSweep]
@[simp] theorem blockHitch_clockMem (i : Nat) (f : NocFlit) :
    (s.blockHitch i f).clockMem = s.clockMem := by simp [State.blockHitch]
@[simp] theorem poisonHitch_clockMem (f : NocFlit) : (s.poisonHitch f).clockMem = s.clockMem := by simp [State.poisonHitch]
@[simp] theorem badHitch_clockMem : s.badHitch.clockMem = s.clockMem := by simp [State.badHitch]

end Sys2Proof.Machine
end

section
/-!
LEMMAS. The operations of the link, the power states, start-up, the relay of the serial memory and lashing leave the count of PCLK
and the serial memory.
-/
namespace Sys2Proof.Machine

variable (s : State)

/-! ### Line -/

@[simp] theorem countWord_clockMem (b : Fin 8) (map : List Nat) (d : Decoded) :
    (s.countWord b map d).clockMem = s.clockMem := by
  simp only [State.countWord]
  (repeat' split) <;> simp
@[simp] theorem takeWords_clockMem (b : Fin 8) (words : List (List (Nat × Nat))) :
    (s.takeWords b words).clockMem = s.clockMem := by simp [State.takeWords]
@[simp] theorem popFlit_clockMem (b : Fin 8) : (s.popFlit b).2.clockMem = s.clockMem := by
  simp only [State.popFlit]
  (repeat' split) <;> simp
@[simp] theorem takeLine_clockMem (b : Fin 8) (rx : LineRx) : (s.takeLine b rx).2.2.clockMem = s.clockMem := by
  simp only [State.takeLine]
  (repeat' split) <;> simp

/-! ### LinkTx -/

@[simp] theorem takeAck_clockMem (r : Fin 8) : (s.takeAck r).2.2.clockMem = s.clockMem := by
  simp only [State.takeAck]
  (repeat' split) <;> simp
@[simp] theorem dueNak_clockMem (b : Fin 8) : (s.dueNak b).clockMem = s.clockMem := by simp [State.dueNak]
@[simp] theorem dueAck_clockMem (b : Fin 8) : (s.dueAck b).clockMem = s.clockMem := by simp [State.dueAck]
@[simp] theorem driveRaw_clockMem (b : Fin 8) (bits : LinkFlit) :
    (s.driveRaw b bits).clockMem = s.clockMem := by simp [State.driveRaw]
@[simp] theorem driveFlit_clockMem (b : Fin 8) (f : LinkFlit) :
    (s.driveFlit b f).clockMem = s.clockMem := by simp [State.driveFlit]
@[simp] theorem skipFlit_clockMem (b : Fin 8) : (s.skipFlit b).clockMem = s.clockMem := by simp [State.skipFlit]
@[simp] theorem sendFrame_clockMem (b r : Fin 8) (ftype : Nat) (seq : BitVec 16) (opcode : Nat) (s0 s1 : NocFlit)
    (v0 v1 : Bool) (digest : Nat) :
    (s.sendFrame b r ftype seq opcode s0 s1 v0 v1 digest).clockMem = s.clockMem := by simp [State.sendFrame]
@[simp] theorem srcPop_clockMem (b v : Fin 8) (src : Nat) : (s.srcPop b v src).2.2.clockMem = s.clockMem := by
  unfold State.srcPop
  (repeat' split) <;> simp
@[simp] theorem fillSlot_clockMem (n0 : Nat) (s : State) (l : Fin 8) : (State.fillSlot n0 s l).2.clockMem = s.clockMem := by
  induction n0 generalizing s l with
    | zero => simp [State.fillSlot]
    | succ n ih =>
      unfold State.fillSlot; dsimp only
      (repeat' split) <;> simp_all
@[simp] theorem granted_clockMem (b : Fin 8) (seq : BitVec 16) (two : Bool) (g : Grant) :
    (s.granted b seq two g).clockMem = s.clockMem := by simp [State.granted]
@[simp] theorem doSwitch_clockMem (b : Fin 8) : (s.doSwitch b).clockMem = s.clockMem := by
  unfold State.doSwitch
  (repeat' split) <;> simp
@[simp] theorem sendNew_clockMem (b : Fin 8) (ftype opcode : Nat) (s0 s1 : NocFlit) (v0 v1 : Bool) (ord : Option Nat) :
    (s.sendNew b ftype opcode s0 s1 v0 v1 ord).clockMem = s.clockMem := by simp [State.sendNew]
@[simp] theorem noteCtl_clockMem (b : Fin 8) (opcode : Nat) (p : NocFlit) (q : BitVec 16) :
    (s.noteCtl b opcode p q).clockMem = s.clockMem := by
  unfold State.noteCtl
  (repeat' split) <;> simp
@[simp] theorem sendControl_clockMem (b : Fin 8) : (s.sendControl b).clockMem = s.clockMem := by
  simp only [State.sendControl]
  (repeat' split) <;> simp
@[simp] theorem sendData_clockMem (b : Fin 8) : (s.sendData b).2.clockMem = s.clockMem := by
  simp only [State.sendData]
  (repeat' split) <;> simp
@[simp] theorem sendIdle_clockMem (b : Fin 8) : (s.sendIdle b).clockMem = s.clockMem := by simp [State.sendIdle]
@[simp] theorem sendOwed_clockMem (b r : Fin 8) : (s.sendOwed b r).clockMem = s.clockMem := by simp [State.sendOwed]
@[simp] theorem resendOne_clockMem (b : Fin 8) (h : Held) : (s.resendOne b h).clockMem = s.clockMem := by simp [State.resendOne]
@[simp] theorem sendFresh_clockMem (b : Fin 8) : (s.sendFresh b).clockMem = s.clockMem := by
  simp only [State.sendFresh]
  (repeat' split) <;> simp
@[simp] theorem sendPeriod_clockMem (b : Fin 8) : (s.sendPeriod b).clockMem = s.clockMem := by
  simp only [State.sendPeriod]
  (repeat' split) <;> simp
@[simp] theorem ctlAcked_clockMem (b : Fin 8) (h : Held) : (s.ctlAcked b h).clockMem = s.clockMem := by
  unfold State.ctlAcked
  (repeat' split) <;> simp
@[simp] theorem freeTo_clockMem (b : Fin 8) (k : BitVec 16) : (s.freeTo b k).clockMem = s.clockMem := by
  simp only [State.freeTo]
  (repeat' split) <;> simp
@[simp] theorem ackOutside_clockMem (w : AckAt) : (s.ackOutside w).clockMem = s.clockMem := by
  unfold State.ackOutside
  (repeat' split) <;> simp
@[simp] theorem applyNak_clockMem (b : Fin 8) (q : BitVec 16) :
    (s.applyNak b q).clockMem = s.clockMem := by simp [State.applyNak]
@[simp] theorem applyAcks_clockMem (b : Fin 8) : (s.applyAcks b).clockMem = s.clockMem := by
  simp only [State.applyAcks]
  (repeat' split) <;> simp

/-! ### LinkRx -/

@[simp] theorem deliver_clockMem (b : Fin 8) (q : BitVec 16) (rel : Time) (bytes : Nat) (f : NocFlit) :
    (s.deliver b q rel bytes f).clockMem = s.clockMem := by simp [State.deliver]
@[simp] theorem takeCtl_clockMem (b : Fin 8) (h : Hdr) (p : NocFlit) :
    (s.takeCtl b h p).clockMem = s.clockMem := by simp [State.takeCtl]
@[simp] theorem dropCtl_clockMem (b : Fin 8) (op : Nat) (p : NocFlit) :
    (s.dropCtl b op p).clockMem = s.clockMem := by simp [State.dropCtl]
@[simp] theorem keepFailed_clockMem (b : Fin 8) (q : BitVec 16) (f : LinkFlit) :
    (s.keepFailed b q f).clockMem = s.clockMem := by simp [State.keepFailed]
@[simp] theorem compareFailed_clockMem (b : Fin 8) (q : BitVec 16) (f : LinkFlit) :
    (s.compareFailed b q f).clockMem = s.clockMem := by
  unfold State.compareFailed
  refine clockMem_foldl fun a c => ?_
  refine clockMem_foldl (s := a) fun u x => ?_
  dsimp only
  split <;> simp
@[simp] theorem switchAt_clockMem (b : Fin 8) (q : BitVec 16) : (s.switchAt b q).clockMem = s.clockMem := by
  unfold State.switchAt
  (repeat' split) <;> simp
@[simp] theorem accept_clockMem (b : Fin 8) (h : Hdr) (f : LinkFlit) (slots : List NocFlit) (bad : Nat) :
    (s.accept b h f slots bad).clockMem = s.clockMem := by simp [State.accept]
@[simp] theorem startWait_clockMem (b : Fin 8) (tentative : Bool) :
    (s.startWait b tentative).clockMem = s.clockMem := by simp [State.startWait]
@[simp] theorem seen_clockMem (b : Fin 8) (q : BitVec 16) : (s.seen b q).clockMem = s.clockMem := by simp [State.seen]
@[simp] theorem crcFailed_clockMem (b : Fin 8) (f : LinkFlit) :
    (s.crcFailed b f).clockMem = s.clockMem := by simp [State.crcFailed]
@[simp] theorem useHeader_clockMem (b : Fin 8) (h : Hdr) : (s.useHeader b h).clockMem = s.clockMem := by simp [State.useHeader]
@[simp] theorem takeUnsequenced_clockMem (b : Fin 8) (h : Hdr) (f : LinkFlit) :
    (s.takeUnsequenced b h f).clockMem = s.clockMem := by simp [State.takeUnsequenced]
@[simp] theorem takeDuplicate_clockMem (b : Fin 8) (h : Hdr) :
    (s.takeDuplicate b h).clockMem = s.clockMem := by simp [State.takeDuplicate]
@[simp] theorem takeSequenced_clockMem (b : Fin 8) (h : Hdr) (f : LinkFlit) :
    (s.takeSequenced b h f).clockMem = s.clockMem := by
  simp only [State.takeSequenced]
  (repeat' split) <;> simp
@[simp] theorem takeFrame_clockMem (b : Fin 8) (f : LinkFlit) :
    (s.takeFrame b f).clockMem = s.clockMem := by simp [State.takeFrame]
@[simp] theorem receiveFlit_clockMem (b : Fin 8) (bits : LinkFlit) (alt : Option LinkFlit) :
    (s.receiveFlit b bits alt).clockMem = s.clockMem := by
  simp only [State.receiveFlit]
  (repeat' split) <;> simp

/-! ### PowerOps -/

@[simp] theorem applyWidth_clockMem (b : Fin 8) : (s.applyWidth b).clockMem = s.clockMem := by simp [State.applyWidth]
@[simp] theorem applyWidths_clockMem : s.applyWidths.clockMem = s.clockMem := by simp [State.applyWidths]
@[simp] theorem runStrands_clockMem (b : Fin 8) : (s.runStrands b).clockMem = s.clockMem := by simp [State.runStrands]
@[simp] theorem clearDoze_clockMem : s.clearDoze.clockMem = s.clockMem := by simp [State.clearDoze]
@[simp] theorem startBurst_clockMem : s.startBurst.clockMem = s.clockMem := by simp [State.startBurst]
@[simp] theorem dozeBraid_clockMem (b : Fin 8) : (s.dozeBraid b).clockMem = s.clockMem := by simp [State.dozeBraid]
@[simp] theorem dozeEnter_clockMem : s.dozeEnter.clockMem = s.clockMem := by simp [State.dozeEnter]
@[simp] theorem dozeLeave_clockMem : s.dozeLeave.clockMem = s.clockMem := by simp [State.dozeLeave]
@[simp] theorem parkDone_clockMem (status result : Nat) : (s.parkDone status result).clockMem = s.clockMem := by
  unfold State.parkDone
  (repeat' split) <;> simp
@[simp] theorem startDrain_clockMem (why : DrainFor) : (s.startDrain why).clockMem = s.clockMem := by simp [State.startDrain]
@[simp] theorem stopDrain_clockMem : s.stopDrain.clockMem = s.clockMem := by simp [State.stopDrain]
@[simp] theorem powerDown_clockMem : s.powerDown.clockMem = s.clockMem := by simp [State.powerDown]
@[simp] theorem switchOff_clockMem : s.switchOff.clockMem = s.clockMem := by
  simp only [State.switchOff]
  (repeat' split) <;> simp
@[simp] theorem enterOff_clockMem : s.enterOff.clockMem = s.clockMem := by simp [State.enterOff]
@[simp] theorem parkNow_clockMem : s.parkNow.clockMem = s.clockMem := by simp [State.parkNow]
@[simp] theorem sendReset_clockMem (cause : BitVec 4) (drain : Bool) :
    (s.sendReset cause drain).clockMem = s.clockMem := by simp [State.sendReset]
@[simp] theorem resetAfterDrain_clockMem : s.resetAfterDrain.clockMem = s.clockMem := by simp [State.resetAfterDrain]
@[simp] theorem askReset_clockMem (cause : BitVec 4) (drain : Bool) :
    (s.askReset cause drain).clockMem = s.clockMem := by simp [State.askReset]
@[simp] theorem parkBraid_clockMem (b : Fin 8) : (s.parkBraid b).clockMem = s.clockMem := by simp [State.parkBraid]
@[simp] theorem drainStep_clockMem : s.drainStep.clockMem = s.clockMem := by simp [State.drainStep]
@[simp] theorem applyTarget_clockMem (st : PwrState) (w : Nat) : (s.applyTarget st w).clockMem = s.clockMem := by
  unfold State.applyTarget
  (repeat' split) <;> simp
@[simp] theorem leadTarget_clockMem : s.leadTarget.clockMem = s.clockMem := by simp [State.leadTarget]
@[simp] theorem sendCap_clockMem : s.sendCap.clockMem = s.clockMem := by simp [State.sendCap]
@[simp] theorem setCap_clockMem (c : PwrState × Nat) : (s.setCap c).clockMem = s.clockMem := by simp [State.setCap]
@[simp] theorem recap_clockMem : s.recap.clockMem = s.clockMem := by simp [State.recap]
@[simp] theorem capStep_clockMem : s.capStep.clockMem = s.clockMem := by
  simp only [State.capStep]
  (repeat' split) <;> simp
@[simp] theorem capAtOpen_clockMem : s.capAtOpen.clockMem = s.clockMem := by simp [State.capAtOpen]
@[simp] theorem abandonPark_clockMem : s.abandonPark.clockMem = s.clockMem := by simp [State.abandonPark]
@[simp] theorem flushOne_clockMem (case : Nat) (f : NocFlit) :
    (s.flushOne case f).clockMem = s.clockMem := by simp [State.flushOne]
@[simp] theorem flushPool_clockMem (case : Nat) (v : Fin 8) :
    (s.flushPool case v).clockMem = s.clockMem := by simp [State.flushPool]
@[simp] theorem flushLinks_clockMem (case : Nat) : (s.flushLinks case).clockMem = s.clockMem := by simp [State.flushLinks]
@[simp] theorem flushHeld_clockMem (case : Nat) (b : Fin 8) :
    (s.flushHeld case b).clockMem = s.clockMem := by simp [State.flushHeld]
@[simp] theorem flushCase_clockMem (case : Nat) : (s.flushCase case).clockMem = s.clockMem := by simp [State.flushCase]
@[simp] theorem flushStep_clockMem : s.flushStep.clockMem = s.clockMem := by simp [State.flushStep]
@[simp] theorem resumeStep_clockMem : s.resumeStep.clockMem = s.clockMem := by
  simp only [State.resumeStep]
  (repeat' split) <;> simp
@[simp] theorem powerStep_clockMem : s.powerStep.clockMem = s.clockMem := by simp [State.powerStep]

/-! ### StartOps -/

@[simp] theorem startFail_clockMem (code : Nat) : (s.startFail code).clockMem = s.clockMem := by simp [State.startFail]
@[simp] theorem reportCode_clockMem (dir : Nat) (b : Fin 8) (p k : Nat) (retired : Bool) :
    (s.reportCode dir b p k retired).clockMem = s.clockMem := by simp [State.reportCode]
@[simp] theorem lapseDetect_clockMem (dir : Nat) (b : Fin 8) (p : Nat) : (s.lapseDetect dir b p).clockMem = s.clockMem := by
  simp only [State.lapseDetect]
  (repeat' split) <;> simp
@[simp] theorem classRx_clockMem (l : Heards) (tile b : Fin 8) (p : Nat) :
    (s.classRx l tile b p).clockMem = s.clockMem := by simp [State.classRx]
@[simp] theorem endObserve_clockMem (l : Heards) (b : Fin 8) (attempt : Nat) :
    (s.endObserve l b attempt).clockMem = s.clockMem := by
  unfold State.endObserve
  (repeat' split) <;> simp
@[simp] theorem classTx_clockMem (l : List (Fin 8 × Nat × TxObs)) (b : Fin 8) :
    (s.classTx l b).clockMem = s.clockMem := by simp [State.classTx]
@[simp] theorem loadMap_clockMem (dir : Nat) (b : Fin 8) (m : Nat) :
    (s.loadMap dir b m).clockMem = s.clockMem := by simp [State.loadMap]
@[simp] theorem excludeTx_clockMem (b : Fin 8) (p : Nat) : (s.excludeTx b p).clockMem = s.clockMem := by
  simp only [State.excludeTx]
  (repeat' split) <;> simp
@[simp] theorem useResult_clockMem (b : Fin 8) : (s.useResult b).clockMem = s.clockMem := by simp [State.useResult]
@[simp] theorem noteResult_clockMem (b : Fin 8) (far attempt : Nat) :
    (s.noteResult b far attempt).clockMem = s.clockMem := by simp [State.noteResult]
@[simp] theorem observeTx_clockMem (l : List (Fin 8 × Nat × TxObs)) (b : Fin 8) :
    (s.observeTx l b).clockMem = s.clockMem := by simp [State.observeTx]
@[simp] theorem sendMap_clockMem (b : Fin 8) : (s.sendMap b).clockMem = s.clockMem := by simp [State.sendMap]
@[simp] theorem retireStart_clockMem (dir : Nat) (b : Fin 8) :
    (s.retireStart dir b).clockMem = s.clockMem := by simp [State.retireStart]
@[simp] theorem dropEmpty_clockMem (b : Fin 8) : (s.dropEmpty b).clockMem = s.clockMem := by simp [State.dropEmpty]
@[simp] theorem beginTraining_clockMem (b : Fin 8) (attempt : Nat) : (s.beginTraining b attempt).clockMem = s.clockMem := by
  unfold State.beginTraining
  simp only [modTx_clockMem, modRx_clockMem]
  refine clockMem_foldl fun u q => ?_
  (repeat' split) <;> simp
@[simp] theorem enterTrain_clockMem : s.enterTrain.clockMem = s.clockMem := by simp [State.enterTrain]
@[simp] theorem tryTrain_clockMem : s.tryTrain.clockMem = s.clockMem := by simp [State.tryTrain]
@[simp] theorem trySplice_clockMem : s.trySplice.clockMem = s.clockMem := by simp [State.trySplice]
@[simp] theorem enterDetect_clockMem : s.enterDetect.clockMem = s.clockMem := by simp [State.enterDetect]
@[simp] theorem enterCalibrate_clockMem : s.enterCalibrate.clockMem = s.clockMem := by simp [State.enterCalibrate]
@[simp] theorem tryCalibrate_clockMem : s.tryCalibrate.clockMem = s.clockMem := by simp [State.tryCalibrate]
@[simp] theorem sendBeacon_clockMem : s.sendBeacon.clockMem = s.clockMem := by simp [State.sendBeacon]
@[simp] theorem classFail_clockMem (code : Nat) : (s.classFail code).clockMem = s.clockMem := by simp [State.classFail]
@[simp] theorem enterNegotiate_clockMem : s.enterNegotiate.clockMem = s.clockMem := by simp [State.enterNegotiate]
@[simp] theorem tryNegotiate_clockMem : s.tryNegotiate.clockMem = s.clockMem := by simp [State.tryNegotiate]
@[simp] theorem enterDiscover_clockMem : s.enterDiscover.clockMem = s.clockMem := by simp [State.enterDiscover]
@[simp] theorem metersAtOpen_clockMem : s.metersAtOpen.clockMem = s.clockMem := by simp [State.metersAtOpen]
@[simp] theorem enterOpen_clockMem : s.enterOpen.clockMem = s.clockMem := by simp [State.enterOpen]
@[simp] theorem parkSpare_clockMem : s.parkSpare.clockMem = s.clockMem := by simp [State.parkSpare]
@[simp] theorem enterLash_clockMem : s.enterLash.clockMem = s.clockMem := by simp [State.enterLash]
@[simp] theorem announce_clockMem (ack : Bool) : (s.announce ack).clockMem = s.clockMem := by simp [State.announce]

/-! ### SerialOps -/

@[simp] theorem sendSmRead_clockMem (tag addr len : Nat) :
    (s.sendSmRead tag addr len).clockMem = s.clockMem := by simp [State.sendSmRead]
@[simp] theorem smRead_clockMem (slot : Nat) (whole : Bool) (addr len reissues : Nat) :
    (s.smRead slot whole addr len reissues).clockMem = s.clockMem := by simp [State.smRead]
@[simp] theorem applyProfile_clockMem : s.applyProfile.clockMem = s.clockMem := by
  unfold State.applyProfile
  (repeat' split) <;> simp
@[simp] theorem applyMapRec_clockMem : s.applyMapRec.clockMem = s.clockMem := by
  unfold State.applyMapRec
  (repeat' split) <;> simp
@[simp] theorem applyParties_clockMem : s.applyParties.clockMem = s.clockMem := by
  unfold State.applyParties
  (repeat' split) <;> simp
@[simp] theorem checkParties_clockMem : s.checkParties.clockMem = s.clockMem := by simp [State.checkParties]
@[simp] theorem stageValue_clockMem (off : Nat) (v : Reg) :
    (s.stageValue off v).clockMem = s.clockMem := by simp [State.stageValue]
@[simp] theorem applyStaging_clockMem (j : Nat) : (s.applyStaging j).clockMem = s.clockMem := by
  unfold State.applyStaging
  (repeat' split) <;> simp
@[simp] theorem applyTset_clockMem : s.applyTset.clockMem = s.clockMem := by
  unfold State.applyTset
  (repeat' split) <;> simp
@[simp] theorem loadFibreTrims_clockMem : s.loadFibreTrims.clockMem = s.clockMem := by simp [State.loadFibreTrims]
@[simp] theorem applyHeader_clockMem : s.applyHeader.clockMem = s.clockMem := by
  unfold State.applyHeader
  (repeat' split) <;> simp
@[simp] theorem finishConfig_clockMem : s.finishConfig.clockMem = s.clockMem := by simp [State.finishConfig]
@[simp] theorem setSlot_clockMem (j v : Nat) : (s.setSlot j v).clockMem = s.clockMem := by simp [State.setSlot]
@[simp] theorem reject_clockMem : s.reject.clockMem = s.clockMem := by simp [State.reject]
@[simp] theorem startHeads_clockMem (j : Nat) : (s.startHeads j).clockMem = s.clockMem := by simp [State.startHeads]
@[simp] theorem startType_clockMem (n0 : Nat) (s : State) (i : Nat) : (State.startType n0 s i).clockMem = s.clockMem := by
  induction n0 generalizing s i with
    | zero => simp [State.startType]
    | succ n ih =>
      unfold State.startType
      (repeat' split) <;> simp [ih]
@[simp] theorem nextType_clockMem (j : Nat) : (s.nextType j).clockMem = s.clockMem := by simp [State.nextType]
@[simp] theorem tryNext_clockMem (j : Nat) : (s.tryNext j).clockMem = s.clockMem := by
  unfold State.tryNext
  (repeat' split) <;> simp
@[simp] theorem judgeHead_clockMem (j : Nat) (head : Option (List (BitVec 8))) :
    (s.judgeHead j head).2.clockMem = s.clockMem := by
  simp only [State.judgeHead]
  (repeat' split) <;> simp
@[simp] theorem headsDone_clockMem (j : Nat) : (s.headsDone j).clockMem = s.clockMem := by simp [State.headsDone]
@[simp] theorem wholeDone_clockMem (j slot : Nat) (bytes : Option (List (BitVec 8))) :
    (s.wholeDone j slot bytes).clockMem = s.clockMem := by
  unfold State.wholeDone
  (repeat' split) <;> simp
@[simp] theorem readDone_clockMem (r : SmRead) (bytes : Option (List (BitVec 8))) :
    (s.readDone r bytes).clockMem = s.clockMem := by
  simp only [State.readDone]
  (repeat' split) <;> simp
@[simp] theorem enterConfig_clockMem : s.enterConfig.clockMem = s.clockMem := by simp [State.enterConfig]
@[simp] theorem completeSideband_clockMem : s.completeSideband.clockMem = s.clockMem := by simp [State.completeSideband]
@[simp] theorem trySideband_clockMem : s.trySideband.clockMem = s.clockMem := by simp [State.trySideband]
@[simp] theorem readPartiesEarly_clockMem : s.readPartiesEarly.clockMem = s.clockMem := by simp [State.readPartiesEarly]
@[simp] theorem tryIdent_clockMem : s.tryIdent.clockMem = s.clockMem := by simp [State.tryIdent]

/-! ### Hitch -/

@[simp] theorem screenSignal_clockMem (rx : Bool) (f : NocFlit) : (s.screenSignal rx f).1.clockMem = s.clockMem := by
  simp only [State.screenSignal]
  (repeat' split) <;> simp
@[simp] theorem screenAll_clockMem (l : List (Bool × NocFlit)) (s : State) : (State.screenAll l s).1.clockMem = s.clockMem := by
  induction l generalizing s with
  | nil => rfl
  | cons p l ih =>
    obtain ⟨rx, f⟩ := p
    unfold State.screenAll
    split
    · simp [ih]
    · exact ih _
@[simp] theorem takeWait_clockMem (rx : Bool) (f : NocFlit) :
    (s.takeWait rx f).clockMem = s.clockMem := by simp [State.takeWait]
@[simp] theorem takeUpdate_clockMem (rx : Bool) (f : NocFlit) :
    (s.takeUpdate rx f).clockMem = s.clockMem := by simp [State.takeUpdate]
@[simp] theorem htDesc_clockMem (r : RingNo) (i : BitVec 32) (op : Nat) (work : Nat → Desc → State → State)
    (hwork : ∀ x y u, (work x y u).clockMem = u.clockMem) :
    (s.htDesc r i op work).clockMem = s.clockMem := by simp_all [State.htDesc]
@[simp] theorem latch_clockMem (l : List (Nat × Nat)) : (s.latch l).clockMem = s.clockMem := by simp [State.latch]
@[simp] theorem copyHitch_clockMem (v : Reg) : (s.copyHitch v).clockMem = s.clockMem := by simp [State.copyHitch]
@[simp] theorem copyWaiter_clockMem (v : Reg) : (s.copyWaiter v).clockMem = s.clockMem := by
  simp only [State.copyWaiter]
  (repeat' split) <;> simp

/-! ### LashOps -/

@[simp] theorem logViolation_clockMem (a : Access) (off : Nat) (value : Reg) (cause : Nat) :
    (s.logViolation a off value cause).clockMem = s.clockMem := by simp [State.logViolation]
@[simp] theorem fenceDone_clockMem (status detail : Nat) :
    (s.fenceDone status detail).clockMem = s.clockMem := by simp [State.fenceDone]
@[simp] theorem endLash_clockMem (code : Nat) : (s.endLash code).clockMem = s.clockMem := by simp [State.endLash]
@[simp] theorem lashTouched_clockMem : s.lashTouched.clockMem = s.clockMem := by simp [State.lashTouched]
@[simp] theorem enterFenced_clockMem (traffic : Bool) :
    (s.enterFenced traffic).clockMem = s.clockMem := by simp [State.enterFenced]
@[simp] theorem leaveFenced_clockMem : s.leaveFenced.clockMem = s.clockMem := by simp [State.leaveFenced]
@[simp] theorem applyOverride_clockMem (b : Fin 8) : (s.applyOverride b).clockMem = s.clockMem := by simp [State.applyOverride]
@[simp] theorem applyItems_clockMem (items : Tbl Reg) : (s.applyItems items).clockMem = s.clockMem := by simp [State.applyItems]
@[simp] theorem applyLocal_clockMem : s.applyLocal.clockMem = s.clockMem := by simp [State.applyLocal]
@[simp] theorem withdraw_clockMem (cause : Nat) : (s.withdraw cause).clockMem = s.clockMem := by simp [State.withdraw]
@[simp] theorem lashSwitch_clockMem : s.lashSwitch.clockMem = s.clockMem := by simp [State.lashSwitch]
@[simp] theorem lashStep_clockMem : s.lashStep.clockMem = s.clockMem := by simp [State.lashStep]
@[simp] theorem tryMatch_clockMem : s.tryMatch.clockMem = s.clockMem := by
  unfold State.tryMatch
  (repeat' split) <;> simp
@[simp] theorem linkStart_clockMem : s.linkStart.clockMem = s.clockMem := by simp [State.linkStart]
@[simp] theorem takeCommit_clockMem : s.takeCommit.clockMem = s.clockMem := by simp [State.takeCommit]
@[simp] theorem portStep_clockMem : s.portStep.clockMem = s.clockMem := by simp [State.portStep]

end Sys2Proof.Machine
end

section
/-!
LEMMAS. The operations the commands are built from leave the count of PCLK and the serial memory.
-/
namespace Sys2Proof.Machine

variable (s : State)

/-! ### NocCmds -/

@[simp] theorem ringTake_clockMem (f : NocFlit) : (s.ringTake f).clockMem = s.clockMem := by simp [State.ringTake]
@[simp] theorem redTake_clockMem (rx : Bool) (f : NocFlit) : (s.redTake rx f).clockMem = s.clockMem := by simp [State.redTake]
@[simp] theorem htTake_clockMem (rx : Bool) (f : NocFlit) : (s.htTake rx f).clockMem = s.clockMem := by simp [State.htTake]
@[simp] theorem engineTake_clockMem (rx : Bool) (f : NocFlit) (t : State) (h : s.engineTake rx f = some t) :
    t.clockMem = s.clockMem := by
  unfold State.engineTake at h
  dsimp only at h
  split at h
  · cases h; simp
  · split at h
    · cases h; simp
    · split at h
      · cases h; rfl
      · split at h <;> cases h
        simp
@[simp] theorem takeEligible_clockMem (b : Fin 8) : (s.takeEligible b).clockMem = s.clockMem := by
  refine clockMem_foldl fun u x => ?_
  split
  · split
    · rename_i t h
      simp [engineTake_clockMem u true x.flit t h]
    · rfl
  · rfl
@[simp] theorem endFence_clockMem (b : Fin 8) (x : RxFlit) : (s.endFence b x).clockMem = s.clockMem := by simp [State.endFence]
@[simp] theorem learnRevoked_clockMem (d : Nat) : (s.learnRevoked d).clockMem = s.clockMem := by
  simp only [State.learnRevoked]
  (repeat' split) <;> simp
@[simp] theorem ingress_clockMem (f : NocFlit) (assigned : Bool) : (s.ingress f assigned).clockMem = s.clockMem := by
  unfold State.ingress
  dsimp only
  split
  · simp
  · split
    · simp
    · split
      · rename_i t h
        simpa using engineTake_clockMem _ false f t h
      · simp
@[simp] theorem takeCredits_clockMem (v : Fin 8) (n : Nat) :
    (s.takeCredits v n).clockMem = s.clockMem := by simp [State.takeCredits]
@[simp] theorem creditAck_clockMem : s.creditAck.clockMem = s.clockMem := by simp [State.creditAck]
@[simp] theorem auditStart_clockMem : s.auditStart.clockMem = s.clockMem := by simp [State.auditStart]
@[simp] theorem auditIn_clockMem (v : Fin 8) (snap cnt : Nat) :
    (s.auditIn v snap cnt).clockMem = s.clockMem := by simp [State.auditIn]
@[simp] theorem auditEg_clockMem (v : Fin 8) (snap cnt : Nat) :
    (s.auditEg v snap cnt).clockMem = s.clockMem := by simp [State.auditEg]
@[simp] theorem auditAnswer_clockMem (cnt : Nat) : (s.auditAnswer cnt).clockMem = s.clockMem := by
  unfold State.auditAnswer
  (repeat' split) <;> simp

/-! ### TrainOps -/

@[simp] theorem modTrain_clockMem (b : Fin 8) (f : Training → Training) :
    (s.modTrain b f).clockMem = s.clockMem := by simp [State.modTrain]
@[simp] theorem modTrain_agent (b : Fin 8) (f : Training → Training) : (s.modTrain b f).agent = s.agent := rfl
@[simp] theorem sendTrainDone_clockMem (b : Fin 8) (ok : Bool) (reason : Nat) :
    (s.sendTrainDone b ok reason).clockMem = s.clockMem := by simp [State.sendTrainDone]
@[simp] theorem startStream_clockMem (b : Fin 8) : (s.startStream b).clockMem = s.clockMem := by simp [State.startStream]
@[simp] theorem trainedNow_clockMem (b : Fin 8) : (s.trainedNow b).clockMem = s.clockMem := by simp [State.trainedNow]
@[simp] theorem trainFailed_clockMem (b : Fin 8) (reason : Nat) :
    (s.trainFailed b reason).clockMem = s.clockMem := by simp [State.trainFailed]
@[simp] theorem growF_clockMem (flight : Nat) : (s.growF flight).clockMem = s.clockMem := by simp [State.growF]
@[simp] theorem setPad_clockMem (b : Fin 8) : (s.setPad b).clockMem = s.clockMem := by simp [State.setPad]
@[simp] theorem settleTrain_clockMem : s.settleTrain.clockMem = s.clockMem := by simp [State.settleTrain]
@[simp] theorem sendTraining_clockMem (b : Fin 8) (at_ : Nat) :
    (s.sendTraining b at_).clockMem = s.clockMem := by simp [State.sendTraining]
@[simp] theorem sendMeasure_clockMem (b : Fin 8) (at_ : Nat) :
    (s.sendMeasure b at_).clockMem = s.clockMem := by simp [State.sendMeasure]
@[simp] theorem takeEcho_clockMem (b : Fin 8) (f : LinkFlit) (at_ : Nat) : (s.takeEcho b f at_).clockMem = s.clockMem := by
  simp only [State.takeEcho]
  (repeat' split) <;> simp
@[simp] theorem alignAlone_clockMem (b : Fin 8) : (s.alignAlone b).clockMem = s.clockMem := by simp [State.alignAlone]
@[simp] theorem takeTrainFrame_clockMem (b : Fin 8) (f : LinkFlit) (at_ : Nat) :
    (s.takeTrainFrame b f at_).clockMem = s.clockMem :=
  by
  simp only [State.takeTrainFrame]
  (repeat' split) <;> simp
@[simp] theorem findFlit_clockMem (b : Fin 8) : (s.findFlit b).clockMem = s.clockMem := modRx_clockMem _ _ _
@[simp] theorem trainLine_clockMem (b : Fin 8) (rx : LineRx) : (s.trainLine b rx).2.clockMem = s.clockMem := by
  simp only [State.trainLine]
  (repeat' split) <;> simp
@[simp] theorem trainLink_clockMem (b : Fin 8) (rx : LineRx) (at_ : Nat) : (s.trainLink b rx at_).clockMem = s.clockMem := by
  simp only [State.trainLink]
  (repeat' split) <;> simp

/-! ### BightOps -/

@[simp] theorem bightCount_clockMem (k errors bits : Nat) :
    (s.bightCount k errors bits).clockMem = s.clockMem := by simp [State.bightCount]
@[simp] theorem turnBack_clockMem (b : Fin 8) : (s.turnBack b).clockMem = s.clockMem := by
  simp only [State.turnBack]
  (repeat' split) <;> simp
@[simp] theorem sendPattern_clockMem (b : Fin 8) : (s.sendPattern b).clockMem = s.clockMem := by simp [State.sendPattern]
@[simp] theorem freezeCounts_clockMem (counts : List (Fin 8 × Nat × Nat × Nat)) :
    (s.freezeCounts counts).clockMem = s.clockMem := by
  unfold State.freezeCounts
  simp only [clockMem_mk, clockMem_fold, clockMem_ite]
  split
  · rfl
  · exact clockMem_foldl fun u c => by split <;> simp
@[simp] theorem takeOut_clockMem (m : BitVec 8) : (s.takeOut m).clockMem = s.clockMem := by simp [State.takeOut]
@[simp] theorem putBack_clockMem (b : Fin 8) : (s.putBack b).clockMem = s.clockMem := by simp [State.putBack]
@[simp] theorem sendBightReq_clockMem (b : Fin 8) (enter : Bool) :
    (s.sendBightReq b enter).clockMem = s.clockMem := by simp [State.sendBightReq]
@[simp] theorem sendBightAck_clockMem (b : Fin 8) (enter refused : Bool) :
    (s.sendBightAck b enter refused).clockMem = s.clockMem := by simp [State.sendBightAck]
@[simp] theorem bightStep_clockMem : s.bightStep.clockMem = s.clockMem := by simp [State.bightStep]
@[simp] theorem bightRun_clockMem (v : Reg) : (s.bightRun v).clockMem = s.clockMem := by simp [State.bightRun]
@[simp] theorem bightEnds_clockMem (b : Fin 8) : (s.bightEnds b).clockMem = s.clockMem := by simp [State.bightEnds]
@[simp] theorem bightStop_clockMem (counts : List (Fin 8 × Nat × Nat × Nat)) :
    (s.bightStop counts).clockMem = s.clockMem := by simp [State.bightStop]
@[simp] theorem bightDrop_clockMem (b : Fin 8) : (s.bightDrop b).clockMem = s.clockMem := by
  simp only [State.bightDrop]
  (repeat' split) <;> simp

/-! ### Link -/

@[simp] theorem loopBack_clockMem (b : Fin 8) (rx : LineRx) : (s.loopBack b rx).clockMem = s.clockMem := by
  simp only [State.loopBack]
  (repeat' split) <;> simp
@[simp] theorem frameIn_clockMem (b : Fin 8) (rx : LineRx) : (s.frameIn b rx).clockMem = s.clockMem := by
  simp only [State.frameIn]
  (repeat' split) <;> simp
@[simp] theorem sendTrained_clockMem (b : Fin 8) : (s.sendTrained b).clockMem = s.clockMem := by
  simp only [State.sendTrained]
  (repeat' split) <;> simp
@[simp] theorem flitPeriod_clockMem (b : Fin 8) (at_ : Nat) :
    (s.flitPeriod b at_).clockMem = s.clockMem := by simp [State.flitPeriod]
@[simp] theorem comeUp_clockMem (b : Fin 8) : (s.comeUp b).clockMem = s.clockMem := by simp [State.comeUp]
@[simp] theorem afterRetrain_clockMem (b : Fin 8) : (s.afterRetrain b).clockMem = s.clockMem := by simp [State.afterRetrain]
@[simp] theorem retrainTimeout_clockMem (b : Fin 8) :
    (s.retrainTimeout b).clockMem = s.clockMem := by simp [State.retrainTimeout]
@[simp] theorem handover_clockMem (b : Fin 8) (last : BitVec 16) : (s.handover b last).clockMem = s.clockMem := by
  unfold State.handover
  refine (clockMem_foldl fun u i => by simp).trans ?_
  rw [modTx_clockMem]
  refine (clockMem_foldl fun u c => ?_).trans (by simp)
  split <;> simp
@[simp] theorem settlePortRetrain_clockMem : s.settlePortRetrain.clockMem = s.clockMem := by simp [State.settlePortRetrain]
@[simp] theorem portReturns_clockMem : s.portReturns.clockMem = s.clockMem := by simp [State.portReturns]

/-! ### SidebandOps -/

@[simp] theorem takeCopies_clockMem (w : SbWord) : (s.takeCopies w).clockMem = s.clockMem := by
  simp only [State.takeCopies]
  (repeat' split) <;> simp
@[simp] theorem noteFrame_clockMem (f : SbFrame) : (s.noteFrame f).clockMem = s.clockMem := by simp [State.noteFrame]
@[simp] theorem hear_clockMem (f : SbFrame) : (s.hear f).2.clockMem = s.clockMem := by
  simp only [State.hear]
  (repeat' split) <;> simp
@[simp] theorem receive_clockMem (f : SbFrame) : (s.receive f).2.clockMem = s.clockMem := by
  unfold State.receive
  (repeat' split) <;> simp
@[simp] theorem takeTrain_clockMem (f : SbFrame) (phase : Nat) (work : State → State)
    (hwork : ∀ u, (work u).clockMem = u.clockMem) :
    (s.takeTrain f phase work).clockMem = s.clockMem := by
  unfold State.takeTrain
  (repeat' split) <;> simp_all

/-! ### AgentOps -/

@[simp] theorem sendDieId_clockMem (n : Nat) (proxy : Bool) (id : DieId) (spare refused : Bool) :
    (s.sendDieId n proxy id spare refused).clockMem = s.clockMem := by simp [State.sendDieId]
@[simp] theorem giveId_clockMem (n : Nat) (id : DieId) : (s.giveId n id).clockMem = s.clockMem := by simp [State.giveId]
@[simp] theorem giveGuest_clockMem (g : Nat) : (s.giveGuest g).clockMem = s.clockMem := by simp [State.giveGuest]
@[simp] theorem takeId_clockMem : s.takeId.clockMem = s.clockMem := by simp [State.takeId]
@[simp] theorem admitNow_clockMem (n : Nat) : (s.admitNow n).clockMem = s.clockMem := by
  unfold State.admitNow
  (repeat' split) <;> simp
@[simp] theorem makeSpare_clockMem (n : Nat) : (s.makeSpare n).clockMem = s.clockMem := by simp [State.makeSpare]
@[simp] theorem guestDone_clockMem (g : Nat) : (s.guestDone g).2.clockMem = s.clockMem := by
  simp only [State.guestDone]
  (repeat' split) <;> simp
@[simp] theorem fencedBeacon_clockMem (n : Nat) (uid : BitVec 64) (id : BitVec 8) :
    (s.fencedBeacon n uid id).clockMem = s.clockMem := by simp [State.fencedBeacon]
@[simp] theorem nextGuest_clockMem (n : Nat) : (s.nextGuest n).clockMem = s.clockMem := by simp [State.nextGuest]
@[simp] theorem lateBeacon_clockMem (n : Nat) : (s.lateBeacon n).clockMem = s.clockMem := by simp [State.lateBeacon]
@[simp] theorem refuseDie_clockMem (n : Nat) : (s.refuseDie n).clockMem = s.clockMem := by simp [State.refuseDie]
@[simp] theorem noteRead_clockMem (r : SiteRead) : (s.noteRead r).clockMem = s.clockMem := by simp [State.noteRead]

/-! ### Start -/

@[simp] theorem stepTimeout_clockMem : s.stepTimeout.clockMem = s.clockMem := by
  unfold State.stepTimeout
  (repeat' split) <;> simp
@[simp] theorem dropOpen_clockMem (dir : Nat) (b : Fin 8) : (s.dropOpen dir b).clockMem = s.clockMem := by simp [State.dropOpen]
@[simp] theorem mapOpen_clockMem (b : Fin 8) : (s.mapOpen b).clockMem = s.clockMem := by simp [State.mapOpen]
@[simp] theorem goOpen_clockMem (b : Fin 8) : (s.goOpen b).clockMem = s.clockMem := by simp [State.goOpen]
@[simp] theorem trainOpen_clockMem (b : Fin 8) : (s.trainOpen b).clockMem = s.clockMem := by simp [State.trainOpen]
@[simp] theorem stepOpen_clockMem (b : Fin 8) : (s.stepOpen b).clockMem = s.clockMem := by simp [State.stepOpen]
@[simp] theorem beginTesting_clockMem (b : Fin 8) : (s.beginTesting b).clockMem = s.clockMem := by simp [State.beginTesting]
@[simp] theorem settleAdmits_clockMem : s.settleAdmits.clockMem = s.clockMem := by
  unfold State.settleAdmits
  refine (clockMem_foldl fun u c => ?_).trans (by simp)
  split <;> simp
@[simp] theorem testObserved_clockMem (b : Fin 8) (rx : Heards) (tx : List (Fin 8 × Nat × TxObs)) :
    (s.testObserved b rx tx).clockMem = s.clockMem := by
  unfold State.testObserved
  dsimp only
  rw [settleAdmits_clockMem, sendTrain_clockMem]
  refine (clockMem_foldl fun u p => ?_).trans ((clockMem_foldl fun u p => ?_).trans rfl)
  · split <;> simp
  · split <;> simp
@[simp] theorem testResult_clockMem (b : Fin 8) (far : Nat) :
    (s.testResult b far).clockMem = s.clockMem := by simp [State.testResult]
@[simp] theorem startPattern_clockMem (b : Fin 8) : (s.startPattern b).clockMem = s.clockMem := by
  simp only [State.startPattern]
  (repeat' split) <;> simp
@[simp] theorem startAllPatterns_clockMem : s.startAllPatterns.clockMem = s.clockMem := by
  simp only [State.startAllPatterns]
  (repeat' split) <;> simp
@[simp] theorem backToSplice_clockMem : s.backToSplice.clockMem = s.clockMem := by
  simp only [State.backToSplice]
  (repeat' split) <;> simp
@[simp] theorem detectAgain_clockMem (b : Fin 8) : (s.detectAgain b).clockMem = s.clockMem := by
  simp only [State.detectAgain]
  (repeat' split) <;> simp
@[simp] theorem detectGo_clockMem (b : Fin 8) (attempt : Nat) (payload : BitVec 64) :
    (s.detectGo b attempt payload).clockMem = s.clockMem := by simp [State.detectGo]
@[simp] theorem observeGroup_clockMem (bs : List (Fin 8)) (rx : Heards) (tx : List (Fin 8 × Nat × TxObs)) :
    (s.observeGroup bs rx tx).clockMem = s.clockMem := by simp [State.observeGroup]
@[simp] theorem observeAll_clockMem (rx : Heards) (tx : List (Fin 8 × Nat × TxObs)) :
    (s.observeAll rx tx).clockMem = s.clockMem := by simp [State.observeAll]
@[simp] theorem padsAgain_clockMem (b : Fin 8) (tx : List (Fin 8 × Nat × TxObs)) :
    (s.padsAgain b tx).clockMem = s.clockMem := by simp [State.padsAgain]
@[simp] theorem mapAgain_clockMem (b : Fin 8) : (s.mapAgain b).clockMem = s.clockMem := by
  simp only [State.mapAgain]
  (repeat' split) <;> simp
@[simp] theorem observeOne_clockMem (b : Fin 8) (rx : Heards) (tx : List (Fin 8 × Nat × TxObs)) :
    (s.observeOne b rx tx).clockMem = s.clockMem := by simp [State.observeOne]
@[simp] theorem detectResult_clockMem (b : Fin 8) (far attempt : Nat) :
    (s.detectResult b far attempt).clockMem = s.clockMem := by simp [State.detectResult]
@[simp] theorem mapAgree_clockMem (b : Fin 8) (far : Nat) : (s.mapAgree b far).clockMem = s.clockMem := by simp [State.mapAgree]
@[simp] theorem trainAll_clockMem : s.trainAll.clockMem = s.clockMem := by simp [State.trainAll]
@[simp] theorem trainGo_clockMem (b : Fin 8) (mask : BitVec 8) :
    (s.trainGo b mask).clockMem = s.clockMem := by simp [State.trainGo]
@[simp] theorem setArrivals_clockMem (b : Fin 8) (d : Int) (l : List (Nat × Int)) :
    (s.setArrivals b d l).clockMem = s.clockMem := by simp [State.setArrivals]
@[simp] theorem lockAchieved_clockMem (b : Fin 8) (cross : Nat) (arrivals : List (Nat × Int))
    (words : List (List (Nat × Nat))) :
    (s.lockAchieved b cross arrivals words).clockMem = s.clockMem :=
  by
  simp only [State.lockAchieved]
  (repeat' split) <;> simp
@[simp] theorem timeoutReason_clockMem (b : Fin 8) (noClock : Bool) : (s.timeoutReason b noClock).2.clockMem = s.clockMem := by
  unfold State.timeoutReason
  (repeat' split) <;> simp
@[simp] theorem farTrained_clockMem (b : Fin 8) : (s.farTrained b).clockMem = s.clockMem := by simp [State.farTrained]
@[simp] theorem farFailed_clockMem (b : Fin 8) (attempt reason : Nat) :
    (s.farFailed b attempt reason).clockMem = s.clockMem := by
  simp only [State.farFailed]
  (repeat' split) <;> simp
@[simp] theorem firstResult_clockMem (dir : Nat) (b : Fin 8) (p : Nat) (x : Found) :
    (s.firstResult dir b p x).clockMem = s.clockMem := by
  unfold State.firstResult
  dsimp only
  (repeat' split) <;> simp
@[simp] theorem proxyUp_clockMem (f : SbFrame) : (s.proxyUp f).clockMem = s.clockMem := by simp [State.proxyUp]
@[simp] theorem afterDieId_clockMem : s.afterDieId.clockMem = s.clockMem := by simp [State.afterDieId]
@[simp] theorem holdOff_clockMem : s.holdOff.clockMem = s.clockMem := by simp [State.holdOff]
@[simp] theorem forwardDieId_clockMem (f : SbFrame) : (s.forwardDieId f).clockMem = s.clockMem := by simp [State.forwardDieId]
@[simp] theorem takeDieId_clockMem (f : SbFrame) : (s.takeDieId f).clockMem = s.clockMem := by simp [State.takeDieId]
@[simp] theorem revoked_clockMem (f : SbFrame) : (s.revoked f).clockMem = s.clockMem := by simp [State.revoked]
@[simp] theorem negotiated_clockMem (p : BitVec 64) : (s.negotiated p).clockMem = s.clockMem := by simp [State.negotiated]

/-! ### RegGate -/

@[simp] theorem accDone_clockMem (data : Reg) : (s.accDone data).clockMem = s.clockMem := by simp [State.accDone]
@[simp] theorem accRefused_clockMem : s.accRefused.clockMem = s.clockMem := by simp [State.accRefused]
@[simp] theorem refuseWrite_clockMem (a : Access) (cause : Nat) :
    (s.refuseWrite a cause).clockMem = s.clockMem := by simp [State.refuseWrite]
@[simp] theorem gateWrite_clockMem (a : Access) (g : Gate) : (s.gateWrite a g).clockMem = s.clockMem := by
  unfold State.gateWrite
  (repeat' split) <;> simp
@[simp] theorem gateRead_clockMem (g : Gate) : (s.gateRead g).clockMem = s.clockMem := by
  unfold State.gateRead
  (repeat' split) <;> simp
@[simp] theorem regWrite_clockMem (a : Access) (act : State → State) (hact : ∀ u, (act u).clockMem = u.clockMem) :
    (s.regWrite a act).clockMem = s.clockMem := by
  unfold State.regWrite
  (repeat' split) <;> simp_all

/-! ### Lash -/

@[simp] theorem lashStage_clockMem (a : Access) : (s.lashStage a).clockMem = s.clockMem := by simp [State.lashStage]
@[simp] theorem lashUnstage_clockMem (a : Access) : (s.lashUnstage a).clockMem = s.clockMem := by simp [State.lashUnstage]
@[simp] theorem lashPropose_clockMem (a : Access) : (s.lashPropose a).clockMem = s.clockMem := by simp [State.lashPropose]
@[simp] theorem lashCommit_clockMem (a : Access) : (s.lashCommit a).clockMem = s.clockMem := by
  unfold State.lashCommit
  (repeat' split) <;> simp
@[simp] theorem lashAbort_clockMem (a : Access) : (s.lashAbort a).clockMem = s.clockMem := by simp [State.lashAbort]
@[simp] theorem takeSwitch_clockMem (b : Fin 8) : (s.takeSwitch b).clockMem = s.clockMem := by simp [State.takeSwitch]
@[simp] theorem takeWithdraw_clockMem (cause : Nat) :
    (s.takeWithdraw cause).clockMem = s.clockMem := by simp [State.takeWithdraw]
@[simp] theorem partyWrite_clockMem (a : Access) : (s.partyWrite a).clockMem = s.clockMem := by simp [State.partyWrite]

/-! ### Bight -/

@[simp] theorem writeBight_clockMem (v : Reg) (counts : List (Fin 8 × Nat × Nat × Nat)) :
    (s.writeBight v counts).clockMem = s.clockMem := by
  simp only [State.writeBight]
  (repeat' split) <;> simp
@[simp] theorem bightReq_clockMem (b : Fin 8) (enter : Bool) :
    (s.bightReq b enter).clockMem = s.clockMem := by simp [State.bightReq]
@[simp] theorem takeBight_clockMem (f : SbFrame) (phase : Nat) (work : State → State)
    (hwork : ∀ u, (work u).clockMem = u.clockMem) :
    (s.takeBight f phase work).clockMem = s.clockMem := by
  unfold State.takeBight
  (repeat' split) <;> simp_all
@[simp] theorem bightAck_clockMem (b : Fin 8) (enter refused : Bool) :
    (s.bightAck b enter refused).clockMem = s.clockMem := by simp [State.bightAck]

/-! ### CancelOps -/

@[simp] theorem dropRequests_clockMem (dir : Nat) (b : Fin 8) (k : RingNo × BitVec 32) :
    (s.dropRequests dir b k).clockMem = s.clockMem := by simp [State.dropRequests]
@[simp] theorem cancelStrand_clockMem (k : RingNo × BitVec 32) (d : Desc) : (s.cancelStrand k d).clockMem = s.clockMem := by
  simp only [State.cancelStrand]
  (repeat' split) <;> simp
@[simp] theorem cancelCal_clockMem (k : RingNo × BitVec 32) : (s.cancelCal k).clockMem = s.clockMem := by
  unfold State.cancelCal
  split
  · simp
  · dsimp only
    rw [complete_clockMem]
    refine (clockMem_foldl fun u b => ?_).trans (by simp)
    split
    · split <;> simp
    · rfl
@[simp] theorem cancelScan_clockMem (k : RingNo × BitVec 32) : (s.cancelScan k).clockMem = s.clockMem := by
  unfold State.cancelScan
  (repeat' split) <;> simp
@[simp] theorem cancelBight_clockMem (k : RingNo × BitVec 32) :
    (s.cancelBight k).clockMem = s.clockMem := by simp [State.cancelBight]
@[simp] theorem endPark_clockMem : s.endPark.clockMem = s.clockMem := by simp [State.endPark]
@[simp] theorem cancelFence_clockMem (k : RingNo × BitVec 32) :
    (s.cancelFence k).clockMem = s.clockMem := by simp [State.cancelFence]
@[simp] theorem cancelWait_clockMem (k : RingNo × BitVec 32) :
    (s.cancelWait k).clockMem = s.clockMem := by simp [State.cancelWait]
@[simp] theorem cancelRunning_clockMem (k : RingNo × BitVec 32) (d : Desc) : (s.cancelRunning k d).2.clockMem = s.clockMem := by
  unfold State.cancelRunning
  (repeat' split) <;> simp
@[simp] theorem endRunning_clockMem : s.endRunning.clockMem = s.clockMem := by simp [State.endRunning]

/-! ### Rings -/

@[simp] theorem watchFailed_clockMem (k : Fin 8) : (s.watchFailed k).clockMem = s.clockMem := by simp [State.watchFailed]
@[simp] theorem watchTaken_clockMem (k : Fin 8) (data : BitVec 512) :
    (s.watchTaken k data).clockMem = s.clockMem := by simp [State.watchTaken]
@[simp] theorem wakeLines_clockMem : s.wakeLines.clockMem = s.clockMem := by simp [State.wakeLines]
@[simp] theorem takeDesc_clockMem (r : RingNo) (i : BitVec 32) (e : RingDesc) (data : Desc) :
    (s.takeDesc r i e data).clockMem = s.clockMem := by
  simp only [State.takeDesc]
  (repeat' split) <;> simp
@[simp] theorem startHead_clockMem (r : Nat) : (s.startHead r).clockMem = s.clockMem := by
  unfold State.startHead
  (repeat' split) <;> simp
@[simp] theorem settleUnstarted_clockMem (r : Nat) :
    (s.settleUnstarted r).clockMem = s.clockMem := by simp [State.settleUnstarted]
@[simp] theorem dispatchKind_clockMem (kind ptr : Nat) : (s.dispatchKind kind ptr).1.clockMem = s.clockMem := by
  simp only [State.dispatchKind]
  (repeat' split) <;> simp
@[simp] theorem dispatch_clockMem : s.dispatch.clockMem = s.clockMem := by simp [State.dispatch]
@[simp] theorem issueMsi_clockMem (r : Nat) : (s.issueMsi r).clockMem = s.clockMem := by simp [State.issueMsi]
@[simp] theorem writeCpl_clockMem (c : Nat) : (s.writeCpl c).clockMem = s.clockMem := by
  unfold State.writeCpl
  (repeat' split) <;> simp
@[simp] theorem entryAcked_clockMem (r : Nat) (i : BitVec 32) : (s.entryAcked r i).clockMem = s.clockMem := by
  unfold State.entryAcked
  (repeat' split) <;> simp
@[simp] theorem enableRing_clockMem (r : Nat) (v : Reg) : (s.enableRing r v).clockMem = s.clockMem := by
  simp only [State.enableRing]
  (repeat' split) <;> simp
@[simp] theorem ringOff_clockMem (r : Nat) : (s.ringOff r).clockMem = s.clockMem := by simp [State.ringOff]
@[simp] theorem cancelFetched_clockMem (r : Nat) : (s.cancelFetched r).clockMem = s.clockMem := by simp [State.cancelFetched]
@[simp] theorem disableRing_clockMem (r : Nat) : (s.disableRing r).clockMem = s.clockMem := by simp [State.disableRing]
@[simp] theorem writeRingCfg_clockMem (r : Nat) (v : Reg) :
    (s.writeRingCfg r v).clockMem = s.clockMem := by simp [State.writeRingCfg]

/-! ### ResetOps -/

@[simp] theorem faultReset_clockMem (cause : BitVec 4) :
    (s.faultReset cause).clockMem = s.clockMem := by simp [State.faultReset]
@[simp] theorem startExit_clockMem : s.startExit.clockMem = s.clockMem := by simp [State.startExit]
@[simp] theorem releaseCap_clockMem : s.releaseCap.clockMem = s.clockMem := by simp [State.releaseCap]
@[simp] theorem exitBraid_clockMem (b : Fin 8) : (s.exitBraid b).clockMem = s.clockMem := by simp [State.exitBraid]
@[simp] theorem exitTrain_clockMem : s.exitTrain.clockMem = s.clockMem := by simp [State.exitTrain]
@[simp] theorem closeNoted_clockMem : s.closeNoted.clockMem = s.clockMem := by
  unfold State.closeNoted
  (repeat' split) <;> simp
@[simp] theorem exitEnd_clockMem (b : Fin 8) : (s.exitEnd b).clockMem = s.clockMem := by simp [State.exitEnd]
@[simp] theorem resumeWaits_clockMem : s.resumeWaits.clockMem = s.clockMem := by
  simp only [State.resumeWaits]
  (repeat' split) <;> simp
@[simp] theorem exitDone_clockMem : s.exitDone.clockMem = s.clockMem := by simp [State.exitDone]

/-! ### Power -/

@[simp] theorem pmDrop_clockMem : s.pmDrop.clockMem = s.clockMem := by simp [State.pmDrop]
@[simp] theorem pmBudget_clockMem (f : NocFlit) : (s.pmBudget f).clockMem = s.clockMem := by simp [State.pmBudget]
@[simp] theorem pmRamp_clockMem (f : NocFlit) : (s.pmRamp f).clockMem = s.clockMem := by simp [State.pmRamp]
@[simp] theorem withCtl_clockMem (b : Fin 8) (op : Nat) (p : NocFlit) (work : State → State)
    (hwork : ∀ u, (work u).clockMem = u.clockMem) :
    (s.withCtl b op p work).clockMem = s.clockMem := by
  unfold State.withCtl
  (repeat' split) <;> simp_all
@[simp] theorem pwrCap_clockMem (p : NocFlit) : (s.pwrCap p).clockMem = s.clockMem := by
  unfold State.pwrCap
  (repeat' split) <;> simp
@[simp] theorem pwrGo_clockMem (p : NocFlit) : (s.pwrGo p).clockMem = s.clockMem := by
  unfold State.pwrGo
  (repeat' split) <;> simp
@[simp] theorem wakeBurst_clockMem : s.wakeBurst.clockMem = s.clockMem := by simp [State.wakeBurst]
@[simp] theorem drainLimit_clockMem : s.drainLimit.clockMem = s.clockMem := by
  unfold State.drainLimit
  (repeat' split) <;> simp

/-! ### Clocks -/

@[simp] theorem toIdent_clockMem : s.toIdent.clockMem = s.clockMem := by simp [State.toIdent]
@[simp] theorem pairRelease_clockMem : s.pairRelease.clockMem = s.clockMem := by simp [State.pairRelease]
@[simp] theorem switchTimeout_clockMem : s.switchTimeout.clockMem = s.clockMem := by simp [State.switchTimeout]
@[simp] theorem rootLocks_clockMem : s.rootLocks.clockMem = s.clockMem := by simp [State.rootLocks]
@[simp] theorem rootLost_clockMem : s.rootLost.clockMem = s.clockMem := by simp [State.rootLost]
@[simp] theorem nclkBack_clockMem : s.nclkBack.clockMem = s.clockMem := by simp [State.nclkBack]
@[simp] theorem nclkWindow_clockMem (count : Nat) (locked : Bool) :
    (s.nclkWindow count locked).clockMem = s.clockMem := by simp [State.nclkWindow]
@[simp] theorem refWindow_clockMem (l : List (Fin 8 × Int)) : (s.refWindow l).clockMem = s.clockMem := by simp [State.refWindow]
@[simp] theorem tsStep_clockMem (old new : BitVec 64) : (s.tsStep old new).clockMem = s.clockMem := by simp [State.tsStep]

/-! ### Sideband -/

@[simp] theorem takeHeartbeat_clockMem (f : SbFrame) :
    (s.takeHeartbeat f).clockMem = s.clockMem := by simp [State.takeHeartbeat]
@[simp] theorem bightLost_clockMem : s.bightLost.clockMem = s.clockMem := by simp [State.bightLost]
@[simp] theorem testsLost_clockMem : s.testsLost.clockMem = s.clockMem := by simp [State.testsLost]
@[simp] theorem loseSideband_clockMem : s.loseSideband.clockMem = s.clockMem := by simp [State.loseSideband]
@[simp] theorem resetPairFresh_clockMem (ack rel : Bool) :
    (s.resetPairFresh ack rel).clockMem = s.clockMem := by simp [State.resetPairFresh]
@[simp] theorem resetPairAsked_clockMem (ack drain rel : Bool) :
    (s.resetPairAsked ack drain rel).clockMem = s.clockMem := by simp [State.resetPairAsked]
@[simp] theorem takeResetPair_clockMem (f : SbFrame) :
    (s.takeResetPair f).clockMem = s.clockMem := by simp [State.takeResetPair]
@[simp] theorem writeReset_clockMem (v : Reg) : (s.writeReset v).clockMem = s.clockMem := by simp [State.writeReset]
@[simp] theorem dropReserved_clockMem (f : SbFrame) : (s.dropReserved f).clockMem = s.clockMem := by
  simp only [State.dropReserved]
  (repeat' split) <;> simp
@[simp] theorem proxyDown_clockMem (f : SbFrame) : (s.proxyDown f).clockMem = s.clockMem := by simp [State.proxyDown]
@[simp] theorem ringGap_clockMem : s.ringGap.clockMem = s.clockMem := by
  unfold State.ringGap
  (repeat' split) <;> simp
@[simp] theorem ringFrame_clockMem (f : SbFrame) (uplink : Bool) :
    (s.ringFrame f uplink).clockMem = s.clockMem := by simp [State.ringFrame]
@[simp] theorem sendOn_clockMem (f : SbFrame) : (s.sendOn f).clockMem = s.clockMem := by simp [State.sendOn]
@[simp] theorem frameReserved_clockMem (f : SbFrame) :
    (s.frameReserved f).clockMem = s.clockMem := by simp [State.frameReserved]
@[simp] theorem selects_clockMem (wdr acc : Bool) : (s.selects wdr acc).clockMem = s.clockMem := by simp [State.selects]
@[simp] theorem soLow_clockMem : s.soLow.clockMem = s.clockMem := by
  simp only [State.soLow]
  (repeat' split) <;> simp
@[simp] theorem tapUpdate_clockMem : s.tapUpdate.clockMem = s.clockMem := by simp [State.tapUpdate]
@[simp] theorem tapCapture_clockMem : s.tapCapture.clockMem = s.clockMem := by simp [State.tapCapture]

/-! ### Strands -/

@[simp] theorem strandWork_clockMem (b : Fin 8) (opcode : Nat) (p : NocFlit) (work : State → State)
    (hwork : ∀ u, (work u).clockMem = u.clockMem) :
    (s.strandWork b opcode p work).clockMem = s.clockMem :=
  by
  unfold State.strandWork
  (repeat' split) <;> simp_all
@[simp] theorem strandRequest_clockMem (p : NocFlit) :
    (s.strandRequest p).clockMem = s.clockMem := by simp [State.strandRequest]
@[simp] theorem strandReady_clockMem (p : NocFlit) : (s.strandReady p).clockMem = s.clockMem := by
  simp only [State.strandReady]
  (repeat' split) <;> simp
@[simp] theorem unswitch_clockMem (b : Fin 8) (o : StrandOp) :
    (s.unswitch b o).clockMem = s.clockMem := by simp [State.unswitch]
@[simp] theorem abortFromRx_clockMem (b : Fin 8) (o : StrandOp) (code : Nat) :
    (s.abortFromRx b o code).clockMem = s.clockMem := by simp [State.abortFromRx]
@[simp] theorem takeRequest_clockMem (b : Fin 8) (ok : StrandOp → Bool) : (s.takeRequest b ok).2.clockMem = s.clockMem := by
  simp only [State.takeRequest]
  (repeat' split) <;> simp
@[simp] theorem rejectOp_clockMem (b : Fin 8) (o : StrandOp) (code : Nat) :
    (s.rejectOp b o code).clockMem = s.clockMem := by simp [State.rejectOp]
@[simp] theorem abandonCal_clockMem (b : Fin 8) (o : StrandOp) : (s.abandonCal b o).clockMem = s.clockMem := by
  unfold State.abandonCal
  (repeat' split) <;> simp
@[simp] theorem strandPrepare_clockMem (b : Fin 8) (p : NocFlit) : (s.strandPrepare b p).clockMem = s.clockMem := by
  simp only [State.strandPrepare]
  (repeat' split) <;> simp
@[simp] theorem sendReady_clockMem (b : Fin 8) (o : StrandOp) :
    (s.sendReady b o).clockMem = s.clockMem := by simp [State.sendReady]
@[simp] theorem alignFail_clockMem (b : Fin 8) (o : StrandOp) :
    (s.alignFail b o).clockMem = s.clockMem := by simp [State.alignFail]
@[simp] theorem alignDone_clockMem (b : Fin 8) (arrival : Int) (pass : Option (Fin 3)) :
    (s.alignDone b arrival pass).clockMem = s.clockMem := by
  unfold State.alignDone
  (repeat' split) <;> simp
@[simp] theorem armSwitch_clockMem (b : Fin 8) (o : StrandOp) (q : BitVec 16) :
    (s.armSwitch b o q).clockMem = s.clockMem := by simp [State.armSwitch]
@[simp] theorem strandCommit_clockMem (b : Fin 8) (p : NocFlit) : (s.strandCommit b p).clockMem = s.clockMem := by
  simp only [State.strandCommit]
  (repeat' split) <;> simp
@[simp] theorem requestRefused_clockMem (p : NocFlit) : (s.requestRefused p).clockMem = s.clockMem := by
  simp only [State.requestRefused]
  (repeat' split) <;> simp
@[simp] theorem strandAbort_clockMem (p : NocFlit) : (s.strandAbort p).clockMem = s.clockMem := by
  simp only [State.strandAbort]
  (repeat' split) <;> simp
@[simp] theorem admitDone_clockMem (dir : Nat) (b : Fin 8) (p : Nat) (pass : Bool) (m : Meas) :
    (s.admitDone dir b p pass m).clockMem = s.clockMem := by simp [State.admitDone]

/-! ### Calib -/

@[simp] theorem calWork_clockMem (b : Fin 8) (opcode : Nat) (p : NocFlit) (work : State → State)
    (hwork : ∀ u, (work u).clockMem = u.clockMem) :
    (s.calWork b opcode p work).clockMem = s.clockMem := by simp_all [State.calWork]
@[simp] theorem stepDone_clockMem (b : Fin 8) (v : CalServe) (step : Nat) :
    (s.stepDone b v step).clockMem = s.clockMem := by simp [State.stepDone]
@[simp] theorem calStep_clockMem (p : NocFlit) : (s.calStep p).clockMem = s.clockMem := by simp [State.calStep]
@[simp] theorem txStepDone_clockMem (b : Fin 8) (codes : Reg) : (s.txStepDone b codes).clockMem = s.clockMem := by
  unfold State.txStepDone
  (repeat' split) <;> simp
@[simp] theorem calEnd_clockMem (p : NocFlit) : (s.calEnd p).clockMem = s.clockMem := by
  simp only [State.calEnd]
  (repeat' split) <;> simp
@[simp] theorem afterStep_clockMem (b : Fin 8) (r : CalRun) (m : Meas) : (s.afterStep b r m).clockMem = s.clockMem := by
  unfold State.afterStep
  (repeat' split) <;> simp
@[simp] theorem stepFound_clockMem (b : Fin 8) (r : CalRun) (f : Found) : (s.stepFound b r f).clockMem = s.clockMem := by
  unfold State.stepFound
  (repeat' split) <;> simp
@[simp] theorem calStepOver_clockMem (b : Fin 8) (f : Found) (iref : Nat) : (s.calStepOver b f iref).clockMem = s.clockMem := by
  unfold State.calStepOver
  (repeat' split) <;> simp
@[simp] theorem calStepDone_clockMem (p : NocFlit) : (s.calStepDone p).clockMem = s.clockMem := by
  simp only [State.calStepDone]
  (repeat' split) <;> simp
@[simp] theorem sweepDue_clockMem : s.sweepDue.clockMem = s.clockMem := by simp [State.sweepDue]
@[simp] theorem trend_clockMem (b : Fin 8) (p est n : Nat) : (s.trend b p est n).clockMem = s.clockMem := by simp [State.trend]
@[simp] theorem judge_clockMem (b : Fin 8) (p errs units est : Nat) :
    (s.judge b p errs units est).clockMem = s.clockMem := by simp [State.judge]
@[simp] theorem closePeriodic_clockMem (b : Fin 8) (p : Nat) (m : Meas) :
    (s.closePeriodic b p m).clockMem = s.clockMem := by simp [State.closePeriodic]
@[simp] theorem eyePoints_clockMem (b : Fin 8) (p : Nat) (m : Meas) : (s.eyePoints b p m).clockMem = s.clockMem := by
  unfold State.eyePoints
  (repeat' split) <;> simp
@[simp] theorem retrack_clockMem : s.retrack.clockMem = s.clockMem := by simp [State.retrack]
@[simp] theorem fibreTemp_clockMem : s.fibreTemp.clockMem = s.clockMem := by simp [State.fibreTemp]
@[simp] theorem newTemp_clockMem (v : BitVec 10) : (s.newTemp v).clockMem = s.clockMem := by simp [State.newTemp]
@[simp] theorem trackOne_clockMem (w : Nat × Fin 8 × Nat) : (s.trackOne w).clockMem = s.clockMem := by
  simp only [State.trackOne]
  (repeat' split) <;> simp
@[simp] theorem writeTrim_clockMem (off : Nat) (v : Reg) :
    (s.writeTrim off v).clockMem = s.clockMem := by simp [State.writeTrim]

/-! ### Commands -/

@[simp] theorem linkCmd_clockMem (r : RingNo) (i : BitVec 32) (op : Nat) (work : Desc → State → State)
    (hwork : ∀ x u, (work x u).clockMem = u.clockMem) :
    (s.linkCmd r i op work).clockMem = s.clockMem := by
  unfold State.linkCmd
  (repeat' split) <;> simp_all
@[simp] theorem braidCmd_clockMem (r : RingNo) (i : BitVec 32) (op : Nat) (work : Desc → State → State)
    (hwork : ∀ x u, (work x u).clockMem = u.clockMem) :
    (s.braidCmd r i op work).clockMem = s.clockMem := by
  unfold State.braidCmd
  (repeat' split) <;> simp_all
@[simp] theorem admitBraid_clockMem (b : Fin 8) : (s.admitBraid b).clockMem = s.clockMem := by simp [State.admitBraid]
@[simp] theorem cmdRetrain_clockMem (r : RingNo) (i : BitVec 32) (d : Desc) :
    (s.cmdRetrain r i d).clockMem = s.clockMem := by simp [State.cmdRetrain]
@[simp] theorem cmdStrand_clockMem (r : RingNo) (i : BitVec 32) (d : Desc) (o : StrandOp) :
    (s.cmdStrand r i d o).clockMem = s.clockMem := by simp [State.cmdStrand]
@[simp] theorem cmdCalibrate_clockMem (r : RingNo) (i : BitVec 32) (d : Desc) :
    (s.cmdCalibrate r i d).clockMem = s.clockMem := by simp [State.cmdCalibrate]
@[simp] theorem cmdEyeScan_clockMem (r : RingNo) (i : BitVec 32) (d : Desc) :
    (s.cmdEyeScan r i d).clockMem = s.clockMem := by simp [State.cmdEyeScan]
@[simp] theorem cmdPrbs_clockMem (r : RingNo) (i : BitVec 32) (d : Desc) :
    (s.cmdPrbs r i d).clockMem = s.clockMem := by simp [State.cmdPrbs]
@[simp] theorem cmdBight_clockMem (r : RingNo) (i : BitVec 32) (d : Desc) :
    (s.cmdBight r i d).clockMem = s.clockMem := by simp [State.cmdBight]
@[simp] theorem cmdResume_clockMem (r : RingNo) (i : BitVec 32) :
    (s.cmdResume r i).clockMem = s.clockMem := by simp [State.cmdResume]
@[simp] theorem cancelOne_clockMem (t : RingNo × BitVec 32) : (s.cancelOne t).clockMem = s.clockMem := by
  simp only [State.cancelOne]
  (repeat' split) <;> simp
@[simp] theorem cancelAll_clockMem (r : RingNo) (i : BitVec 32) (targets : List (RingNo × BitVec 32)) :
    (s.cancelAll r i targets).clockMem = s.clockMem := by simp [State.cancelAll]
@[simp] theorem cancelNone_clockMem (r : RingNo) (i : BitVec 32) (detail : Nat) :
    (s.cancelNone r i detail).clockMem = s.clockMem := by simp [State.cancelNone]
@[simp] theorem cancelIndex_clockMem (r : RingNo) (i : BitVec 32) (q : RingNo) (x : BitVec 32) :
    (s.cancelIndex r i q x).clockMem = s.clockMem := by simp [State.cancelIndex]
@[simp] theorem cancelThrough_clockMem (r : RingNo) (i : BitVec 32) (q : RingNo) (x : BitVec 32) :
    (s.cancelThrough r i q x).clockMem = s.clockMem := by simp [State.cancelThrough]
@[simp] theorem cmdCancel_clockMem (r : RingNo) (i : BitVec 32) (d : Desc) :
    (s.cmdCancel r i d).clockMem = s.clockMem := by simp [State.cmdCancel]
@[simp] theorem cmdFence_clockMem (r : RingNo) (i : BitVec 32) (d : Desc) (fence : Bool) :
    (s.cmdFence r i d fence).clockMem = s.clockMem := by simp [State.cmdFence]

/-! ### RegRead -/

@[simp] theorem readEffect_clockMem (off : Nat) : (s.readEffect off).clockMem = s.clockMem := by simp [State.readEffect]
@[simp] theorem regRead_clockMem (a : Access) : (s.regRead a).clockMem = s.clockMem := by
  unfold State.regRead
  (repeat' split) <;> simp

/-! ### RegWrite -/

@[simp] theorem writeGlobal_clockMem (off : Nat) (v : Reg) : (s.writeGlobal off v).clockMem = s.clockMem := by
  unfold State.writeGlobal
  (repeat' split) <;> simp
@[simp] theorem writeLash_clockMem (a : Access) : (s.writeLash a).clockMem = s.clockMem := by
  unfold State.writeLash
  (repeat' split) <;> simp
@[simp] theorem writeTset_clockMem (v : Reg) : (s.writeTset v).clockMem = s.clockMem := by simp [State.writeTset]
@[simp] theorem writeCal_clockMem (off : Nat) (v : Reg) : (s.writeCal off v).clockMem = s.clockMem := by
  unfold State.writeCal
  (repeat' split) <;> simp
@[simp] theorem writeLlCtl_clockMem (v : Reg) : (s.writeLlCtl v).clockMem = s.clockMem := by simp [State.writeLlCtl]
@[simp] theorem writeFlow_clockMem (off : Nat) (v : Reg) : (s.writeFlow off v).clockMem = s.clockMem := by
  unfold State.writeFlow
  (repeat' split) <;> simp
@[simp] theorem writeLine_clockMem (k : Fin 8) (off : Nat) (v : Reg) : (s.writeLine k off v).clockMem = s.clockMem := by
  unfold State.writeLine
  (repeat' split) <;> simp
@[simp] theorem writeRingField_clockMem (r : Nat) (f : Ring → Ring) :
    (s.writeRingField r f).clockMem = s.clockMem := by simp [State.writeRingField]
@[simp] theorem writeRings_clockMem (off : Nat) (v : Reg) : (s.writeRings off v).clockMem = s.clockMem := by
  unfold State.writeRings
  (repeat' split) <;> simp
@[simp] theorem writeRed_clockMem (off : Nat) (v : Reg) : (s.writeRed off v).clockMem = s.clockMem := by
  unfold State.writeRed
  (repeat' split) <;> simp
@[simp] theorem writeHitch_clockMem (off : Nat) (v : Reg) : (s.writeHitch off v).clockMem = s.clockMem := by
  unfold State.writeHitch
  (repeat' split) <;> simp
@[simp] theorem writeClose_clockMem (v : Reg) : (s.writeClose v).clockMem = s.clockMem := by simp [State.writeClose]
@[simp] theorem writeMeter_clockMem (off : Nat) (v : Reg) : (s.writeMeter off v).clockMem = s.clockMem := by
  unfold State.writeMeter
  (repeat' split) <;> simp
@[simp] theorem writeFault_clockMem (off : Nat) (v : Reg) : (s.writeFault off v).clockMem = s.clockMem := by
  unfold State.writeFault
  (repeat' split) <;> simp
@[simp] theorem writeDebug_clockMem (off : Nat) (v : Reg) : (s.writeDebug off v).clockMem = s.clockMem := by
  unfold State.writeDebug
  (repeat' split) <;> simp
@[simp] theorem writePlain_clockMem (a : Access) : (s.writePlain a).clockMem = s.clockMem := by simp [State.writePlain]
@[simp] theorem writeReg_clockMem (a : Access) : (s.writeReg a).clockMem = s.clockMem := by simp [State.writeReg]
@[simp] theorem regStore_clockMem (a : Access) : (s.regStore a).clockMem = s.clockMem := by simp [State.regStore]

/-! ### Serial -/

@[simp] theorem takeReply_clockMem (f : SbFrame) (typ : BitVec 4) (work : State → State)
    (hwork : ∀ u, (work u).clockMem = u.clockMem) :
    (s.takeReply f typ work).clockMem = s.clockMem := by
  unfold State.takeReply
  (repeat' split) <;> simp_all
@[simp] theorem smData_clockMem (f : SbFrame) : (s.smData f).clockMem = s.clockMem := by
  simp only [State.smData]
  (repeat' split) <;> simp
@[simp] theorem smError_clockMem (f : SbFrame) : (s.smError f).clockMem = s.clockMem := by
  simp only [State.smError]
  (repeat' split) <;> simp
@[simp] theorem smTimeout_clockMem (tag : Nat) : (s.smTimeout tag).clockMem = s.clockMem := by
  simp only [State.smTimeout]
  (repeat' split) <;> simp
@[simp] theorem relayReply_clockMem (f : SbFrame) : (s.relayReply f).clockMem = s.clockMem := by simp [State.relayReply]

/-! ### Registers -/

@[simp] theorem epochDue_clockMem : s.epochDue.clockMem = s.clockMem := by simp [State.epochDue]
@[simp] theorem ownPoll_clockMem (repl : DieId) : (s.ownPoll repl).clockMem = s.clockMem := by simp [State.ownPoll]

/-! ### Reduce -/

@[simp] theorem startJob_clockMem (r : RingNo) (i : BitVec 32) (d : Desc) :
    (s.startJob r i d).clockMem = s.clockMem := by simp [State.startJob]
@[simp] theorem redTaken_clockMem (rx : Bool) (f : NocFlit) :
    (s.redTaken rx f).clockMem = s.clockMem := by simp [State.redTaken]
@[simp] theorem spillFailed_clockMem (slot idx : Nat) :
    (s.spillFailed slot idx).clockMem = s.clockMem := by simp [State.spillFailed]
@[simp] theorem closeRefilled_clockMem (slot idx : Nat) : (s.closeRefilled slot idx).clockMem = s.clockMem := by
  unfold State.closeRefilled
  (repeat' split) <;> simp
@[simp] theorem refilled_clockMem (slot idx : Nat) : (s.refilled slot idx).clockMem = s.clockMem := by
  unfold State.refilled
  (repeat' split) <;> simp

/-! ### Resets, test access and the passing of a PCLK -/

@[simp] theorem islandReset_clockMem : s.islandReset.clockMem = s.clockMem := by simp [State.islandReset]
@[simp] theorem pairAssert_clockMem : s.pairAssert.clockMem = s.clockMem := by
  simp only [State.pairAssert]
  split <;> simp
@[simp] theorem mainPower_clockMem : s.mainPower.clockMem = s.clockMem := by
  simp only [State.mainPower]
  (repeat' split) <;> simp
@[simp] theorem tapDone_clockMem (j : TapJob) : (s.tapDone j).clockMem = s.clockMem := by
  simp only [State.tapDone]
  (repeat' split) <;> simp
@[simp] theorem tscTick_clockMem : s.tscTick.clockMem = s.clockMem := by simp [State.tscTick]
@[simp] theorem switchTick_clockMem : s.switchTick.clockMem = s.clockMem := by
  unfold State.switchTick
  (repeat' split) <;> simp
@[simp] theorem commandOptical_clockMem : s.commandOptical.clockMem = s.clockMem := by
  simp only [State.commandOptical]
  (repeat' split) <;> simp
@[simp] theorem engineTick_clockMem : s.engineTick.clockMem = s.clockMem := by simp [State.engineTick]

end Sys2Proof.Machine
end

section
/-!
LEMMAS. What every command leaves as it was: the straps, the waiting commands and the count of PCLK, and the serial memory where
the discovery agent does not write it. One lemma for each command.
-/
namespace Sys2Proof.Machine

/-- What a command leaves: the straps and the waiting commands, the count of PCLK and the serial memory. -/
def State.held (s : State) : (Straps × List Instr) × Time × List Host.Cell := (s.base, s.clockMem)

/-- What a command leaves, of the state it answers. -/
def heldOut (o : Host.Outcome State Fault Refusal) : (Straps × List Instr) × Time × List Host.Cell :=
  match o with
  | .next t => t.held
  | _ => State.reset.held

theorem held_eq (s : State) : s.held = (s.base, s.clockMem) := rfl

variable (s : State)

@[simp] theorem heldOut_done : heldOut (done s) = s.held := by simp [done_eq, heldOut, State.held]

@[simp] theorem heldOut_ite (c : Prop) [Decidable c] (a b : Host.Outcome State Fault Refusal) :
    heldOut (if c then a else b) = if c then heldOut a else heldOut b := apply_ite heldOut c a b

/-- A command of a descriptor leaves what its work leaves. -/
theorem heldOut_withDesc (r : RingNo) (i : BitVec 32) (op : Nat) {work : Desc → State → State}
    (hwork : ∀ d u, (work d u).held = u.held) : heldOut (done (s.withDesc r i op work)) = s.held := by
  simp only [held_eq, Prod.mk.injEq] at hwork
  simp [held_eq, fun d u => (hwork d u).1, fun d u => (hwork d u).2]

@[simp] theorem execPowerOnRelease_held : heldOut (execPowerOnRelease s) = s.held := by simp [held_eq, execPowerOnRelease]
@[simp] theorem execPairResetRelease_held : heldOut (execPairResetRelease s) = s.held := by simp [held_eq, execPairResetRelease]
@[simp] theorem execPowerSwitchTimeout_held :
    heldOut (execPowerSwitchTimeout s) = s.held := by simp [held_eq, execPowerSwitchTimeout]
@[simp] theorem execPowerSwitchRetry_held : heldOut (execPowerSwitchRetry s) = s.held := by simp [held_eq, execPowerSwitchRetry]
@[simp] theorem execPmResume_held : heldOut (execPmResume s) = s.held := by simp [held_eq, execPmResume]
@[simp] theorem execPmPwrRefresh_held : heldOut (execPmPwrRefresh s) = s.held := by simp [held_eq, execPmPwrRefresh]
@[simp] theorem execRootLock_held : heldOut (execRootLock s) = s.held := by simp [held_eq, execRootLock]
@[simp] theorem execRootLockLost_held : heldOut (execRootLockLost s) = s.held := by simp [held_eq, execRootLockLost]
@[simp] theorem execNclkMonitorWindow_held (count : Nat) (locked : Bool) :
    heldOut (execNclkMonitorWindow count locked s) = s.held := by simp [held_eq, execNclkMonitorWindow]
@[simp] theorem execRefOffsetWindow_held (l : List (Fin 8 × Int)) :
    heldOut (execRefOffsetWindow l s) = s.held := by simp [held_eq, execRefOffsetWindow]
@[simp] theorem execTscCheck_held (v : BitVec 64) : heldOut (execTscCheck v s) = s.held := by simp [held_eq, execTscCheck]
@[simp] theorem execTimestampStep_held (new : BitVec 64) :
    heldOut (execTimestampStep new s) = s.held := by simp [held_eq, execTimestampStep]
@[simp] theorem execCrossingSlip_held (which : Slip) : heldOut (execCrossingSlip which s) = s.held := by
  simp only [execCrossingSlip, heldOut_done]
  (repeat' split) <;> simp [held_eq]
@[simp] theorem execTempValue_held (v : BitVec 10) : heldOut (execTempValue v s) = s.held := by simp [held_eq, execTempValue]
@[simp] theorem execStaleTemp_held : heldOut (execStaleTemp s) = s.held := by simp [held_eq, execStaleTemp]
@[simp] theorem execHeartbeatTimer_held : heldOut (execHeartbeatTimer s) = s.held := by simp [held_eq, execHeartbeatTimer]
@[simp] theorem execHeartbeat_held (f : SbFrame) : heldOut (execHeartbeat f s) = s.held := by simp [held_eq, execHeartbeat]
@[simp] theorem execSidebandLoss_held : heldOut (execSidebandLoss s) = s.held := by simp [held_eq, execSidebandLoss]
@[simp] theorem execResetPair_held (f : SbFrame) : heldOut (execResetPair f s) = s.held := by simp [held_eq, execResetPair]
@[simp] theorem execResetPairAnnounce_held :
    heldOut (execResetPairAnnounce s) = s.held := by simp [held_eq, execResetPairAnnounce]
@[simp] theorem execPairedResetRequest_held (a : Access) :
    heldOut (execPairedResetRequest a s) = s.held := by simp [held_eq, execPairedResetRequest]
@[simp] theorem execResetAckLimit_held : heldOut (execResetAckLimit s) = s.held := by simp [held_eq, execResetAckLimit]
@[simp] theorem execResetReqTimeout_held : heldOut (execResetReqTimeout s) = s.held := by simp [held_eq, execResetReqTimeout]
@[simp] theorem execRingFrameForward_held (f : Option SbFrame) (uplink : Bool) :
    heldOut (execRingFrameForward f uplink s) = s.held := by
  simp only [execRingFrameForward, heldOut_done]
  (repeat' split) <;> simp [held_eq]
@[simp] theorem execTstAloneChange_held (v : Bool) :
    heldOut (execTstAloneChange v s) = s.held := by simp [held_eq, execTstAloneChange]
@[simp] theorem execTestLogicReset_held : heldOut (execTestLogicReset s) = s.held := by simp [held_eq, execTestLogicReset]
@[simp] theorem execTapUpdate_held (wdr acc : Bool) :
    heldOut (execTapUpdate wdr acc s) = s.held := by simp [held_eq, execTapUpdate]
@[simp] theorem execTapCapture_held (wdr acc : Bool) (cells : BitVec 38) :
    heldOut (execTapCapture wdr acc cells s) = s.held := by simp [held_eq, execTapCapture]
@[simp] theorem execNocIngressFlit_held (f : NocFlit) (assigned : Bool) :
    heldOut (execNocIngressFlit f assigned s) = s.held := by simp [held_eq, execNocIngressFlit]
@[simp] theorem execNocEgressCredit_held (v : Fin 8) (n : BitVec 5) :
    heldOut (execNocEgressCredit v n s) = s.held := by simp [held_eq, execNocEgressCredit]
@[simp] theorem execCreditInitAck_held : heldOut (execCreditInitAck s) = s.held := by simp [held_eq, execCreditInitAck]
@[simp] theorem execCreditInitTimeout_held :
    heldOut (execCreditInitTimeout s) = s.held := by simp [held_eq, execCreditInitTimeout]
@[simp] theorem execCreditInitRetry_held : heldOut (execCreditInitRetry s) = s.held := by simp [held_eq, execCreditInitRetry]
@[simp] theorem execCreditAuditStart_held : heldOut (execCreditAuditStart s) = s.held := by simp [held_eq, execCreditAuditStart]
@[simp] theorem execCreditAuditAnswer_held (cnt : BitVec 9) :
    heldOut (execCreditAuditAnswer cnt s) = s.held := by simp [held_eq, execCreditAuditAnswer]
@[simp] theorem execCreditAuditAbandon_held :
    heldOut (execCreditAuditAbandon s) = s.held := by simp [held_eq, execCreditAuditAbandon]
@[simp] theorem execSmRelayFrame_held (reply : Bool) (f : SbFrame) :
    heldOut (execSmRelayFrame reply f s) = s.held := by simp [held_eq, execSmRelayFrame]
@[simp] theorem execSmData_held (f : SbFrame) : heldOut (execSmData f s) = s.held := by simp [held_eq, execSmData]
@[simp] theorem execSmError_held (f : SbFrame) : heldOut (execSmError f s) = s.held := by simp [held_eq, execSmError]
@[simp] theorem execSmReadTimeout_held (tag : BitVec 4) :
    heldOut (execSmReadTimeout tag s) = s.held := by simp [held_eq, execSmReadTimeout]
@[simp] theorem execSmQueueFullReissue_held (tag : BitVec 4) : heldOut (execSmQueueFullReissue tag s) = s.held := by
  simp only [execSmQueueFullReissue, heldOut_done]
  (repeat' split) <;> simp [held_eq]
@[simp] theorem execStartStepTimeout_held : heldOut (execStartStepTimeout s) = s.held := by simp [held_eq, execStartStepTimeout]
@[simp] theorem execSidebandNotUp_held : heldOut (execSidebandNotUp s) = s.held := by simp [held_eq, execSidebandNotUp]
@[simp] theorem execDetectGo_held (f : SbFrame) : heldOut (execDetectGo f s) = s.held := by simp [held_eq, execDetectGo]
@[simp] theorem execDetectObservationEnd_held (b : Option (Fin 8)) (rx : List (Fin 8 × Nat × RxObs))
    (tx : List (Fin 8 × Nat × TxObs)) : heldOut (execDetectObservationEnd b rx tx s) = s.held := by
  simp only [execDetectObservationEnd, heldOut_done]
  (repeat' split) <;> simp [held_eq]
@[simp] theorem execDetectResult_held (f : SbFrame) :
    heldOut (execDetectResult f s) = s.held := by simp [held_eq, execDetectResult]
@[simp] theorem execMapAgree_held (f : SbFrame) : heldOut (execMapAgree f s) = s.held := by simp [held_eq, execMapAgree]
@[simp] theorem execTrainGo_held (f : SbFrame) : heldOut (execTrainGo f s) = s.held := by simp [held_eq, execTrainGo]
@[simp] theorem execTrainLinkFrame_held (b : Fin 8) (rx : LineRx) (frac : BitVec 4) :
    heldOut (execTrainLinkFrame b rx frac s) = s.held := by simp [held_eq, execTrainLinkFrame]
@[simp] theorem execBraidLockAchieved_held (b : Fin 8) (cross : BitVec 8) (seen : LockSeen) :
    heldOut (execBraidLockAchieved b cross seen s) = s.held := by simp [held_eq, execBraidLockAchieved]
@[simp] theorem execMeasureTimer_held (b : Fin 8) (frac : BitVec 4) :
    heldOut (execMeasureTimer b frac s) = s.held := by simp [held_eq, execMeasureTimer]
@[simp] theorem execTrainAttemptTimeout_held (b : Fin 8) (noClock : Bool) :
    heldOut (execTrainAttemptTimeout b noClock s) = s.held := by simp [held_eq, execTrainAttemptTimeout]
@[simp] theorem execTrainDone_held (f : SbFrame) : heldOut (execTrainDone f s) = s.held := by simp [held_eq, execTrainDone]
@[simp] theorem execFirstCalibrationComplete_held (results : List (Bool × Fin 8 × Nat × Found)) (iref : Nat) :
    heldOut (execFirstCalibrationComplete results iref s) = s.held := by simp [held_eq, execFirstCalibrationComplete]
@[simp] theorem execCalDone_held (f : SbFrame) : heldOut (execCalDone f s) = s.held := by simp [held_eq, execCalDone]
@[simp] theorem execBeaconTimer_held : heldOut (execBeaconTimer s) = s.held := by simp [held_eq, execBeaconTimer]
@[simp] theorem execDieId_held (f : SbFrame) : heldOut (execDieId f s) = s.held := by simp [held_eq, execDieId]
@[simp] theorem execDieIdRevocation_held (f : SbFrame) :
    heldOut (execDieIdRevocation f s) = s.held := by simp [held_eq, execDieIdRevocation]
@[simp] theorem execNegotiate_held (f : SbFrame) : heldOut (execNegotiate f s) = s.held := by simp [held_eq, execNegotiate]
@[simp] theorem execSpareDieIdTimeout_held :
    heldOut (execSpareDieIdTimeout s) = s.held := by simp [held_eq, execSpareDieIdTimeout]
@[simp] theorem execBightRun_held (a : Access) (counts : List (Fin 8 × Nat × Nat × Nat)) :
    heldOut (execBightRun a counts s) = s.held := by simp [held_eq, execBightRun]
@[simp] theorem execBightReq_held (f : SbFrame) : heldOut (execBightReq f s) = s.held := by simp [held_eq, execBightReq]
@[simp] theorem execBightAck_held (f : SbFrame) : heldOut (execBightAck f s) = s.held := by simp [held_eq, execBightAck]
@[simp] theorem execStrandRequest_held (b : Fin 8) (p : NocFlit) :
    heldOut (execStrandRequest b p s) = s.held := by simp [held_eq, execStrandRequest]
@[simp] theorem execStrandPrepare_held (b : Fin 8) (p : NocFlit) :
    heldOut (execStrandPrepare b p s) = s.held := by simp [held_eq, execStrandPrepare]
@[simp] theorem execAlignmentComplete_held (b : Fin 8) (arrival : Int) (pass : Option (Fin 3)) :
    heldOut (execAlignmentComplete b arrival pass s) = s.held := by simp [held_eq, execAlignmentComplete]
@[simp] theorem execStandinLockComplete_held (b : Fin 8) : heldOut (execStandinLockComplete b s) = s.held := by
  simp only [execStandinLockComplete, heldOut_done]
  (repeat' split) <;> simp [held_eq]
@[simp] theorem execStrandReady_held (b : Fin 8) (p : NocFlit) :
    heldOut (execStrandReady b p s) = s.held := by simp [held_eq, execStrandReady]
@[simp] theorem execStrandCommit_held (b : Fin 8) (p : NocFlit) :
    heldOut (execStrandCommit b p s) = s.held := by simp [held_eq, execStrandCommit]
@[simp] theorem execStrandAbort_held (b : Fin 8) (p : NocFlit) :
    heldOut (execStrandAbort b p s) = s.held := by simp [held_eq, execStrandAbort]
@[simp] theorem execReadyTimeout_held (b : Fin 8) : heldOut (execReadyTimeout b s) = s.held := by
  simp only [execReadyTimeout, heldOut_done]
  (repeat' split) <;> simp [held_eq]
@[simp] theorem execAdmitPrbsComplete_held (rx : Bool) (b : Fin 8) (p : Nat) (seen : PrbsSeen) (m : Meas) :
    heldOut (execAdmitPrbsComplete rx b p seen m s) = s.held := by simp [held_eq, execAdmitPrbsComplete]
@[simp] theorem execQualityRecordClose_held (b : Fin 8) (p : Nat) (m : Meas) :
    heldOut (execQualityRecordClose b p m s) = s.held := by simp [held_eq, execQualityRecordClose]
@[simp] theorem execQualityRecordPost_held :
    heldOut (execQualityRecordPost s) = s.held := by simp [held_eq, execQualityRecordPost]
@[simp] theorem execCalSweepTimer_held : heldOut (execCalSweepTimer s) = s.held := by simp [held_eq, execCalSweepTimer]
@[simp] theorem execCalStep_held (b : Fin 8) (p : NocFlit) :
    heldOut (execCalStep b p s) = s.held := by simp [held_eq, execCalStep]
@[simp] theorem execCalStepComplete_held (b : Fin 8) (f : Found) (iref : Nat) :
    heldOut (execCalStepComplete b f iref s) = s.held := by simp [held_eq, execCalStepComplete]
@[simp] theorem execCalStepDone_held (b : Fin 8) (p : NocFlit) :
    heldOut (execCalStepDone b p s) = s.held := by simp [held_eq, execCalStepDone]
@[simp] theorem execCalStepDoneTimeout_held (b : Fin 8) : heldOut (execCalStepDoneTimeout b s) = s.held := by
  simp only [execCalStepDoneTimeout, heldOut_done]
  (repeat' split) <;> simp [held_eq]
@[simp] theorem execCalEnd_held (b : Fin 8) (p : NocFlit) : heldOut (execCalEnd b p s) = s.held := by simp [held_eq, execCalEnd]
@[simp] theorem execTrimTrackTick_held : heldOut (execTrimTrackTick s) = s.held := by simp [held_eq, execTrimTrackTick]
@[simp] theorem execTrimWrite_held (a : Access) : heldOut (execTrimWrite a s) = s.held := by simp [held_eq, execTrimWrite]
@[simp] theorem execEyeScanPointSetComplete_held (b : Fin 8) (p : Nat) (m : Meas) :
    heldOut (execEyeScanPointSetComplete b p m s) = s.held := by simp [held_eq, execEyeScanPointSetComplete]
@[simp] theorem execLinkFrameReceive_held (b : Fin 8) (pads : List (Nat × Nat)) (words : List (List (Nat × Nat))) :
    heldOut (execLinkFrameReceive b pads words s) = s.held := by simp [held_eq, execLinkFrameReceive]
@[simp] theorem execAckApply_held (b : Fin 8) : heldOut (execAckApply b s) = s.held := by simp [held_eq, execAckApply]
@[simp] theorem execNakRepeat_held (b : Fin 8) : heldOut (execNakRepeat b s) = s.held := by simp [held_eq, execNakRepeat]
@[simp] theorem execAckTimerExpiry_held (b : Fin 8) :
    heldOut (execAckTimerExpiry b s) = s.held := by simp [held_eq, execAckTimerExpiry]
@[simp] theorem execReplayTimeout_held (b : Fin 8) :
    heldOut (execReplayTimeout b s) = s.held := by simp [held_eq, execReplayTimeout]
@[simp] theorem execFlitRelease_held (b : Fin 8) : heldOut (execFlitRelease b s) = s.held := by
  simp only [execFlitRelease, heldOut_done]
  (repeat' split) <;> simp [held_eq]
@[simp] theorem execIdleDue_held (b : Fin 8) : heldOut (execIdleDue b s) = s.held := by simp [held_eq, execIdleDue]
@[simp] theorem execTransmitFlitPeriod_held (b : Fin 8) (frac : BitVec 4) :
    heldOut (execTransmitFlitPeriod b frac s) = s.held := by simp [held_eq, execTransmitFlitPeriod]
@[simp] theorem execBraidRetrainComplete_held (b : Fin 8) :
    heldOut (execBraidRetrainComplete b s) = s.held := by simp [held_eq, execBraidRetrainComplete]
@[simp] theorem execBraidRetrainTimeout_held (b : Fin 8) :
    heldOut (execBraidRetrainTimeout b s) = s.held := by simp [held_eq, execBraidRetrainTimeout]
@[simp] theorem execBraidFinal_held (b : Fin 8) (p : NocFlit) :
    heldOut (execBraidFinal b p s) = s.held := by simp [held_eq, execBraidFinal]
@[simp] theorem execBraidFinalTimeout_held (b : Fin 8) :
    heldOut (execBraidFinalTimeout b s) = s.held := by simp [held_eq, execBraidFinalTimeout]
@[simp] theorem execPortRetrainEnd_held : heldOut (execPortRetrainEnd s) = s.held := by simp [held_eq, execPortRetrainEnd]
@[simp] theorem execMinBraidsWrite_held (a : Access) :
    heldOut (execMinBraidsWrite a s) = s.held := by simp [held_eq, execMinBraidsWrite]
@[simp] theorem execVcStall_held (b v : Fin 8) (egress : Bool) :
    heldOut (execVcStall b v egress s) = s.held := by simp [held_eq, execVcStall]
@[simp] theorem execBucketQuiescent_held (i : BitVec 8) :
    heldOut (execBucketQuiescent i s) = s.held := by simp [held_eq, execBucketQuiescent]
@[simp] theorem execDoorbellNotification_held (k : Fin 8) : heldOut (execDoorbellNotification k s) = s.held := by
  simp only [execDoorbellNotification, heldOut_done]
  (repeat' split) <;> simp [held_eq]
@[simp] theorem execWatchReadResponse_held (k : Fin 8) (data : BitVec 512) (err : Bool) :
    heldOut (execWatchReadResponse k data err s) = s.held := by simp [held_eq, execWatchReadResponse]
@[simp] theorem execWatchReadRetry_held (k : Fin 8) :
    heldOut (execWatchReadRetry k s) = s.held := by simp [held_eq, execWatchReadRetry]
@[simp] theorem execDoorbellPoll_held : heldOut (execDoorbellPoll s) = s.held := by simp [held_eq, execDoorbellPoll]
@[simp] theorem execDescriptorFetchResponse_held (r : RingNo) (i : BitVec 32) (data : Desc) (err : Bool) :
    heldOut (execDescriptorFetchResponse r i data err s) = s.held := by
  simp only [execDescriptorFetchResponse, heldOut_done]
  (repeat' split) <;> simp [held_eq]
@[simp] theorem execDescriptorReread_held (r : RingNo) (i : BitVec 32) : heldOut (execDescriptorReread r i s) = s.held := by
  simp only [execDescriptorReread, heldOut_done]
  (repeat' split) <;> simp [held_eq]
@[simp] theorem execDescriptorDispatch_held :
    heldOut (execDescriptorDispatch s) = s.held := by simp [held_eq, execDescriptorDispatch]
@[simp] theorem execShadowWriteDue_held (k : Fin 8) :
    heldOut (execShadowWriteDue k s) = s.held := by simp [held_eq, execShadowWriteDue]
@[simp] theorem execShadowWriteResponse_held (k : Fin 8) (err : Bool) :
    heldOut (execShadowWriteResponse k err s) = s.held := by simp [held_eq, execShadowWriteResponse]
@[simp] theorem execCompletionWrite_held (c : RingNo) :
    heldOut (execCompletionWrite c s) = s.held := by simp [held_eq, execCompletionWrite]
@[simp] theorem execEntryWriteResponse_held (r : RingNo) (i : BitVec 32) (err : Bool) :
    heldOut (execEntryWriteResponse r i err s) = s.held := by simp [held_eq, execEntryWriteResponse]
@[simp] theorem execMsiHoldoffExpiry_held (r : RingNo) :
    heldOut (execMsiHoldoffExpiry r s) = s.held := by simp [held_eq, execMsiHoldoffExpiry]
@[simp] theorem execRingEnable_held (r : RingNo) (v : Reg) :
    heldOut (execRingEnable r v s) = s.held := by simp [held_eq, execRingEnable]
@[simp] theorem execRingDisable_held (r : RingNo) : heldOut (execRingDisable r s) = s.held := by simp [held_eq, execRingDisable]
@[simp] theorem execNop_held (r : RingNo) (i : BitVec 32) : heldOut (execNop r i s) = s.held := by simp [held_eq, execNop]
@[simp] theorem execRetrain_held (r : RingNo) (i : BitVec 32) :
    heldOut (execRetrain r i s) = s.held := by simp [held_eq, execRetrain]
@[simp] theorem execReef_held (r : RingNo) (i : BitVec 32) : heldOut (execReef r i s) = s.held := by simp [held_eq, execReef]
@[simp] theorem execUnreef_held (r : RingNo) (i : BitVec 32) :
    heldOut (execUnreef r i s) = s.held := by simp [held_eq, execUnreef]
@[simp] theorem execSplice_held (r : RingNo) (i : BitVec 32) :
    heldOut (execSplice r i s) = s.held := by simp [held_eq, execSplice]
@[simp] theorem execUnsplice_held (r : RingNo) (i : BitVec 32) :
    heldOut (execUnsplice r i s) = s.held := by simp [held_eq, execUnsplice]
@[simp] theorem execCalibrate_held (r : RingNo) (i : BitVec 32) :
    heldOut (execCalibrate r i s) = s.held := by simp [held_eq, execCalibrate]
@[simp] theorem execEyeScan_held (r : RingNo) (i : BitVec 32) :
    heldOut (execEyeScan r i s) = s.held := by simp [held_eq, execEyeScan]
@[simp] theorem execPrbsTest_held (r : RingNo) (i : BitVec 32) :
    heldOut (execPrbsTest r i s) = s.held := by simp [held_eq, execPrbsTest]
@[simp] theorem execPrbsTestDone_held (r : RingNo) (i : BitVec 32) (errors : Nat) :
    heldOut (execPrbsTestDone r i errors s) = s.held := by
  simp only [execPrbsTestDone, heldOut_done]
  (repeat' split) <;> simp [held_eq]
@[simp] theorem execBight_held (r : RingNo) (i : BitVec 32) : heldOut (execBight r i s) = s.held := by simp [held_eq, execBight]
@[simp] theorem execBightDurationEnd_held (counts : List (Fin 8 × Nat × Nat × Nat)) :
    heldOut (execBightDurationEnd counts s) = s.held := by simp [held_eq, execBightDurationEnd]
@[simp] theorem execPark_held (r : RingNo) (i : BitVec 32) : heldOut (execPark r i s) = s.held := by simp [held_eq, execPark]
@[simp] theorem execResume_held (r : RingNo) (i : BitVec 32) :
    heldOut (execResume r i s) = s.held := by simp [held_eq, execResume]
@[simp] theorem execDigest_held (r : RingNo) (i : BitVec 32) :
    heldOut (execDigest r i s) = s.held := by simp [held_eq, execDigest]
@[simp] theorem execCancel_held (r : RingNo) (i : BitVec 32) :
    heldOut (execCancel r i s) = s.held := by simp [held_eq, execCancel]
@[simp] theorem execFenceDie_held (r : RingNo) (i : BitVec 32) :
    heldOut (execFenceDie r i s) = s.held := by simp [held_eq, execFenceDie]
@[simp] theorem execUnfenceDie_held (r : RingNo) (i : BitVec 32) :
    heldOut (execUnfenceDie r i s) = s.held := by simp [held_eq, execUnfenceDie]
@[simp] theorem execReduce_held (r : RingNo) (i : BitVec 32) :
    heldOut (execReduce r i s) = s.held := by simp [held_eq, execReduce]
@[simp] theorem execJobStatus_held (r : RingNo) (i : BitVec 32) : heldOut (execJobStatus r i s) = s.held := by
  rw [execJobStatus]
  exact heldOut_withDesc s r i 0x21 fun d u => by split <;> simp [held_eq]
@[simp] theorem execContribHead_held (rx : Bool) (f : NocFlit) :
    heldOut (execContribHead rx f s) = s.held := by simp [held_eq, execContribHead]
@[simp] theorem execContribData_held (rx : Bool) (f : NocFlit) : heldOut (execContribData rx f s) = s.held := by
  simp only [execContribData]
  (repeat' split) <;> simp [held_eq]
@[simp] theorem execChunkTimer_held (slot chunk : Nat) :
    heldOut (execChunkTimer slot chunk s) = s.held := by simp [held_eq, execChunkTimer]
@[simp] theorem execJobIdleTimer_held (slot : Nat) : heldOut (execJobIdleTimer slot s) = s.held := by
  simp only [execJobIdleTimer]
  (repeat' split) <;> simp [held_eq]
@[simp] theorem execPreholdExpiry_held (num : Nat) : heldOut (execPreholdExpiry num s) = s.held := by
  simp only [execPreholdExpiry]
  (repeat' split) <;> simp [held_eq]
@[simp] theorem execSpillWriteResponse_held (slot chunk : Nat) (err : Bool) :
    heldOut (execSpillWriteResponse slot chunk err s) = s.held := by
  simp only [execSpillWriteResponse]
  (repeat' split) <;> simp [held_eq]
@[simp] theorem execRefillResponse_held (slot chunk : Nat) (err : Bool) :
    heldOut (execRefillResponse slot chunk err s) = s.held := by
  simp only [execRefillResponse]
  (repeat' split) <;> simp [held_eq]
@[simp] theorem execChunkOutput_held (slot chunk : Nat) : heldOut (execChunkOutput slot chunk s) = s.held := by
  simp only [execChunkOutput]
  (repeat' split) <;> simp [held_eq]
@[simp] theorem execResultWriteResponse_held (slot chunk : Nat) (err : Bool) :
    heldOut (execResultWriteResponse slot chunk err s) = s.held := by
  simp only [execResultWriteResponse]
  (repeat' split) <;> simp [held_eq]
@[simp] theorem execHitchSignal_held (l : List (Bool × NocFlit)) :
    heldOut (execHitchSignal l s) = s.held := by simp [held_eq, execHitchSignal]
@[simp] theorem execHitchWait_held (rx : Bool) (f : NocFlit) :
    heldOut (execHitchWait rx f s) = s.held := by simp [held_eq, execHitchWait]
@[simp] theorem execHitchWake_held (rx : Bool) (f : NocFlit) : heldOut (execHitchWake rx f s) = s.held := by
  simp only [execHitchWake]
  (repeat' split) <;> simp [held_eq]
@[simp] theorem execHitchUpdate_held (rx : Bool) (f : NocFlit) :
    heldOut (execHitchUpdate rx f s) = s.held := by simp [held_eq, execHitchUpdate]
@[simp] theorem execHitchRead_held (f : NocFlit) : heldOut (execHitchRead f s) = s.held := by simp [held_eq, execHitchRead]
@[simp] theorem execWaiterTimeout_held (entry : Nat) : heldOut (execWaiterTimeout entry s) = s.held := by
  simp only [execWaiterTimeout]
  (repeat' split) <;> simp [held_eq]
@[simp] theorem execRealignEpoch_held : heldOut (execRealignEpoch s) = s.held := by simp [held_eq, execRealignEpoch]
@[simp] theorem execFenceRelease_held (bucket : Nat) : heldOut (execFenceRelease bucket s) = s.held := by
  simp only [execFenceRelease, heldOut_done]
  (repeat' split) <;> simp [held_eq]
@[simp] theorem execEgressFenceRelease_held (b : Fin 8) : heldOut (execEgressFenceRelease b s) = s.held := by
  simp only [execEgressFenceRelease, heldOut_done]
  (repeat' split) <;> simp [held_eq]
@[simp] theorem execHtConfig_held (r : RingNo) (i : BitVec 32) :
    heldOut (execHtConfig r i s) = s.held := by simp [held_eq, execHtConfig]
@[simp] theorem execHtReset_held (r : RingNo) (i : BitVec 32) :
    heldOut (execHtReset r i s) = s.held := by simp [held_eq, execHtReset]
@[simp] theorem execHtAbort_held (r : RingNo) (i : BitVec 32) :
    heldOut (execHtAbort r i s) = s.held := by simp [held_eq, execHtAbort]
@[simp] theorem execHtAbortThread_held (r : RingNo) (i : BitVec 32) : heldOut (execHtAbortThread r i s) = s.held := by
  rw [execHtAbortThread]
  refine heldOut_withDesc s r i 0x33 fun d u => ?_
  dsimp only
  (repeat' split) <;> simp [held_eq]
@[simp] theorem execHtRead_held (r : RingNo) (i : BitVec 32) :
    heldOut (execHtRead r i s) = s.held := by simp [held_eq, execHtRead]
@[simp] theorem execHtSignal_held (r : RingNo) (i : BitVec 32) :
    heldOut (execHtSignal r i s) = s.held := by simp [held_eq, execHtSignal]
@[simp] theorem execHtWait_held (r : RingNo) (i : BitVec 32) :
    heldOut (execHtWait r i s) = s.held := by simp [held_eq, execHtWait]
@[simp] theorem execHitchDebugCopy_held (v : Reg) :
    heldOut (execHitchDebugCopy v s) = s.held := by simp [held_eq, execHitchDebugCopy]
@[simp] theorem execWaiterDebugCopy_held (v : Reg) :
    heldOut (execWaiterDebugCopy v s) = s.held := by simp [held_eq, execWaiterDebugCopy]
@[simp] theorem execLashStage_held (a : Access) : heldOut (execLashStage a s) = s.held := by simp [held_eq, execLashStage]
@[simp] theorem execLashUnstage_held (a : Access) : heldOut (execLashUnstage a s) = s.held := by simp [held_eq, execLashUnstage]
@[simp] theorem execLashPropose_held (a : Access) : heldOut (execLashPropose a s) = s.held := by simp [held_eq, execLashPropose]
@[simp] theorem execLashDigestReady_held : heldOut (execLashDigestReady s) = s.held := by
  simp only [execLashDigestReady, heldOut_done]
  (repeat' split) <;> simp [held_eq]
@[simp] theorem execLashCommit_held (a : Access) : heldOut (execLashCommit a s) = s.held := by simp [held_eq, execLashCommit]
@[simp] theorem execLashAbort_held (a : Access) : heldOut (execLashAbort a s) = s.held := by simp [held_eq, execLashAbort]
@[simp] theorem execLashWindowExpiry_held : heldOut (execLashWindowExpiry s) = s.held := by simp [held_eq, execLashWindowExpiry]
@[simp] theorem execLashOffer_held (b : Fin 8) (p : NocFlit) :
    heldOut (execLashOffer b p s) = s.held := by simp [held_eq, execLashOffer]
@[simp] theorem execLashSwitch_held (b : Fin 8) (p : NocFlit) :
    heldOut (execLashSwitch b p s) = s.held := by simp [held_eq, execLashSwitch]
@[simp] theorem execLashWithdraw_held (b : Fin 8) (p : NocFlit) :
    heldOut (execLashWithdraw b p s) = s.held := by simp [held_eq, execLashWithdraw]
@[simp] theorem execLeaderLinkTimeout_held :
    heldOut (execLeaderLinkTimeout s) = s.held := by simp [held_eq, execLeaderLinkTimeout]
@[simp] theorem execFollowerLinkTimeout_held :
    heldOut (execFollowerLinkTimeout s) = s.held := by simp [held_eq, execFollowerLinkTimeout]
@[simp] theorem execPartyWrite_held (a : Access) : heldOut (execPartyWrite a s) = s.held := by simp [held_eq, execPartyWrite]
@[simp] theorem execEpochClose_held : heldOut (execEpochClose s) = s.held := by simp [held_eq, execEpochClose]
@[simp] theorem execEpochCloseCommand_held (a : Access) :
    heldOut (execEpochCloseCommand a s) = s.held := by simp [held_eq, execEpochCloseCommand]
@[simp] theorem execMeterRead_held (a : Access) : heldOut (execMeterRead a s) = s.held := by simp [held_eq, execMeterRead]
@[simp] theorem execPmBudget_held (f : NocFlit) : heldOut (execPmBudget f s) = s.held := by simp [held_eq, execPmBudget]
@[simp] theorem execPmRamp_held (f : NocFlit) : heldOut (execPmRamp f s) = s.held := by simp [held_eq, execPmRamp]
@[simp] theorem execPwrCap_held (b : Fin 8) (p : NocFlit) : heldOut (execPwrCap b p s) = s.held := by simp [held_eq, execPwrCap]
@[simp] theorem execPwrGo_held (b : Fin 8) (p : NocFlit) : heldOut (execPwrGo b p s) = s.held := by simp [held_eq, execPwrGo]
@[simp] theorem execDozeEnter_held (b : Fin 8) (p : NocFlit) :
    heldOut (execDozeEnter b p s) = s.held := by simp [held_eq, execDozeEnter]
@[simp] theorem execWakeBurst_held : heldOut (execWakeBurst s) = s.held := by simp [held_eq, execWakeBurst]
@[simp] theorem execControlWake_held : heldOut (execControlWake s) = s.held := by simp [held_eq, execControlWake]
@[simp] theorem execDozeHoldExpiry_held : heldOut (execDozeHoldExpiry s) = s.held := by simp [held_eq, execDozeHoldExpiry]
@[simp] theorem execParkReady_held (b : Fin 8) (p : NocFlit) :
    heldOut (execParkReady b p s) = s.held := by simp [held_eq, execParkReady]
@[simp] theorem execDrainLimit_held : heldOut (execDrainLimit s) = s.held := by simp [held_eq, execDrainLimit]
@[simp] theorem execParkDurationEnd_held : heldOut (execParkDurationEnd s) = s.held := by simp [held_eq, execParkDurationEnd]
@[simp] theorem execSidebandWake_held : heldOut (execSidebandWake s) = s.held := by simp [held_eq, execSidebandWake]
@[simp] theorem execFarParkedTimeout_held : heldOut (execFarParkedTimeout s) = s.held := by simp [held_eq, execFarParkedTimeout]
@[simp] theorem execParkExitTrained_held : heldOut (execParkExitTrained s) = s.held := by simp [held_eq, execParkExitTrained]
@[simp] theorem execBelayExpiry_held (case : Nat) :
    heldOut (execBelayExpiry case s) = s.held := by simp [held_eq, execBelayExpiry]
@[simp] theorem execFlagClear_held (a : Access) : heldOut (execFlagClear a s) = s.held := by simp [held_eq, execFlagClear]
@[simp] theorem execOpticalReport_held (id site clk : Reg) :
    heldOut (execOpticalReport id site clk s) = s.held := by simp [held_eq, execOpticalReport]
@[simp] theorem execRcRead_held (a : Access) : heldOut (execRcRead a s) = s.held := by simp [held_eq, execRcRead]
@[simp] theorem execRegisterWrite_held (a : Access) :
    heldOut (execRegisterWrite a s) = s.held := by simp [held_eq, execRegisterWrite]
@[simp] theorem execCodewordLockLoss_held (b : Fin 8) :
    heldOut (execCodewordLockLoss b s) = s.held := by simp [held_eq, execCodewordLockLoss]
@[simp] theorem execTrainFrameRepeat_held : heldOut (execTrainFrameRepeat s) = s.held := by simp [held_eq, execTrainFrameRepeat]
@[simp] theorem execSidebandFrameDiscard_held (w : SbWord) :
    heldOut (execSidebandFrameDiscard w s) = s.held := by simp [held_eq, execSidebandFrameDiscard]
@[simp] theorem execSidebandFrameForward_held (f : SbFrame) :
    heldOut (execSidebandFrameForward f s) = s.held := by simp [held_eq, execSidebandFrameForward]
@[simp] theorem execTapShift_held (wdr acc si : Bool) :
    heldOut (execTapShift wdr acc si s) = s.held := by simp [held_eq, execTapShift]
@[simp] theorem execCheckerLock_held (b : Fin 8) (seen : CheckerSeen) :
    heldOut (execCheckerLock b seen s) = s.held := by simp [held_eq, execCheckerLock]
@[simp] theorem execCheckerLockLoss_held (b : Fin 8) (p : Nat) (run : CheckerRun) (window : BitVec 256) :
    heldOut (execCheckerLockLoss b p run window s) = s.held := by simp [held_eq, execCheckerLockLoss]
@[simp] theorem execMsiWriteResponse_held (_r : RingNo) (err : Bool) :
    heldOut (execMsiWriteResponse _r err s) = s.held := by simp [held_eq, execMsiWriteResponse]
@[simp] theorem execTransmitCalStepComplete_held (b : Fin 8) (codes : Reg) :
    heldOut (execTransmitCalStepComplete b codes s) = s.held := by simp [held_eq, execTransmitCalStepComplete]

@[simp] theorem execPowerOnReset_held : heldOut (execPowerOnReset s) = s.held := by
  rw [execPowerOnReset, heldOut_done]; rfl
@[simp] theorem execPairResetAssert_held : heldOut (execPairResetAssert s) = s.held := by simp [held_eq, execPairResetAssert]
@[simp] theorem execMainPowerGood_held : heldOut (execMainPowerGood s) = s.held := by simp [held_eq, execMainPowerGood]
@[simp] theorem execTapAccessComplete_held : heldOut (execTapAccessComplete s) = s.held := by
  simp only [execTapAccessComplete]
  split <;> simp [held_eq]
end Sys2Proof.Machine
end

section
/-!
LEMMAS. The serial memory stays in its canonical form (R364): the discovery agent writes it where it chooses spares and where it
replaces a dead die (R14, R15, R379), its controller where a slot is written (R378), and nothing else does.
-/
namespace Sys2Proof.Machine

variable {s t : State}

/-- A memory that is left as it is stays canonical. -/
theorem memOk_of_clockMem (h : t.clockMem = s.clockMem) (hs : s.memOk) : t.memOk := by
  rwa [State.memOk, show t.agent.mem = s.agent.mem from congrArg Prod.snd h]

theorem memOk_ite {c : Prop} [Decidable c] (hs : s.memOk) (ht : t.memOk) : (if c then s else t).memOk := by
  split
  · exact hs
  · exact ht

/-- Work done in turn keeps what each turn keeps. -/
theorem memOk_foldl {α : Type} {g : State → α → State} {l : List α} (hg : ∀ u x, u.memOk → (g u x).memOk) (hs : s.memOk) :
    (l.foldl g s).memOk := by
  induction l generalizing s with
  | nil => exact hs
  | cons x l ih => exact ih (hg s x hs)

/-! ### Spares chosen at the close of discovery (R14, R379) -/

/-- Several sites leave SPARE. -/
theorem foldl_writeSpare_wf (l : List Nat) (g : Agent) (h : memWf g.mem = true) :
    memWf (l.foldl (fun g n => writeSpare g n false) g).mem = true := by
  induction l generalizing g with
  | nil => exact h
  | cons n l ih => exact ih _ (writeSpare_wf g n false h)

theorem chooseSpare_memOk (tile : Nat) (hs : s.memOk) : (s.chooseSpare tile).2.memOk := by
  unfold State.chooseSpare
  split
  case h_1 =>
    extract_lets failed new old u v
    have hv : v.memOk := writeSpare_wf u.agent new true hs
    exact memOk_of_clockMem (siteRaise_clockMem ..) hv
  case h_2 r _ =>
    extract_lets others u failed
    clear_value failed
    have hu : u.memOk := foldl_writeSpare_wf others s.agent hs
    split
    · exact memOk_of_clockMem (agentRaise_clockMem ..) hu
    · split
      case h_1 _ x _ =>
        extract_lets v
        have hv : v.memOk := writeSpares_wf u.agent x r hu
        exact memOk_of_clockMem (siteRaise_clockMem ..) hv
      case h_2 => exact hu

theorem closeTile_memOk (tile : Nat) (hs : s.memOk) : (s.closeTile tile).memOk := by
  refine memOk_of_clockMem ?_ (chooseSpare_memOk tile hs)
  simp [State.closeTile]

theorem closeDiscovery_memOk (hs : s.memOk) : s.closeDiscovery.memOk := by
  unfold State.closeDiscovery
  refine memOk_ite hs ?_
  have htiles : ((List.range 8).foldl State.closeTile { s with agent.closed := true }).memOk :=
    memOk_foldl (fun u tile => closeTile_memOk tile) hs
  exact memOk_of_clockMem (by simp) htiles

theorem tryClose_memOk (hs : s.memOk) : s.tryClose.memOk := by
  have hdone : ((s.guestDone 0).2.guestDone 1).2.memOk := memOk_of_clockMem (by simp) hs
  exact memOk_ite hs (memOk_ite (closeDiscovery_memOk hdone) hdone)

/-! ### Beacons (R110, R359, R360) -/

theorem agentBeacon_memOk (n : Nat) (uid : BitVec 64) (hs : s.memOk) : (s.agentBeacon n uid).memOk := by
  unfold State.agentBeacon
  split
  case h_1 => exact memOk_of_clockMem (fencedBeacon_clockMem ..) hs
  case h_2 =>
    extract_lets x elsewhere
    clear_value elsewhere
    split
    · extract_lets u
      have hu : u.memOk := memOk_of_clockMem (by simp [u]) hs
      exact memOk_ite (tryClose_memOk hu) (memOk_ite (memOk_of_clockMem (lateBeacon_clockMem ..) hu) hu)
    · exact memOk_ite (tryClose_memOk hs)
        (memOk_ite (memOk_of_clockMem (sendDieId_clockMem ..) hs) (memOk_of_clockMem (lateBeacon_clockMem ..) hs))

/-- A beacon heard on the link reaches the agent of a base end. -/
theorem beaconHeard_memOk (f : SbFrame) (hs : s.memOk) : (s.beaconHeard f).memOk := by
  unfold State.beaconHeard
  extract_lets uid loop start u v w flt x y
  have hw : w.memOk := memOk_of_clockMem (by simp only [w, v]; split <;> simp [u]) hs
  have hy : y.memOk := memOk_of_clockMem (by simp only [y, x]; split <;> simp) hw
  refine memOk_of_clockMem (tryNegotiate_clockMem _) (memOk_ite ?_ hw)
  split
  · exact memOk_ite (agentBeacon_memOk _ _ hy) hy
  · exact hy

/-! ### Dead dies (R15, R358) -/

theorem declareDead_memOk (r : SiteRead) (cause : Nat) (hs : s.memOk) : (s.declareDead r cause).memOk := by
  unfold State.declareDead
  extract_lets n x old u agent v pwr w spare y
  have hw : w.memOk := memOk_of_clockMem (by simp only [w, v]; split <;> simp [agent, pwr, u]) hs
  have hy : y.memOk := memOk_of_clockMem (by simp [y]) hw
  split
  case h_1 m id _ _ =>
    extract_lets z
    have hz : z.memOk := memOk_of_clockMem (by simp [z]) hy
    have hspares : ({ z with agent := writeSpares z.agent n m } : State).memOk := writeSpares_wf z.agent n m hz
    exact memOk_of_clockMem (siteRaise_clockMem ..) hspares
  · exact memOk_of_clockMem (by simp) hy
  · exact memOk_of_clockMem (siteRaise_clockMem ..) hy

theorem pollSite_memOk (r : SiteRead) (hs : s.memOk) : (s.pollSite r).memOk := by
  unfold State.pollSite
  extract_lets x u v w c
  have hu : u.memOk := memOk_of_clockMem (modSite_clockMem ..) hs
  have hw : w.memOk := memOk_of_clockMem (by simp only [w, v]; split <;> simp) hu
  exact memOk_ite (memOk_ite (tryClose_memOk (memOk_of_clockMem (modSite_clockMem ..) hu)) hu)
    (memOk_ite (memOk_of_clockMem (modSite_clockMem ..) hu) (memOk_ite (memOk_ite hw (declareDead_memOk r c hw)) hu))

/-! ### Slot writes (R378) -/

theorem takeSlot_wf (g : Agent) (addr : Nat) (data : List (BitVec 8)) (h : memWf g.mem = true) :
    memWf (takeSlot g addr data).mem = true := by
  unfold takeSlot
  extract_lets g'
  have hg : memWf g'.mem = true := finishSlot_wf g h
  split
  · exact beginSlot_wf g' addr data hg
  · exact hg
end Sys2Proof.Machine
end

section
/-!
LEMMAS. A command and a PCLK keep the straps, the waiting commands and the canonical form of the serial memory (R364).
-/
namespace Sys2Proof.Machine

/-- Commands that reach the discovery agent, or its controller, where it writes the serial memory. -/
def reachesAgent : Instr → Bool
  | .beacon _ | .sidebandProxy _ | .discoveryWindowExpiry | .deadDiePoll _ _ | .smSlotWrite _ _ => true
  | _ => false

theorem exec_held (s : State) (c : Instr) (h : reachesAgent c = false) : heldOut (exec c s) = s.held := by
  cases c
  case beacon | sidebandProxy | discoveryWindowExpiry | deadDiePoll | smSlotWrite => cases h
  all_goals simp [exec]

/-- A state that keeps the straps and the waiting commands of another, and a canonical memory. -/
def State.Keeps (s t : State) : Prop := t.base = s.base ∧ (s.memOk → t.memOk)

variable {s t u : State}

theorem keeps_of_held (h : t.held = s.held) : s.Keeps t :=
  ⟨congrArg Prod.fst h, memOk_of_clockMem (congrArg Prod.snd h)⟩

theorem keeps_of_done {c : Instr} (hu : s.Keeps u) (hdone : exec c s = done u) (ht : exec c s = .next t) : s.Keeps t := by
  rw [hdone, done_eq, Host.Outcome.next.injEq] at ht
  subst ht
  exact ⟨(State.flushEvents_base u).trans hu.1, fun hs => memOk_of_clockMem (flushEvents_clockMem u) (hu.2 hs)⟩

/-! ### The commands that reach the discovery agent -/

theorem execBeacon_keeps (f : SbFrame) : ∃ u, execBeacon f s = done u ∧ s.Keeps u := by
  refine ⟨_, rfl, by (repeat' split) <;> simp, fun hs => memOk_ite hs (memOk_ite ?_ ?_)⟩
  · split
    · exact agentBeacon_memOk _ _ hs
    · exact hs
  · have hheard : (s.hear f).2.memOk := memOk_of_clockMem (hear_clockMem s f) hs
    exact memOk_ite (beaconHeard_memOk f hheard) hheard

theorem execSidebandProxy_keeps (f : SbFrame) : ∃ u, execSidebandProxy f s = done u ∧ s.Keeps u := by
  refine ⟨_, rfl, by simp, fun hs => ?_⟩
  have hheard : (s.hear f).2.memOk := memOk_of_clockMem (hear_clockMem s f) hs
  have hproxied : (if s.proxies then (s.hear f).2.proxyUp f else (s.hear f).2).memOk :=
    memOk_ite (memOk_of_clockMem (proxyUp_clockMem ..) hheard) hheard
  exact memOk_ite hs
    (memOk_ite (memOk_of_clockMem (by simp) hs)
      (memOk_ite (memOk_of_clockMem (by simp) hs)
        (memOk_ite (memOk_ite hheard (memOk_ite (beaconHeard_memOk f hheard) (memOk_of_clockMem (by simp) hheard))) hs)))

theorem execDeadDiePoll_keeps (reads : List SiteRead) (repl : DieId) :
    ∃ u, execDeadDiePoll reads repl s = done u ∧ s.Keeps u :=
  ⟨_, rfl, by simp, fun hs => memOk_ite (memOk_foldl (fun _ r => pollSite_memOk r) hs)
    (memOk_ite (memOk_of_clockMem (ownPoll_clockMem s repl) hs) hs)⟩

theorem execSmSlotWrite_keeps (addr : Nat) (data : List (BitVec 8)) :
    ∃ u, execSmSlotWrite addr data s = done u ∧ s.Keeps u := by
  unfold execSmSlotWrite
  split
  · exact ⟨s, rfl, rfl, id⟩
  · exact ⟨_, rfl, rfl, takeSlot_wf s.agent addr data⟩

/-- Every command keeps the straps, the waiting commands and a canonical memory. -/
theorem exec_keeps (c : Instr) (hnext : exec c s = .next t) : s.Keeps t := by
  cases hc : reachesAgent c
  case false =>
    have hheld := exec_held s c hc
    rw [hnext] at hheld
    exact keeps_of_held hheld
  case true =>
    have hdone : ∃ u, exec c s = done u ∧ s.Keeps u := by
      cases c
      case beacon f => exact execBeacon_keeps f
      case sidebandProxy f => exact execSidebandProxy_keeps f
      case discoveryWindowExpiry => exact ⟨_, rfl, by simp, fun hs => memOk_ite (closeDiscovery_memOk hs) hs⟩
      case deadDiePoll reads repl => exact execDeadDiePoll_keeps reads repl
      case smSlotWrite addr data => exact execSmSlotWrite_keeps addr data
      all_goals cases hc
    obtain ⟨u, hu, hkeeps⟩ := hdone
    exact keeps_of_done hkeeps hu hnext

/-! ### One PCLK (assumption log 1) -/

/-- What a PCLK does before the programming under way of the serial memory completes. -/
def State.tickWork (s : State) : State :=
  let s := { s with clk.now := s.clk.now + 1 }.tscTick.switchTick
  let s := if s.asleep || !s.clocked then s.engineTick else s.epochDue.engineTick
  if s.clocked && s.sb.up then s.commandOptical else s

theorem tick_eq (s : State) : s.tick = ({ s.tickWork with agent := finishSlot s.tickWork.agent } : State).flushEvents := rfl

theorem tickWork_clockMem (s : State) : s.tickWork.clockMem = (s.clk.now + 1, s.agent.mem) := by simp [State.tickWork]

theorem tick_now (s : State) : s.tick.clk.now = s.clk.now + 1 := by
  have hflush := congrArg Prod.fst (flushEvents_clockMem { s.tickWork with agent := finishSlot s.tickWork.agent })
  rw [tick_eq]
  exact hflush.trans (congrArg Prod.fst (tickWork_clockMem s))

theorem tick_memOk (hs : s.memOk) : s.tick.memOk := by
  have hwork : s.tickWork.memOk := by
    rw [State.memOk, show s.tickWork.agent.mem = s.agent.mem from congrArg Prod.snd (tickWork_clockMem s)]
    exact hs
  rw [tick_eq]
  exact memOk_of_clockMem (flushEvents_clockMem _) (finishSlot_wf s.tickWork.agent hwork)

/-- A step takes the command at the front and keeps the straps, the others and a canonical memory. -/
theorem step_keeps (hstep : Steps s t) : t.base = (s.straps, s.pending.tail) ∧ (s.memOk → t.memOk) := by
  change step s = .next t at hstep
  unfold step at hstep
  split at hstep
  case h_1 hnone =>
    cases hstep
    exact ⟨by rw [State.tick_base, State.base, hnone, List.tail_nil], tick_memOk⟩
  case h_2 c rest hfront =>
    have hkeeps := exec_keeps c hstep
    exact ⟨by rw [hkeeps.1]; simp [State.base, hfront], hkeeps.2⟩

end Sys2Proof.Machine

open Sys2Proof Sys2Proof.Machine

/-- Settles O44: the step of the model is by cases on the queue, and the PCLK of an empty one is `tick_now`. -/
theorem stepRunsTheFrontCommand : Obligations.StepRunsTheFrontCommand := by
  refine ⟨fun c rest s hfront => by rw [step, hfront], fun s hnone => ⟨s.tick, by rw [step, hnone], ?_, tick_now s⟩⟩
  rw [← hnone]
  exact congrArg Prod.snd (State.tick_base s)

/-- Settles O45: a step takes the front command (`step_keeps`). -/
theorem stepsKeepStrapsAndOrder : Obligations.StepsKeepStrapsAndOrder := fun _ _ hstep =>
  ⟨congrArg Prod.fst (step_keeps hstep).1, congrArg Prod.snd (step_keeps hstep).1⟩

/-- Settles O47: no command but those of the discovery agent reaches the serial memory (`exec_held`), and those write it in
canonical form. -/
theorem stepsKeepTheSerialMemory : Obligations.StepsKeepTheSerialMemory := fun _ _ hs hstep => (step_keeps hstep).2 hs
end

section
/-!
LEMMAS. The register window (R382 to R389): what an access does once the gate is known, and which registers take a plain write.
-/
namespace Sys2Proof.Machine

variable {s : State} {a : Access}

/-! ### Bits -/

/-- A field within the low bits that a register keeps reads as it was written. -/
theorem bf_keepMask (v : Reg) {bits lo len : Nat} (hbits : bits ≤ 32) (hin : lo + len ≤ bits) :
    bf (keepMask v bits) lo len = bf v lo len := by
  have hpow : (2 : Nat) ^ bits ≤ 2 ^ 32 := Nat.pow_le_pow_right (by decide) hbits
  have hkept : (keepMask v bits).toNat = v.toNat % 2 ^ bits := by
    have hlt := Nat.mod_lt v.toNat (Nat.two_pow_pos bits)
    simp only [keepMask, bf, bitsOf, Nat.pow_zero, Nat.div_one, BitVec.toNat_ofNat]
    exact Nat.mod_eq_of_lt (by omega)
  refine Nat.eq_of_testBit_eq fun i => ?_
  simp only [bf, bitsOf, hkept, ← Nat.shiftRight_eq_div_pow, Nat.testBit_mod_two_pow, Nat.testBit_shiftRight]
  by_cases hi : i < len
  · simp [hi, show lo + i < bits by omega]
  · simp [hi]

theorem bit_keepMask (v : Reg) {bits i : Nat} (hbits : bits ≤ 32) (hi : i < bits) : bit (keepMask v bits) i = bit v i := by
  rw [bit, bit, bf_keepMask v hbits hi]

/-- The two halves of a 64-bit value. -/
theorem hiWord_append_loWord (v : BitVec 64) : hiWord v ++ loWord v = v := by
  refine BitVec.eq_of_toNat_eq ?_
  have hv := v.isLt
  simp only [hiWord, loWord, bf, bitsOf, BitVec.toNat_append, BitVec.toNat_ofNat]
  rw [← Nat.shiftLeft_add_eq_or_of_lt (Nat.mod_lt _ (by decide)), Nat.shiftLeft_eq]
  omega

/-! ### Accesses by what the gate answers -/

theorem regRead_of_take (h : s.gate a false = .take) :
    s.regRead a = (s.readEffect a.off.toNat).accDone (s.regValue a.off.toNat) := by rw [State.regRead, h]

theorem regRead_of_unmapped (h : s.gate a false = .unmapped) :
    s.regRead a = State.accDone { s with glob.unmapped := s.glob.unmapped + 1 } := by rw [State.regRead, h]; rfl

theorem regRead_of_blocked (h : s.gate a false = .blocked) : s.regRead a = s.accRefused := by rw [State.regRead, h]; rfl

theorem regWrite_of_take (h : s.gate a true = .take) (act : State → State) : s.regWrite a act = act s.accDone := by
  rw [State.regWrite, h]

theorem regStore_of_partial (h : s.gate a true = .partialWrite) :
    s.regStore a = State.accRefused { s with glob.partialCnt := s.glob.partialCnt + 1 } := by
  rw [State.regStore, State.regWrite, h]; rfl

theorem regStore_of_plain (h : s.gate a true = .take) (hplain : protectedOff s.cls a.off.toNat = false) :
    s.regStore a = s.accDone.writePlain a := by
  have hplain' : ¬ protectedOff s.accDone.cls a.off.toNat = true := by
    rw [show s.accDone.cls = s.cls from rfl, hplain]; decide
  rw [State.regStore, regWrite_of_take h, State.writeReg, if_neg hplain']

theorem regStore_of_protected (h : s.gate a true = .take) (hprot : protectedOff s.cls a.off.toNat = true) :
    s.regStore a = s.accDone.refuseWrite a 2 := by
  rw [State.regStore, regWrite_of_take h]
  exact if_pos hprot

/-- A write outside OFF without all four byte enables. -/
theorem gate_of_partial (htap : a.tap = false) (hbe : a.be ≠ 0xF) (hpwr : s.aon.pwr ≠ .off) :
    s.gate a true = .partialWrite := by
  rw [State.gate, if_neg (by simp [hpwr]), if_pos]
  simpa [htap] using hbe

/-- A read takes no byte enables. -/
theorem regRead_be (be : BitVec 4) : s.regRead { a with be := be } = s.regRead a := by
  have hgate : s.gate { a with be := be } false = s.gate a false := by simp [State.gate]
  simp only [State.regRead, hgate]

/-! ### MIN_BRAIDS (R187) -/

theorem minBraids_written (s : State) (v : Reg) :
    State.minBraids { s with link.llCtl := keepMask v 5 } = max 1 (min (bf v 0 4) 8) := by
  simp only [State.minBraids, bf_keepMask v (show 5 ≤ 32 by decide) (show 0 + 4 ≤ 5 by decide)]
  split <;> omega

/-- MIN_BRAIDS within the braids that survive takes no port down. -/
theorem writeLlCtl_of_enough {v : Reg} (h0 : max 1 (min (bf v 0 4) 8) ≤ s.surviving 0)
    (h1 : max 1 (min (bf v 0 4) 8) ≤ s.surviving 1) : s.writeLlCtl v = { s with link.llCtl := keepMask v 5 } := by
  rw [← minBraids_written s v] at h0 h1
  exact checkDown_of_enough _ h0 h1

/-! ### Meters (R323 to R325) -/

/-- What the close of an epoch leaves where no event waited before it. -/
theorem closeEpoch_posted (hq : s.quiet) (cause ts : Nat) :
    let t := (s.closeEpoch cause ts).flushEvents
    t.mtr.snap = s.mtr.live ∧ t.mtr.energySnap = s.mtr.energy ∧ t.mtr.snapEpoch = s.aon.epoch
      ∧ t.aon = { s.aon with epoch := s.aon.epoch + 1 } ∧ t.mtr.live = s.mtr.live ∧ t.mtr.next = s.nextBoundary ts
      ∧ s.counted t 0x50 ∧ t.link = s.link := by
  refine ⟨?_, ?_, ?_, ?_, ?_, ?_, counted_flush _ _ _ (by decide) rfl ?_, ?_⟩
  case refine_7 =>
    rw [State.closeEpoch, raise_eventsOf]
    simp [hq, eventsOf]
  all_goals simp [State.closeEpoch]

theorem regStore_mtrIdx (h : s.gate a true = .take) (hoff : a.off.toNat = 0x901C) :
    s.regStore a = State.accDone { s with mtr.idx := keepMask a.data 12 } := by
  have hplain : protectedOff s.cls a.off.toNat = false := by rw [hoff]; cases s.cls <;> decide
  rw [regStore_of_plain h hplain]
  simp [State.writePlain, hoff, State.writeMeter, State.accDone]

/-- The read of FX_MTR_DATA_LO latches the upper half of the meter it reads. -/
theorem regRead_mtrLo (h : s.gate a false = .take) (hoff : a.off.toNat = 0x9020) :
    s.regRead a = State.accDone { s with mtr.latchHi := hiWord s.meterNow } (loWord s.meterNow) := by
  rw [regRead_of_take h, hoff]; rfl

theorem regRead_mtrHi (h : s.gate a false = .take) (hoff : a.off.toNat = 0x9024) : s.regRead a = s.accDone s.mtr.latchHi := by
  rw [regRead_of_take h, hoff]; rfl

/-- The meter an index selects (Table 13.7). -/
theorem meterNow_selected (s : State) (v : Reg) :
    State.meterNow { s with mtr.idx := keepMask v 12 } =
      if bit v 11 then meterValue s.mtr.snap s.mtr.energySnap (bf v 0 8) (bf v 8 3)
      else meterValue s.mtr.live s.mtr.energy (bf v 0 8) (bf v 8 3) := by
  simp only [State.meterNow, bf_keepMask v (show 12 ≤ 32 by decide) (show 0 + 8 ≤ 12 by decide),
    bf_keepMask v (show 12 ≤ 32 by decide) (show 8 + 3 ≤ 12 by decide),
    bit_keepMask v (show 12 ≤ 32 by decide) (show 11 < 12 by decide)]

/-! ### A lock violation (R319) -/

/-- A violation is noted, and changes no live or staged value. -/
theorem refuseWrite_lash (cause : Nat) :
    (s.refuseWrite a cause).lash.viol = true ∧ (s.refuseWrite a cause).lash.prot = s.lash.prot
      ∧ (s.refuseWrite a cause).lash.staged = s.lash.staged := by
  simp only [State.refuseWrite, State.logViolation, State.accRefused]
  split <;> simp

end Sys2Proof.Machine

open Sys2Proof Sys2Proof.Machine

/-- Settles O7, register by register. -/
theorem windowCompletes : Obligations.WindowCompletes := by
  refine ⟨?_, ?_, ?_, ?_, ?_, ?_, ?_, ?_, ?_⟩
  · rintro s a ⟨hq, hgate, hoff⟩
    exact completes_quiet (congrArg done (regRead_of_take hgate)) (by rw [hoff]; exact hq) (by rw [hoff]; rfl)
  · rintro s a ⟨hq, hgate, hoff⟩
    exact completes_quiet (congrArg done (regRead_of_take hgate)) (by rw [hoff]; exact hq) (by rw [hoff]; rfl)
  · rintro s a ⟨hq, hgate⟩
    exact completes_quiet (congrArg done (regRead_of_unmapped hgate)) hq rfl
  · rintro s a ⟨hq, hgate⟩
    exact completes_quiet (congrArg done (regRead_of_blocked hgate)) hq rfl
  · rintro s a ⟨hq, hgate, hoff⟩
    have hplain : protectedOff s.cls a.off.toNat = false := by rw [hoff]; cases s.cls <;> decide
    have hwrite : s.accDone.writePlain a = { s.accDone with glob.scratch0 := a.data } := by
      simp [State.writePlain, hoff, State.writeGlobal]
    exact completes_quiet (congrArg done ((regStore_of_plain hgate hplain).trans hwrite)) hq rfl
  · rintro s a ⟨hq, hgate⟩
    exact completes_quiet (congrArg done (regStore_of_partial hgate)) hq rfl
  · rintro s a ⟨hgate, hprot⟩
    obtain ⟨hviol, hlive, hstaged⟩ := refuseWrite_lash (s := s.accDone) (a := a) 2
    exact completes_done (congrArg done (regStore_of_protected hgate hprot))
      (by
      rw [State.flushEvents_glob, State.flushEvents_lash]
      exact ⟨rfl, hviol, hlive, hstaged⟩)
  · rintro s a ⟨hq, hgate, hoff⟩
    have hplain : protectedOff s.cls a.off.toNat = false := by rw [hoff]; cases s.cls <;> decide
    have hwrite : s.accDone.writePlain a = { s.accDone with flt.flags := w1c s.flt.flags a.data } := by
      simp [State.writePlain, hoff, State.writeFault]
    exact completes_quiet ((congrArg done (if_pos (by simp [hoff]))).trans
      (congrArg done ((regStore_of_plain hgate hplain).trans hwrite))) hq rfl
  · rintro s a ⟨hq, hgate, hoff, h0, h1⟩
    exact completes_quiet ((congrArg done (if_pos hoff)).trans
      (congrArg done ((regWrite_of_take hgate _).trans (writeLlCtl_of_enough h0 h1)))) hq rfl

/-- Settles O8: an epoch closes by `State.closeEpoch`, at its boundary and by the command, and the read latches the half. -/
theorem metersComplete : Obligations.MetersComplete := by
  refine ⟨?_, ?_, ?_⟩
  · rintro s ⟨hq, hrun, hawake, hdue⟩
    have hclose : s.epochDue = s.closeEpoch 0 s.clk.tsc.toNat := by simp [State.epochDue, hrun, hawake, hdue]
    exact completes_done (congrArg done hclose) (closeEpoch_posted hq 0 _)
  · rintro s a ⟨hq, hgate, hoff, hdata, hrun⟩
    have hclose : s.accDone.writeClose a.data = s.accDone.closeEpoch 1 s.clk.tsc.toNat :=
      if_pos (by rw [hdata]; exact hrun)
    exact completes_done ((congrArg done (if_pos hoff)).trans (congrArg done ((regWrite_of_take hgate _).trans hclose)))
      (closeEpoch_posted (s := s.accDone) hq 1 _)
  · rintro s a ⟨hq, hgate, hoff⟩
    exact completes_quiet ((congrArg done (if_pos hoff)).trans
      (congrArg done (regRead_mtrLo hgate (congrArg BitVec.toNat hoff)))) hq rfl

/-- Settles O50: the index selects the meter (`meterNow_selected`), whose halves are the two reads (`hiWord_append_loWord`). -/
theorem meterReadLatches : Obligations.MeterReadLatches := by
  rintro s a lo hi ⟨hq, ha, haoff, hlo, hlooff, hhi, hhioff⟩
  let t := State.accDone { s with mtr.idx := keepMask a.data 12 }
  let u := State.accDone { t with mtr.latchHi := hiWord t.meterNow } (loWord t.meterNow)
  have ht : exec (.registerWrite a) s = .next t := (congrArg done (regStore_mtrIdx ha haoff)).trans (done_of_quiet t hq)
  have hu : exec (.rcRead lo) t = .next u := (congrArg done (regRead_mtrLo (s := t) hlo hlooff)).trans (done_of_quiet u hq)
  have hv : exec (.rcRead hi) u = .next (u.accDone u.mtr.latchHi) :=
    (congrArg done (regRead_mtrHi (s := u) hhi hhioff)).trans (done_of_quiet _ hq)
  refine ⟨t, u, _, ht, hu, hv, rfl, ?_, rfl, rfl, rfl, rfl, rfl, rfl⟩
  exact (hiWord_append_loWord t.meterNow).trans (meterNow_selected s a.data)

/-- Settles O51: the gate answers a write without all byte enables before it looks at the register. -/
theorem partialWritesRefused : Obligations.PartialWritesRefused := by
  refine ⟨?_, fun s a be => congrArg done (regRead_be be), fun j => ⟨rfl, rfl⟩, ?_⟩
  · rintro s a ⟨hq, htap, hbe, hpwr⟩
    exact completes_quiet (congrArg done (regStore_of_partial (gate_of_partial htap hbe hpwr))) hq rfl
  · rintro s j ⟨hq, hjob, hoff⟩
    have hc : exec .tapAccessComplete s = done (s.tapDone j) := by simp [exec, execTapAccessComplete, hjob]
    exact completes_quiet (hc.trans (congrArg done (if_pos hoff))) hq rfl
end

section
/-!
LEMMAS. Lashing (R309 to R318): how a lashing ends where no fence command waits, what one staged firewall rule applies, and the
CONTROL frames of a two-end lashing at a port at rest.
-/
namespace Sys2Proof.Machine

variable {s : State} {a : Access}

/-! ### Ends of a lashing -/

theorem fenceDone_of_none (h : s.lash.fenceCmds = []) (status detail : Nat) : s.fenceDone status detail = s := by
  rw [State.fenceDone, h, List.foldl_nil, ← h]

/-- A lashing that ends where no fence command waits: its outcome, with the values left staged. -/
theorem endLash_of_none (h : s.lash.fenceCmds = []) (code : Nat) : s.endLash code =
    { s with
      lash.outcome := BitVec.ofNat 4 code, lash.proposed := none, lash.digestValid := false
      lash.linkWait := false, lash.switching := false, lash.commit := [] } := by
  rw [State.endLash]
  refine fenceDone_of_none ?_ _ _
  exact h

/-! ### What one firewall rule applies (R315) -/

section
variable {off : Nat} {v : Reg} (hlow : 0x8800 ≤ off) (hhigh : off < 0x9000)
include hlow hhigh

/-- The offset of a firewall rule's register is that of no other item of a lashing. -/
theorem tfind_rule {other : Nat} (h : other < 0x8800 ∨ 0x9000 ≤ other) : tfind [(off, v)] other = none := by
  simp only [tfind, if_neg (show ¬ off = other by omega)]

theorem isTvc_rule : isTvc off = false := by
  simp only [isTvc, inRun, Bool.and_eq_false_iff, decide_eq_false_iff_not]
  omega

theorem changedGroups_rule (s : State) : s.changedGroups [(off, v)] = [] := by
  refine List.filter_eq_nil_iff.mpr fun g hg => ?_
  rw [List.mem_range] at hg
  rw [tfind_rule hlow hhigh (.inl (by omega))]
  exact Bool.false_ne_true

theorem mapOvr_rule (b : Fin 8) :
    ((List.range 7).any fun i => (tfind [(off, v)] (0x1040 + 0x100 * b.val + 4 * i)).isSome) = false := by
  refine List.any_eq_false.mpr fun i hi => ?_
  rw [List.mem_range] at hi
  rw [tfind_rule hlow hhigh (.inl (by omega))]
  exact Bool.false_ne_true

/-- A staged firewall rule becomes live alone, and the lashing count advances. -/
theorem applyItems_rule (hstaged : s.lash.staged = [(off, v)]) (hopen : s.start.st = .openSt) :
    s.applyItems s.lash.staged =
      { s with lash.prot := tput s.lash.prot off v, lash.staged := [], lash.count := s.lash.count + 1 } := by
  have hself : tfind [(off, v)] off = some v := if_pos rfl
  have hnone : ∀ other, other < 0x8800 ∨ 0x9000 ≤ other → tfind [(off, v)] other = none := fun _ => tfind_rule hlow hhigh
  rw [hstaged]
  simp [State.applyItems, changedGroups_rule hlow hhigh, mapOvr_rule hlow hhigh, hnone, hself, State.resetGroups, State.setProt,
    hstaged, hopen]

/-- A commit of one staged firewall rule (R315). -/
theorem takeCommit_rule (hstaged : s.lash.staged = [(off, v)]) (hopen : s.start.st = .openSt) (hnone : s.lash.fenceCmds = []) :
    s.takeCommit =
      { s with
        lash.prot := tput s.lash.prot off v, lash.staged := [], lash.count := s.lash.count + 1
        lash.outcome := 0, lash.proposed := none, lash.digestValid := false } := by
  have hlocal : s.takeCommit = s.applyLocal := if_neg (by simp [hstaged, isTvc_rule hlow hhigh])
  have hitems := applyItems_rule (s := { s with lash.outcome := 0, lash.proposed := none, lash.digestValid := false })
    hlow hhigh hstaged hopen
  rw [hlocal]
  refine (congrArg (State.fenceDone · 0 0) hitems).trans (fenceDone_of_none ?_ _ _)
  exact hnone

end

/-! ### The writes of the parties (R309 to R314) -/

theorem lashTouched_of_none (h : s.lash.proposed = none) : s.lashTouched = s := if_neg (by simp [h])

theorem lashStage_of_party (hparty : s.isA a = true) (hprot : protectedOff s.cls s.shadowOff = true)
    (hfence : s.shadowOff ≠ 0x83C) (hnone : s.lash.proposed = none) : s.lashStage a =
      { s with lash.staged := tput s.lash.staged s.shadowOff (shadowValue s.shadowOff a.data) } := by
  simp [State.lashStage, hparty, hprot, hfence, lashTouched_of_none hnone, State.stageValue]

theorem lashUnstage_all (hparty : s.isA a = true) (hall : bit a.data 16 = true) (hnone : s.lash.proposed = none)
    (hcmds : s.lash.fenceCmds = []) : s.lashUnstage a = { s with lash.staged := [] } := by
  simp [State.lashUnstage, hparty, hall, lashTouched_of_none hnone, fenceDone_of_none hcmds]

theorem lashPropose_of_good (hparty : s.isA a = true) (hnone : s.lash.proposed = none) (hgood : s.proposalBad = false) :
    s.lashPropose a = { s with lash.proposed := some (a.data, a.srcDie, a.srcEp), lash.digestValid := false } := by
  simp [State.lashPropose, hparty, hnone, hgood]

theorem lashAbort_of_party (hparty : s.isA a = true) (hbit : bit a.data 0 = true) (hproposed : s.lash.proposed.isSome = true) :
    s.lashAbort a = s.endLash 1 := by simp [State.lashAbort, hparty, hbit, hproposed]

/-- Party A is set once, through test access (R309). -/
theorem partyWrite_first (hoff : a.off = 0x830) (htap : a.tap = true) (hset : bit s.lash.partySet 0 = false) :
    s.partyWrite a =
      { s with lash.partySet := setBf s.lash.partySet 0 1 1, lash.partyA := a.data &&& 0x8003FFFF } := by
  simp [State.partyWrite, hoff, htap, hset, b2n]

/-- A commit by party B, from another endpoint than the proposal's, of its digest. -/
theorem lashCommit_of_match {n : Reg} {d : BitVec 8} {e : BitVec 10} (hb : s.isB a = true)
    (hproposed : s.lash.proposed = some (n, d, e)) (hother : d ≠ a.srcDie ∨ e ≠ a.srcEp) (hvalid : s.lash.digestValid = true)
    (hdigest : a.data = s.lash.digest) : s.lashCommit a = s.takeCommit := by
  have hsame : ¬ ((decide (d = a.srcDie) && decide (e = a.srcEp) && !a.tap) = true) := by
    rcases hother with h | h <;> simp [h]
  rw [State.lashCommit, hproposed]
  simp only []
  rw [if_neg hsame, if_neg (by simp [hb]), if_neg (by simp [hvalid, hdigest])]

end Sys2Proof.Machine

open Sys2Proof Sys2Proof.Machine

/-- Settles O17, command by command. -/
theorem lashingCompletes : Obligations.LashingCompletes := by
  refine ⟨?_, ?_, ?_, ?_, ?_, ?_, ?_, ?_⟩
  · rintro s a ⟨hq, hgate, hoff, hparty, hprot, hfence, hnone⟩
    have hstage : s.accDone.lashStage a =
        { s.accDone with lash.staged := tput s.lash.staged s.shadowOff (shadowValue s.shadowOff a.data) } :=
      lashStage_of_party (s := s.accDone) hparty hprot hfence hnone
    exact completes_quiet ((congrArg done (if_pos hoff)).trans (congrArg done ((regWrite_of_take hgate _).trans hstage))) hq rfl
  · rintro s a ⟨hq, hgate, hoff, hparty, hall, hnone, hcmds⟩
    have hunstage : s.accDone.lashUnstage a = { s.accDone with lash.staged := [] } :=
      lashUnstage_all (s := s.accDone) hparty hall hnone hcmds
    exact completes_quiet ((congrArg done (if_pos hoff)).trans (congrArg done ((regWrite_of_take hgate _).trans hunstage))) hq rfl
  · rintro s a ⟨hq, hgate, hoff, hparty, hnone, hgood⟩
    have hpropose : s.accDone.lashPropose a =
        { s.accDone with lash.proposed := some (a.data, a.srcDie, a.srcEp), lash.digestValid := false } :=
      lashPropose_of_good (s := s.accDone) hparty hnone hgood
    exact completes_quiet ((congrArg done (if_pos hoff)).trans (congrArg done ((regWrite_of_take hgate _).trans hpropose))) hq rfl
  · rintro s n d e ⟨hq, hproposed, hvalid, hgood⟩
    have hc : exec .lashDigestReady s = done { s with
        lash.digest := BitVec.ofNat 32 (s.lashDigest n), lash.digestValid := true, lash.windowAt := s.now } := by
      simp [exec, execLashDigestReady, hproposed, hvalid, hgood]
    exact completes_quiet hc hq rfl
  · rintro s a n d e k v ⟨hgate, hoff, hb, hproposed, hother, hvalid, hdigest, hk, hstaged, hcmds, hopen, hstill⟩
    have hcommit : s.accDone.lashCommit a = s.accDone.takeCommit :=
      lashCommit_of_match (s := s.accDone) hb hproposed hother hvalid hdigest
    have hstep := portStep_of_still { s.accDone with
        lash.prot := tput s.lash.prot (0x8800 + 4 * k) v, lash.staged := [], lash.count := s.lash.count + 1
        lash.outcome := 0, lash.proposed := none, lash.digestValid := false } hstill
    rw [takeCommit_rule (s := s.accDone) (Nat.le_add_right ..) (by omega) hstaged hopen hcmds] at hcommit
    refine completes_done ((congrArg done (if_pos hoff)).trans (congrArg done ((regWrite_of_take hgate _).trans
      ((congrArg State.portStep hcommit).trans hstep)))) ?_
    have hothers : ∀ o, o ≠ 0x8800 + 4 * k → tget (BitVec.ofNat 32 (protReset s.cls o)) (tput s.lash.prot (0x8800 + 4 * k) v) o =
      s.prot o := fun o ho => tget_tput_ne _ _ _ _ _ ho
    simpa [State.prot, State.cls] using hothers
  · rintro s a ⟨hgate, hoff, hparty, hbit, hproposed, hcmds⟩
    have habort : s.accDone.lashAbort a = s.accDone.endLash 1 :=
      lashAbort_of_party (s := s.accDone) hparty hbit hproposed
    rw [endLash_of_none (s := s.accDone) hcmds] at habort
    exact completes_done ((congrArg done (if_pos hoff)).trans (congrArg done ((regWrite_of_take hgate _).trans habort)))
      (by simp)
  · rintro s ⟨hproposed, hvalid, hcmds⟩
    have hc : exec .lashWindowExpiry s = done (s.endLash 3) := congrArg done (if_pos (by simp [hproposed, hvalid]))
    rw [endLash_of_none hcmds] at hc
    exact completes_done hc (by simp)
  · rintro s a ⟨hq, hgate, hoff, htap, hset⟩
    have hparty : s.accDone.partyWrite a = { s.accDone with
        lash.partySet := setBf s.lash.partySet 0 1 1, lash.partyA := a.data &&& 0x8003FFFF } :=
      partyWrite_first (s := s.accDone) hoff htap hset
    exact completes_quiet ((congrArg done (if_pos (.inl hoff))).trans
      (congrArg done ((regWrite_of_take hgate _).trans hparty))) hq ⟨rfl, bit_setBf_one _ _ (by decide), rfl, rfl⟩
end

section
/-!
LEMMAS. The lashing of both ends of a link (R316 to R318).
-/
namespace Sys2Proof.Machine

variable {s : State}

theorem tryMatch_of_unasked (h : s.lash.linkWait = false) : s.tryMatch = s := by simp [State.tryMatch, h]

theorem dropCtl_powerIdle (b : Fin 8) (op : Nat) (p : NocFlit) : (s.dropCtl b op p).powerIdle = s.powerIdle := by
  have hmask : (s.dropCtl b op p).retiredMask = s.retiredMask := retiredMask_congr fun dir c => dropCtl_shape s b op p dir c
  unfold State.powerIdle
  rw [hmask]
  rfl

/-- A lashing whose LASH_SWITCHes are not all acknowledged goes on (R317 step 7). -/
theorem lashStep_of_unacked
    (h : octs.all (fun c => (s.shape 0 c).retired || !bit s.lash.swSent c.val || bit s.lash.swAcked c.val) = false) :
    s.lashStep = s := by simp [State.lashStep, h]

/-- A port that switches, with no power work under way, waits for its LASH_SWITCHes. -/
theorem portStep_of_unacked (hidle : s.powerIdle = true)
    (h : octs.all (fun c => (s.shape 0 c).retired || !bit s.lash.swSent c.val || bit s.lash.swAcked c.val) = false) :
    s.portStep = s := by rw [State.portStep, powerStep_of_idle s hidle, lashStep_of_unacked h]

/-- A far LASH_SWITCH of an end that has switched: the old table ends on its braid (R317 step 6). -/
theorem takeSwitch_of_switching (b : Fin 8) (hwait : s.lash.linkWait = false) (hswitch : s.lash.switching = true) :
    s.takeSwitch b =
      State.lashStep { s with lash.swGot := setBf s.lash.swGot b.val 1 1, lash.oldOn := setBf s.lash.oldOn b.val 1 0 } := by
  simp [State.takeSwitch, hwait, hswitch]

/-- A withdrawal ends the wait of a follower (R318). -/
theorem takeWithdraw_of_waiting (cause : Nat) (hwait : s.lash.linkWait = true) (hleads : s.leads = false) :
    s.takeWithdraw cause = State.endLash { s with lash.offer := none } (if cause = 8 then 8 else 9) :=
  if_pos (show (s.lash.linkWait && !s.leads) = true by simp [hwait, hleads])

end Sys2Proof.Machine

open Sys2Proof Sys2Proof.Machine

/-- Settles O18, command by command. -/
theorem linkLashingCompletes : Obligations.LinkLashingCompletes := by
  refine ⟨?_, ?_, ?_, ?_, ?_⟩
  · rintro s b p ⟨hwaits, hwait, hstill⟩
    let u : State := { s.dropCtl b 0x40 p with
      lash.offer := some (BitVec.ofNat 32 (bf p 0 32), BitVec.ofNat 32 (bf p 32 32), s.now) }
    have hu : u.still = true := (still_of_goView (dropCtl_goView s b 0x40 p)).trans hstill
    have hc : exec (.lashOffer b p) s = done u := (congrArg done (if_pos hwaits)).trans
      (congrArg done ((congrArg State.portStep (tryMatch_of_unasked (s := u) hwait)).trans (portStep_of_still u hu)))
    exact completes_done hc (by simp [u])
  · rintro s b p ⟨hwaits, hswitch, hwait, hidle, hunacked⟩
    let u : State := { s.dropCtl b 0x41 p with
      lash.swGot := setBf s.lash.swGot b.val 1 1, lash.oldOn := setBf s.lash.oldOn b.val 1 0 }
    have hu : octs.all (fun c => (u.shape 0 c).retired || !bit u.lash.swSent c.val || bit u.lash.swAcked c.val) = false := by
      rw [← hunacked]
      exact congrArg _ (funext fun c => by rw [show u.shape 0 c = s.shape 0 c from dropCtl_shape s b 0x41 p 0 c]; rfl)
    have hc : exec (.lashSwitch b p) s = done u := (congrArg done (if_pos hwaits)).trans (congrArg done
      ((congrArg State.portStep ((takeSwitch_of_switching (s := s.dropCtl b 0x41 p) b hwait hswitch).trans
        (lashStep_of_unacked (s := u) hu))).trans
        (portStep_of_unacked (s := u) ((dropCtl_powerIdle b 0x41 p).trans hidle) hu)))
    exact completes_done hc (by simp [u, hswitch])
  · rintro s b p ⟨hwaits, hwait, hleads, hcmds⟩
    have hc : exec (.lashWithdraw b p) s = _ := (congrArg done (if_pos hwaits)).trans
      (congrArg done ((takeWithdraw_of_waiting (s := s.dropCtl b 0x42 p) (bf p 83 4) hwait hleads).trans
        (endLash_of_none (by exact hcmds) _)))
    refine completes_done hc ?_
    split <;> simp
  · rintro s ⟨hleads, hwait, hcmds⟩
    have hc : exec .leaderLinkTimeout s = done ((s.withdraw 7).endLash 7) := by
      simp [exec, execLeaderLinkTimeout, hleads, hwait]
    rw [endLash_of_none (by exact hcmds)] at hc
    exact completes_done hc (by simp [State.withdraw, State.sendCtl])
  · rintro s ⟨hq, hleads, hwait, hcmds⟩
    have hc : exec .followerLinkTimeout s = done ((s.endLash 7).raise 0x4A (code := 7) (arg0 := s.lash.link.toNat)) := by
      simp [exec, execFollowerLinkTimeout, hleads, hwait]
    rw [endLash_of_none hcmds] at hc
    refine completes_done hc ⟨by simp, by simp, by simp, by simp, counted_flush _ _ _ (by decide) rfl ?_⟩
    rw [raise_eventsOf]
    simp [hq, eventsOf]
end

section
/-!
LEMMAS. Budgets, ramps and the exchange of caps at the end that does not lead (R331 to R333).
-/
namespace Sys2Proof.Machine

variable {s : State}

/-! ### The cap of an end that does not lead -/

/-- A cap that is set is told, and read as set. -/
theorem setCap_near (c : PwrState × Nat) (hleads : s.leads = false) :
    ((s.setCap c).pwr.nearCap, (s.setCap c).pwr.nearWidth) = c := by
  unfold State.setCap
  split
  case isTrue hsame => exact Prod.ext hsame.1 hsame.2
  case isFalse =>
    extract_lets _ u
    split
    · rw [leadTarget_of_follower u.sendCap hleads]
      rfl
    · rfl

theorem capped_still (hstill : s.still = true) : s.capped.still = true := by
  simp only [State.still, State.powerIdle, Bool.and_eq_true] at hstill ⊢
  obtain ⟨⟨hrest, -⟩, hswitch⟩ := hstill
  exact ⟨⟨hrest, by simp [State.capped]; exact .inr rfl⟩, hswitch⟩

/-- A recomputed cap at a port at rest that does not lead: it is that of R332, it starts nothing, and all but what this end
tells of it stays. -/
theorem recap_portStep_of_follower (hleads : s.leads = false) (hstill : s.still = true) :
    s.recap.portStep = s.recap ∧ s.recap.rest = s.capped.rest ∧
      (s.recap.pwr.nearCap, s.recap.pwr.nearWidth) = s.ownCap := by
  have hrest : s.recap.rest = s.capped.rest := congrArg Prod.fst (recap_backView s hleads)
  exact ⟨portStep_of_still _ ((rest_read hrest State.still rest_still).trans (capped_still hstill)), hrest,
    setCap_near (s := s.capped) s.ownCap hleads⟩

/-! ### PM_BUDGET and PM_RAMP -/

theorem seqTakes_resync (last : Option (BitVec 16)) (seq : BitVec 16) : seqTakes last seq true = true := rfl

/-- The state with a PM_BUDGET's fields. -/
def State.withBudget (s : State) (f : NocFlit) : State :=
  { s with
    pwr.budget := payBits f 0 16, pwr.budState := payBits f 16 3, pwr.budWidth := payBits f 19 6
    pwr.budSeq := some (BitVec.ofNat 16 (payBits f 32 16)), pwr.released := false }

theorem pmBudget_of_good {f : NocFlit} (hsource : s.pmSource f = true) (hlow : payBits f 26 6 = 0)
    (hhigh : payBits f 48 464 = 0) (hone : payBits f 16 3 ≠ 1) (hfour : payBits f 16 3 ≤ 4) (hresync : payBits f 25 1 = 1) :
    s.pmBudget f = (s.withBudget f).recap.portStep := by
  refine if_neg ?_
  simp [hsource, hlow, hhigh, hone, Nat.not_lt.mpr hfour, hresync, seqTakes_resync]

/-- A PM_BUDGET of the reserved STATE is discarded. -/
theorem pmBudget_of_reserved {f : NocFlit} (hstate : payBits f 16 3 = 1) : s.pmBudget f = s.pmDrop := by
  refine if_pos ?_
  simp [hstate]

/-- The state with a PM_RAMP's fields. -/
def State.withRamp (s : State) (f : NocFlit) : State :=
  { s with pwr.level := payBits f 0 9, pwr.rampSeq := some (BitVec.ofNat 16 (payBits f 16 16)) }

theorem pmRamp_of_good {f : NocFlit} (hsource : s.pmSource f = true) (hlow : payBits f 10 6 = 0) (hhigh : payBits f 32 480 = 0)
    (hlevel : payBits f 0 9 ≤ 256) (hresync : payBits f 9 1 = 1) (henabled : bit s.pwr.ctl 22 = true) :
    s.pmRamp f = (s.withRamp f).recap.portStep := by
  refine if_neg ?_
  simp [hsource, hlow, hhigh, Nat.not_lt.mpr hlevel, hresync, seqTakes_resync, henabled]

/-! ### PWR_CAP and PWR_GO (R333) -/

/-- The first PWR_CAP gives the far end's cap, which this end does not act on. -/
theorem pwrCap_first {p : NocFlit} {st : PwrState} (hst : pwrOf (bf p 0 3) = some st) (hnone : s.pwr.capTaken = none)
    (hleads : s.leads = false) (hstill : s.still = true) : s.pwrCap p =
      { s with pwr.capTaken := some (BitVec.ofNat 16 (bf p 9 16)), pwr.farCap := st, pwr.farWidth := bf p 3 6 } := by
  simp only [State.pwrCap, hst, numTakes, seqTakes, hnone, Bool.or_true, Bool.not_true, Bool.false_eq_true, if_false]
  refine (congrArg State.portStep (leadTarget_of_follower _ ?_)).trans (portStep_of_still _ ?_)
  · exact hleads
  · exact hstill

/-- The first PWR_GO is applied. -/
theorem pwrGo_first {p : NocFlit} {st : PwrState} (hst : pwrOf (bf p 0 3) = some st) (hnone : s.pwr.goTaken = none)
    (hleads : s.leads = false) : s.pwrGo p =
      (State.applyTarget { s with pwr.goTaken := some (BitVec.ofNat 16 (bf p 9 16)) } st (bf p 3 6)).portStep := by
  simp [State.pwrGo, hst, hleads, numTakes, seqTakes, hnone]

theorem withCtl_of_holds {b : Fin 8} {op : Nat} {p : NocFlit} (h : s.holds b op p) (work : State → State) :
    s.withCtl b op p work = work (s.dropCtl b op p) := if_pos h.1

theorem dropCtl_still {b : Fin 8} {op : Nat} {p : NocFlit} (h : s.holds b op p) : (s.dropCtl b op p).still = true :=
  (still_of_goView (dropCtl_goView s b op p)).trans h.2

/-! ### A drain toward PARK goes on (R339) -/

/-- The pair target, the last PWR_GO, and what a flush works on. -/
def Power.told (p : Power) : PwrState × Option (BitVec 16) × List (Nat × Nat × Nat) × Bool :=
  (p.target, p.goTaken, p.flushes, p.sinking)

theorem parkDone_pwr (status result : Nat) : (s.parkDone status result).pwr = s.pwr := by
  unfold State.parkDone
  split
  · split
    · split
      · exact (congrArg State.pwr (State.complete_kept .rings s _ _ _ _ _) :)
      · rfl
    · rfl
  · rfl

theorem writeShadows_pwr (l : List (Fin 8)) : (l.foldl State.writeShadow s).pwr = s.pwr :=
  foldl_keeps State.pwr _ _ _ fun u k _ => (congrArg State.pwr (State.writeShadow_kept u .rings k) :)

theorem parkBraids_told (l : List (Fin 8)) : (l.foldl State.parkBraid s).pwr.told = s.pwr.told :=
  foldl_keeps (fun u => u.pwr.told) _ _ _ fun u b _ => by
    unfold State.parkBraid
    split <;> rfl

theorem parkNow_told : s.parkNow.pwr.told = s.pwr.told := by
  unfold State.parkNow
  extract_lets
  split <;> rfl

/-- A drain that is not for a reset changes no target and no flush. -/
theorem drainStep_told (hwhy : s.pwr.draining ≠ .reset) : s.drainStep.pwr.told = s.pwr.told := by
  unfold State.drainStep
  split
  · rfl
  · split
    · extract_lets u
      split
      · exact parkNow_told.trans (parkBraids_told _)
      · exact parkBraids_told _
    · split
      · extract_lets u v
        have hv : v.pwr = s.pwr := (writeShadows_pwr _).trans (parkDone_pwr 0 0)
        split
        · rw [if_neg (by rw [hv]; simpa using hwhy), parkBraids_told, hv]
        · rw [hv]
      · rfl

theorem flushStep_of_none (hflush : s.pwr.flushes = []) (hsink : s.pwr.sinking = false) : s.flushStep = s := by
  simp [State.flushStep, hflush, hsink]

/-- A port that has nothing under way but a drain goes on with the drain alone. -/
theorem powerStep_of_draining (hidle : State.powerIdle { s with pwr.draining := .none } = true)
    (hdrain : s.pwr.draining ≠ .none) (hawake : s.aon.pwr ≠ .park ∧ s.aon.pwr ≠ .off) :
    s.powerStep = s.drainStep.flushStep := by
  simp only [State.powerIdle, Bool.and_eq_true, bne_iff_ne, beq_iff_eq, Bool.not_eq_true', Bool.or_eq_true,
    List.isEmpty_iff] at hidle
  obtain ⟨⟨⟨⟨⟨⟨⟨⟨⟨htarget, hpwr⟩, hsent⟩, hdozing⟩, -⟩, -⟩, -⟩, -⟩, hresume⟩, hcap⟩ := hidle
  have hcapped : s.capStep = s := if_neg (by
    rcases hcap with h | h
    · simp [h]
    · simp [show s.retiredMask = s.pwr.capBraids from h])
  have hasked : s.dozeAsked = false := by simp [State.dozeAsked, hdrain]
  have hbraid : ∀ b, s.dozeBraid b = s := fun b => by
    have hb : bit s.pwr.dzSent b.val = false := by rw [hsent, bit_eq_getLsbD]; simp
    simp [State.dozeBraid, hb, hasked]
  have hbraids : s.keptTx.foldl State.dozeBraid s = s :=
    List.foldlRecOn (motive := fun u => u = s) _ _ rfl fun u hu b _ => by rw [hu, hbraid b]
  have henter : s.dozeEnter = s := by simp [State.dozeEnter, show s.pwr.dozing = 0 from hdozing]
  have hleave : s.dozeLeave = s := by simp [State.dozeLeave, hpwr]
  have hresumed : s.resumeStep = s := by
    have hnone : ({ s with pwr.resumeCmds := [] } : State) = s := by rw [← show s.pwr.resumeCmds = [] from hresume]
    simp [State.resumeStep, show s.pwr.resumeCmds = [] from hresume, hnone]
  simp [State.powerStep, hawake, hcapped, hbraids, henter, hleave, hresumed]

theorem lashStep_pwr : s.lashStep.pwr = s.pwr := by
  unfold State.lashStep
  split <;> rfl

/-- The work of such a port changes no target and no PWR_GO. -/
theorem portStep_told_of_draining (hidle : State.powerIdle { s with pwr.draining := .none } = true)
    (hdrain : s.pwr.draining = .park) : s.portStep.pwr.told = s.pwr.told := by
  rw [State.portStep, lashStep_pwr]
  by_cases hasleep : s.aon.pwr = .park ∨ s.aon.pwr = .off
  · rw [State.powerStep, if_pos (by simpa using hasleep)]
  · have htold := drainStep_told (s := s) (by rw [hdrain]; decide)
    have hflush : s.pwr.flushes = [] ∧ s.pwr.sinking = false := by
      simp only [State.powerIdle, Bool.and_eq_true, Bool.not_eq_true', List.isEmpty_iff] at hidle
      obtain ⟨⟨⟨⟨-, hflush⟩, hsink⟩, -⟩, -⟩ := hidle
      exact ⟨hflush, hsink⟩
    rw [powerStep_of_draining hidle (by rw [hdrain]; decide) (not_or.mp hasleep), flushStep_of_none, htold]
    · exact (congrArg (·.2.2.1) htold).trans hflush.1
    · exact (congrArg (·.2.2.2) htold).trans hflush.2

/-- The state in which a drain toward PARK closes the jobs of reduction. -/
def State.drainsToPark (s : State) (w : Nat) : State :=
  { s with
    pwr.target := .park, pwr.targetWidth := w, pwr.draining := .park, pwr.limits := 0
    pwr.ctrlAwake := false, noc.whDrain := true }

theorem applyTarget_park (hdrain : s.pwr.draining = .none) (hother : s.pwr.target ≠ .park) (w : Nat) :
    s.applyTarget .park w = (s.drainsToPark w).redPark := by
  simp [State.applyTarget, hother, State.startDrain, hdrain, State.drainsToPark]

/-- A pair target of PARK at a port at rest starts its drain, which goes on. -/
theorem applyPark_told (hstill : s.still = true) (hother : s.pwr.target ≠ .park) (w : Nat) :
    (s.applyTarget .park w).portStep.pwr.told = (.park, s.pwr.goTaken, s.pwr.flushes, s.pwr.sinking) := by
  have hred := redPark_besidesRed (s.drainsToPark w)
  have hpwr : (s.drainsToPark w).redPark.pwr = (s.drainsToPark w).pwr := (congrArg State.pwr hred :)
  have hlink : (s.drainsToPark w).redPark.link = (s.drainsToPark w).link := (congrArg State.link hred :)
  have hsame : State.still { (s.drainsToPark w).redPark with pwr.draining := .none } =
      State.still { s.drainsToPark w with pwr.draining := .none } :=
    still_congr (congrArg State.start hred :) (congrArg State.aon hred :)
      (congrArg (fun p : Power => { p with draining := .none }) hpwr) (congrArg State.lash hred :)
      fun dir b => by simp only [State.shape, hlink]
  simp only [State.still, State.powerIdle, Bool.and_eq_true, bne_iff_ne, beq_iff_eq] at hstill
  obtain ⟨⟨⟨⟨⟨⟨⟨⟨⟨⟨-, hawake⟩, hsent⟩, hdozing⟩, hgot⟩, hdrain⟩, hflush⟩, hsink⟩, hresume⟩, hcap⟩, hswitch⟩ := hstill
  have hmask : State.retiredMask { s.drainsToPark w with pwr.draining := .none } = s.retiredMask := rfl
  have hidle : State.powerIdle { (s.drainsToPark w).redPark with pwr.draining := .none } = true := by
    have hrest : State.still { s.drainsToPark w with pwr.draining := .none } = true := by
      unfold State.still State.powerIdle
      rw [hmask]
      simpa [State.drainsToPark, hawake, hsent, hdozing, hgot, hflush, hsink, hresume, hswitch] using hcap
    rw [← hsame, State.still, Bool.and_eq_true] at hrest
    exact hrest.1
  rw [applyTarget_park hdrain hother, portStep_told_of_draining hidle (by rw [hpwr]; rfl), hpwr]
  rfl

end Sys2Proof.Machine

open Sys2Proof Sys2Proof.Machine

/-- Settles O35, command by command. -/
theorem capsComplete : Obligations.CapsComplete := by
  refine ⟨?_, ?_, ?_, ?_, ?_, ?_⟩
  · rintro s f ⟨htaken, hvc, htyp, hsource, hlow, hhigh, hone, hfour, hresync, hstill, hleads⟩
    let u := (s.untake false f).withBudget f
    obtain ⟨hstep, hrest, hnear⟩ := recap_portStep_of_follower (s := u) hleads hstill
    have hc : exec (.pmBudget f) s = done u.recap := (congrArg done (if_pos (by simp [htaken, hvc, htyp]))).trans
      (congrArg done ((pmBudget_of_good (s := s.untake false f) hsource hlow hhigh hone hfour hresync).trans hstep))
    refine completes_done hc ?_
    simp only [State.flushEvents_pwr, State.flushEvents_noc_taken]
    exact ⟨(congrArg (·.pwr.budget) hrest :), (congrArg (·.pwr.budState) hrest :), (congrArg (·.pwr.budWidth) hrest :),
      (congrArg (·.pwr.budSeq) hrest :), (congrArg (·.pwr.released) hrest :), hnear, (congrArg (·.pwr.target) hrest :),
      (congrArg (·.noc.taken) hrest :), (congrArg (·.pwr.pmDrop) hrest :)⟩
  · rintro s f ⟨htaken, hvc, htyp, hstate⟩
    have hc : exec (.pmBudget f) s = done (s.untake false f).pmDrop :=
      (congrArg done (if_pos (by simp [htaken, hvc, htyp]))).trans (congrArg done (pmBudget_of_reserved hstate))
    exact completes_done hc (by simp [State.pmDrop, State.untake])
  · rintro s f ⟨htaken, hvc, htyp, hsource, hlow, hhigh, hlevel, hresync, henabled, hstill, hleads⟩
    let u := (s.untake false f).withRamp f
    obtain ⟨hstep, hrest, hnear⟩ := recap_portStep_of_follower (s := u) hleads hstill
    have hc : exec (.pmRamp f) s = done u.recap := (congrArg done (if_pos (by simp [htaken, hvc, htyp]))).trans
      (congrArg done ((pmRamp_of_good (s := s.untake false f) hsource hlow hhigh hlevel hresync henabled).trans hstep))
    refine completes_done hc ?_
    simp only [State.flushEvents_pwr]
    exact ⟨(congrArg (·.pwr.level) hrest :), (congrArg (·.pwr.rampSeq) hrest :), hnear, (congrArg (·.pwr.target) hrest :),
      (congrArg (·.pwr.pmDrop) hrest :)⟩
  · rintro s b p st ⟨hholds, hst, hnone, hleads⟩
    have hc : exec (.pwrCap b p) s = _ := congrArg done ((withCtl_of_holds hholds _).trans
      (pwrCap_first (s := s.dropCtl b 0x30 p) hst hnone hleads (dropCtl_still hholds)))
    exact completes_done hc (by simp)
  · rintro s b p st ⟨hholds, hst, hnone, hleads, htarget, hwidth⟩
    have hc : exec (.pwrGo b p) s = _ := congrArg done ((withCtl_of_holds hholds _).trans
      (pwrGo_first (s := s.dropCtl b 0x31 p) hst hnone hleads))
    rw [State.applyTarget, if_pos (by exact ⟨htarget, hwidth⟩), portStep_of_still _ (by exact dropCtl_still hholds)] at hc
    exact completes_done hc (by simp)
  · rintro s b p ⟨hholds, hst, hnone, hleads, htarget⟩
    have hc : exec (.pwrGo b p) s = _ := congrArg done ((withCtl_of_holds hholds _).trans
      (pwrGo_first (s := s.dropCtl b 0x31 p) hst hnone hleads))
    have htold := applyPark_told (s := { s.dropCtl b 0x31 p with pwr.goTaken := some (BitVec.ofNat 16 (bf p 9 16)) })
      (dropCtl_still hholds) (by exact fun h => absurd (htarget.symm.trans h) (by decide)) (bf p 3 6)
    refine completes_done hc ?_
    rw [State.flushEvents_pwr]
    exact ⟨congrArg (·.1) htold, congrArg (·.2.1) htold⟩
end

section
/-!
LEMMAS. A state at which the statement on DOZE fails: a cap that has grown old is recomputed with the DOZE_ENTER (R332), and the
leading end leaves DOZE for REEFED before it has entered it.
-/
namespace Sys2Proof.Machine

/-- An OPEN port of class 1 asked to doze, with a DOZE_ENTER taken: a braid is back since its cap was told, and its
budget allows 16 strands. -/
def dozeAskedUnderOldCap : State :=
  { State.reset with
    start := { State.reset.start with st := .openSt }
    aon := { State.reset.aon with pwr := .active }
    pwr := { State.reset.pwr with target := .doze, budWidth := 16, capBraids := 1 }
    link := { State.reset.link with rx := State.reset.link.rx.upd 0 fun r => { r with ctlIn := [(0x32, 0, 3)] } } }

/-- The power state after a command. -/
def pwrAfter (o : Host.Outcome State Fault Refusal) : Option PwrState :=
  match o with
  | .next t => some t.aon.pwr
  | _ => none

theorem dozeEnter_reefs_under_old_cap : pwrAfter (exec (.dozeEnter 0 0) dozeAskedUnderOldCap) = some .reefed := by
  decide +kernel

end Sys2Proof.Machine

open Sys2Proof Sys2Proof.Machine

/-- Refutes O36: its clause on DOZE_ENTER has no premise that no braid has retired or come back since the last cap. Where
one has, the cap is recomputed with the command (R332), and a leading end may leave ACTIVE for a target of REEFED. -/
theorem not_dozeCompletes : ¬ Obligations.DozeCompletes := by
  rintro ⟨henter, -⟩
  obtain ⟨t, hstep, -, hactive, -⟩ := henter dozeAskedUnderOldCap 0 0 0 (by decide +kernel)
  have hreefed := dozeEnter_reefs_under_old_cap
  rw [hstep, pwrAfter, hactive] at hreefed
  exact absurd hreefed (by decide)
end
